-- ==== Sys2Proof/Word.lean ====
section
/-! DEFINITION. Word types and their plainest arithmetic. -/

namespace Sys2Proof

/-- A register-space word (R11, R692). -/
abbrev Word := BitVec 32

abbrev Byte := BitVec 8

/-- A 64-bit time: LTC or MON nanoseconds (R458, R462). -/
abbrev Time := BitVec 64

/-- A bit as a number. -/
def bit (b : Bool) : Nat := if b then 1 else 0

end Sys2Proof
end

