-- ==== Sys2Proof/Machine/RegMap.lean ====
section
/-! DEFINITION. The register map: one constructor of Reg per register of the spec's register tables (rule cited at each),
its address, its fields with access code, reset value and stated range, and the lookup from an address to the register. -/

namespace Sys2Proof.Machine

/-- Access codes of R11. -/
inductive Acc where
  | ro | rw | rw1c | rc | wo | rwl
  deriving DecidableEq, Repr

/-- One field of a register: bit range, access code, reset value, and the range of values its description states. -/
structure Fld where
  hi : Nat
  lo : Nat
  acc : Acc
  reset : Nat
  range : Option (Nat × Nat)
  deriving DecidableEq, Repr

/-- Every register of the register space (R692), with its indexes. -/
inductive Reg where
  /-- SLACK_MIN_e, 0x000B_0200, e = 0 to 35 (R89). -/
  | slackMin (e : Nat)
  /-- MODp_CFG, 0x0002_0100, p = 0 to 15 (R150). -/
  | modCfg (p : Nat)
  /-- MODp_STAT, 0x0002_0104, p = 0 to 15 (R150). -/
  | modStat (p : Nat)
  /-- MODp_GAIN, 0x0002_0108, p = 0 to 15 (R150). -/
  | modGain (p : Nat)
  /-- MODp_OFFSET, 0x0002_010C, p = 0 to 15 (R150). -/
  | modOffset (p : Nat)
  /-- MODp_OVR_LIM, 0x0002_0110, p = 0 to 15 (R150). -/
  | modOvrLim (p : Nat)
  /-- MODp_CAL_MEAN, 0x0002_0114, p = 0 to 15 (R150). -/
  | modCalMean (p : Nat)
  /-- MODp_CAL_RMS, 0x0002_0118, p = 0 to 15 (R150). -/
  | modCalRms (p : Nat)
  /-- SWGg_CTRL, 0x0002_0400, g = 0 to 3 (R150). -/
  | swgCtrl (g : Nat)
  /-- SWGg_FSEQ, 0x0002_0404, g = 0 to 3 (R150). -/
  | swgFseq (g : Nat)
  /-- SVSs_CFG, 0x0002_1000, s = 0 to 63 (R150). -/
  | svsCfg (s : Nat)
  /-- SVSs_STAT, 0x0002_1004, s = 0 to 63 (R150). -/
  | svsStat (s : Nat)
  /-- SVSs_DLY_CORR, 0x0002_1008, s = 0 to 63 (R150). -/
  | svsDlyCorr (s : Nat)
  /-- SVSs_MISS_CNT, 0x0002_100C, s = 0 to 63 (R150). -/
  | svsMissCnt (s : Nat)
  /-- SVSs_LATE_CNT, 0x0002_1010, s = 0 to 63 (R150). -/
  | svsLateCnt (s : Nat)
  /-- SVSs_LAT_MAX, 0x0002_1014, s = 0 to 63 (R150). -/
  | svsLatMax (s : Nat)
  /-- SLOT_MAP_b_c, 0x0002_4000, b = 0 to 31, c = 0 to 7 (R150). -/
  | slotMap (b c : Nat)
  /-- SLOT_ALT_b_c, 0x0002_4400, b = 0 to 31, c = 0 to 7 (R150). -/
  | slotAlt (b c : Nat)
  /-- SLOT_SCALE_b_c, 0x0002_4800, b = 0 to 31, c = 0 to 7 (R150). -/
  | slotScale (b c : Nat)
  /-- BAYn_CTRL, 0x0003_0000, n = 0 to 31 (R232). -/
  | bayCtrl (n : Nat)
  /-- BAYn_STAT, 0x0003_0004, n = 0 to 31 (R232). -/
  | bayStat (n : Nat)
  /-- BAYn_START_LO, 0x0003_0008, n = 0 to 31 (R232). -/
  | bayStartLo (n : Nat)
  /-- BAYn_START_HI, 0x0003_000C, n = 0 to 31 (R232). -/
  | bayStartHi (n : Nat)
  /-- BAYn_OPER_LO, 0x0003_0010, n = 0 to 31 (R232). -/
  | bayOperLo (n : Nat)
  /-- BAYn_OPER_HI, 0x0003_0014, n = 0 to 31 (R232). -/
  | bayOperHi (n : Nat)
  /-- BAYn_BLKF, 0x0003_0018, n = 0 to 31 (R232). -/
  | bayBlkf (n : Nat)
  /-- BAYn_CB, 0x0003_001C, n = 0 to 31 (R232). -/
  | bayCb (n : Nat)
  /-- BAYn_VALID, 0x0003_0020, n = 0 to 31 (R232). -/
  | bayValid (n : Nat)
  /-- BAYn_COMMIT, 0x0003_0024, n = 0 to 31 (R232). -/
  | bayCommit (n : Nat)
  /-- BAYn_MEAS_x, 0x0003_0100, n = 0 to 31, x = 0 to 63 (R232). -/
  | bayMeas (n x : Nat)
  /-- BAYn_ENERGY_x, 0x0003_0200, n = 0 to 31, x = 0 to 7 (R232). -/
  | bayEnergy (n x : Nat)
  /-- BAYn_MOT_CTRL, 0x0003_0028, n = 0 to 31 (R268). -/
  | bayMotCtrl (n : Nat)
  /-- BAYn_MOT_STAT, 0x0003_002C, n = 0 to 31 (R269). -/
  | bayMotStat (n : Nat)
  /-- ZN_BAYSEC_b, 0x0004_0100, b = 0 to 31 (R318). -/
  | znBaysec (b : Nat)
  /-- ZN_ZBAYS_z, 0x0004_0180, z = 0 to 4 (R318). -/
  | znZbays (z : Nat)
  /-- ZN_DIF_z_x, 0x0004_0200, z = 0 to 4, x = 0 to 5 (R318). -/
  | znDif (z x : Nat)
  /-- ZN_FBUS_s, 0x0004_0300, s = 0 to 7 (R318). -/
  | znFbus (s : Nat)
  /-- BAYn_BRK_LOC, 0x0003_0030, n = 0 to 31 (R370). -/
  | bayBrkLoc (n : Nat)
  /-- BAYn_CLS_LOC, 0x0003_0038, n = 0 to 31 (R370). -/
  | bayClsLoc (n : Nat)
  /-- BAYn_BRK_REM, 0x0003_0034, n = 0 to 31 (R370). -/
  | bayBrkRem (n : Nat)
  /-- BAYn_CLS_REM, 0x0003_003C, n = 0 to 31 (R370). -/
  | bayClsRem (n : Nat)
  /-- BAYn_XFER, 0x0003_0040, n = 0 to 31 (R370). -/
  | bayXfer (n : Nat)
  /-- BAYn_LATCH, 0x0003_0044, n = 0 to 31 (R370). -/
  | bayLatch (n : Nat)
  /-- BAYn_CLS_ILK, 0x0003_0048, n = 0 to 31 (R370). -/
  | bayClsIlk (n : Nat)
  /-- BAYn_TRIPCNT, 0x0003_004C, n = 0 to 31 (R370). -/
  | bayTripcnt (n : Nat)
  /-- BAYn_TM_s, 0x0003_0300, n = 0 to 31, s = 0 to 63 (R370). -/
  | bayTm (n s : Nat)
  /-- ZN_TM_s, 0x0004_1100, s = 0 to 31 (R370). -/
  | znTm (s : Nat)
  /-- DIx_CFG, 0x0005_0100, x = 0 to 31 (R409). -/
  | diCfg (x : Nat)
  /-- DIx_OPT, 0x0005_0104, x = 0 to 31 (R409). -/
  | diOpt (x : Nat)
  /-- DIx_STAT, 0x0005_0108, x = 0 to 31 (R409). -/
  | diStat (x : Nat)
  /-- DIx_CUR, 0x0005_010C, x = 0 to 31 (R409). -/
  | diCur (x : Nat)
  /-- DOy_CFG, 0x0005_0400, y = 0 to 15 (R409). -/
  | doCfg (y : Nat)
  /-- DOy_STAT, 0x0005_0404, y = 0 to 15 (R409). -/
  | doStat (y : Nat)
  /-- DOy_OBS, 0x0005_0408, y = 0 to 15 (R409). -/
  | doObs (y : Nat)
  /-- DOy_CUR, 0x0005_040C, y = 0 to 15 (R409). -/
  | doCur (y : Nat)
  /-- LEt_CTRL, 0x0006_0100, t = 0 to 3 (R457). -/
  | leCtrl (t : Nat)
  /-- LEt_STAT, 0x0006_0104, t = 0 to 3 (R457). -/
  | leStat (t : Nat)
  /-- LEt_CYC_LAST, 0x0006_0108, t = 0 to 3 (R457). -/
  | leCycLast (t : Nat)
  /-- LEt_CYC_PEAK, 0x0006_010C, t = 0 to 3 (R457). -/
  | leCycPeak (t : Nat)
  /-- LEt_CYC_CNT, 0x0006_0110, t = 0 to 3 (R457). -/
  | leCycCnt (t : Nat)
  /-- LEt_OVR_CNT, 0x0006_0114, t = 0 to 3 (R457). -/
  | leOvrCnt (t : Nat)
  /-- LEt_LOAD_ERR, 0x0006_0118, t = 0 to 3 (R457). -/
  | leLoadErr (t : Nat)
  /-- LEt_IMG_CRC, 0x0006_011C, t = 0 to 3 (R457). -/
  | leImgCrc (t : Nat)
  /-- LEt_E40, 0x0006_0120, t = 0 to 3 (R457). -/
  | leE40 (t : Nat)
  /-- TB_PATH_l, 0x0001_0058, l = 0 to 1 (R501). -/
  | tbPath (l : Nat)
  /-- LNl_ASYM_TX, 0x0001_0100, l = 0 to 4 (R501). -/
  | lnAsymTx (l : Nat)
  /-- LNl_ASYM_RX, 0x0001_0104, l = 0 to 4 (R501). -/
  | lnAsymRx (l : Nat)
  /-- LNl_TSQ_ENT0, 0x0001_0108, l = 0 to 4 (R501). -/
  | lnTsqEnt0 (l : Nat)
  /-- LNl_TSQ_ENT1, 0x0001_010C, l = 0 to 4 (R501). -/
  | lnTsqEnt1 (l : Nat)
  /-- LNl_TSQ_ENT2, 0x0001_0110, l = 0 to 4 (R501). -/
  | lnTsqEnt2 (l : Nat)
  /-- LNl_TSQ_OVF, 0x0001_0114, l = 0 to 4 (R501). -/
  | lnTsqOvf (l : Nat)
  /-- TRGn_CTRL, 0x0001_0200, n = 0 to 7 (R501). -/
  | trgCtrl (n : Nat)
  /-- TRGn_TARGET, 0x0001_0204, n = 0 to 7 (R501). -/
  | trgTarget (n : Nat)
  /-- TRGn_PERIOD, 0x0001_0208, n = 0 to 7 (R501). -/
  | trgPeriod (n : Nat)
  /-- TRGn_STAT, 0x0001_020C, n = 0 to 7 (R501). -/
  | trgStat (n : Nat)
  /-- LNl_CFG, 0x0007_0000, l = 0 to 3 (R525). -/
  | lnCfg (l : Nat)
  /-- LNl_STAT, 0x0007_0004, l = 0 to 3 (R525). -/
  | lnStat (l : Nat)
  /-- LNl_CNT_DOWN, 0x0007_0008, l = 0 to 3 (R525). -/
  | lnCntDown (l : Nat)
  /-- LNl_CNT_CODE, 0x0007_000C, l = 0 to 3 (R525). -/
  | lnCntCode (l : Nat)
  /-- LNl_ADAPT, 0x0007_0010, l = 0 to 3 (R525). -/
  | lnAdapt (l : Nat)
  /-- LNl_DFE, 0x0007_0014, l = 0 to 3 (R525). -/
  | lnDfe (l : Nat)
  /-- LNl_EYE, 0x0007_0018, l = 0 to 3 (R525). -/
  | lnEye (l : Nat)
  /-- LNl_SCAN_CTRL, 0x0007_001C, l = 0 to 3 (R525). -/
  | lnScanCtrl (l : Nat)
  /-- LNl_SCAN_ERR, 0x0007_0020, l = 0 to 3 (R525). -/
  | lnScanErr (l : Nat)
  /-- LNl_PRBS_CTRL, 0x0007_0024, l = 0 to 3 (R525). -/
  | lnPrbsCtrl (l : Nat)
  /-- LNl_PRBS_STAT, 0x0007_0028, l = 0 to 3 (R525). -/
  | lnPrbsStat (l : Nat)
  /-- LNl_PRBS_ERR, 0x0007_002C, l = 0 to 3 (R525). -/
  | lnPrbsErr (l : Nat)
  /-- LNl_PRBS_BITS, 0x0007_0030, l = 0 to 3 (R525). -/
  | lnPrbsBits (l : Nat)
  /-- NET_VIDk, 0x0008_0010, k = 0 to 7 (R574). -/
  | netVid (k : Nat)
  /-- POL_c, 0x0008_0050, c = 0 to 3 (R574). -/
  | pol (c : Nat)
  /-- HOSTFk, 0x0008_0060, k = 0 to 7 (R574). -/
  | hostf (k : Nat)
  /-- MACl_x, 0x0008_0100, l = 0 to 4, x = 0 to 13 (R574). -/
  | mac (l x : Nat)
  /-- PRP_x, 0x0008_0300, x = 0 to 5 (R574). -/
  | prp (x : Nat)
  /-- SUB_e_w, 0x0008_0400, e = 0 to 255, w = 0 to 2 (R574). -/
  | sub (e w : Nat)
  /-- RXD_d_w, 0x0008_2000, d = 0 to 191, w = 0 to 3 (R574). -/
  | rxd (d w : Nat)
  /-- GSUBg_CFG, 0x0008_3000, g = 0 to 127 (R574). -/
  | gsubCfg (g : Nat)
  /-- GSUBg_STAT, 0x0008_3004, g = 0 to 127 (R574). -/
  | gsubStat (g : Nat)
  /-- GPT_i, 0x0008_4000, i = 0 to 4095 (R574). -/
  | gpt (i : Nat)
  /-- GPUBp_CTRL, 0x0008_8000, p = 0 to 127 (R574). -/
  | gpubCtrl (p : Nat)
  /-- GPUBp_OFS0, 0x0008_8004, p = 0 to 127 (R574). -/
  | gpubOfs0 (p : Nat)
  /-- GPUBp_OFS1, 0x0008_8008, p = 0 to 127 (R574). -/
  | gpubOfs1 (p : Nat)
  /-- STA_e_CFG, 0x0008_B000, e = 0 to 255 (R574). -/
  | staCfg (e : Nat)
  /-- STA_e_TIME, 0x0008_B004, e = 0 to 255 (R574). -/
  | staTime (e : Nat)
  /-- STA_e_STAT, 0x0008_B008, e = 0 to 255 (R574). -/
  | staStat (e : Nat)
  /-- STA_e_MAC_LO, 0x0008_B00C, e = 0 to 255 (R574). -/
  | staMacLo (e : Nat)
  /-- GPR_i, 0x0008_C000, i = 0 to 4095 (R574). -/
  | gpr (i : Nat)
  /-- COAL_e_w, 0x0008_9000, e = 0 to 127, w = 0 to 15 (R574). -/
  | coal (e w : Nat)
  /-- MIRe_ADDR, 0x0009_1000, e = 0 to 1023 (R622). -/
  | mirAddr (e : Nat)
  /-- MIRe_CFG, 0x0009_1004, e = 0 to 1023 (R622). -/
  | mirCfg (e : Nat)
  /-- EVR_WINDOW_w, 0x000A_0040, w = 0 to 15 (R660). -/
  | evrWindow (w : Nat)
  /-- EVR_SNAP_c_j, 0x000A_0200, c = 0 to 15, j = 0 to 7 (R660). -/
  | evrSnap (c j : Nat)
  /-- DR_ANc, 0x000A_1100, c = 0 to 63 (R660). -/
  | drAn (c : Nat)
  /-- DR_BINc, 0x000A_1200, c = 0 to 127 (R660). -/
  | drBin (c : Nat)
  /-- DR_IDX_r_w, 0x000A_1400, r = 0 to 7, w = 0 to 3 (R660). -/
  | drIdx (r w : Nat)
  /-- MAC_l_HI, 0x0000_0020, l = 0 to 4 (R693). -/
  | macHi (l : Nat)
  /-- MAC_l_LO, 0x0000_0024, l = 0 to 4 (R693). -/
  | macLo (l : Nat)
  /-- GLB_FEAT_OFFER_w, 0x0000_0110, w = 0 to 3 (R693). -/
  | glbFeatOffer (w : Nat)
  /-- GLB_FEAT_ACC_w, 0x0000_0120, w = 0 to 3 (R693). -/
  | glbFeatAcc (w : Nat)
  /-- SESS_s_INFO, 0x0000_0220, s = 0 to 3 (R693). -/
  | sessInfo (s : Nat)
  /-- SESS_s_PEER, 0x0000_0224, s = 0 to 3 (R693). -/
  | sessPeer (s : Nat)
  /-- SESS_s_SEQ, 0x0000_0228, s = 0 to 3 (R693). -/
  | sessSeq (s : Nat)
  /-- HLT_FENCED_w, 0x000B_0020, w = 0 to 7 (R733). -/
  | hltFenced (w : Nat)
  /-- HLT_DOM_d, 0x000B_0400, d = 0 to 255 (R733). -/
  | hltDom (d : Nat)
  /-- ATB_n_CTRL, 0x000D_0000, n = 0 to 1 (R733). -/
  | atbCtrl (n : Nat)
  /-- SEC_IMG_k, 0x000C_0010, k = 1 to 4 (R756). -/
  | secImg (k : Nat)
  /-- SEC_MKEY_k_w, 0x000C_0100, k = 0 to 3, w = 0 to 23 (R756). -/
  | secMkey (k w : Nat)
  /-- FRM_COUNT, 0x000B_0100 (R89). -/
  | frmCount
  /-- FRM_SEQ_LATCH, 0x000B_0104 (R89). -/
  | frmSeqLatch
  /-- FRM_CFG, 0x000B_0108 (R89). -/
  | frmCfg
  /-- VCORE_STAT, 0x000B_010C (R89). -/
  | vcoreStat
  /-- LATE_CNT, 0x000B_0110 (R89). -/
  | lateCnt
  /-- ACQ_CTRL, 0x0002_0000 (R150). -/
  | acqCtrl
  /-- ACQ_STAT, 0x0002_0004 (R150). -/
  | acqStat
  /-- COEF_ADDR, 0x0002_0480 (R150). -/
  | coefAddr
  /-- COEF_DATA, 0x0002_0484 (R150). -/
  | coefData
  /-- ZN_START, 0x0004_0000 (R318). -/
  | znStart
  /-- ZN_OPER, 0x0004_0004 (R318). -/
  | znOper
  /-- ZN_STAT, 0x0004_0008 (R318). -/
  | znStat
  /-- ZN_BT_SRC, 0x0004_0320 (R318). -/
  | znBtSrc
  /-- ZN_BT_MASK, 0x0004_0324 (R318). -/
  | znBtMask
  /-- ZN_ARC_OC, 0x0004_0340 (R318). -/
  | znArcOc
  /-- ZN_ARC_LIGHT, 0x0004_0344 (R318). -/
  | znArcLight
  /-- STU_CTRL, 0x0004_1000 (R370). -/
  | stuCtrl
  /-- STU_TEST_OUT, 0x0004_1004 (R370). -/
  | stuTestOut
  /-- STU_STAT, 0x0004_1008 (R370). -/
  | stuStat
  /-- STU_CNT_BOUND, 0x0004_100C (R370). -/
  | stuCntBound
  /-- STU_CNT_DROP, 0x0004_1010 (R370). -/
  | stuCntDrop
  /-- STU_CNT_ABORT, 0x0004_1014 (R370). -/
  | stuCntAbort
  /-- STU_CNT_NOACK, 0x0004_1018 (R370). -/
  | stuCntNoack
  /-- STU_LAST_ID, 0x0004_101C (R370). -/
  | stuLastId
  /-- FIO_CTRL, 0x0005_0000 (R409). -/
  | fioCtrl
  /-- FIO_STAT, 0x0005_0004 (R409). -/
  | fioStat
  /-- FIO_FLP_MIN, 0x0005_0008 (R409). -/
  | fioFlpMin
  /-- DI_STATE, 0x0005_0010 (R409). -/
  | diState
  /-- DI_DEB, 0x0005_0014 (R409). -/
  | diDeb
  /-- DI_VALID, 0x0005_0018 (R409). -/
  | diValid
  /-- DI_FLDLOW, 0x0005_001C (R409). -/
  | diFldlow
  /-- DI_BREAK, 0x0005_0020 (R409). -/
  | diBreak
  /-- DO_IO, 0x0005_0024 (R409). -/
  | doIo
  /-- DO_COND, 0x0005_0028 (R409). -/
  | doCond
  /-- LOG_RET_CTRL, 0x0006_0000 (R457). -/
  | logRetCtrl
  /-- LOG_RET_STAT, 0x0006_0004 (R457). -/
  | logRetStat
  /-- LOG_RET_SEQ, 0x0006_0008 (R457). -/
  | logRetSeq
  /-- TB_CTRL, 0x0001_0000 (R501). -/
  | tbCtrl
  /-- TB_STAT, 0x0001_0004 (R501). -/
  | tbStat
  /-- TB_OFFSET, 0x0001_0008 (R501). -/
  | tbOffset
  /-- TB_RR_OFS, 0x0001_0060 (R501). -/
  | tbRrOfs
  /-- TB_LTC_LO, 0x0001_000C (R501). -/
  | tbLtcLo
  /-- TB_LTC_HI, 0x0001_0010 (R501). -/
  | tbLtcHi
  /-- TB_LTC_FRAC, 0x0001_0014 (R501). -/
  | tbLtcFrac
  /-- TB_MON_LO, 0x0001_0018 (R501). -/
  | tbMonLo
  /-- TB_MON_HI, 0x0001_001C (R501). -/
  | tbMonHi
  /-- TB_INC_INT, 0x0001_0020 (R501). -/
  | tbIncInt
  /-- TB_INC_FRAC, 0x0001_0024 (R501). -/
  | tbIncFrac
  /-- TB_SERVO, 0x0001_0028 (R501). -/
  | tbServo
  /-- TB_STEP_CTRL, 0x0001_0030 (R501). -/
  | tbStepCtrl
  /-- TB_STEP_AMT_LO, 0x0001_0034 (R501). -/
  | tbStepAmtLo
  /-- TB_STEP_AMT_HI, 0x0001_0038 (R501). -/
  | tbStepAmtHi
  /-- TB_STEP_FSEQ, 0x0001_003C (R501). -/
  | tbStepFseq
  /-- TB_STEP_EFF_LO, 0x0001_0040 (R501). -/
  | tbStepEffLo
  /-- TB_STEP_EFF_HI, 0x0001_0044 (R501). -/
  | tbStepEffHi
  /-- TB_RR_CFG, 0x0001_0050 (R501). -/
  | tbRrCfg
  /-- TB_RR_CTRL, 0x0001_0054 (R501). -/
  | tbRrCtrl
  /-- TB_PTP_CFG, 0x0001_0070 (R501). -/
  | tbPtpCfg
  /-- TB_GM_ID_HI, 0x0001_0074 (R501). -/
  | tbGmIdHi
  /-- TB_GM_ID_LO, 0x0001_0078 (R501). -/
  | tbGmIdLo
  /-- TB_UTC_OFS, 0x0001_007C (R501). -/
  | tbUtcOfs
  /-- TB_PPS, 0x0001_0080 (R501). -/
  | tbPps
  /-- TB_IRIG, 0x0001_0084 (R501). -/
  | tbIrig
  /-- SVC_CFG, 0x0007_0400 (R525). -/
  | svcCfg
  /-- SVC_STAT, 0x0007_0404 (R525). -/
  | svcStat
  /-- NET_CTRL, 0x0008_0000 (R574). -/
  | netCtrl
  /-- NET_VLAN, 0x0008_0004 (R574). -/
  | netVlan
  /-- NET_PCP_MAP, 0x0008_0008 (R574). -/
  | netPcpMap
  /-- NET_GLX_MAC_HI, 0x0008_0030 (R574). -/
  | netGlxMacHi
  /-- NET_GLX_MAC_LO, 0x0008_0034 (R574). -/
  | netGlxMacLo
  /-- NET_STAT, 0x0008_0040 (R574). -/
  | netStat
  /-- NET_GLX_BAD, 0x0008_0044 (R574). -/
  | netGlxBad
  /-- NET_GLX_UNKNOWN, 0x0008_0048 (R574). -/
  | netGlxUnknown
  /-- COAL_OVF, 0x0008_004C (R574). -/
  | coalOvf
  /-- PRP_CFG, 0x0008_0320 (R574). -/
  | prpCfg
  /-- GPUB_WIN_ADDR, 0x0008_8800 (R574). -/
  | gpubWinAddr
  /-- GPUB_WIN_DATA, 0x0008_8804 (R574). -/
  | gpubWinData
  /-- COAL_CFG, 0x0008_8C00 (R574). -/
  | coalCfg
  /-- COAL_STAT, 0x0008_8C04 (R574). -/
  | coalStat
  /-- PAIR_CTRL, 0x0009_0000 (R622). -/
  | pairCtrl
  /-- PAIR_CFG, 0x0009_0004 (R622). -/
  | pairCfg
  /-- PAIR_STAT, 0x0009_0008 (R622). -/
  | pairStat
  /-- PAIR_CLAIM_OWN, 0x0009_000C (R622). -/
  | pairClaimOwn
  /-- PAIR_CLAIM_PEER, 0x0009_0010 (R622). -/
  | pairClaimPeer
  /-- PAIR_MIR_F, 0x0009_0014 (R622). -/
  | pairMirF
  /-- PAIR_CNT_TAKE, 0x0009_0018 (R622). -/
  | pairCntTake
  /-- PAIR_CNT_HBLOST, 0x0009_001C (R622). -/
  | pairCntHblost
  /-- PAIR_CNT_M0BAD, 0x0009_0020 (R622). -/
  | pairCntM0bad
  /-- PAIR_CNT_CLMERR, 0x0009_0024 (R622). -/
  | pairCntClmerr
  /-- PAIR_TAKE_LAST, 0x0009_0028 (R622). -/
  | pairTakeLast
  /-- PAIR_M0_PEAK, 0x0009_002C (R622). -/
  | pairM0Peak
  /-- PAIR_OTEST, 0x0009_0030 (R622). -/
  | pairOtest
  /-- PWR_CTRL, 0x0009_0100 (R622). -/
  | pwrCtrl
  /-- PWR_STAT, 0x0009_0104 (R622). -/
  | pwrStat
  /-- PWR_VFA, 0x0009_0108 (R622). -/
  | pwrVfa
  /-- PWR_VFB, 0x0009_010C (R622). -/
  | pwrVfb
  /-- EVR_CTRL, 0x000A_0000 (R660). -/
  | evrCtrl
  /-- EVR_STAT, 0x000A_0004 (R660). -/
  | evrStat
  /-- EVR_OLDEST, 0x000A_0008 (R660). -/
  | evrOldest
  /-- EVR_NEWEST, 0x000A_000C (R660). -/
  | evrNewest
  /-- EVR_CURSOR, 0x000A_0010 (R660). -/
  | evrCursor
  /-- EVR_SEL, 0x000A_0014 (R660). -/
  | evrSel
  /-- EVR_LOST, 0x000A_0018 (R660). -/
  | evrLost
  /-- DR_CTRL, 0x000A_1000 (R660). -/
  | drCtrl
  /-- DR_STAT, 0x000A_1004 (R660). -/
  | drStat
  /-- DR_MISSED, 0x000A_1008 (R660). -/
  | drMissed
  /-- DR_TR_CFG, 0x000A_100C (R660). -/
  | drTrCfg
  /-- ID_PART, 0x0000_0000 (R693). -/
  | idPart
  /-- ID_REV, 0x0000_0004 (R693). -/
  | idRev
  /-- ID_SERIAL_HI, 0x0000_0008 (R693). -/
  | idSerialHi
  /-- ID_SERIAL_LO, 0x0000_000C (R693). -/
  | idSerialLo
  /-- ID_FW, 0x0000_0010 (R693). -/
  | idFw
  /-- GLB_STAT, 0x0000_0100 (R693). -/
  | glbStat
  /-- CMD_CFG, 0x0000_0200 (R693). -/
  | cmdCfg
  /-- CMD_IP, 0x0000_0204 (R693). -/
  | cmdIp
  /-- CMD_MASK, 0x0000_0208 (R693). -/
  | cmdMask
  /-- CMD_GW, 0x0000_020C (R693). -/
  | cmdGw
  /-- CMD_STAT, 0x0000_0210 (R693). -/
  | cmdStat
  /-- CMD_CNT_DISC, 0x0000_0214 (R693). -/
  | cmdCntDisc
  /-- CMD_CNT_CRC, 0x0000_0218 (R693). -/
  | cmdCntCrc
  /-- CMD_CNT_NLOST, 0x0000_021C (R693). -/
  | cmdCntNlost
  /-- HLT_STAT, 0x000B_0000 (R733). -/
  | hltStat
  /-- HLT_WIN, 0x000B_0004 (R733). -/
  | hltWin
  /-- HLT_CAR_CTRL, 0x000B_0008 (R733). -/
  | hltCarCtrl
  /-- HLT_CAR_STAT, 0x000B_000C (R733). -/
  | hltCarStat
  /-- HLT_CAR_FAILS, 0x000B_0010 (R733). -/
  | hltCarFails
  /-- HLT_FAB_CNT, 0x000B_001C (R733). -/
  | hltFabCnt
  /-- HLT_UNFENCE, 0x000B_0014 (R733). -/
  | hltUnfence
  /-- HLT_DEDUCT_SRC, 0x000B_0040 (R733). -/
  | hltDeductSrc
  /-- SEC_STAT, 0x000C_0000 (R756). -/
  | secStat
  /-- SEC_HSS_Q_LO, 0x000C_0020 (R756). -/
  | secHssQLo
  /-- SEC_HSS_Q_HI, 0x000C_0024 (R756). -/
  | secHssQHi
  /-- SEC_HSS_BLK, 0x000C_0028 (R756). -/
  | secHssBlk
  /-- SEC_AUTH_FAIL, 0x000C_002C (R756). -/
  | secAuthFail
  /-- SEC_MKEY_CTRL, 0x000C_0040 (R756). -/
  | secMkeyCtrl
  /-- START_CTRL, 0x000B_0080 (R777). -/
  | startCtrl
  /-- START_STAT, 0x000B_0084 (R777). -/
  | startStat
  /-- START_BAYFAIL, 0x000B_0088 (R777). -/
  | startBayfail
  /-- START_READY_MS, 0x000B_008C (R777). -/
  | startReadyMs
  /-- HLT_TEMP, 0x000B_0090 (R784). -/
  | hltTemp
  deriving DecidableEq, Repr

namespace Reg

/-- The register's address in the register space. -/
def addr : Reg → Nat
  | .slackMin e => 0xB0200 + 4 * e
  | .modCfg p => 0x20100 + 32 * p
  | .modStat p => 0x20104 + 32 * p
  | .modGain p => 0x20108 + 32 * p
  | .modOffset p => 0x2010C + 32 * p
  | .modOvrLim p => 0x20110 + 32 * p
  | .modCalMean p => 0x20114 + 32 * p
  | .modCalRms p => 0x20118 + 32 * p
  | .swgCtrl g => 0x20400 + 16 * g
  | .swgFseq g => 0x20404 + 16 * g
  | .svsCfg s => 0x21000 + 64 * s
  | .svsStat s => 0x21004 + 64 * s
  | .svsDlyCorr s => 0x21008 + 64 * s
  | .svsMissCnt s => 0x2100C + 64 * s
  | .svsLateCnt s => 0x21010 + 64 * s
  | .svsLatMax s => 0x21014 + 64 * s
  | .slotMap b c => 0x24000 + 32 * b + 4 * c
  | .slotAlt b c => 0x24400 + 32 * b + 4 * c
  | .slotScale b c => 0x24800 + 32 * b + 4 * c
  | .bayCtrl n => 0x30000 + 1024 * n
  | .bayStat n => 0x30004 + 1024 * n
  | .bayStartLo n => 0x30008 + 1024 * n
  | .bayStartHi n => 0x3000C + 1024 * n
  | .bayOperLo n => 0x30010 + 1024 * n
  | .bayOperHi n => 0x30014 + 1024 * n
  | .bayBlkf n => 0x30018 + 1024 * n
  | .bayCb n => 0x3001C + 1024 * n
  | .bayValid n => 0x30020 + 1024 * n
  | .bayCommit n => 0x30024 + 1024 * n
  | .bayMeas n x => 0x30100 + 1024 * n + 4 * x
  | .bayEnergy n x => 0x30200 + 1024 * n + 4 * x
  | .bayMotCtrl n => 0x30028 + 1024 * n
  | .bayMotStat n => 0x3002C + 1024 * n
  | .znBaysec b => 0x40100 + 4 * b
  | .znZbays z => 0x40180 + 4 * z
  | .znDif z x => 0x40200 + 32 * z + 4 * x
  | .znFbus s => 0x40300 + 4 * s
  | .bayBrkLoc n => 0x30030 + 1024 * n
  | .bayClsLoc n => 0x30038 + 1024 * n
  | .bayBrkRem n => 0x30034 + 1024 * n
  | .bayClsRem n => 0x3003C + 1024 * n
  | .bayXfer n => 0x30040 + 1024 * n
  | .bayLatch n => 0x30044 + 1024 * n
  | .bayClsIlk n => 0x30048 + 1024 * n
  | .bayTripcnt n => 0x3004C + 1024 * n
  | .bayTm n s => 0x30300 + 1024 * n + 4 * s
  | .znTm s => 0x41100 + 4 * s
  | .diCfg x => 0x50100 + 16 * x
  | .diOpt x => 0x50104 + 16 * x
  | .diStat x => 0x50108 + 16 * x
  | .diCur x => 0x5010C + 16 * x
  | .doCfg y => 0x50400 + 16 * y
  | .doStat y => 0x50404 + 16 * y
  | .doObs y => 0x50408 + 16 * y
  | .doCur y => 0x5040C + 16 * y
  | .leCtrl t => 0x60100 + 64 * t
  | .leStat t => 0x60104 + 64 * t
  | .leCycLast t => 0x60108 + 64 * t
  | .leCycPeak t => 0x6010C + 64 * t
  | .leCycCnt t => 0x60110 + 64 * t
  | .leOvrCnt t => 0x60114 + 64 * t
  | .leLoadErr t => 0x60118 + 64 * t
  | .leImgCrc t => 0x6011C + 64 * t
  | .leE40 t => 0x60120 + 64 * t
  | .tbPath l => 0x10058 + 4 * l
  | .lnAsymTx l => 0x10100 + 32 * l
  | .lnAsymRx l => 0x10104 + 32 * l
  | .lnTsqEnt0 l => 0x10108 + 32 * l
  | .lnTsqEnt1 l => 0x1010C + 32 * l
  | .lnTsqEnt2 l => 0x10110 + 32 * l
  | .lnTsqOvf l => 0x10114 + 32 * l
  | .trgCtrl n => 0x10200 + 16 * n
  | .trgTarget n => 0x10204 + 16 * n
  | .trgPeriod n => 0x10208 + 16 * n
  | .trgStat n => 0x1020C + 16 * n
  | .lnCfg l => 0x70000 + 256 * l
  | .lnStat l => 0x70004 + 256 * l
  | .lnCntDown l => 0x70008 + 256 * l
  | .lnCntCode l => 0x7000C + 256 * l
  | .lnAdapt l => 0x70010 + 256 * l
  | .lnDfe l => 0x70014 + 256 * l
  | .lnEye l => 0x70018 + 256 * l
  | .lnScanCtrl l => 0x7001C + 256 * l
  | .lnScanErr l => 0x70020 + 256 * l
  | .lnPrbsCtrl l => 0x70024 + 256 * l
  | .lnPrbsStat l => 0x70028 + 256 * l
  | .lnPrbsErr l => 0x7002C + 256 * l
  | .lnPrbsBits l => 0x70030 + 256 * l
  | .netVid k => 0x80010 + 4 * k
  | .pol c => 0x80050 + 4 * c
  | .hostf k => 0x80060 + 4 * k
  | .mac l x => 0x80100 + 64 * l + 4 * x
  | .prp x => 0x80300 + 4 * x
  | .sub e w => 0x80400 + 16 * e + 4 * w
  | .rxd d w => 0x82000 + 16 * d + 4 * w
  | .gsubCfg g => 0x83000 + 16 * g
  | .gsubStat g => 0x83004 + 16 * g
  | .gpt i => 0x84000 + 4 * i
  | .gpubCtrl p => 0x88000 + 16 * p
  | .gpubOfs0 p => 0x88004 + 16 * p
  | .gpubOfs1 p => 0x88008 + 16 * p
  | .staCfg e => 0x8B000 + 16 * e
  | .staTime e => 0x8B004 + 16 * e
  | .staStat e => 0x8B008 + 16 * e
  | .staMacLo e => 0x8B00C + 16 * e
  | .gpr i => 0x8C000 + 4 * i
  | .coal e w => 0x89000 + 64 * e + 4 * w
  | .mirAddr e => 0x91000 + 8 * e
  | .mirCfg e => 0x91004 + 8 * e
  | .evrWindow w => 0xA0040 + 4 * w
  | .evrSnap c j => 0xA0200 + 32 * c + 4 * j
  | .drAn c => 0xA1100 + 4 * c
  | .drBin c => 0xA1200 + 4 * c
  | .drIdx r w => 0xA1400 + 16 * r + 4 * w
  | .macHi l => 0x20 + 8 * l
  | .macLo l => 0x24 + 8 * l
  | .glbFeatOffer w => 0x110 + 4 * w
  | .glbFeatAcc w => 0x120 + 4 * w
  | .sessInfo s => 0x220 + 16 * s
  | .sessPeer s => 0x224 + 16 * s
  | .sessSeq s => 0x228 + 16 * s
  | .hltFenced w => 0xB0020 + 4 * w
  | .hltDom d => 0xB0400 + 4 * d
  | .atbCtrl n => 0xD0000 + 4 * n
  | .secImg k => 0xC0010 + 4 * k
  | .secMkey k w => 0xC0100 + 128 * k + 4 * w
  | .frmCount => 0xB0100
  | .frmSeqLatch => 0xB0104
  | .frmCfg => 0xB0108
  | .vcoreStat => 0xB010C
  | .lateCnt => 0xB0110
  | .acqCtrl => 0x20000
  | .acqStat => 0x20004
  | .coefAddr => 0x20480
  | .coefData => 0x20484
  | .znStart => 0x40000
  | .znOper => 0x40004
  | .znStat => 0x40008
  | .znBtSrc => 0x40320
  | .znBtMask => 0x40324
  | .znArcOc => 0x40340
  | .znArcLight => 0x40344
  | .stuCtrl => 0x41000
  | .stuTestOut => 0x41004
  | .stuStat => 0x41008
  | .stuCntBound => 0x4100C
  | .stuCntDrop => 0x41010
  | .stuCntAbort => 0x41014
  | .stuCntNoack => 0x41018
  | .stuLastId => 0x4101C
  | .fioCtrl => 0x50000
  | .fioStat => 0x50004
  | .fioFlpMin => 0x50008
  | .diState => 0x50010
  | .diDeb => 0x50014
  | .diValid => 0x50018
  | .diFldlow => 0x5001C
  | .diBreak => 0x50020
  | .doIo => 0x50024
  | .doCond => 0x50028
  | .logRetCtrl => 0x60000
  | .logRetStat => 0x60004
  | .logRetSeq => 0x60008
  | .tbCtrl => 0x10000
  | .tbStat => 0x10004
  | .tbOffset => 0x10008
  | .tbRrOfs => 0x10060
  | .tbLtcLo => 0x1000C
  | .tbLtcHi => 0x10010
  | .tbLtcFrac => 0x10014
  | .tbMonLo => 0x10018
  | .tbMonHi => 0x1001C
  | .tbIncInt => 0x10020
  | .tbIncFrac => 0x10024
  | .tbServo => 0x10028
  | .tbStepCtrl => 0x10030
  | .tbStepAmtLo => 0x10034
  | .tbStepAmtHi => 0x10038
  | .tbStepFseq => 0x1003C
  | .tbStepEffLo => 0x10040
  | .tbStepEffHi => 0x10044
  | .tbRrCfg => 0x10050
  | .tbRrCtrl => 0x10054
  | .tbPtpCfg => 0x10070
  | .tbGmIdHi => 0x10074
  | .tbGmIdLo => 0x10078
  | .tbUtcOfs => 0x1007C
  | .tbPps => 0x10080
  | .tbIrig => 0x10084
  | .svcCfg => 0x70400
  | .svcStat => 0x70404
  | .netCtrl => 0x80000
  | .netVlan => 0x80004
  | .netPcpMap => 0x80008
  | .netGlxMacHi => 0x80030
  | .netGlxMacLo => 0x80034
  | .netStat => 0x80040
  | .netGlxBad => 0x80044
  | .netGlxUnknown => 0x80048
  | .coalOvf => 0x8004C
  | .prpCfg => 0x80320
  | .gpubWinAddr => 0x88800
  | .gpubWinData => 0x88804
  | .coalCfg => 0x88C00
  | .coalStat => 0x88C04
  | .pairCtrl => 0x90000
  | .pairCfg => 0x90004
  | .pairStat => 0x90008
  | .pairClaimOwn => 0x9000C
  | .pairClaimPeer => 0x90010
  | .pairMirF => 0x90014
  | .pairCntTake => 0x90018
  | .pairCntHblost => 0x9001C
  | .pairCntM0bad => 0x90020
  | .pairCntClmerr => 0x90024
  | .pairTakeLast => 0x90028
  | .pairM0Peak => 0x9002C
  | .pairOtest => 0x90030
  | .pwrCtrl => 0x90100
  | .pwrStat => 0x90104
  | .pwrVfa => 0x90108
  | .pwrVfb => 0x9010C
  | .evrCtrl => 0xA0000
  | .evrStat => 0xA0004
  | .evrOldest => 0xA0008
  | .evrNewest => 0xA000C
  | .evrCursor => 0xA0010
  | .evrSel => 0xA0014
  | .evrLost => 0xA0018
  | .drCtrl => 0xA1000
  | .drStat => 0xA1004
  | .drMissed => 0xA1008
  | .drTrCfg => 0xA100C
  | .idPart => 0x0
  | .idRev => 0x4
  | .idSerialHi => 0x8
  | .idSerialLo => 0xC
  | .idFw => 0x10
  | .glbStat => 0x100
  | .cmdCfg => 0x200
  | .cmdIp => 0x204
  | .cmdMask => 0x208
  | .cmdGw => 0x20C
  | .cmdStat => 0x210
  | .cmdCntDisc => 0x214
  | .cmdCntCrc => 0x218
  | .cmdCntNlost => 0x21C
  | .hltStat => 0xB0000
  | .hltWin => 0xB0004
  | .hltCarCtrl => 0xB0008
  | .hltCarStat => 0xB000C
  | .hltCarFails => 0xB0010
  | .hltFabCnt => 0xB001C
  | .hltUnfence => 0xB0014
  | .hltDeductSrc => 0xB0040
  | .secStat => 0xC0000
  | .secHssQLo => 0xC0020
  | .secHssQHi => 0xC0024
  | .secHssBlk => 0xC0028
  | .secAuthFail => 0xC002C
  | .secMkeyCtrl => 0xC0040
  | .startCtrl => 0xB0080
  | .startStat => 0xB0084
  | .startBayfail => 0xB0088
  | .startReadyMs => 0xB008C
  | .hltTemp => 0xB0090

end Reg

/-- Reset of POL_c.RATE by class (R574). -/
def polRateReset (c : Nat) : Nat := [1000, 2000, 5000, 20000].getD c 0

/-- Reset of POL_c.BURST by class (R574). -/
def polBurstReset (c : Nat) : Nat := [16, 32, 32, 64].getD c 0

def F.slackMin_VALID : Fld := ⟨31, 31, .ro, 0, none⟩
def F.slackMin_LATE : Fld := ⟨30, 30, .ro, 0, none⟩
def F.slackMin_WARN : Fld := ⟨29, 29, .ro, 0, none⟩
def F.slackMin_SLACK_PCT : Fld := ⟨28, 21, .ro, 0, none⟩
def F.slackMin_SLACK_NS : Fld := ⟨20, 0, .ro, 0, none⟩
def F.modCfg_STUCK_LIM : Fld := ⟨27, 16, .rw, 0x100, some (64, 4095)⟩
def F.modCfg_SWG : Fld := ⟨5, 4, .rw, 0, none⟩
def F.modCfg_INV : Fld := ⟨2, 2, .rw, 0, none⟩
def F.modCfg_CLK_SEL : Fld := ⟨1, 1, .rw, 0, none⟩
def F.modCfg_EN : Fld := ⟨0, 0, .rw, 0, none⟩
def F.modStat_CAL_DONE : Fld := ⟨19, 19, .ro, 0, none⟩
def F.modStat_BANK : Fld := ⟨18, 18, .ro, 0, none⟩
def F.modStat_STUCK_SEEN : Fld := ⟨17, 17, .rw1c, 0, none⟩
def F.modStat_OVR : Fld := ⟨16, 16, .rw1c, 0, none⟩
def F.modStat_SETTLE_LEFT : Fld := ⟨12, 8, .ro, 0, none⟩
def F.modStat_STATE : Fld := ⟨2, 0, .ro, 0, none⟩
def F.modGain_GAIN : Fld := ⟨23, 0, .rw, 0x400000, some (1, 16777215)⟩
def F.modOffset_OFFSET : Fld := ⟨31, 0, .rw, 0, none⟩
def F.modOvrLim_OVR_LIM : Fld := ⟨30, 0, .rw, 0x33333333, none⟩
def F.modCalMean_CAL_MEAN : Fld := ⟨31, 0, .ro, 0, none⟩
def F.modCalRms_CAL_RMS : Fld := ⟨31, 0, .ro, 0, none⟩
def F.swgCtrl_USE_FSEQ : Fld := ⟨2, 2, .rw, 0, none⟩
def F.swgCtrl_ARM : Fld := ⟨1, 1, .rw, 0, none⟩
def F.swgCtrl_ACTIVE : Fld := ⟨0, 0, .ro, 0, none⟩
def F.swgFseq_SWAP_FSEQ : Fld := ⟨31, 0, .rw, 0, none⟩
def F.svsCfg_GM_CHECK : Fld := ⟨24, 24, .rw, 0, none⟩
def F.svsCfg_STREAM_TMO : Fld := ⟨23, 16, .rw, 0x1E, some (1, 255)⟩
def F.svsCfg_MISS_BRIDGE : Fld := ⟨9, 8, .rw, 1, none⟩
def F.svsCfg_NVAL : Fld := ⟨6, 4, .rw, 7, none⟩
def F.svsCfg_RATE : Fld := ⟨2, 1, .rw, 0, none⟩
def F.svsCfg_EN : Fld := ⟨0, 0, .rw, 0, none⟩
def F.svsStat_LAST_SMPCNT : Fld := ⟨31, 16, .ro, 0, none⟩
def F.svsStat_CFG_MISMATCH : Fld := ⟨4, 4, .rw1c, 0, none⟩
def F.svsStat_TEST_SEEN : Fld := ⟨3, 3, .rw1c, 0, none⟩
def F.svsStat_TIMEQ : Fld := ⟨2, 2, .ro, 0, none⟩
def F.svsStat_STATE : Fld := ⟨1, 0, .ro, 0, none⟩
def F.svsDlyCorr_DLY_CORR : Fld := ⟨31, 0, .rw, 0, none⟩
def F.svsMissCnt_MISSED : Fld := ⟨31, 0, .rc, 0, none⟩
def F.svsLateCnt_LATE : Fld := ⟨31, 0, .rc, 0, none⟩
def F.svsLatMax_LAT_MAX_NS : Fld := ⟨31, 0, .ro, 0, none⟩
def F.slotMap_INV : Fld := ⟨20, 20, .rw, 0, none⟩
def F.slotMap_VAL : Fld := ⟨18, 16, .rw, 0, none⟩
def F.slotMap_SUB : Fld := ⟨13, 8, .rw, 0, none⟩
def F.slotMap_PORT : Fld := ⟨7, 4, .rw, 0, none⟩
def F.slotMap_KIND : Fld := ⟨1, 0, .rw, 0, some (0, 2)⟩
def F.slotAlt_INV : Fld := ⟨20, 20, .rw, 0, none⟩
def F.slotAlt_VAL : Fld := ⟨18, 16, .rw, 0, none⟩
def F.slotAlt_SUB : Fld := ⟨13, 8, .rw, 0, none⟩
def F.slotAlt_PORT : Fld := ⟨7, 4, .rw, 0, none⟩
def F.slotAlt_KIND : Fld := ⟨1, 0, .rw, 0, none⟩
def F.slotScale_SCALE : Fld := ⟨31, 0, .rw, 0, none⟩
def F.bayCtrl_CLR_ENERGY : Fld := ⟨8, 8, .wo, 0, none⟩
def F.bayCtrl_MODE : Fld := ⟨1, 0, .rw, 0, some (0, 2)⟩
def F.bayStat_UNPROT : Fld := ⟨31, 31, .ro, 0, none⟩
def F.bayStat_LATE : Fld := ⟨30, 30, .ro, 0, none⟩
def F.bayStat_CAROUSEL : Fld := ⟨29, 29, .ro, 0, none⟩
def F.bayStat_SPARE : Fld := ⟨28, 28, .ro, 0, none⟩
def F.bayStat_THERM_EST : Fld := ⟨27, 27, .ro, 0, none⟩
def F.bayStat_CLP_ACT : Fld := ⟨26, 26, .ro, 0, none⟩
def F.bayStat_LATE_SEC : Fld := ⟨23, 16, .ro, 0, none⟩
def F.bayStat_GROUP : Fld := ⟨13, 12, .ro, 0, none⟩
def F.bayStat_FTR_SRC : Fld := ⟨11, 10, .ro, 0, none⟩
def F.bayStat_MODE : Fld := ⟨9, 8, .ro, 0, none⟩
def F.bayStat_ENGINE (n : Nat) : Fld := ⟨5, 0, .ro, n, none⟩
def F.bayStartLo_SIG : Fld := ⟨31, 0, .ro, 0, none⟩
def F.bayStartHi_SIG : Fld := ⟨31, 0, .ro, 0, none⟩
def F.bayOperLo_SIG : Fld := ⟨31, 0, .ro, 0, none⟩
def F.bayOperHi_SIG : Fld := ⟨31, 0, .ro, 0, none⟩
def F.bayBlkf_BF : Fld := ⟨31, 0, .ro, 0, none⟩
def F.bayCb_EFF_CLOSED : Fld := ⟨2, 2, .ro, 0, none⟩
def F.bayCb_POS : Fld := ⟨1, 0, .ro, 0, none⟩
def F.bayValid_SUBST : Fld := ⟨12, 12, .ro, 0, none⟩
def F.bayValid_TEST : Fld := ⟨11, 11, .ro, 0, none⟩
def F.bayValid_OVR : Fld := ⟨10, 10, .ro, 0, none⟩
def F.bayValid_TIMEQ : Fld := ⟨9, 9, .ro, 0, none⟩
def F.bayValid_SEQ_V : Fld := ⟨8, 8, .ro, 0, none⟩
def F.bayValid_SEQ_I : Fld := ⟨7, 7, .ro, 0, none⟩
def F.bayValid_FREQ : Fld := ⟨6, 6, .ro, 0, none⟩
def F.bayValid_V0_CALC : Fld := ⟨5, 5, .ro, 0, none⟩
def F.bayValid_VN : Fld := ⟨4, 4, .ro, 0, none⟩
def F.bayValid_VPH : Fld := ⟨3, 3, .ro, 0, none⟩
def F.bayValid_I0_CALC : Fld := ⟨2, 2, .ro, 0, none⟩
def F.bayValid_IN : Fld := ⟨1, 1, .ro, 0, none⟩
def F.bayValid_IPH : Fld := ⟨0, 0, .ro, 0, none⟩
def F.bayCommit_FSEQ : Fld := ⟨31, 0, .ro, 0, none⟩
def F.bayMeas_VALUE : Fld := ⟨31, 0, .ro, 0, none⟩
def F.bayEnergy_HALF : Fld := ⟨31, 0, .ro, 0, none⟩
def F.bayMotCtrl_CNT_CLR : Fld := ⟨2, 2, .wo, 0, none⟩
def F.bayMotCtrl_START_CLR : Fld := ⟨1, 1, .wo, 0, none⟩
def F.bayMotCtrl_THETA_RESET : Fld := ⟨0, 0, .wo, 0, none⟩
def F.bayMotStat_N_WIN : Fld := ⟨15, 8, .ro, 0, none⟩
def F.bayMotStat_RESTORED : Fld := ⟨6, 6, .ro, 0, none⟩
def F.bayMotStat_EMERG : Fld := ⟨5, 5, .ro, 0, none⟩
def F.bayMotStat_INH_BETWEEN : Fld := ⟨4, 4, .ro, 0, none⟩
def F.bayMotStat_INH_COUNT : Fld := ⟨3, 3, .ro, 0, none⟩
def F.bayMotStat_INH_THERM : Fld := ⟨2, 2, .ro, 0, none⟩
def F.bayMotStat_STATE : Fld := ⟨1, 0, .ro, 0, none⟩
def F.znBaysec_TIED : Fld := ⟨10, 10, .ro, 0, none⟩
def F.znBaysec_DS2_BAD : Fld := ⟨9, 9, .ro, 0, none⟩
def F.znBaysec_DS1_BAD : Fld := ⟨8, 8, .ro, 0, none⟩
def F.znBaysec_SEC : Fld := ⟨7, 0, .ro, 0, none⟩
def F.znZbays_BAYS : Fld := ⟨31, 0, .ro, 0, none⟩
def F.znDif_VALUE : Fld := ⟨31, 0, .ro, 0, none⟩
def F.znFbus_VALUE : Fld := ⟨31, 0, .ro, 0, none⟩
def F.bayBrkLoc_GO_EN : Fld := ⟨31, 31, .rw, 0, none⟩
def F.bayBrkLoc_GO_PUB : Fld := ⟨30, 24, .rw, 0, none⟩
def F.bayBrkLoc_GO_MEMB : Fld := ⟨23, 16, .rw, 0, none⟩
def F.bayBrkLoc_DO_MASK : Fld := ⟨15, 0, .rw, 0, none⟩
def F.bayClsLoc_GO_EN : Fld := ⟨31, 31, .rw, 0, none⟩
def F.bayClsLoc_GO_PUB : Fld := ⟨30, 24, .rw, 0, none⟩
def F.bayClsLoc_GO_MEMB : Fld := ⟨23, 16, .rw, 0, none⟩
def F.bayClsLoc_DO_MASK : Fld := ⟨15, 0, .rw, 0, none⟩
def F.bayBrkRem_DEVID : Fld := ⟨31, 16, .rw, 0, none⟩
def F.bayBrkRem_EN : Fld := ⟨15, 15, .rw, 0, none⟩
def F.bayBrkRem_POINT : Fld := ⟨11, 0, .rw, 0, none⟩
def F.bayClsRem_DEVID : Fld := ⟨31, 16, .rw, 0, none⟩
def F.bayClsRem_EN : Fld := ⟨15, 15, .rw, 0, none⟩
def F.bayClsRem_POINT : Fld := ⟨11, 0, .rw, 0, none⟩
def F.bayXfer_EN : Fld := ⟨31, 31, .rw, 0, none⟩
def F.bayXfer_GO_PUB : Fld := ⟨30, 24, .rw, 0, none⟩
def F.bayXfer_GO_MEMB : Fld := ⟨23, 16, .rw, 0, none⟩
def F.bayLatch_OUT : Fld := ⟨2, 2, .rw1c, 0, none⟩
def F.bayLatch_XFER : Fld := ⟨1, 1, .rw1c, 0, none⟩
def F.bayLatch_BRK : Fld := ⟨0, 0, .rw1c, 0, none⟩
def F.bayClsIlk_ILK_OK : Fld := ⟨16, 16, .ro, 0, none⟩
def F.bayClsIlk_CLS_BLK : Fld := ⟨5, 0, .rw, 0, some (0, 32)⟩
def F.bayTripcnt_COUNT : Fld := ⟨31, 0, .ro, 0, none⟩
def F.bayTm_OUT_MASK : Fld := ⟨31, 16, .rw, 0, none⟩
def F.bayTm_REC_START : Fld := ⟨5, 5, .rw, 0, none⟩
def F.bayTm_XFER : Fld := ⟨3, 3, .rw, 0, none⟩
def F.bayTm_REC : Fld := ⟨2, 2, .rw, 0, none⟩
def F.bayTm_LATCH : Fld := ⟨1, 1, .rw, 0, none⟩
def F.bayTm_BRK : Fld := ⟨0, 0, .rw, 0, none⟩
def F.znTm_OUT_MASK : Fld := ⟨31, 16, .rw, 0, none⟩
def F.znTm_REC_START : Fld := ⟨5, 5, .rw, 0, none⟩
def F.znTm_XFER : Fld := ⟨3, 3, .rw, 0, none⟩
def F.znTm_REC : Fld := ⟨2, 2, .rw, 0, none⟩
def F.znTm_LATCH : Fld := ⟨1, 1, .rw, 0, none⟩
def F.znTm_BRK : Fld := ⟨0, 0, .rw, 0, none⟩
def F.diCfg_TN_MAX : Fld := ⟨31, 24, .rw, 0x01, some (1, 255)⟩
def F.diCfg_WB_TIME : Fld := ⟨23, 16, .rw, 0x0A, some (1, 255)⟩
def F.diCfg_DEB_US : Fld := ⟨15, 0, .rw, 0x03E8, some (5, 64000)⟩
def F.diOpt_WB_EN : Fld := ⟨1, 1, .rw, 0, none⟩
def F.diOpt_PULSE_REQ : Fld := ⟨0, 0, .rw, 1, none⟩
def F.diStat_TENSION : Fld := ⟨31, 24, .ro, 0, none⟩
def F.diStat_LIGHT : Fld := ⟨6, 6, .ro, 0, none⟩
def F.diStat_PULSED : Fld := ⟨5, 5, .ro, 0, none⟩
def F.diStat_BREAK : Fld := ⟨4, 4, .ro, 0, none⟩
def F.diStat_FLD_LOW : Fld := ⟨3, 3, .ro, 0, none⟩
def F.diStat_VALID : Fld := ⟨2, 2, .ro, 0, none⟩
def F.diStat_DEB : Fld := ⟨1, 1, .ro, 0, none⟩
def F.diStat_STATE : Fld := ⟨0, 0, .ro, 0, none⟩
def F.diCur_CUR_UA : Fld := ⟨15, 0, .ro, 0, none⟩
def F.doCfg_CLOSE : Fld := ⟨1, 1, .rw, 0, none⟩
def F.doCfg_CLAIM : Fld := ⟨0, 0, .rw, 0, none⟩
def F.doStat_PAR_SIB : Fld := ⟨31, 28, .ro, 0, none⟩
def F.doStat_FAULT : Fld := ⟨23, 20, .ro, 0, none⟩
def F.doStat_RETRIES : Fld := ⟨19, 18, .ro, 0, none⟩
def F.doStat_CLOSE_EFF : Fld := ⟨11, 11, .ro, 0, none⟩
def F.doStat_FENCED : Fld := ⟨10, 10, .ro, 0, none⟩
def F.doStat_PARKED : Fld := ⟨9, 9, .ro, 1, none⟩
def F.doStat_WAIT_CMD : Fld := ⟨8, 8, .ro, 0, none⟩
def F.doStat_GATE_OK : Fld := ⟨6, 6, .ro, 0, none⟩
def F.doStat_DUTY_WARN : Fld := ⟨5, 5, .rw1c, 0, none⟩
def F.doStat_FAULT_SEEN : Fld := ⟨4, 4, .rw1c, 0, none⟩
def F.doStat_RB : Fld := ⟨3, 3, .ro, 0, none⟩
def F.doStat_CONDUCT : Fld := ⟨2, 2, .ro, 0, none⟩
def F.doStat_CMD : Fld := ⟨1, 1, .ro, 0, none⟩
def F.doObs_CAND (y : Nat) : Fld := ⟨31, 16, .ro, (0xFFFFFFFF - 2 ^ (16 + y)), none⟩
def F.doObs_N_OBS : Fld := ⟨11, 8, .ro, 0, none⟩
def F.doObs_OBS_RB : Fld := ⟨7, 0, .ro, 0, none⟩
def F.doCur_CUR_MA : Fld := ⟨15, 0, .ro, 0, none⟩
def F.leCtrl_CYC_MAX : Fld := ⟨31, 16, .rw, 0x0064, some (10, 10000)⟩
def F.leCtrl_CYC_MIN : Fld := ⟨15, 8, .rw, 0, none⟩
def F.leCtrl_OVR_STOP : Fld := ⟨7, 1, .rw, 0, none⟩
def F.leCtrl_STOP_OFF : Fld := ⟨0, 0, .rw, 0, none⟩
def F.leStat_FORCES : Fld := ⟨31, 24, .ro, 0, none⟩
def F.leStat_START_KIND : Fld := ⟨9, 8, .ro, 0, none⟩
def F.leStat_STATE : Fld := ⟨2, 0, .ro, 0, none⟩
def F.leCycLast_US : Fld := ⟨31, 0, .ro, 0, none⟩
def F.leCycPeak_US : Fld := ⟨31, 0, .rc, 0, none⟩
def F.leCycCnt_COUNT : Fld := ⟨31, 0, .ro, 0, none⟩
def F.leOvrCnt_COUNT : Fld := ⟨31, 0, .rc, 0, none⟩
def F.leLoadErr_REASON : Fld := ⟨31, 24, .ro, 0, none⟩
def F.leLoadErr_ADDR : Fld := ⟨15, 0, .ro, 0, none⟩
def F.leImgCrc_CRC : Fld := ⟨31, 0, .ro, 0, none⟩
def F.leE40_DI_BASE : Fld := ⟨31, 24, .rw, 0, some (0, 16)⟩
def F.leE40_DO_BASE : Fld := ⟨23, 20, .rw, 0, some (0, 8)⟩
def F.leE40_E40_BAY : Fld := ⟨19, 14, .rw, 0, some (0, 31)⟩
def F.leE40_M_BASE : Fld := ⟨13, 0, .rw, 0, none⟩
def F.tbPath_PATH_NS : Fld := ⟨31, 0, .ro, 0, none⟩
def F.lnAsymTx_ASYM_PS : Fld := ⟨31, 0, .rw, 0, none⟩
def F.lnAsymRx_ASYM_PS : Fld := ⟨31, 0, .rw, 0, none⟩
def F.lnTsqEnt0_VALID : Fld := ⟨31, 31, .ro, 0, none⟩
def F.lnTsqEnt0_ID : Fld := ⟨15, 0, .ro, 0, none⟩
def F.lnTsqEnt1_VALUE : Fld := ⟨31, 0, .ro, 0, none⟩
def F.lnTsqEnt2_VALUE : Fld := ⟨31, 0, .ro, 0, none⟩
def F.lnTsqOvf_VALUE : Fld := ⟨31, 0, .rc, 0, none⟩
def F.trgCtrl_ACTION : Fld := ⟨3, 2, .rw, 0, some (0, 2)⟩
def F.trgCtrl_ARM : Fld := ⟨0, 0, .rw, 0, none⟩
def F.trgTarget_VALUE : Fld := ⟨31, 0, .rw, 0, none⟩
def F.trgPeriod_VALUE : Fld := ⟨31, 0, .rw, 0, some (0, 2000000000)⟩
def F.trgStat_STEPPED : Fld := ⟨2, 2, .rw1c, 0, none⟩
def F.trgStat_PAST : Fld := ⟨1, 1, .rw1c, 0, none⟩
def F.trgStat_FIRED : Fld := ⟨0, 0, .rw1c, 0, none⟩
def F.lnCfg_UP_HOLD : Fld := ⟨15, 8, .rw, 0x0A, some (1, 255)⟩
def F.lnCfg_RATE : Fld := ⟨5, 4, .rw, 2, some (0, 2)⟩
def F.lnCfg_ROLE : Fld := ⟨3, 2, .rw, 0, some (0, 1)⟩
def F.lnCfg_AN_EN : Fld := ⟨1, 1, .rw, 1, none⟩
def F.lnCfg_EN : Fld := ⟨0, 0, .rw, 0, none⟩
def F.lnStat_FREQ_OFS : Fld := ⟨31, 16, .ro, 0, none⟩
def F.lnStat_FLAP_SEEN : Fld := ⟨11, 11, .rw1c, 0, none⟩
def F.lnStat_DOWN_CAUSE : Fld := ⟨10, 8, .ro, 0, none⟩
def F.lnStat_HIBER : Fld := ⟨5, 5, .ro, 0, none⟩
def F.lnStat_SIG_DET : Fld := ⟨4, 4, .ro, 0, none⟩
def F.lnStat_STATE : Fld := ⟨2, 0, .ro, 0, none⟩
def F.lnCntDown_COUNT : Fld := ⟨31, 0, .rc, 0, none⟩
def F.lnCntCode_COUNT : Fld := ⟨31, 0, .rc, 0, none⟩
def F.lnAdapt_FREEZE : Fld := ⟨31, 31, .rw, 0, none⟩
def F.lnAdapt_CTLE : Fld := ⟨11, 8, .ro, 0, none⟩
def F.lnAdapt_TAP1 : Fld := ⟨7, 0, .ro, 0, none⟩
def F.lnDfe_TAPS : Fld := ⟨31, 0, .ro, 0, none⟩
def F.lnEye_EYE_W : Fld := ⟨23, 16, .ro, 0, none⟩
def F.lnEye_EYE_H : Fld := ⟨11, 0, .ro, 0, none⟩
def F.lnScanCtrl_START : Fld := ⟨31, 31, .wo, 0, none⟩
def F.lnScanCtrl_DONE : Fld := ⟨30, 30, .ro, 0, none⟩
def F.lnScanCtrl_DWELL : Fld := ⟨23, 20, .rw, 0, some (0, 12)⟩
def F.lnScanCtrl_V_OFS : Fld := ⟨15, 8, .rw, 0, none⟩
def F.lnScanCtrl_H_OFS : Fld := ⟨7, 0, .rw, 0, none⟩
def F.lnScanErr_ERR : Fld := ⟨31, 0, .ro, 0, none⟩
def F.lnPrbsCtrl_LOOP : Fld := ⟨11, 10, .rw, 0, some (0, 1)⟩
def F.lnPrbsCtrl_INJ : Fld := ⟨9, 9, .wo, 0, none⟩
def F.lnPrbsCtrl_CLR : Fld := ⟨8, 8, .wo, 0, none⟩
def F.lnPrbsCtrl_CHK_PAT : Fld := ⟨5, 4, .rw, 3, none⟩
def F.lnPrbsCtrl_GEN_PAT : Fld := ⟨3, 2, .rw, 3, none⟩
def F.lnPrbsCtrl_CHK_EN : Fld := ⟨1, 1, .rw, 0, none⟩
def F.lnPrbsCtrl_GEN_EN : Fld := ⟨0, 0, .rw, 0, none⟩
def F.lnPrbsStat_LOST_SYNC : Fld := ⟨1, 1, .rw1c, 0, none⟩
def F.lnPrbsStat_SYNC : Fld := ⟨0, 0, .ro, 0, none⟩
def F.lnPrbsErr_COUNT : Fld := ⟨31, 0, .ro, 0, none⟩
def F.lnPrbsBits_COUNT : Fld := ⟨31, 0, .ro, 0, none⟩
def F.netVid_EN : Fld := ⟨12, 12, .rw, 0, none⟩
def F.netVid_VID : Fld := ⟨11, 0, .rw, 0, some (1, 4094)⟩
def F.pol_RATE (c : Nat) : Fld := ⟨31, 16, .rw, (polRateReset c), some (1, 65535)⟩
def F.pol_BURST (c : Nat) : Fld := ⟨7, 0, .rw, (polBurstReset c), some (1, 255)⟩
def F.hostf_ETYPE : Fld := ⟨31, 16, .rw, 0, none⟩
def F.hostf_LANE_MASK : Fld := ⟨4, 0, .rw, 0, none⟩
def F.mac_COUNT : Fld := ⟨31, 0, .rc, 0, none⟩
def F.prp_COUNT : Fld := ⟨31, 0, .rc, 0, none⟩
def F.prp_NODES : Fld := ⟨31, 0, .ro, 0, none⟩
def F.sub_VALUE : Fld := ⟨31, 0, .ro, 0, none⟩
def F.rxd_VALUE : Fld := ⟨31, 0, .rw, 0, none⟩
def F.gsubCfg_NMEMB : Fld := ⟨9, 4, .rw, 0, none⟩
def F.gsubCfg_SIM_ACC : Fld := ⟨3, 3, .rw, 0, none⟩
def F.gsubCfg_LANE : Fld := ⟨2, 1, .rw, 0, none⟩
def F.gsubCfg_EN : Fld := ⟨0, 0, .rw, 0, none⟩
def F.gsubStat_CFG_MISMATCH : Fld := ⟨2, 2, .rw1c, 0, none⟩
def F.gsubStat_TEST_SEEN : Fld := ⟨1, 1, .rw1c, 0, none⟩
def F.gsubStat_LIVE : Fld := ⟨0, 0, .ro, 0, none⟩
def F.gpt_EN : Fld := ⟨31, 31, .rw, 0, none⟩
def F.gpt_Q_EN : Fld := ⟨30, 30, .rw, 0, none⟩
def F.gpt_SUB : Fld := ⟨22, 16, .rw, 0, none⟩
def F.gpt_QIDX : Fld := ⟨13, 8, .rw, 0, none⟩
def F.gpt_MEMB : Fld := ⟨5, 0, .rw, 0, none⟩
def F.gpubCtrl_T_MAX : Fld := ⟨31, 20, .rw, 0x3E8, some (100, 4000)⟩
def F.gpubCtrl_T_MIN : Fld := ⟨19, 12, .rw, 0x01, some (1, 100)⟩
def F.gpubCtrl_LEN : Fld := ⟨11, 1, .rw, 0, some (60, 1500)⟩
def F.gpubCtrl_EN : Fld := ⟨0, 0, .rw, 0, none⟩
def F.gpubOfs0_OFS : Fld := ⟨31, 16, .rw, 0, none⟩
def F.gpubOfs0_OFS0 : Fld := ⟨15, 0, .rw, 0, none⟩
def F.gpubOfs1_OFS : Fld := ⟨31, 16, .rw, 0, none⟩
def F.gpubOfs1_OFS0 : Fld := ⟨15, 0, .rw, 0, none⟩
def F.staCfg_DEVID : Fld := ⟨31, 16, .rw, 0, none⟩
def F.staCfg_TASK : Fld := ⟨15, 14, .rw, 0, none⟩
def F.staCfg_GROUP : Fld := ⟨13, 10, .rw, 1, some (1, 15)⟩
def F.staCfg_LANE : Fld := ⟨9, 8, .rw, 0, none⟩
def F.staCfg_EN : Fld := ⟨0, 0, .rw, 0, none⟩
def F.staTime_AGE_T : Fld := ⟨31, 20, .rw, 0x03C, some (1, 4095)⟩
def F.staTime_LIVE_TMO : Fld := ⟨19, 10, .rw, 0x032, some (2, 1000)⟩
def F.staTime_CYCLE : Fld := ⟨9, 0, .rw, 0x00A, some (1, 1000)⟩
def F.staStat_MAC_HI : Fld := ⟨31, 16, .ro, 0, none⟩
def F.staStat_SUSPECT : Fld := ⟨4, 4, .ro, 0, none⟩
def F.staStat_STATE : Fld := ⟨2, 0, .ro, 0, none⟩
def F.staMacLo_MAC : Fld := ⟨31, 0, .ro, 0, none⟩
def F.gpr_EN : Fld := ⟨31, 31, .rw, 0, none⟩
def F.gpr_ENTRY : Fld := ⟨19, 12, .rw, 0, none⟩
def F.gpr_POINT : Fld := ⟨11, 0, .rw, 0, none⟩
def F.coal_VALUE : Fld := ⟨31, 0, .ro, 0, none⟩
def F.mirAddr_ADDR : Fld := ⟨31, 0, .rw, 0, none⟩
def F.mirCfg_EN : Fld := ⟨31, 31, .rw, 0, none⟩
def F.mirCfg_CLASS : Fld := ⟨17, 16, .rw, 0, some (0, 2)⟩
def F.mirCfg_LEN : Fld := ⟨12, 0, .rw, 0, some (4, 4096)⟩
def F.evrWindow_WORD : Fld := ⟨31, 0, .ro, 0, none⟩
def F.evrSnap_EN : Fld := ⟨31, 31, .rw, 0, none⟩
def F.evrSnap_ADDR : Fld := ⟨19, 0, .rw, 0, none⟩
def F.drAn_EN : Fld := ⟨31, 31, .rw, 0, none⟩
def F.drAn_SHIFT : Fld := ⟨19, 16, .rw, 0, some (0, 8)⟩
def F.drAn_BAY : Fld := ⟨12, 8, .rw, 0, none⟩
def F.drAn_SLOT : Fld := ⟨2, 0, .rw, 0, none⟩
def F.drBin_KIND : Fld := ⟨31, 28, .rw, 0, some (0, 9)⟩
def F.drBin_INDEX : Fld := ⟨12, 0, .rw, 0, none⟩
def F.drIdx_VALUE : Fld := ⟨31, 0, .ro, 0, none⟩
def F.macHi_MAC : Fld := ⟨31, 0, .ro, 0, none⟩
def F.macLo_MAC : Fld := ⟨31, 0, .ro, 0, none⟩
def F.glbFeatOffer_BITS : Fld := ⟨31, 0, .ro, 0, none⟩
def F.glbFeatAcc_BITS : Fld := ⟨31, 0, .ro, 0, none⟩
def F.sessInfo_SESSION : Fld := ⟨31, 16, .ro, 0, none⟩
def F.sessInfo_OPEN : Fld := ⟨7, 7, .ro, 0, none⟩
def F.sessInfo_UDP : Fld := ⟨6, 6, .ro, 0, none⟩
def F.sessInfo_MAINT : Fld := ⟨5, 5, .ro, 0, none⟩
def F.sessPeer_VALUE : Fld := ⟨31, 0, .ro, 0, none⟩
def F.sessSeq_VALUE : Fld := ⟨31, 0, .ro, 0, none⟩
def F.hltFenced_FENCED : Fld := ⟨31, 0, .ro, 0, none⟩
def F.hltDom_STATE : Fld := ⟨31, 29, .ro, 0, none⟩
def F.hltDom_ERR_WIN : Fld := ⟨23, 16, .ro, 0, none⟩
def F.hltDom_ERR_TOTAL : Fld := ⟨15, 0, .ro, 0, none⟩
def F.atbCtrl_MODE : Fld := ⟨9, 8, .rw, 0, some (0, 2)⟩
def F.atbCtrl_NODE : Fld := ⟨7, 0, .rw, 0, none⟩
def F.secImg_SVN_RUN : Fld := ⟨31, 24, .ro, 0, none⟩
def F.secImg_SVN_MIN : Fld := ⟨23, 16, .ro, 0, none⟩
def F.secImg_STAGED : Fld := ⟨9, 8, .ro, 0, none⟩
def F.secImg_RESULT : Fld := ⟨6, 4, .ro, 0, none⟩
def F.secImg_SLOT : Fld := ⟨0, 0, .ro, 0, none⟩
def F.secMkey_KEY : Fld := ⟨31, 0, .rwl, 0, none⟩
def F.frmCount_FCNT_S : Fld := ⟨13, 0, .ro, 0, none⟩
def F.frmSeqLatch_FSEQ : Fld := ⟨31, 0, .ro, 0, none⟩
def F.frmCfg_D_ALIGN : Fld := ⟨5, 0, .rw, 0x16, some (0, 58)⟩
def F.vcoreStat_AT_MAX_SHORT : Fld := ⟨18, 18, .rw1c, 0, none⟩
def F.vcoreStat_AT_MIN : Fld := ⟨17, 17, .ro, 0, none⟩
def F.vcoreStat_AT_MAX : Fld := ⟨16, 16, .ro, 1, none⟩
def F.vcoreStat_VCORE_MV : Fld := ⟨9, 0, .ro, 900, none⟩
def F.lateCnt_LATE_FRAMES : Fld := ⟨31, 0, .rc, 0, none⟩
def F.acqCtrl_CAL_FRAMES : Fld := ⟨31, 16, .rw, 0x3840, some (1, 65535)⟩
def F.acqCtrl_SUBST_RET : Fld := ⟨15, 8, .rw, 0x90, some (1, 255)⟩
def F.acqCtrl_MCLK1_EN : Fld := ⟨1, 1, .rw, 0, none⟩
def F.acqCtrl_MCLK0_EN : Fld := ⟨0, 0, .rw, 0, none⟩
def F.acqStat_MCLK1_RELOCK : Fld := ⟨3, 3, .rw1c, 0, none⟩
def F.acqStat_MCLK0_RELOCK : Fld := ⟨2, 2, .rw1c, 0, none⟩
def F.acqStat_MCLK1_LOCK : Fld := ⟨1, 1, .ro, 0, none⟩
def F.acqStat_MCLK0_LOCK : Fld := ⟨0, 0, .ro, 0, none⟩
def F.coefAddr_GROUP : Fld := ⟨12, 11, .rw, 0, none⟩
def F.coefAddr_BANK : Fld := ⟨10, 10, .rw, 0, none⟩
def F.coefAddr_STAGE : Fld := ⟨9, 9, .rw, 0, none⟩
def F.coefAddr_TAP : Fld := ⟨7, 0, .rw, 0, none⟩
def F.coefData_COEF : Fld := ⟨23, 0, .rw, 0, none⟩
def F.znStart_SIG : Fld := ⟨31, 0, .ro, 0, none⟩
def F.znOper_SIG : Fld := ⟨31, 0, .ro, 0, none⟩
def F.znStat_TQ_BLK : Fld := ⟨25, 21, .ro, 0, none⟩
def F.znStat_INV_BLK : Fld := ⟨20, 16, .ro, 0, none⟩
def F.znStat_LATE_SEC : Fld := ⟨15, 8, .ro, 0, none⟩
def F.znStat_MERGED : Fld := ⟨4, 4, .ro, 0, none⟩
def F.znStat_TOPO_FROZEN : Fld := ⟨3, 3, .ro, 0, none⟩
def F.znStat_ARC_FB : Fld := ⟨2, 2, .ro, 0, none⟩
def F.znStat_LATE : Fld := ⟨1, 1, .ro, 0, none⟩
def F.znStat_ZE_FENCED : Fld := ⟨0, 0, .ro, 0, none⟩
def F.znBtSrc_BAY : Fld := ⟨5, 0, .ro, 0x3F, none⟩
def F.znBtMask_BAYS : Fld := ⟨31, 0, .ro, 0, none⟩
def F.znArcOc_OC : Fld := ⟨31, 0, .ro, 0, none⟩
def F.znArcLight_LIGHT : Fld := ⟨31, 0, .ro, 0, none⟩
def F.stuCtrl_SEL_TMO : Fld := ⟨31, 24, .rw, 0x1E, some (1, 255)⟩
def F.stuCtrl_COMMIT_DL : Fld := ⟨23, 16, .rw, 0x0A, some (5, 200)⟩
def F.stuCtrl_PREP_DL : Fld := ⟨14, 8, .rw, 0x0A, some (2, 100)⟩
def F.stuCtrl_TRIP_MIN : Fld := ⟨7, 0, .rw, 0x64, some (0, 250)⟩
def F.stuTestOut_BAYS : Fld := ⟨31, 0, .rw, 0, none⟩
def F.stuStat_A_OPEN : Fld := ⟨23, 16, .ro, 0, none⟩
def F.stuStat_P_PEAK : Fld := ⟨15, 8, .ro, 0, none⟩
def F.stuStat_FULL : Fld := ⟨0, 0, .rw1c, 0, none⟩
def F.stuCntBound_COUNT : Fld := ⟨31, 0, .rc, 0, none⟩
def F.stuCntDrop_COUNT : Fld := ⟨31, 0, .rc, 0, none⟩
def F.stuCntAbort_COUNT : Fld := ⟨31, 0, .rc, 0, none⟩
def F.stuCntNoack_COUNT : Fld := ⟨31, 0, .rc, 0, none⟩
def F.stuLastId_ID : Fld := ⟨15, 0, .ro, 0, none⟩
def F.fioCtrl_P_STROBE : Fld := ⟨8, 0, .rw, 0x019, some (5, 400)⟩
def F.fioStat_LOCK_SEEN : Fld := ⟨23, 23, .rw1c, 0, none⟩
def F.fioStat_LOW_SEEN : Fld := ⟨22, 22, .rw1c, 0, none⟩
def F.fioStat_SAG_SEEN : Fld := ⟨21, 21, .rw1c, 0, none⟩
def F.fioStat_BAND : Fld := ⟨17, 16, .ro, 3, none⟩
def F.fioStat_FLP_MV : Fld := ⟨15, 0, .ro, 0, none⟩
def F.fioFlpMin_MIN_MV : Fld := ⟨15, 0, .rc, 0xFFFF, none⟩
def F.diState_DI : Fld := ⟨31, 0, .ro, 0, none⟩
def F.diDeb_DI : Fld := ⟨31, 0, .ro, 0, none⟩
def F.diValid_DI : Fld := ⟨31, 0, .ro, 0, none⟩
def F.diFldlow_DI : Fld := ⟨31, 0, .ro, 0, none⟩
def F.diBreak_DI : Fld := ⟨31, 0, .ro, 0, none⟩
def F.doIo_CMD : Fld := ⟨31, 16, .ro, 0, none⟩
def F.doIo_RB : Fld := ⟨15, 0, .ro, 0, none⟩
def F.doCond_WAIT : Fld := ⟨31, 16, .ro, 0, none⟩
def F.doCond_CONDUCT : Fld := ⟨15, 0, .ro, 0, none⟩
def F.logRetCtrl_RET_PERIOD : Fld := ⟨15, 0, .rw, 0x0064, some (10, 10000)⟩
def F.logRetStat_PROG_MISMATCH : Fld := ⟨5, 5, .ro, 0, none⟩
def F.logRetStat_B_VALID : Fld := ⟨4, 4, .ro, 0, none⟩
def F.logRetStat_A_VALID : Fld := ⟨3, 3, .ro, 0, none⟩
def F.logRetStat_SRC : Fld := ⟨1, 0, .ro, 0, none⟩
def F.logRetSeq_SEQ : Fld := ⟨31, 0, .ro, 0, none⟩
def F.tbCtrl_PPS_OUT_FREE : Fld := ⟨7, 7, .rw, 0, none⟩
def F.tbCtrl_MASTER_EN : Fld := ⟨6, 6, .rw, 0, none⟩
def F.tbCtrl_SERVO_EN : Fld := ⟨3, 3, .rw, 1, none⟩
def F.tbCtrl_IRIG_EN : Fld := ⟨2, 2, .rw, 0, none⟩
def F.tbCtrl_PPS_EN : Fld := ⟨1, 1, .rw, 0, none⟩
def F.tbCtrl_PTP_EN : Fld := ⟨0, 0, .rw, 0, none⟩
def F.tbStat_FIRST_DONE : Fld := ⟨11, 11, .ro, 0, none⟩
def F.tbStat_STEP_WAIT : Fld := ⟨10, 10, .ro, 0, none⟩
def F.tbStat_RR_ASYM : Fld := ⟨9, 9, .ro, 0, none⟩
def F.tbStat_STEP_SEEN : Fld := ⟨8, 8, .rw1c, 0, none⟩
def F.tbStat_SRC : Fld := ⟨5, 4, .ro, 0, none⟩
def F.tbStat_PTP_PORT : Fld := ⟨3, 3, .ro, 0, none⟩
def F.tbStat_STATE : Fld := ⟨2, 0, .ro, 0, none⟩
def F.tbOffset_OFS_NS : Fld := ⟨31, 0, .ro, 0, none⟩
def F.tbRrOfs_OFS_NS : Fld := ⟨31, 0, .ro, 0, none⟩
def F.tbLtcLo_VALUE : Fld := ⟨31, 0, .ro, 0, none⟩
def F.tbLtcHi_VALUE : Fld := ⟨31, 0, .ro, 0, none⟩
def F.tbLtcFrac_VALUE : Fld := ⟨31, 0, .ro, 0, none⟩
def F.tbMonLo_VALUE : Fld := ⟨31, 0, .ro, 0, none⟩
def F.tbMonHi_VALUE : Fld := ⟨31, 0, .ro, 0, none⟩
def F.tbIncInt_INC_INT : Fld := ⟨7, 0, .rw, 0x08, none⟩
def F.tbIncFrac_INC_FRAC : Fld := ⟨31, 0, .rw, 0, none⟩
def F.tbServo_SLEW_PPM : Fld := ⟨31, 24, .rw, 0x0A, some (1, 100)⟩
def F.tbServo_UNLOCK_THR : Fld := ⟨23, 16, .rw, 0x64, some (1, 255)⟩
def F.tbServo_LOCK_THR : Fld := ⟨9, 0, .rw, 0x0FA, some (10, 1000)⟩
def F.tbStepCtrl_USE_FSEQ : Fld := ⟨2, 2, .rw, 0, none⟩
def F.tbStepCtrl_MODE : Fld := ⟨1, 1, .rw, 0, none⟩
def F.tbStepCtrl_ARM : Fld := ⟨0, 0, .rw, 0, none⟩
def F.tbStepAmtLo_VALUE : Fld := ⟨31, 0, .rw, 0, none⟩
def F.tbStepAmtHi_VALUE : Fld := ⟨31, 0, .rw, 0, none⟩
def F.tbStepFseq_VALUE : Fld := ⟨31, 0, .rw, 0, none⟩
def F.tbStepEffLo_VALUE : Fld := ⟨31, 0, .ro, 0, none⟩
def F.tbStepEffHi_VALUE : Fld := ⟨31, 0, .ro, 0, none⟩
def F.tbRrCfg_HOLD_T : Fld := ⟨31, 24, .rw, 0x0A, some (1, 255)⟩
def F.tbRrCfg_VERIFY_THR : Fld := ⟨23, 16, .rw, 0x0A, some (1, 255)⟩
def F.tbRrCfg_PD_STEP_THR : Fld := ⟨15, 0, .rw, 0x0096, some (20, 10000)⟩
def F.tbRrCtrl_HOLD_MAX : Fld := ⟨31, 16, .rw, 0x0258, some (10, 65535)⟩
def F.tbRrCtrl_ACCEPT : Fld := ⟨0, 0, .wo, 0, none⟩
def F.tbPtpCfg_DOMAIN : Fld := ⟨31, 24, .rw, 0, none⟩
def F.tbPtpCfg_PRIORITY1 : Fld := ⟨23, 16, .rw, 0x80, none⟩
def F.tbPtpCfg_PRIORITY2 : Fld := ⟨15, 8, .rw, 0x80, none⟩
def F.tbPtpCfg_LOG_SYNC : Fld := ⟨3, 0, .rw, 0, none⟩
def F.tbGmIdHi_ID : Fld := ⟨31, 0, .ro, 0, none⟩
def F.tbGmIdLo_ID : Fld := ⟨31, 0, .ro, 0, none⟩
def F.tbUtcOfs_UTC_OFS : Fld := ⟨15, 0, .rw, 0x0025, none⟩
def F.tbPps_PPS_IN_DLY : Fld := ⟨31, 16, .rw, 0, none⟩
def F.tbPps_PPS_W : Fld := ⟨8, 0, .rw, 0x064, some (1, 500)⟩
def F.tbIrig_IRIG_DLY : Fld := ⟨31, 16, .rw, 0, none⟩
def F.tbIrig_TQ_MAX : Fld := ⟨15, 12, .rw, 0x4, none⟩
def F.tbIrig_LOCAL : Fld := ⟨9, 9, .ro, 0, none⟩
def F.tbIrig_QUAL : Fld := ⟨8, 8, .ro, 0, none⟩
def F.svcCfg_MODE : Fld := ⟨2, 2, .rw, 0, none⟩
def F.svcCfg_AN_EN : Fld := ⟨1, 1, .rw, 1, none⟩
def F.svcCfg_EN : Fld := ⟨0, 0, .rw, 1, none⟩
def F.svcStat_SPEED : Fld := ⟨5, 4, .ro, 2, none⟩
def F.svcStat_STATE : Fld := ⟨2, 0, .ro, 0, none⟩
def F.netCtrl_OWN_DEVID : Fld := ⟨31, 16, .rw, 0, none⟩
def F.netCtrl_DEF_PCP : Fld := ⟨11, 9, .rw, 4, none⟩
def F.netCtrl_GLX_PCP : Fld := ⟨7, 5, .rw, 6, none⟩
def F.netCtrl_GLX_EN : Fld := ⟨4, 4, .rw, 0, none⟩
def F.netCtrl_HSR : Fld := ⟨1, 1, .rw, 0, none⟩
def F.netCtrl_PRP : Fld := ⟨0, 0, .rw, 0, none⟩
def F.netVlan_PTP_TAG : Fld := ⟨31, 31, .rw, 0, none⟩
def F.netVlan_PTP_PCP : Fld := ⟨30, 28, .rw, 7, none⟩
def F.netVlan_PTP_VID : Fld := ⟨27, 16, .rw, 0, none⟩
def F.netVlan_GLX_TAG : Fld := ⟨15, 15, .rw, 0, none⟩
def F.netVlan_GLX_VID : Fld := ⟨11, 0, .rw, 0, none⟩
def F.netPcpMap_MAP : Fld := ⟨15, 0, .rw, 0xFA50, none⟩
def F.netGlxMacHi_MAC : Fld := ⟨31, 0, .rw, 0x347, none⟩
def F.netGlxMacLo_MAC : Fld := ⟨31, 0, .rw, 0x4C580000, none⟩
def F.netStat_SUB_SET_FULL : Fld := ⟨3, 3, .rw1c, 0, none⟩
def F.netStat_DUP_DEVID : Fld := ⟨2, 2, .rw1c, 0, none⟩
def F.netStat_UNKNOWN_STA : Fld := ⟨1, 1, .rw1c, 0, none⟩
def F.netStat_COAL_FULL : Fld := ⟨0, 0, .rw1c, 0, none⟩
def F.netGlxBad_COUNT : Fld := ⟨31, 0, .rc, 0, none⟩
def F.netGlxUnknown_COUNT : Fld := ⟨31, 0, .rc, 0, none⟩
def F.coalOvf_COUNT : Fld := ⟨31, 0, .rc, 0, none⟩
def F.prpCfg_LIFE_MS : Fld := ⟨31, 16, .rw, 0x07D0, some (100, 10000)⟩
def F.prpCfg_NODE_FORGET : Fld := ⟨15, 0, .rw, 0x003C, some (1, 3600)⟩
def F.gpubWinAddr_VALUE : Fld := ⟨31, 0, .rw, 0, none⟩
def F.gpubWinData_VALUE : Fld := ⟨31, 0, .rw, 0, none⟩
def F.coalCfg_VALUE : Fld := ⟨15, 0, .rw, 0x3E8, some (10, 60000)⟩
def F.coalStat_VALUE : Fld := ⟨15, 0, .ro, 0x0, none⟩
def F.pairCtrl_RESYNC : Fld := ⟨1, 1, .wo, 0, none⟩
def F.pairCtrl_SWITCH : Fld := ⟨0, 0, .wo, 0, none⟩
def F.pairCfg_HB_TIMEOUT : Fld := ⟨31, 24, .rw, 0x14, some (6, 28)⟩
def F.pairCfg_LISTEN : Fld := ⟨23, 16, .rw, 0x32, some (20, 255)⟩
def F.pairCfg_OTEST_PERIOD : Fld := ⟨15, 8, .rw, 0x3C, some (10, 255)⟩
def F.pairStat_POS : Fld := ⟨16, 16, .ro, 0, none⟩
def F.pairStat_POS_CONFLICT : Fld := ⟨11, 11, .ro, 0, none⟩
def F.pairStat_M2_STALE : Fld := ⟨10, 10, .ro, 0, none⟩
def F.pairStat_DEGRADED : Fld := ⟨9, 9, .ro, 0, none⟩
def F.pairStat_CONFIRM : Fld := ⟨8, 8, .ro, 0, none⟩
def F.pairStat_PEER_CLAIM : Fld := ⟨7, 7, .ro, 0, none⟩
def F.pairStat_HB_OK : Fld := ⟨6, 6, .ro, 0, none⟩
def F.pairStat_EVER_SYNC : Fld := ⟨5, 5, .ro, 0, none⟩
def F.pairStat_SYNC : Fld := ⟨4, 4, .ro, 0, none⟩
def F.pairStat_ROLE : Fld := ⟨2, 0, .ro, 0, none⟩
def F.pairClaimOwn_EPOCH : Fld := ⟨31, 16, .ro, 0, none⟩
def F.pairClaimOwn_HEALTH : Fld := ⟨15, 12, .ro, 0, none⟩
def F.pairClaimOwn_POS : Fld := ⟨0, 0, .ro, 0, none⟩
def F.pairClaimPeer_EPOCH : Fld := ⟨31, 16, .ro, 0, none⟩
def F.pairClaimPeer_HEALTH : Fld := ⟨15, 12, .ro, 0, none⟩
def F.pairClaimPeer_POS : Fld := ⟨0, 0, .ro, 0, none⟩
def F.pairMirF_FSEQ : Fld := ⟨31, 0, .ro, 0, none⟩
def F.pairCntTake_COUNT : Fld := ⟨31, 0, .rc, 0, none⟩
def F.pairCntHblost_COUNT : Fld := ⟨31, 0, .rc, 0, none⟩
def F.pairCntM0bad_COUNT : Fld := ⟨31, 0, .rc, 0, none⟩
def F.pairCntClmerr_COUNT : Fld := ⟨31, 0, .rc, 0, none⟩
def F.pairTakeLast_MISSED : Fld := ⟨31, 16, .ro, 0, none⟩
def F.pairTakeLast_CAUSE : Fld := ⟨2, 0, .ro, 0, none⟩
def F.pairM0Peak_BYTES : Fld := ⟨15, 0, .rc, 0, none⟩
def F.pairOtest_LAST : Fld := ⟨19, 16, .ro, 0, none⟩
def F.pairOtest_FAIL : Fld := ⟨15, 0, .rw1c, 0, none⟩
def F.pwrCtrl_FEED_T : Fld := ⟨15, 8, .rw, 0x0A, some (2, 100)⟩
def F.pwrCtrl_PROVE_B : Fld := ⟨1, 1, .wo, 0, none⟩
def F.pwrCtrl_PROVE_A : Fld := ⟨0, 0, .wo, 0, none⟩
def F.pwrStat_ON_STORE : Fld := ⟨17, 17, .ro, 0, none⟩
def F.pwrStat_HOLDUP_SEEN : Fld := ⟨16, 16, .rw1c, 0, none⟩
def F.pwrStat_FEED_B : Fld := ⟨10, 8, .ro, 0, none⟩
def F.pwrStat_FEED_A : Fld := ⟨2, 0, .ro, 0, none⟩
def F.pwrVfa_MV : Fld := ⟨15, 0, .ro, 0, none⟩
def F.pwrVfb_MV : Fld := ⟨15, 0, .ro, 0, none⟩
def F.evrCtrl_CLEAR : Fld := ⟨31, 31, .wo, 0, none⟩
def F.evrCtrl_REPEAT_WIN : Fld := ⟨15, 0, .rw, 0x03E8, some (0, 60000)⟩
def F.evrStat_FIFO_PEAK : Fld := ⟨31, 23, .rc, 0, none⟩
def F.evrStat_REPEAT_OPEN : Fld := ⟨22, 16, .ro, 0, none⟩
def F.evrStat_OVF_SEEN : Fld := ⟨4, 4, .rw1c, 0, none⟩
def F.evrStat_MEDIA_FAULT : Fld := ⟨3, 3, .rw1c, 0, none⟩
def F.evrStat_POCKET_ONLY : Fld := ⟨2, 2, .ro, 0, none⟩
def F.evrStat_A_FENCED : Fld := ⟨1, 1, .ro, 0, none⟩
def F.evrStat_SKEIN : Fld := ⟨0, 0, .ro, 0, none⟩
def F.evrOldest_RSEQ : Fld := ⟨31, 0, .ro, 0, none⟩
def F.evrNewest_RSEQ : Fld := ⟨31, 0, .ro, 0, none⟩
def F.evrCursor_RSEQ : Fld := ⟨31, 0, .rw, 0, none⟩
def F.evrSel_CUR_STATE : Fld := ⟨9, 8, .ro, 0, none⟩
def F.evrSel_SRC : Fld := ⟨1, 0, .rw, 0, some (0, 2)⟩
def F.evrLost_COUNT : Fld := ⟨31, 0, .rc, 0, none⟩
def F.drCtrl_CLEAR : Fld := ⟨31, 31, .wo, 0, none⟩
def F.drCtrl_MANUAL : Fld := ⟨30, 30, .wo, 0, none⟩
def F.drCtrl_POST : Fld := ⟨23, 16, .rw, 0x64, some (1, 200)⟩
def F.drCtrl_PRE : Fld := ⟨15, 8, .rw, 0x14, some (0, 50)⟩
def F.drCtrl_RETRIG : Fld := ⟨4, 4, .rw, 1, none⟩
def F.drCtrl_TR_EN : Fld := ⟨3, 3, .rw, 0, none⟩
def F.drCtrl_OVERWRITE : Fld := ⟨2, 2, .rw, 1, none⟩
def F.drCtrl_EN : Fld := ⟨0, 0, .rw, 0, none⟩
def F.drStat_STORED : Fld := ⟨19, 16, .ro, 0, none⟩
def F.drStat_FREE_BLK : Fld := ⟨15, 8, .ro, 88, none⟩
def F.drStat_FULL : Fld := ⟨2, 2, .rw1c, 0, none⟩
def F.drStat_RECORDING : Fld := ⟨1, 1, .ro, 0, none⟩
def F.drStat_ARMED : Fld := ⟨0, 0, .ro, 0, none⟩
def F.drMissed_VALUE : Fld := ⟨31, 0, .rc, 0x0, none⟩
def F.drTrCfg_VALUE : Fld := ⟨31, 0, .rw, 0xE10, some (0, 7200)⟩
def F.idPart_VENDOR : Fld := ⟨31, 16, .ro, 0x534F, none⟩
def F.idPart_PART : Fld := ⟨15, 0, .ro, 0x3232, none⟩
def F.idRev_ASIC_REV : Fld := ⟨31, 24, .ro, 0, none⟩
def F.idRev_MODULE_REV : Fld := ⟨23, 16, .ro, 0, none⟩
def F.idRev_VARIANT : Fld := ⟨15, 0, .ro, 0, none⟩
def F.idSerialHi_VALUE : Fld := ⟨31, 0, .ro, 0, none⟩
def F.idSerialLo_VALUE : Fld := ⟨31, 0, .ro, 0, none⟩
def F.idFw_VALUE : Fld := ⟨31, 0, .ro, 0, none⟩
def F.glbStat_HEALTH : Fld := ⟨15, 12, .ro, 0, none⟩
def F.glbStat_FAULT : Fld := ⟨11, 11, .ro, 0, none⟩
def F.glbStat_PROT_READY : Fld := ⟨10, 10, .ro, 0, none⟩
def F.glbStat_FEAT_DONE : Fld := ⟨9, 9, .ro, 0, none⟩
def F.glbStat_SEALED : Fld := ⟨8, 8, .ro, 0, none⟩
def F.glbStat_PRODUCTION : Fld := ⟨7, 7, .ro, 0, none⟩
def F.glbStat_START_KIND : Fld := ⟨6, 5, .ro, 0, none⟩
def F.cmdCfg_UDP_PORT : Fld := ⟨31, 16, .rw, 0xC0A8, some (1, 65535)⟩
def F.cmdCfg_SESS_TMO : Fld := ⟨15, 8, .rw, 0x0A, some (1, 255)⟩
def F.cmdCfg_UDP_EN : Fld := ⟨0, 0, .rw, 1, none⟩
def F.cmdIp_ADDR : Fld := ⟨31, 0, .rw, 0xC0A80064, none⟩
def F.cmdMask_ADDR : Fld := ⟨31, 0, .rw, 0xFFFFFF00, none⟩
def F.cmdGw_ADDR : Fld := ⟨31, 0, .rw, 0x0, none⟩
def F.cmdStat_UDP : Fld := ⟨7, 4, .ro, 0, none⟩
def F.cmdStat_OPEN : Fld := ⟨3, 0, .ro, 0, none⟩
def F.cmdCntDisc_COUNT : Fld := ⟨31, 0, .rc, 0, none⟩
def F.cmdCntCrc_COUNT : Fld := ⟨31, 0, .rc, 0, none⟩
def F.cmdCntNlost_COUNT : Fld := ⟨31, 0, .rc, 0, none⟩
def F.hltStat_HEALTH : Fld := ⟨15, 12, .ro, 0, none⟩
def F.hltStat_FAULT : Fld := ⟨11, 11, .ro, 0, none⟩
def F.hltStat_ZERO : Fld := ⟨10, 10, .ro, 1, none⟩
def F.hltStat_FABRIC : Fld := ⟨9, 9, .ro, 0, none⟩
def F.hltStat_CAR_RUN : Fld := ⟨8, 8, .ro, 0, none⟩
def F.hltStat_DEDUCT : Fld := ⟨7, 0, .ro, 0, none⟩
def F.hltWin_N : Fld := ⟨31, 28, .rw, 0x3, some (1, 15)⟩
def F.hltWin_W_MS : Fld := ⟨15, 0, .rw, 0x03E8, some (10, 60000)⟩
def F.hltCarCtrl_PERIOD : Fld := ⟨31, 24, .rw, 0x0A, some (1, 255)⟩
def F.hltCarCtrl_NEXT_REQ : Fld := ⟨8, 8, .wo, 0, none⟩
def F.hltCarCtrl_NEXT_ENG : Fld := ⟨5, 0, .rw, 0, some (0, 33)⟩
def F.hltCarStat_ROT : Fld := ⟨31, 24, .ro, 0, none⟩
def F.hltCarStat_LAST_FAIL : Fld := ⟨21, 16, .ro, 0x3F, none⟩
def F.hltCarStat_PHASE : Fld := ⟨11, 8, .ro, 0, none⟩
def F.hltCarStat_SLOT : Fld := ⟨5, 0, .ro, 0, none⟩
def F.hltCarFails_COUNT : Fld := ⟨31, 0, .rc, 0, none⟩
def F.hltFabCnt_COUNT : Fld := ⟨31, 0, .rc, 0, none⟩
def F.hltUnfence_REQ : Fld := ⟨31, 31, .wo, 0, none⟩
def F.hltUnfence_DOMAIN : Fld := ⟨7, 0, .wo, 0, none⟩
def F.hltDeductSrc_SRC : Fld := ⟨18, 0, .ro, 0, none⟩
def F.secStat_SEALED : Fld := ⟨8, 8, .ro, 0, none⟩
def F.secStat_RECOVERY : Fld := ⟨7, 7, .ro, 0, none⟩
def F.secStat_LOCKOUT : Fld := ⟨6, 6, .ro, 0, none⟩
def F.secStat_HSS_LOW : Fld := ⟨5, 5, .ro, 0, none⟩
def F.secStat_FALLBACK : Fld := ⟨4, 4, .rw1c, 0, none⟩
def F.secHssQLo_VALUE : Fld := ⟨31, 0, .ro, 0, none⟩
def F.secHssQHi_VALUE : Fld := ⟨31, 0, .ro, 0, none⟩
def F.secHssBlk_VALUE : Fld := ⟨31, 0, .ro, 0, none⟩
def F.secAuthFail_VALUE : Fld := ⟨31, 0, .rc, 0, none⟩
def F.secMkeyCtrl_REVOKE : Fld := ⟨15, 12, .wo, 0, none⟩
def F.secMkeyCtrl_REVOKED : Fld := ⟨11, 8, .ro, 0, none⟩
def F.secMkeyCtrl_LOADED : Fld := ⟨3, 0, .ro, 0, none⟩
def F.startCtrl_TIME_WAIT : Fld := ⟨31, 24, .rw, 0x1E, some (1, 255)⟩
def F.startCtrl_BAY_WAIT : Fld := ⟨23, 16, .rw, 0x14, some (1, 255)⟩
def F.startCtrl_KIND : Fld := ⟨9, 8, .rw, 0, some (0, 2)⟩
def F.startCtrl_GO : Fld := ⟨0, 0, .wo, 0, none⟩
def F.startStat_BAY_FAIL : Fld := ⟨18, 18, .ro, 0, none⟩
def F.startStat_NO_TIME : Fld := ⟨17, 17, .ro, 0, none⟩
def F.startStat_HOLDUP_PREV : Fld := ⟨16, 16, .ro, 0, none⟩
def F.startStat_IMG_VALID : Fld := ⟨15, 15, .ro, 0, none⟩
def F.startStat_CAUSE : Fld := ⟨14, 12, .ro, 0, none⟩
def F.startStat_KIND_EFF : Fld := ⟨11, 10, .ro, 0, none⟩
def F.startStat_PHASE : Fld := ⟨2, 0, .ro, 0, none⟩
def F.startBayfail_VALUE : Fld := ⟨31, 0, .ro, 0, none⟩
def F.startReadyMs_VALUE : Fld := ⟨31, 0, .ro, 0, none⟩
def F.hltTemp_T_ASIC : Fld := ⟨31, 24, .ro, 0, none⟩
def F.hltTemp_T_LANE : Fld := ⟨23, 16, .ro, 0, none⟩
def F.hltTemp_T_FIELD : Fld := ⟨15, 8, .ro, 0, none⟩
def F.hltTemp_T_POWER : Fld := ⟨7, 0, .ro, 0, none⟩

/-- The fields of a register. Bits that no field covers are reserved (R12). -/
def Reg.fields : Reg → List Fld
  | .slackMin _ => [F.slackMin_VALID, F.slackMin_LATE, F.slackMin_WARN, F.slackMin_SLACK_PCT, F.slackMin_SLACK_NS]
  | .modCfg _ => [F.modCfg_STUCK_LIM, F.modCfg_SWG, F.modCfg_INV, F.modCfg_CLK_SEL, F.modCfg_EN]
  | .modStat _ => [F.modStat_CAL_DONE, F.modStat_BANK, F.modStat_STUCK_SEEN, F.modStat_OVR, F.modStat_SETTLE_LEFT, F.modStat_STATE]
  | .modGain _ => [F.modGain_GAIN]
  | .modOffset _ => [F.modOffset_OFFSET]
  | .modOvrLim _ => [F.modOvrLim_OVR_LIM]
  | .modCalMean _ => [F.modCalMean_CAL_MEAN]
  | .modCalRms _ => [F.modCalRms_CAL_RMS]
  | .swgCtrl _ => [F.swgCtrl_USE_FSEQ, F.swgCtrl_ARM, F.swgCtrl_ACTIVE]
  | .swgFseq _ => [F.swgFseq_SWAP_FSEQ]
  | .svsCfg _ => [F.svsCfg_GM_CHECK, F.svsCfg_STREAM_TMO, F.svsCfg_MISS_BRIDGE, F.svsCfg_NVAL, F.svsCfg_RATE, F.svsCfg_EN]
  | .svsStat _ => [F.svsStat_LAST_SMPCNT, F.svsStat_CFG_MISMATCH, F.svsStat_TEST_SEEN, F.svsStat_TIMEQ, F.svsStat_STATE]
  | .svsDlyCorr _ => [F.svsDlyCorr_DLY_CORR]
  | .svsMissCnt _ => [F.svsMissCnt_MISSED]
  | .svsLateCnt _ => [F.svsLateCnt_LATE]
  | .svsLatMax _ => [F.svsLatMax_LAT_MAX_NS]
  | .slotMap _ _ => [F.slotMap_INV, F.slotMap_VAL, F.slotMap_SUB, F.slotMap_PORT, F.slotMap_KIND]
  | .slotAlt _ _ => [F.slotAlt_INV, F.slotAlt_VAL, F.slotAlt_SUB, F.slotAlt_PORT, F.slotAlt_KIND]
  | .slotScale _ _ => [F.slotScale_SCALE]
  | .bayCtrl _ => [F.bayCtrl_CLR_ENERGY, F.bayCtrl_MODE]
  | .bayStat n => [F.bayStat_UNPROT, F.bayStat_LATE, F.bayStat_CAROUSEL, F.bayStat_SPARE, F.bayStat_THERM_EST, F.bayStat_CLP_ACT, F.bayStat_LATE_SEC, F.bayStat_GROUP, F.bayStat_FTR_SRC, F.bayStat_MODE, (F.bayStat_ENGINE n)]
  | .bayStartLo _ => [F.bayStartLo_SIG]
  | .bayStartHi _ => [F.bayStartHi_SIG]
  | .bayOperLo _ => [F.bayOperLo_SIG]
  | .bayOperHi _ => [F.bayOperHi_SIG]
  | .bayBlkf _ => [F.bayBlkf_BF]
  | .bayCb _ => [F.bayCb_EFF_CLOSED, F.bayCb_POS]
  | .bayValid _ => [F.bayValid_SUBST, F.bayValid_TEST, F.bayValid_OVR, F.bayValid_TIMEQ, F.bayValid_SEQ_V, F.bayValid_SEQ_I, F.bayValid_FREQ, F.bayValid_V0_CALC, F.bayValid_VN, F.bayValid_VPH, F.bayValid_I0_CALC, F.bayValid_IN, F.bayValid_IPH]
  | .bayCommit _ => [F.bayCommit_FSEQ]
  | .bayMeas _ _ => [F.bayMeas_VALUE]
  | .bayEnergy _ _ => [F.bayEnergy_HALF]
  | .bayMotCtrl _ => [F.bayMotCtrl_CNT_CLR, F.bayMotCtrl_START_CLR, F.bayMotCtrl_THETA_RESET]
  | .bayMotStat _ => [F.bayMotStat_N_WIN, F.bayMotStat_RESTORED, F.bayMotStat_EMERG, F.bayMotStat_INH_BETWEEN, F.bayMotStat_INH_COUNT, F.bayMotStat_INH_THERM, F.bayMotStat_STATE]
  | .znBaysec _ => [F.znBaysec_TIED, F.znBaysec_DS2_BAD, F.znBaysec_DS1_BAD, F.znBaysec_SEC]
  | .znZbays _ => [F.znZbays_BAYS]
  | .znDif _ _ => [F.znDif_VALUE]
  | .znFbus _ => [F.znFbus_VALUE]
  | .bayBrkLoc _ => [F.bayBrkLoc_GO_EN, F.bayBrkLoc_GO_PUB, F.bayBrkLoc_GO_MEMB, F.bayBrkLoc_DO_MASK]
  | .bayClsLoc _ => [F.bayClsLoc_GO_EN, F.bayClsLoc_GO_PUB, F.bayClsLoc_GO_MEMB, F.bayClsLoc_DO_MASK]
  | .bayBrkRem _ => [F.bayBrkRem_DEVID, F.bayBrkRem_EN, F.bayBrkRem_POINT]
  | .bayClsRem _ => [F.bayClsRem_DEVID, F.bayClsRem_EN, F.bayClsRem_POINT]
  | .bayXfer _ => [F.bayXfer_EN, F.bayXfer_GO_PUB, F.bayXfer_GO_MEMB]
  | .bayLatch _ => [F.bayLatch_OUT, F.bayLatch_XFER, F.bayLatch_BRK]
  | .bayClsIlk _ => [F.bayClsIlk_ILK_OK, F.bayClsIlk_CLS_BLK]
  | .bayTripcnt _ => [F.bayTripcnt_COUNT]
  | .bayTm _ _ => [F.bayTm_OUT_MASK, F.bayTm_REC_START, F.bayTm_XFER, F.bayTm_REC, F.bayTm_LATCH, F.bayTm_BRK]
  | .znTm _ => [F.znTm_OUT_MASK, F.znTm_REC_START, F.znTm_XFER, F.znTm_REC, F.znTm_LATCH, F.znTm_BRK]
  | .diCfg _ => [F.diCfg_TN_MAX, F.diCfg_WB_TIME, F.diCfg_DEB_US]
  | .diOpt _ => [F.diOpt_WB_EN, F.diOpt_PULSE_REQ]
  | .diStat _ => [F.diStat_TENSION, F.diStat_LIGHT, F.diStat_PULSED, F.diStat_BREAK, F.diStat_FLD_LOW, F.diStat_VALID, F.diStat_DEB, F.diStat_STATE]
  | .diCur _ => [F.diCur_CUR_UA]
  | .doCfg _ => [F.doCfg_CLOSE, F.doCfg_CLAIM]
  | .doStat _ => [F.doStat_PAR_SIB, F.doStat_FAULT, F.doStat_RETRIES, F.doStat_CLOSE_EFF, F.doStat_FENCED, F.doStat_PARKED, F.doStat_WAIT_CMD, F.doStat_GATE_OK, F.doStat_DUTY_WARN, F.doStat_FAULT_SEEN, F.doStat_RB, F.doStat_CONDUCT, F.doStat_CMD]
  | .doObs y => [(F.doObs_CAND y), F.doObs_N_OBS, F.doObs_OBS_RB]
  | .doCur _ => [F.doCur_CUR_MA]
  | .leCtrl _ => [F.leCtrl_CYC_MAX, F.leCtrl_CYC_MIN, F.leCtrl_OVR_STOP, F.leCtrl_STOP_OFF]
  | .leStat _ => [F.leStat_FORCES, F.leStat_START_KIND, F.leStat_STATE]
  | .leCycLast _ => [F.leCycLast_US]
  | .leCycPeak _ => [F.leCycPeak_US]
  | .leCycCnt _ => [F.leCycCnt_COUNT]
  | .leOvrCnt _ => [F.leOvrCnt_COUNT]
  | .leLoadErr _ => [F.leLoadErr_REASON, F.leLoadErr_ADDR]
  | .leImgCrc _ => [F.leImgCrc_CRC]
  | .leE40 _ => [F.leE40_DI_BASE, F.leE40_DO_BASE, F.leE40_E40_BAY, F.leE40_M_BASE]
  | .tbPath _ => [F.tbPath_PATH_NS]
  | .lnAsymTx _ => [F.lnAsymTx_ASYM_PS]
  | .lnAsymRx _ => [F.lnAsymRx_ASYM_PS]
  | .lnTsqEnt0 _ => [F.lnTsqEnt0_VALID, F.lnTsqEnt0_ID]
  | .lnTsqEnt1 _ => [F.lnTsqEnt1_VALUE]
  | .lnTsqEnt2 _ => [F.lnTsqEnt2_VALUE]
  | .lnTsqOvf _ => [F.lnTsqOvf_VALUE]
  | .trgCtrl _ => [F.trgCtrl_ACTION, F.trgCtrl_ARM]
  | .trgTarget _ => [F.trgTarget_VALUE]
  | .trgPeriod _ => [F.trgPeriod_VALUE]
  | .trgStat _ => [F.trgStat_STEPPED, F.trgStat_PAST, F.trgStat_FIRED]
  | .lnCfg _ => [F.lnCfg_UP_HOLD, F.lnCfg_RATE, F.lnCfg_ROLE, F.lnCfg_AN_EN, F.lnCfg_EN]
  | .lnStat _ => [F.lnStat_FREQ_OFS, F.lnStat_FLAP_SEEN, F.lnStat_DOWN_CAUSE, F.lnStat_HIBER, F.lnStat_SIG_DET, F.lnStat_STATE]
  | .lnCntDown _ => [F.lnCntDown_COUNT]
  | .lnCntCode _ => [F.lnCntCode_COUNT]
  | .lnAdapt _ => [F.lnAdapt_FREEZE, F.lnAdapt_CTLE, F.lnAdapt_TAP1]
  | .lnDfe _ => [F.lnDfe_TAPS]
  | .lnEye _ => [F.lnEye_EYE_W, F.lnEye_EYE_H]
  | .lnScanCtrl _ => [F.lnScanCtrl_START, F.lnScanCtrl_DONE, F.lnScanCtrl_DWELL, F.lnScanCtrl_V_OFS, F.lnScanCtrl_H_OFS]
  | .lnScanErr _ => [F.lnScanErr_ERR]
  | .lnPrbsCtrl _ => [F.lnPrbsCtrl_LOOP, F.lnPrbsCtrl_INJ, F.lnPrbsCtrl_CLR, F.lnPrbsCtrl_CHK_PAT, F.lnPrbsCtrl_GEN_PAT, F.lnPrbsCtrl_CHK_EN, F.lnPrbsCtrl_GEN_EN]
  | .lnPrbsStat _ => [F.lnPrbsStat_LOST_SYNC, F.lnPrbsStat_SYNC]
  | .lnPrbsErr _ => [F.lnPrbsErr_COUNT]
  | .lnPrbsBits _ => [F.lnPrbsBits_COUNT]
  | .netVid _ => [F.netVid_EN, F.netVid_VID]
  | .pol c => [(F.pol_RATE c), (F.pol_BURST c)]
  | .hostf _ => [F.hostf_ETYPE, F.hostf_LANE_MASK]
  | .mac _ _ => [F.mac_COUNT]
  | .prp x => if x = 5 then [F.prp_NODES] else [F.prp_COUNT]
  | .sub _ _ => [F.sub_VALUE]
  | .rxd _ _ => [F.rxd_VALUE]
  | .gsubCfg _ => [F.gsubCfg_NMEMB, F.gsubCfg_SIM_ACC, F.gsubCfg_LANE, F.gsubCfg_EN]
  | .gsubStat _ => [F.gsubStat_CFG_MISMATCH, F.gsubStat_TEST_SEEN, F.gsubStat_LIVE]
  | .gpt _ => [F.gpt_EN, F.gpt_Q_EN, F.gpt_SUB, F.gpt_QIDX, F.gpt_MEMB]
  | .gpubCtrl _ => [F.gpubCtrl_T_MAX, F.gpubCtrl_T_MIN, F.gpubCtrl_LEN, F.gpubCtrl_EN]
  | .gpubOfs0 _ => [F.gpubOfs0_OFS, F.gpubOfs0_OFS0]
  | .gpubOfs1 _ => [F.gpubOfs1_OFS, F.gpubOfs1_OFS0]
  | .staCfg _ => [F.staCfg_DEVID, F.staCfg_TASK, F.staCfg_GROUP, F.staCfg_LANE, F.staCfg_EN]
  | .staTime _ => [F.staTime_AGE_T, F.staTime_LIVE_TMO, F.staTime_CYCLE]
  | .staStat _ => [F.staStat_MAC_HI, F.staStat_SUSPECT, F.staStat_STATE]
  | .staMacLo _ => [F.staMacLo_MAC]
  | .gpr _ => [F.gpr_EN, F.gpr_ENTRY, F.gpr_POINT]
  | .coal _ _ => [F.coal_VALUE]
  | .mirAddr _ => [F.mirAddr_ADDR]
  | .mirCfg _ => [F.mirCfg_EN, F.mirCfg_CLASS, F.mirCfg_LEN]
  | .evrWindow _ => [F.evrWindow_WORD]
  | .evrSnap _ _ => [F.evrSnap_EN, F.evrSnap_ADDR]
  | .drAn _ => [F.drAn_EN, F.drAn_SHIFT, F.drAn_BAY, F.drAn_SLOT]
  | .drBin _ => [F.drBin_KIND, F.drBin_INDEX]
  | .drIdx _ _ => [F.drIdx_VALUE]
  | .macHi _ => [F.macHi_MAC]
  | .macLo _ => [F.macLo_MAC]
  | .glbFeatOffer _ => [F.glbFeatOffer_BITS]
  | .glbFeatAcc _ => [F.glbFeatAcc_BITS]
  | .sessInfo _ => [F.sessInfo_SESSION, F.sessInfo_OPEN, F.sessInfo_UDP, F.sessInfo_MAINT]
  | .sessPeer _ => [F.sessPeer_VALUE]
  | .sessSeq _ => [F.sessSeq_VALUE]
  | .hltFenced _ => [F.hltFenced_FENCED]
  | .hltDom _ => [F.hltDom_STATE, F.hltDom_ERR_WIN, F.hltDom_ERR_TOTAL]
  | .atbCtrl _ => [F.atbCtrl_MODE, F.atbCtrl_NODE]
  | .secImg _ => [F.secImg_SVN_RUN, F.secImg_SVN_MIN, F.secImg_STAGED, F.secImg_RESULT, F.secImg_SLOT]
  | .secMkey _ _ => [F.secMkey_KEY]
  | .frmCount => [F.frmCount_FCNT_S]
  | .frmSeqLatch => [F.frmSeqLatch_FSEQ]
  | .frmCfg => [F.frmCfg_D_ALIGN]
  | .vcoreStat => [F.vcoreStat_AT_MAX_SHORT, F.vcoreStat_AT_MIN, F.vcoreStat_AT_MAX, F.vcoreStat_VCORE_MV]
  | .lateCnt => [F.lateCnt_LATE_FRAMES]
  | .acqCtrl => [F.acqCtrl_CAL_FRAMES, F.acqCtrl_SUBST_RET, F.acqCtrl_MCLK1_EN, F.acqCtrl_MCLK0_EN]
  | .acqStat => [F.acqStat_MCLK1_RELOCK, F.acqStat_MCLK0_RELOCK, F.acqStat_MCLK1_LOCK, F.acqStat_MCLK0_LOCK]
  | .coefAddr => [F.coefAddr_GROUP, F.coefAddr_BANK, F.coefAddr_STAGE, F.coefAddr_TAP]
  | .coefData => [F.coefData_COEF]
  | .znStart => [F.znStart_SIG]
  | .znOper => [F.znOper_SIG]
  | .znStat => [F.znStat_TQ_BLK, F.znStat_INV_BLK, F.znStat_LATE_SEC, F.znStat_MERGED, F.znStat_TOPO_FROZEN, F.znStat_ARC_FB, F.znStat_LATE, F.znStat_ZE_FENCED]
  | .znBtSrc => [F.znBtSrc_BAY]
  | .znBtMask => [F.znBtMask_BAYS]
  | .znArcOc => [F.znArcOc_OC]
  | .znArcLight => [F.znArcLight_LIGHT]
  | .stuCtrl => [F.stuCtrl_SEL_TMO, F.stuCtrl_COMMIT_DL, F.stuCtrl_PREP_DL, F.stuCtrl_TRIP_MIN]
  | .stuTestOut => [F.stuTestOut_BAYS]
  | .stuStat => [F.stuStat_A_OPEN, F.stuStat_P_PEAK, F.stuStat_FULL]
  | .stuCntBound => [F.stuCntBound_COUNT]
  | .stuCntDrop => [F.stuCntDrop_COUNT]
  | .stuCntAbort => [F.stuCntAbort_COUNT]
  | .stuCntNoack => [F.stuCntNoack_COUNT]
  | .stuLastId => [F.stuLastId_ID]
  | .fioCtrl => [F.fioCtrl_P_STROBE]
  | .fioStat => [F.fioStat_LOCK_SEEN, F.fioStat_LOW_SEEN, F.fioStat_SAG_SEEN, F.fioStat_BAND, F.fioStat_FLP_MV]
  | .fioFlpMin => [F.fioFlpMin_MIN_MV]
  | .diState => [F.diState_DI]
  | .diDeb => [F.diDeb_DI]
  | .diValid => [F.diValid_DI]
  | .diFldlow => [F.diFldlow_DI]
  | .diBreak => [F.diBreak_DI]
  | .doIo => [F.doIo_CMD, F.doIo_RB]
  | .doCond => [F.doCond_WAIT, F.doCond_CONDUCT]
  | .logRetCtrl => [F.logRetCtrl_RET_PERIOD]
  | .logRetStat => [F.logRetStat_PROG_MISMATCH, F.logRetStat_B_VALID, F.logRetStat_A_VALID, F.logRetStat_SRC]
  | .logRetSeq => [F.logRetSeq_SEQ]
  | .tbCtrl => [F.tbCtrl_PPS_OUT_FREE, F.tbCtrl_MASTER_EN, F.tbCtrl_SERVO_EN, F.tbCtrl_IRIG_EN, F.tbCtrl_PPS_EN, F.tbCtrl_PTP_EN]
  | .tbStat => [F.tbStat_FIRST_DONE, F.tbStat_STEP_WAIT, F.tbStat_RR_ASYM, F.tbStat_STEP_SEEN, F.tbStat_SRC, F.tbStat_PTP_PORT, F.tbStat_STATE]
  | .tbOffset => [F.tbOffset_OFS_NS]
  | .tbRrOfs => [F.tbRrOfs_OFS_NS]
  | .tbLtcLo => [F.tbLtcLo_VALUE]
  | .tbLtcHi => [F.tbLtcHi_VALUE]
  | .tbLtcFrac => [F.tbLtcFrac_VALUE]
  | .tbMonLo => [F.tbMonLo_VALUE]
  | .tbMonHi => [F.tbMonHi_VALUE]
  | .tbIncInt => [F.tbIncInt_INC_INT]
  | .tbIncFrac => [F.tbIncFrac_INC_FRAC]
  | .tbServo => [F.tbServo_SLEW_PPM, F.tbServo_UNLOCK_THR, F.tbServo_LOCK_THR]
  | .tbStepCtrl => [F.tbStepCtrl_USE_FSEQ, F.tbStepCtrl_MODE, F.tbStepCtrl_ARM]
  | .tbStepAmtLo => [F.tbStepAmtLo_VALUE]
  | .tbStepAmtHi => [F.tbStepAmtHi_VALUE]
  | .tbStepFseq => [F.tbStepFseq_VALUE]
  | .tbStepEffLo => [F.tbStepEffLo_VALUE]
  | .tbStepEffHi => [F.tbStepEffHi_VALUE]
  | .tbRrCfg => [F.tbRrCfg_HOLD_T, F.tbRrCfg_VERIFY_THR, F.tbRrCfg_PD_STEP_THR]
  | .tbRrCtrl => [F.tbRrCtrl_HOLD_MAX, F.tbRrCtrl_ACCEPT]
  | .tbPtpCfg => [F.tbPtpCfg_DOMAIN, F.tbPtpCfg_PRIORITY1, F.tbPtpCfg_PRIORITY2, F.tbPtpCfg_LOG_SYNC]
  | .tbGmIdHi => [F.tbGmIdHi_ID]
  | .tbGmIdLo => [F.tbGmIdLo_ID]
  | .tbUtcOfs => [F.tbUtcOfs_UTC_OFS]
  | .tbPps => [F.tbPps_PPS_IN_DLY, F.tbPps_PPS_W]
  | .tbIrig => [F.tbIrig_IRIG_DLY, F.tbIrig_TQ_MAX, F.tbIrig_LOCAL, F.tbIrig_QUAL]
  | .svcCfg => [F.svcCfg_MODE, F.svcCfg_AN_EN, F.svcCfg_EN]
  | .svcStat => [F.svcStat_SPEED, F.svcStat_STATE]
  | .netCtrl => [F.netCtrl_OWN_DEVID, F.netCtrl_DEF_PCP, F.netCtrl_GLX_PCP, F.netCtrl_GLX_EN, F.netCtrl_HSR, F.netCtrl_PRP]
  | .netVlan => [F.netVlan_PTP_TAG, F.netVlan_PTP_PCP, F.netVlan_PTP_VID, F.netVlan_GLX_TAG, F.netVlan_GLX_VID]
  | .netPcpMap => [F.netPcpMap_MAP]
  | .netGlxMacHi => [F.netGlxMacHi_MAC]
  | .netGlxMacLo => [F.netGlxMacLo_MAC]
  | .netStat => [F.netStat_SUB_SET_FULL, F.netStat_DUP_DEVID, F.netStat_UNKNOWN_STA, F.netStat_COAL_FULL]
  | .netGlxBad => [F.netGlxBad_COUNT]
  | .netGlxUnknown => [F.netGlxUnknown_COUNT]
  | .coalOvf => [F.coalOvf_COUNT]
  | .prpCfg => [F.prpCfg_LIFE_MS, F.prpCfg_NODE_FORGET]
  | .gpubWinAddr => [F.gpubWinAddr_VALUE]
  | .gpubWinData => [F.gpubWinData_VALUE]
  | .coalCfg => [F.coalCfg_VALUE]
  | .coalStat => [F.coalStat_VALUE]
  | .pairCtrl => [F.pairCtrl_RESYNC, F.pairCtrl_SWITCH]
  | .pairCfg => [F.pairCfg_HB_TIMEOUT, F.pairCfg_LISTEN, F.pairCfg_OTEST_PERIOD]
  | .pairStat => [F.pairStat_POS, F.pairStat_POS_CONFLICT, F.pairStat_M2_STALE, F.pairStat_DEGRADED, F.pairStat_CONFIRM, F.pairStat_PEER_CLAIM, F.pairStat_HB_OK, F.pairStat_EVER_SYNC, F.pairStat_SYNC, F.pairStat_ROLE]
  | .pairClaimOwn => [F.pairClaimOwn_EPOCH, F.pairClaimOwn_HEALTH, F.pairClaimOwn_POS]
  | .pairClaimPeer => [F.pairClaimPeer_EPOCH, F.pairClaimPeer_HEALTH, F.pairClaimPeer_POS]
  | .pairMirF => [F.pairMirF_FSEQ]
  | .pairCntTake => [F.pairCntTake_COUNT]
  | .pairCntHblost => [F.pairCntHblost_COUNT]
  | .pairCntM0bad => [F.pairCntM0bad_COUNT]
  | .pairCntClmerr => [F.pairCntClmerr_COUNT]
  | .pairTakeLast => [F.pairTakeLast_MISSED, F.pairTakeLast_CAUSE]
  | .pairM0Peak => [F.pairM0Peak_BYTES]
  | .pairOtest => [F.pairOtest_LAST, F.pairOtest_FAIL]
  | .pwrCtrl => [F.pwrCtrl_FEED_T, F.pwrCtrl_PROVE_B, F.pwrCtrl_PROVE_A]
  | .pwrStat => [F.pwrStat_ON_STORE, F.pwrStat_HOLDUP_SEEN, F.pwrStat_FEED_B, F.pwrStat_FEED_A]
  | .pwrVfa => [F.pwrVfa_MV]
  | .pwrVfb => [F.pwrVfb_MV]
  | .evrCtrl => [F.evrCtrl_CLEAR, F.evrCtrl_REPEAT_WIN]
  | .evrStat => [F.evrStat_FIFO_PEAK, F.evrStat_REPEAT_OPEN, F.evrStat_OVF_SEEN, F.evrStat_MEDIA_FAULT, F.evrStat_POCKET_ONLY, F.evrStat_A_FENCED, F.evrStat_SKEIN]
  | .evrOldest => [F.evrOldest_RSEQ]
  | .evrNewest => [F.evrNewest_RSEQ]
  | .evrCursor => [F.evrCursor_RSEQ]
  | .evrSel => [F.evrSel_CUR_STATE, F.evrSel_SRC]
  | .evrLost => [F.evrLost_COUNT]
  | .drCtrl => [F.drCtrl_CLEAR, F.drCtrl_MANUAL, F.drCtrl_POST, F.drCtrl_PRE, F.drCtrl_RETRIG, F.drCtrl_TR_EN, F.drCtrl_OVERWRITE, F.drCtrl_EN]
  | .drStat => [F.drStat_STORED, F.drStat_FREE_BLK, F.drStat_FULL, F.drStat_RECORDING, F.drStat_ARMED]
  | .drMissed => [F.drMissed_VALUE]
  | .drTrCfg => [F.drTrCfg_VALUE]
  | .idPart => [F.idPart_VENDOR, F.idPart_PART]
  | .idRev => [F.idRev_ASIC_REV, F.idRev_MODULE_REV, F.idRev_VARIANT]
  | .idSerialHi => [F.idSerialHi_VALUE]
  | .idSerialLo => [F.idSerialLo_VALUE]
  | .idFw => [F.idFw_VALUE]
  | .glbStat => [F.glbStat_HEALTH, F.glbStat_FAULT, F.glbStat_PROT_READY, F.glbStat_FEAT_DONE, F.glbStat_SEALED, F.glbStat_PRODUCTION, F.glbStat_START_KIND]
  | .cmdCfg => [F.cmdCfg_UDP_PORT, F.cmdCfg_SESS_TMO, F.cmdCfg_UDP_EN]
  | .cmdIp => [F.cmdIp_ADDR]
  | .cmdMask => [F.cmdMask_ADDR]
  | .cmdGw => [F.cmdGw_ADDR]
  | .cmdStat => [F.cmdStat_UDP, F.cmdStat_OPEN]
  | .cmdCntDisc => [F.cmdCntDisc_COUNT]
  | .cmdCntCrc => [F.cmdCntCrc_COUNT]
  | .cmdCntNlost => [F.cmdCntNlost_COUNT]
  | .hltStat => [F.hltStat_HEALTH, F.hltStat_FAULT, F.hltStat_ZERO, F.hltStat_FABRIC, F.hltStat_CAR_RUN, F.hltStat_DEDUCT]
  | .hltWin => [F.hltWin_N, F.hltWin_W_MS]
  | .hltCarCtrl => [F.hltCarCtrl_PERIOD, F.hltCarCtrl_NEXT_REQ, F.hltCarCtrl_NEXT_ENG]
  | .hltCarStat => [F.hltCarStat_ROT, F.hltCarStat_LAST_FAIL, F.hltCarStat_PHASE, F.hltCarStat_SLOT]
  | .hltCarFails => [F.hltCarFails_COUNT]
  | .hltFabCnt => [F.hltFabCnt_COUNT]
  | .hltUnfence => [F.hltUnfence_REQ, F.hltUnfence_DOMAIN]
  | .hltDeductSrc => [F.hltDeductSrc_SRC]
  | .secStat => [F.secStat_SEALED, F.secStat_RECOVERY, F.secStat_LOCKOUT, F.secStat_HSS_LOW, F.secStat_FALLBACK]
  | .secHssQLo => [F.secHssQLo_VALUE]
  | .secHssQHi => [F.secHssQHi_VALUE]
  | .secHssBlk => [F.secHssBlk_VALUE]
  | .secAuthFail => [F.secAuthFail_VALUE]
  | .secMkeyCtrl => [F.secMkeyCtrl_REVOKE, F.secMkeyCtrl_REVOKED, F.secMkeyCtrl_LOADED]
  | .startCtrl => [F.startCtrl_TIME_WAIT, F.startCtrl_BAY_WAIT, F.startCtrl_KIND, F.startCtrl_GO]
  | .startStat => [F.startStat_BAY_FAIL, F.startStat_NO_TIME, F.startStat_HOLDUP_PREV, F.startStat_IMG_VALID, F.startStat_CAUSE, F.startStat_KIND_EFF, F.startStat_PHASE]
  | .startBayfail => [F.startBayfail_VALUE]
  | .startReadyMs => [F.startReadyMs_VALUE]
  | .hltTemp => [F.hltTemp_T_ASIC, F.hltTemp_T_LANE, F.hltTemp_T_FIELD, F.hltTemp_T_POWER]

/-- One index of a register's address: stride and inclusive range. -/
structure RegDim where
  stride : Nat
  first : Nat
  last : Nat

/-- One row of the address map: base, indexes, and the register the indexes name. -/
structure RegRow where
  base : Nat
  dims : List RegDim
  reg : List Nat → Reg

def Reg.rows0 : List RegRow := [
  ⟨0xB0200, [⟨4, 0, 35⟩], fun l => .slackMin (l.getD 0 0)⟩,
  ⟨0x20100, [⟨32, 0, 15⟩], fun l => .modCfg (l.getD 0 0)⟩,
  ⟨0x20104, [⟨32, 0, 15⟩], fun l => .modStat (l.getD 0 0)⟩,
  ⟨0x20108, [⟨32, 0, 15⟩], fun l => .modGain (l.getD 0 0)⟩,
  ⟨0x2010C, [⟨32, 0, 15⟩], fun l => .modOffset (l.getD 0 0)⟩,
  ⟨0x20110, [⟨32, 0, 15⟩], fun l => .modOvrLim (l.getD 0 0)⟩,
  ⟨0x20114, [⟨32, 0, 15⟩], fun l => .modCalMean (l.getD 0 0)⟩,
  ⟨0x20118, [⟨32, 0, 15⟩], fun l => .modCalRms (l.getD 0 0)⟩,
  ⟨0x20400, [⟨16, 0, 3⟩], fun l => .swgCtrl (l.getD 0 0)⟩,
  ⟨0x20404, [⟨16, 0, 3⟩], fun l => .swgFseq (l.getD 0 0)⟩,
  ⟨0x21000, [⟨64, 0, 63⟩], fun l => .svsCfg (l.getD 0 0)⟩,
  ⟨0x21004, [⟨64, 0, 63⟩], fun l => .svsStat (l.getD 0 0)⟩,
  ⟨0x21008, [⟨64, 0, 63⟩], fun l => .svsDlyCorr (l.getD 0 0)⟩,
  ⟨0x2100C, [⟨64, 0, 63⟩], fun l => .svsMissCnt (l.getD 0 0)⟩,
  ⟨0x21010, [⟨64, 0, 63⟩], fun l => .svsLateCnt (l.getD 0 0)⟩,
  ⟨0x21014, [⟨64, 0, 63⟩], fun l => .svsLatMax (l.getD 0 0)⟩,
  ⟨0x24000, [⟨32, 0, 31⟩, ⟨4, 0, 7⟩], fun l => .slotMap (l.getD 0 0) (l.getD 1 0)⟩,
  ⟨0x24400, [⟨32, 0, 31⟩, ⟨4, 0, 7⟩], fun l => .slotAlt (l.getD 0 0) (l.getD 1 0)⟩,
  ⟨0x24800, [⟨32, 0, 31⟩, ⟨4, 0, 7⟩], fun l => .slotScale (l.getD 0 0) (l.getD 1 0)⟩,
  ⟨0x30000, [⟨1024, 0, 31⟩], fun l => .bayCtrl (l.getD 0 0)⟩,
  ⟨0x30004, [⟨1024, 0, 31⟩], fun l => .bayStat (l.getD 0 0)⟩,
  ⟨0x30008, [⟨1024, 0, 31⟩], fun l => .bayStartLo (l.getD 0 0)⟩,
  ⟨0x3000C, [⟨1024, 0, 31⟩], fun l => .bayStartHi (l.getD 0 0)⟩,
  ⟨0x30010, [⟨1024, 0, 31⟩], fun l => .bayOperLo (l.getD 0 0)⟩,
  ⟨0x30014, [⟨1024, 0, 31⟩], fun l => .bayOperHi (l.getD 0 0)⟩,
  ⟨0x30018, [⟨1024, 0, 31⟩], fun l => .bayBlkf (l.getD 0 0)⟩,
  ⟨0x3001C, [⟨1024, 0, 31⟩], fun l => .bayCb (l.getD 0 0)⟩,
  ⟨0x30020, [⟨1024, 0, 31⟩], fun l => .bayValid (l.getD 0 0)⟩,
  ⟨0x30024, [⟨1024, 0, 31⟩], fun l => .bayCommit (l.getD 0 0)⟩,
  ⟨0x30100, [⟨1024, 0, 31⟩, ⟨4, 0, 63⟩], fun l => .bayMeas (l.getD 0 0) (l.getD 1 0)⟩,
  ⟨0x30200, [⟨1024, 0, 31⟩, ⟨4, 0, 7⟩], fun l => .bayEnergy (l.getD 0 0) (l.getD 1 0)⟩,
  ⟨0x30028, [⟨1024, 0, 31⟩], fun l => .bayMotCtrl (l.getD 0 0)⟩,
  ⟨0x3002C, [⟨1024, 0, 31⟩], fun l => .bayMotStat (l.getD 0 0)⟩,
  ⟨0x40100, [⟨4, 0, 31⟩], fun l => .znBaysec (l.getD 0 0)⟩,
  ⟨0x40180, [⟨4, 0, 4⟩], fun l => .znZbays (l.getD 0 0)⟩,
  ⟨0x40200, [⟨32, 0, 4⟩, ⟨4, 0, 5⟩], fun l => .znDif (l.getD 0 0) (l.getD 1 0)⟩,
  ⟨0x40300, [⟨4, 0, 7⟩], fun l => .znFbus (l.getD 0 0)⟩,
  ⟨0x30030, [⟨1024, 0, 31⟩], fun l => .bayBrkLoc (l.getD 0 0)⟩,
  ⟨0x30038, [⟨1024, 0, 31⟩], fun l => .bayClsLoc (l.getD 0 0)⟩,
  ⟨0x30034, [⟨1024, 0, 31⟩], fun l => .bayBrkRem (l.getD 0 0)⟩]

def Reg.rows1 : List RegRow := [
  ⟨0x3003C, [⟨1024, 0, 31⟩], fun l => .bayClsRem (l.getD 0 0)⟩,
  ⟨0x30040, [⟨1024, 0, 31⟩], fun l => .bayXfer (l.getD 0 0)⟩,
  ⟨0x30044, [⟨1024, 0, 31⟩], fun l => .bayLatch (l.getD 0 0)⟩,
  ⟨0x30048, [⟨1024, 0, 31⟩], fun l => .bayClsIlk (l.getD 0 0)⟩,
  ⟨0x3004C, [⟨1024, 0, 31⟩], fun l => .bayTripcnt (l.getD 0 0)⟩,
  ⟨0x30300, [⟨1024, 0, 31⟩, ⟨4, 0, 63⟩], fun l => .bayTm (l.getD 0 0) (l.getD 1 0)⟩,
  ⟨0x41100, [⟨4, 0, 31⟩], fun l => .znTm (l.getD 0 0)⟩,
  ⟨0x50100, [⟨16, 0, 31⟩], fun l => .diCfg (l.getD 0 0)⟩,
  ⟨0x50104, [⟨16, 0, 31⟩], fun l => .diOpt (l.getD 0 0)⟩,
  ⟨0x50108, [⟨16, 0, 31⟩], fun l => .diStat (l.getD 0 0)⟩,
  ⟨0x5010C, [⟨16, 0, 31⟩], fun l => .diCur (l.getD 0 0)⟩,
  ⟨0x50400, [⟨16, 0, 15⟩], fun l => .doCfg (l.getD 0 0)⟩,
  ⟨0x50404, [⟨16, 0, 15⟩], fun l => .doStat (l.getD 0 0)⟩,
  ⟨0x50408, [⟨16, 0, 15⟩], fun l => .doObs (l.getD 0 0)⟩,
  ⟨0x5040C, [⟨16, 0, 15⟩], fun l => .doCur (l.getD 0 0)⟩,
  ⟨0x60100, [⟨64, 0, 3⟩], fun l => .leCtrl (l.getD 0 0)⟩,
  ⟨0x60104, [⟨64, 0, 3⟩], fun l => .leStat (l.getD 0 0)⟩,
  ⟨0x60108, [⟨64, 0, 3⟩], fun l => .leCycLast (l.getD 0 0)⟩,
  ⟨0x6010C, [⟨64, 0, 3⟩], fun l => .leCycPeak (l.getD 0 0)⟩,
  ⟨0x60110, [⟨64, 0, 3⟩], fun l => .leCycCnt (l.getD 0 0)⟩,
  ⟨0x60114, [⟨64, 0, 3⟩], fun l => .leOvrCnt (l.getD 0 0)⟩,
  ⟨0x60118, [⟨64, 0, 3⟩], fun l => .leLoadErr (l.getD 0 0)⟩,
  ⟨0x6011C, [⟨64, 0, 3⟩], fun l => .leImgCrc (l.getD 0 0)⟩,
  ⟨0x60120, [⟨64, 0, 3⟩], fun l => .leE40 (l.getD 0 0)⟩,
  ⟨0x10058, [⟨4, 0, 1⟩], fun l => .tbPath (l.getD 0 0)⟩,
  ⟨0x10100, [⟨32, 0, 4⟩], fun l => .lnAsymTx (l.getD 0 0)⟩,
  ⟨0x10104, [⟨32, 0, 4⟩], fun l => .lnAsymRx (l.getD 0 0)⟩,
  ⟨0x10108, [⟨32, 0, 4⟩], fun l => .lnTsqEnt0 (l.getD 0 0)⟩,
  ⟨0x1010C, [⟨32, 0, 4⟩], fun l => .lnTsqEnt1 (l.getD 0 0)⟩,
  ⟨0x10110, [⟨32, 0, 4⟩], fun l => .lnTsqEnt2 (l.getD 0 0)⟩,
  ⟨0x10114, [⟨32, 0, 4⟩], fun l => .lnTsqOvf (l.getD 0 0)⟩,
  ⟨0x10200, [⟨16, 0, 7⟩], fun l => .trgCtrl (l.getD 0 0)⟩,
  ⟨0x10204, [⟨16, 0, 7⟩], fun l => .trgTarget (l.getD 0 0)⟩,
  ⟨0x10208, [⟨16, 0, 7⟩], fun l => .trgPeriod (l.getD 0 0)⟩,
  ⟨0x1020C, [⟨16, 0, 7⟩], fun l => .trgStat (l.getD 0 0)⟩,
  ⟨0x70000, [⟨256, 0, 3⟩], fun l => .lnCfg (l.getD 0 0)⟩,
  ⟨0x70004, [⟨256, 0, 3⟩], fun l => .lnStat (l.getD 0 0)⟩,
  ⟨0x70008, [⟨256, 0, 3⟩], fun l => .lnCntDown (l.getD 0 0)⟩,
  ⟨0x7000C, [⟨256, 0, 3⟩], fun l => .lnCntCode (l.getD 0 0)⟩,
  ⟨0x70010, [⟨256, 0, 3⟩], fun l => .lnAdapt (l.getD 0 0)⟩]

def Reg.rows2 : List RegRow := [
  ⟨0x70014, [⟨256, 0, 3⟩], fun l => .lnDfe (l.getD 0 0)⟩,
  ⟨0x70018, [⟨256, 0, 3⟩], fun l => .lnEye (l.getD 0 0)⟩,
  ⟨0x7001C, [⟨256, 0, 3⟩], fun l => .lnScanCtrl (l.getD 0 0)⟩,
  ⟨0x70020, [⟨256, 0, 3⟩], fun l => .lnScanErr (l.getD 0 0)⟩,
  ⟨0x70024, [⟨256, 0, 3⟩], fun l => .lnPrbsCtrl (l.getD 0 0)⟩,
  ⟨0x70028, [⟨256, 0, 3⟩], fun l => .lnPrbsStat (l.getD 0 0)⟩,
  ⟨0x7002C, [⟨256, 0, 3⟩], fun l => .lnPrbsErr (l.getD 0 0)⟩,
  ⟨0x70030, [⟨256, 0, 3⟩], fun l => .lnPrbsBits (l.getD 0 0)⟩,
  ⟨0x80010, [⟨4, 0, 7⟩], fun l => .netVid (l.getD 0 0)⟩,
  ⟨0x80050, [⟨4, 0, 3⟩], fun l => .pol (l.getD 0 0)⟩,
  ⟨0x80060, [⟨4, 0, 7⟩], fun l => .hostf (l.getD 0 0)⟩,
  ⟨0x80100, [⟨64, 0, 4⟩, ⟨4, 0, 13⟩], fun l => .mac (l.getD 0 0) (l.getD 1 0)⟩,
  ⟨0x80300, [⟨4, 0, 5⟩], fun l => .prp (l.getD 0 0)⟩,
  ⟨0x80400, [⟨16, 0, 255⟩, ⟨4, 0, 2⟩], fun l => .sub (l.getD 0 0) (l.getD 1 0)⟩,
  ⟨0x82000, [⟨16, 0, 191⟩, ⟨4, 0, 3⟩], fun l => .rxd (l.getD 0 0) (l.getD 1 0)⟩,
  ⟨0x83000, [⟨16, 0, 127⟩], fun l => .gsubCfg (l.getD 0 0)⟩,
  ⟨0x83004, [⟨16, 0, 127⟩], fun l => .gsubStat (l.getD 0 0)⟩,
  ⟨0x84000, [⟨4, 0, 4095⟩], fun l => .gpt (l.getD 0 0)⟩,
  ⟨0x88000, [⟨16, 0, 127⟩], fun l => .gpubCtrl (l.getD 0 0)⟩,
  ⟨0x88004, [⟨16, 0, 127⟩], fun l => .gpubOfs0 (l.getD 0 0)⟩,
  ⟨0x88008, [⟨16, 0, 127⟩], fun l => .gpubOfs1 (l.getD 0 0)⟩,
  ⟨0x8B000, [⟨16, 0, 255⟩], fun l => .staCfg (l.getD 0 0)⟩,
  ⟨0x8B004, [⟨16, 0, 255⟩], fun l => .staTime (l.getD 0 0)⟩,
  ⟨0x8B008, [⟨16, 0, 255⟩], fun l => .staStat (l.getD 0 0)⟩,
  ⟨0x8B00C, [⟨16, 0, 255⟩], fun l => .staMacLo (l.getD 0 0)⟩,
  ⟨0x8C000, [⟨4, 0, 4095⟩], fun l => .gpr (l.getD 0 0)⟩,
  ⟨0x89000, [⟨64, 0, 127⟩, ⟨4, 0, 15⟩], fun l => .coal (l.getD 0 0) (l.getD 1 0)⟩,
  ⟨0x91000, [⟨8, 0, 1023⟩], fun l => .mirAddr (l.getD 0 0)⟩,
  ⟨0x91004, [⟨8, 0, 1023⟩], fun l => .mirCfg (l.getD 0 0)⟩,
  ⟨0xA0040, [⟨4, 0, 15⟩], fun l => .evrWindow (l.getD 0 0)⟩,
  ⟨0xA0200, [⟨32, 0, 15⟩, ⟨4, 0, 7⟩], fun l => .evrSnap (l.getD 0 0) (l.getD 1 0)⟩,
  ⟨0xA1100, [⟨4, 0, 63⟩], fun l => .drAn (l.getD 0 0)⟩,
  ⟨0xA1200, [⟨4, 0, 127⟩], fun l => .drBin (l.getD 0 0)⟩,
  ⟨0xA1400, [⟨16, 0, 7⟩, ⟨4, 0, 3⟩], fun l => .drIdx (l.getD 0 0) (l.getD 1 0)⟩,
  ⟨0x20, [⟨8, 0, 4⟩], fun l => .macHi (l.getD 0 0)⟩,
  ⟨0x24, [⟨8, 0, 4⟩], fun l => .macLo (l.getD 0 0)⟩,
  ⟨0x110, [⟨4, 0, 3⟩], fun l => .glbFeatOffer (l.getD 0 0)⟩,
  ⟨0x120, [⟨4, 0, 3⟩], fun l => .glbFeatAcc (l.getD 0 0)⟩,
  ⟨0x220, [⟨16, 0, 3⟩], fun l => .sessInfo (l.getD 0 0)⟩,
  ⟨0x224, [⟨16, 0, 3⟩], fun l => .sessPeer (l.getD 0 0)⟩]

def Reg.rows3 : List RegRow := [
  ⟨0x228, [⟨16, 0, 3⟩], fun l => .sessSeq (l.getD 0 0)⟩,
  ⟨0xB0020, [⟨4, 0, 7⟩], fun l => .hltFenced (l.getD 0 0)⟩,
  ⟨0xB0400, [⟨4, 0, 255⟩], fun l => .hltDom (l.getD 0 0)⟩,
  ⟨0xD0000, [⟨4, 0, 1⟩], fun l => .atbCtrl (l.getD 0 0)⟩,
  ⟨0xC0010, [⟨4, 1, 4⟩], fun l => .secImg (l.getD 0 0)⟩,
  ⟨0xC0100, [⟨128, 0, 3⟩, ⟨4, 0, 23⟩], fun l => .secMkey (l.getD 0 0) (l.getD 1 0)⟩,
  ⟨0xB0100, [], fun _ => .frmCount⟩,
  ⟨0xB0104, [], fun _ => .frmSeqLatch⟩,
  ⟨0xB0108, [], fun _ => .frmCfg⟩,
  ⟨0xB010C, [], fun _ => .vcoreStat⟩,
  ⟨0xB0110, [], fun _ => .lateCnt⟩,
  ⟨0x20000, [], fun _ => .acqCtrl⟩,
  ⟨0x20004, [], fun _ => .acqStat⟩,
  ⟨0x20480, [], fun _ => .coefAddr⟩,
  ⟨0x20484, [], fun _ => .coefData⟩,
  ⟨0x40000, [], fun _ => .znStart⟩,
  ⟨0x40004, [], fun _ => .znOper⟩,
  ⟨0x40008, [], fun _ => .znStat⟩,
  ⟨0x40320, [], fun _ => .znBtSrc⟩,
  ⟨0x40324, [], fun _ => .znBtMask⟩,
  ⟨0x40340, [], fun _ => .znArcOc⟩,
  ⟨0x40344, [], fun _ => .znArcLight⟩,
  ⟨0x41000, [], fun _ => .stuCtrl⟩,
  ⟨0x41004, [], fun _ => .stuTestOut⟩,
  ⟨0x41008, [], fun _ => .stuStat⟩,
  ⟨0x4100C, [], fun _ => .stuCntBound⟩,
  ⟨0x41010, [], fun _ => .stuCntDrop⟩,
  ⟨0x41014, [], fun _ => .stuCntAbort⟩,
  ⟨0x41018, [], fun _ => .stuCntNoack⟩,
  ⟨0x4101C, [], fun _ => .stuLastId⟩,
  ⟨0x50000, [], fun _ => .fioCtrl⟩,
  ⟨0x50004, [], fun _ => .fioStat⟩,
  ⟨0x50008, [], fun _ => .fioFlpMin⟩,
  ⟨0x50010, [], fun _ => .diState⟩,
  ⟨0x50014, [], fun _ => .diDeb⟩,
  ⟨0x50018, [], fun _ => .diValid⟩,
  ⟨0x5001C, [], fun _ => .diFldlow⟩,
  ⟨0x50020, [], fun _ => .diBreak⟩,
  ⟨0x50024, [], fun _ => .doIo⟩,
  ⟨0x50028, [], fun _ => .doCond⟩]

def Reg.rows4 : List RegRow := [
  ⟨0x60000, [], fun _ => .logRetCtrl⟩,
  ⟨0x60004, [], fun _ => .logRetStat⟩,
  ⟨0x60008, [], fun _ => .logRetSeq⟩,
  ⟨0x10000, [], fun _ => .tbCtrl⟩,
  ⟨0x10004, [], fun _ => .tbStat⟩,
  ⟨0x10008, [], fun _ => .tbOffset⟩,
  ⟨0x10060, [], fun _ => .tbRrOfs⟩,
  ⟨0x1000C, [], fun _ => .tbLtcLo⟩,
  ⟨0x10010, [], fun _ => .tbLtcHi⟩,
  ⟨0x10014, [], fun _ => .tbLtcFrac⟩,
  ⟨0x10018, [], fun _ => .tbMonLo⟩,
  ⟨0x1001C, [], fun _ => .tbMonHi⟩,
  ⟨0x10020, [], fun _ => .tbIncInt⟩,
  ⟨0x10024, [], fun _ => .tbIncFrac⟩,
  ⟨0x10028, [], fun _ => .tbServo⟩,
  ⟨0x10030, [], fun _ => .tbStepCtrl⟩,
  ⟨0x10034, [], fun _ => .tbStepAmtLo⟩,
  ⟨0x10038, [], fun _ => .tbStepAmtHi⟩,
  ⟨0x1003C, [], fun _ => .tbStepFseq⟩,
  ⟨0x10040, [], fun _ => .tbStepEffLo⟩,
  ⟨0x10044, [], fun _ => .tbStepEffHi⟩,
  ⟨0x10050, [], fun _ => .tbRrCfg⟩,
  ⟨0x10054, [], fun _ => .tbRrCtrl⟩,
  ⟨0x10070, [], fun _ => .tbPtpCfg⟩,
  ⟨0x10074, [], fun _ => .tbGmIdHi⟩,
  ⟨0x10078, [], fun _ => .tbGmIdLo⟩,
  ⟨0x1007C, [], fun _ => .tbUtcOfs⟩,
  ⟨0x10080, [], fun _ => .tbPps⟩,
  ⟨0x10084, [], fun _ => .tbIrig⟩,
  ⟨0x70400, [], fun _ => .svcCfg⟩,
  ⟨0x70404, [], fun _ => .svcStat⟩,
  ⟨0x80000, [], fun _ => .netCtrl⟩,
  ⟨0x80004, [], fun _ => .netVlan⟩,
  ⟨0x80008, [], fun _ => .netPcpMap⟩,
  ⟨0x80030, [], fun _ => .netGlxMacHi⟩,
  ⟨0x80034, [], fun _ => .netGlxMacLo⟩,
  ⟨0x80040, [], fun _ => .netStat⟩,
  ⟨0x80044, [], fun _ => .netGlxBad⟩,
  ⟨0x80048, [], fun _ => .netGlxUnknown⟩,
  ⟨0x8004C, [], fun _ => .coalOvf⟩]

def Reg.rows5 : List RegRow := [
  ⟨0x80320, [], fun _ => .prpCfg⟩,
  ⟨0x88800, [], fun _ => .gpubWinAddr⟩,
  ⟨0x88804, [], fun _ => .gpubWinData⟩,
  ⟨0x88C00, [], fun _ => .coalCfg⟩,
  ⟨0x88C04, [], fun _ => .coalStat⟩,
  ⟨0x90000, [], fun _ => .pairCtrl⟩,
  ⟨0x90004, [], fun _ => .pairCfg⟩,
  ⟨0x90008, [], fun _ => .pairStat⟩,
  ⟨0x9000C, [], fun _ => .pairClaimOwn⟩,
  ⟨0x90010, [], fun _ => .pairClaimPeer⟩,
  ⟨0x90014, [], fun _ => .pairMirF⟩,
  ⟨0x90018, [], fun _ => .pairCntTake⟩,
  ⟨0x9001C, [], fun _ => .pairCntHblost⟩,
  ⟨0x90020, [], fun _ => .pairCntM0bad⟩,
  ⟨0x90024, [], fun _ => .pairCntClmerr⟩,
  ⟨0x90028, [], fun _ => .pairTakeLast⟩,
  ⟨0x9002C, [], fun _ => .pairM0Peak⟩,
  ⟨0x90030, [], fun _ => .pairOtest⟩,
  ⟨0x90100, [], fun _ => .pwrCtrl⟩,
  ⟨0x90104, [], fun _ => .pwrStat⟩,
  ⟨0x90108, [], fun _ => .pwrVfa⟩,
  ⟨0x9010C, [], fun _ => .pwrVfb⟩,
  ⟨0xA0000, [], fun _ => .evrCtrl⟩,
  ⟨0xA0004, [], fun _ => .evrStat⟩,
  ⟨0xA0008, [], fun _ => .evrOldest⟩,
  ⟨0xA000C, [], fun _ => .evrNewest⟩,
  ⟨0xA0010, [], fun _ => .evrCursor⟩,
  ⟨0xA0014, [], fun _ => .evrSel⟩,
  ⟨0xA0018, [], fun _ => .evrLost⟩,
  ⟨0xA1000, [], fun _ => .drCtrl⟩,
  ⟨0xA1004, [], fun _ => .drStat⟩,
  ⟨0xA1008, [], fun _ => .drMissed⟩,
  ⟨0xA100C, [], fun _ => .drTrCfg⟩,
  ⟨0x0, [], fun _ => .idPart⟩,
  ⟨0x4, [], fun _ => .idRev⟩,
  ⟨0x8, [], fun _ => .idSerialHi⟩,
  ⟨0xC, [], fun _ => .idSerialLo⟩,
  ⟨0x10, [], fun _ => .idFw⟩,
  ⟨0x100, [], fun _ => .glbStat⟩,
  ⟨0x200, [], fun _ => .cmdCfg⟩]

def Reg.rows6 : List RegRow := [
  ⟨0x204, [], fun _ => .cmdIp⟩,
  ⟨0x208, [], fun _ => .cmdMask⟩,
  ⟨0x20C, [], fun _ => .cmdGw⟩,
  ⟨0x210, [], fun _ => .cmdStat⟩,
  ⟨0x214, [], fun _ => .cmdCntDisc⟩,
  ⟨0x218, [], fun _ => .cmdCntCrc⟩,
  ⟨0x21C, [], fun _ => .cmdCntNlost⟩,
  ⟨0xB0000, [], fun _ => .hltStat⟩,
  ⟨0xB0004, [], fun _ => .hltWin⟩,
  ⟨0xB0008, [], fun _ => .hltCarCtrl⟩,
  ⟨0xB000C, [], fun _ => .hltCarStat⟩,
  ⟨0xB0010, [], fun _ => .hltCarFails⟩,
  ⟨0xB001C, [], fun _ => .hltFabCnt⟩,
  ⟨0xB0014, [], fun _ => .hltUnfence⟩,
  ⟨0xB0040, [], fun _ => .hltDeductSrc⟩,
  ⟨0xC0000, [], fun _ => .secStat⟩,
  ⟨0xC0020, [], fun _ => .secHssQLo⟩,
  ⟨0xC0024, [], fun _ => .secHssQHi⟩,
  ⟨0xC0028, [], fun _ => .secHssBlk⟩,
  ⟨0xC002C, [], fun _ => .secAuthFail⟩,
  ⟨0xC0040, [], fun _ => .secMkeyCtrl⟩,
  ⟨0xB0080, [], fun _ => .startCtrl⟩,
  ⟨0xB0084, [], fun _ => .startStat⟩,
  ⟨0xB0088, [], fun _ => .startBayfail⟩,
  ⟨0xB008C, [], fun _ => .startReadyMs⟩,
  ⟨0xB0090, [], fun _ => .hltTemp⟩]

def Reg.rows : List RegRow := Reg.rows0 ++ Reg.rows1 ++ Reg.rows2 ++ Reg.rows3 ++ Reg.rows4 ++ Reg.rows5 ++ Reg.rows6

/-- The indexes that reach an offset exactly, outermost first. -/
def RegRow.solve : List RegDim → Nat → Option (List Nat)
  | [], off => if off = 0 then some [] else none
  | [d], off =>
    if off % d.stride = 0 ∧ d.first ≤ off / d.stride ∧ off / d.stride ≤ d.last then some [off / d.stride] else none
  | d :: ds, off =>
    if off / d.stride ≤ d.last then (RegRow.solve ds (off % d.stride)).map (off / d.stride :: ·) else none

/-- The register at an address, none where no block lists it (R687). -/
def Reg.ofAddr (a : Nat) : Option Reg :=
  Reg.rows.findSome? fun r => if a < r.base then none else (RegRow.solve r.dims (a - r.base)).map r.reg

/-- The part of a word that a field holds, moved to bit 0. -/
def Fld.get (f : Fld) (w : Word) : Nat := (w.toNat >>> f.lo) % 2 ^ (f.hi + 1 - f.lo)

/-- The bits a field covers. -/
def Fld.mask (f : Fld) : Word := BitVec.ofNat 32 ((2 ^ (f.hi + 1 - f.lo) - 1) <<< f.lo)

/-- A word with one field replaced (the value cut to the field's width). -/
def Fld.set (f : Fld) (w : Word) (v : Nat) : Word :=
  (w &&& ~~~ f.mask) ||| (BitVec.ofNat 32 ((v % 2 ^ (f.hi + 1 - f.lo)) <<< f.lo))

/-- The word of a register at reset, from its fields. -/
def Reg.resetWord (r : Reg) : Word := r.fields.foldl (fun w f => f.set w f.reset) 0

end Sys2Proof.Machine
end

