-- ==== Sys2Proof/Machine/Maps.lean ====
section
/-! DEFINITION. Sparse maps from numbers to values: lists of pairs in one canonical form (keys strictly rising). -/

namespace Sys2Proof

/-- A sparse map: pairs with keys strictly rising. -/
abbrev SMap (α : Type) := List (Nat × α)

/-- The value under a key. -/
def SMap.get? {α : Type} : SMap α → Nat → Option α
  | [], _ => none
  | (k, v) :: m, a => if k = a then some v else SMap.get? m a

/-- The value under a key, or a default where nothing is listed. -/
def SMap.getD {α : Type} (m : SMap α) (a : Nat) (d : α) : α := (SMap.get? m a).getD d

/-- The map with a key set, in the canonical place. -/
def SMap.put {α : Type} : SMap α → Nat → α → SMap α
  | [], a, x => [(a, x)]
  | (k, v) :: m, a, x =>
    if a < k then (a, x) :: (k, v) :: m
    else if a = k then (k, x) :: m
    else (k, v) :: SMap.put m a x

/-- The map without a key. -/
def SMap.del {α : Type} (m : SMap α) (a : Nat) : SMap α := m.filter (fun p => p.1 != a)

/-- A key changed by a function of its value (the default where nothing is listed). -/
def SMap.upd {α : Type} (m : SMap α) (a : Nat) (d : α) (f : α → α) : SMap α := SMap.put m a (f (SMap.getD m a d))

/-- A key set, the entry left out when the value is what an unlisted key reads as. -/
def SMap.putD {α : Type} [DecidableEq α] (m : SMap α) (d : α) (a : Nat) (x : α) : SMap α :=
  if x = d then SMap.del m a else SMap.put m a x

/-- The canonical form: keys strictly rising. -/
def SMap.rising {α : Type} : SMap α → Bool
  | [] => true
  | [_] => true
  | (k, _) :: (k', v') :: m => decide (k < k') && SMap.rising ((k', v') :: m)

/-- The list with position i replaced (unchanged where there is none). -/
def setAt {α : Type} : List α → Nat → α → List α
  | [], _, _ => []
  | _ :: l, 0, x => x :: l
  | y :: l, i + 1, x => y :: setAt l i x

/-- The numbers below n for which a test holds. -/
def numsWhere (n : Nat) (p : Nat → Bool) : List Nat := (List.range n).filter p

/-- The word whose bit i tells whether the test holds of i, for i below n. -/
def bitsOf (n : Nat) (p : Nat → Bool) : Nat := (List.range n).foldl (fun a i => if p i then a + 2 ^ i else a) 0

/-- State passed along a list. -/
def forEach {σ α : Type} (l : List α) (s : σ) (f : σ → α → σ) : σ := l.foldl f s

end Sys2Proof
end

