-- ==== Sys2Proof/Machine/TypesA.lean ====
section
/-! DEFINITION. Plain data of State for the frame, acquisition, stitches, field I/O, recorders, commands, health,
security and start-up chapters of the spec (01 to 03, 07, 08, 14 to 18). -/

namespace Sys2Proof.Machine

/-- Every event name the spec logs. The numbers inside a class are the RMC image's (R802), but for those of
class 10 and STITCH_REC. -/
inductive Ev where
  | fwFallback | bootFail | roleFail | hssExhausted | progStoreBad | retInvalid | retProgMismatch | startNoTime
  | bayStartFail
  | lateFrame | slackWarn | vcoreLimit | bindLate | stallTakeover | domError | domFenced | domUnfenced
  | domRetestFail | carFail | tempHigh | tempOk
  | modStuck | svCfgMismatch | svLost | calAbort
  | emergStart | thetaReset | btNoroute | motDownUnk | grpConflict
  | stitchRec | stitchFull | stitchUncertain | remoteNoack | remoteRefused
  | diBreak | diBreakEnd | tripDuty | doFault | fldSag | fldLow | fldLockout | fldRestore | holdup | mvddFault
  | logicStopped | logicOverrun | logicUnfenced | logicPtTask | logicPtType | logicEvent | forceClear
  | timeSrcLost | timeSrcChange | timeLock | timeUnlock | timeRr | timeRrBack | timeAsym | timeAccept | timeHoldMax
  | timeStepFail | timeStepped | trgDisarm
  | laneUp | laneDown | staJoin | staBack | staLeave | staLayout | staLayoutBad | staAged | staSilent | staDupDevid
  | staUnknown | staSuspect | staReport | gooseLost | gooseCfgMismatch | gooseTestUnmarked | coalFull | rptSummary
  | takeover | takeoverRefused | takeoverStale | pairDemoted | pairPosConflict | pairDegraded | pairRestored
  | pairOrphan | pairRejoin | pairLinkLost | pairLinkBack | otestFail
  | evOverflow | logMediaFault | evCleared | drTrig | drOverwrite | drFull | drDamaged
  | maintStart | maintEnd
  deriving DecidableEq, Repr

/-- Error source codes of the table under R699. -/
inductive ErrSrc where
  | late | eccCorr | eccUncorr | carTest | golden | stuck | entryLate | svLost | laneDrop | drvFail | otest
  | mramVerify | mramCtl | sink | rmcWatchdog | bindLate
  deriving DecidableEq, Repr

/-- The code number of an error source (table under R699). -/
def ErrSrc.code : ErrSrc → Nat
  | .late => 1 | .eccCorr => 2 | .eccUncorr => 3 | .carTest => 4 | .golden => 5 | .stuck => 6 | .entryLate => 7
  | .svLost => 8 | .laneDrop => 9 | .drvFail => 10 | .otest => 11 | .mramVerify => 12 | .mramCtl => 13
  | .sink => 14 | .rmcWatchdog => 15 | .bindLate => 16

/-- An event in the ingress FIFO or a log, with the fields of the record layout (R623). `uid` ties a record to its
open repeat entry (the model's own key). `resv` tells that it holds a reserved FIFO entry. -/
structure EvRec where
  ev : Ev
  source : Nat
  test : Bool
  repSat : Bool
  stitch : Bool
  step : Bool
  deferred : Bool
  reps : Nat
  ltc : Time
  lastLtc : Time
  snap : List Word
  uid : Nat
  resv : Bool
  rseq : Word
  session : Nat
  deriving DecidableEq, Repr

/-- One open entry of the repeat table (R631 to R633). -/
structure RptEntry where
  ev : Ev
  source : Nat
  uid : Nat
  lastMon : Time
  rewriteMon : Time
  changed : Bool
  reps : Nat
  repSat : Bool
  step : Bool
  ltc : Time
  lastLtc : Time
  lostStep : Bool
  deriving DecidableEq, Repr

/-- A log ring: its readable records, oldest first. -/
abbrev EvLog := List EvRec

/-- A stored transient section port: the port and its outputs (R654). -/
abbrev TrSection := List (Nat × List Int)

/-- One row of a disturbance record (R647). -/
structure DrRow where
  fseq : Word
  flags : Nat
  vals : List Int
  quals : List Nat
  bins : List Bool
  deriving DecidableEq, Repr

/-- A disturbance record, recording or stored (R645 to R658). -/
structure DrRec where
  recNo : Nat
  test : Bool
  linked : Bool
  trMissed : Bool
  damaged : Bool
  step : Bool
  preShort : Bool
  prevRec : Nat
  trigKind : Nat
  trigArg : Nat
  nTrig : Nat
  trigLtc : Time
  trigFseq : Word
  firstFseq : Word
  nPre : Nat
  firstInstant : Time
  dAlign : Nat
  stepFseq : Word
  stepEff : Time
  trFirst : Time
  trPorts : Nat
  rows : List DrRow
  tr : TrSection
  anTable : List (Nat × Nat × Nat × Word × Word)
  binTable : List Word
  blocks : List Nat
  deriving DecidableEq, Repr

/-- The record being recorded: the record so far, the row at which it ends, the row its triggers ask for (a later one goes to a
continuation, R650), and whether its last row is stored. -/
structure DrRun where
  body : DrRec
  endFseq : Word
  want : Word
  done : Bool
  deriving DecidableEq, Repr

/-- A recorder trigger (R648): its kind and argument as TRIG_SRC, the frame of its row, its instant, its test mark. -/
structure DrTrig where
  kind : Nat
  arg : Nat
  fseq : Word
  ltc : Time
  test : Bool
  deriving DecidableEq, Repr

/-- The disturbance recorder (R645 to R657): ring of rows, record in progress, triggers not yet taken, stored records, next
record number, whether armed, transient ring stopped, outputs left before it stops, its outputs (oldest first), the record whose
transients it holds, instant of its last output, unusable blocks, blocks held by the armed or recording record. -/
structure Dr where
  ring : List DrRow
  run : Option DrRun
  trigPend : List DrTrig
  stored : List DrRec
  nextNo : Nat
  armed : Bool
  trStopped : Bool
  trStopAt : Option Nat
  trRing : List (Nat × List Int)
  trRec : Option Nat
  trLast : Time
  badBlocks : List Nat
  held : List Nat
  deriving DecidableEq, Repr

/-- The event recorder (R623 to R644). -/
structure Recs where
  fifo : List EvRec
  rpt : List RptEntry
  lostN : Nat
  lostFirst : Time
  deferred : List EvRec
  nextUid : Nat
  skeinA : EvLog
  spare : EvLog
  pocketLog : EvLog
  onDie : EvLog
  active : Nat
  fencedA : Bool
  fencedSpare : Bool
  nextRseq : Word
  nextPocketLog : Word
  nextOnDie : Word
  dr : Dr
  deriving DecidableEq, Repr

/-- Who waits for a COMPLETE NOTIFY (R677): the session, the request's SEQ and opcode. -/
structure Waiter where
  session : Nat
  seq : Nat
  op : Nat
  deriving DecidableEq, Repr

/-- A packet waiting to go out or kept for replay (R664, R670, R679). -/
structure OutPkt where
  session : Nat
  udp : Bool
  ip : Word
  port : Nat
  notify : Bool
  complete : Bool
  seq : Nat
  op : Nat
  status : Nat
  payload : List Byte
  sentMon : Time
  deriving DecidableEq, Repr

/-- A partial segmented transfer (R689). -/
structure Xfer where
  kind : Nat
  target : Nat
  format : Nat
  total : Nat
  data : List Byte
  deriving DecidableEq, Repr

/-- One open session (R672 to R679). -/
structure Session where
  num : Nat
  udp : Bool
  ip : Word
  port : Nat
  nip : Word
  nport : Nat
  lastSeq : Nat
  nseq : Nat
  nseqAck : Nat
  maint : Bool
  roleKey : Nat
  evtMask : Nat
  flags : Nat
  nonce : Option (Nat × Time)
  reply : Option OutPkt
  lastReq : Time
  lost : Nat
  xfers : List Xfer
  report : Option (List Byte)
  deriving DecidableEq, Repr

/-- A request taken off a transport, waiting for its session (R671). -/
structure RawReq where
  udp : Bool
  ip : Word
  port : Nat
  session : Nat
  seq : Nat
  op : Nat
  payload : List Byte
  badCrc : Bool
  badHead : Bool
  deriving DecidableEq, Repr

/-- A running maintenance activity (R691, R722 to R725). -/
structure Maint where
  handle : Nat
  act : Nat
  target : Nat
  session : Nat
  waiter : Option Waiter
  deriving DecidableEq, Repr

/-- The command interface (15). -/
structure Cmd where
  slots : List (Option Session)
  lastNum : Nat
  rx : List RawReq
  hpOut : List OutPkt
  udpNotes : List OutPkt
  maint : List Maint
  lastHandle : Nat
  outTests : List (Nat × Nat × Bool × Time)
  deriving DecidableEq, Repr

/-- A containment domain (R695 to R697): state code, error times on MON, errors since power-on, fence time. -/
structure Dom where
  st : Nat
  errs : List Time
  total : Nat
  fenceLtc : Time
  deriving DecidableEq, Repr

/-- The carousel (R715 to R720). -/
structure Car where
  running : Bool
  slot : Nat
  rotEng : Nat
  phase : Nat
  slotMon : Time
  nextReq : Option Nat
  paused : Bool
  deriving DecidableEq, Repr

/-- Health (16): domains, the RMC, SEC and fabric windows, lasting faults, carousel. -/
structure Hlth where
  doms : SMap Dom
  rmcErrs : List Time
  secErrs : List Time
  fabErrs : List Time
  rmcLasting : Bool
  secLasting : Bool
  atMaxShort : Option Time
  car : Car
  fencePend : List (Nat × ErrSrc)
  tempHigh : Bool
  deriving DecidableEq, Repr

/-- One slot of the image store (R738): the staged or running image and whether it has verified. -/
structure ImgSlot where
  img : List Byte
  verified : Bool
  deriving DecidableEq, Repr

/-- One image kind (R735 to R740): its slots, the one marked active, the one that runs with the header it had when it booted, the
one staged last, SVN_MIN. -/
structure ImgKind where
  slots : List ImgSlot
  active : Nat
  running : Nat
  runHdr : List Byte
  staged : Option Nat
  svnMin : Nat
  deriving DecidableEq, Repr

/-- The security engine (17) and its program store (R770). -/
structure SecSt where
  kinds : SMap ImgKind
  q : Nat
  qA : Nat
  qB : Nat
  burned : Nat
  fails : Nat
  lockEnd : Option Time
  store : SMap (List Byte)
  deriving DecidableEq, Repr

/-- A start-record copy (R772). -/
structure StartRec where
  seq : Nat
  taskRun : Nat
  holdupPrev : Bool
  valid : Bool
  deriving DecidableEq, Repr

/-- Start-up (18). Phases are the codes of R757; `booted` are the image kinds verified and running since this restart (R734). -/
structure Start where
  phase : Nat
  cause : Nat
  kindEff : Nat
  phaseMon : Time
  resetMon : Time
  goPend : Bool
  restartKind : Option Nat
  recovery : Bool
  bootFail : Bool
  booted : List Nat
  restartWait : Option Nat
  deriving DecidableEq, Repr

/-- Port states of MODp_STAT.STATE, FENCED left to the domain (R150). -/
inductive PortSt where
  | off | settling | run | stuck | cal
  deriving DecidableEq, Repr

/-- The output that a port produced for frame `fseq`, before the cut-off decision (R91, R130): value, overflow mark, the port's state,
and whether it is written too late. -/
structure PortOut where
  fseq : Word
  val : Int
  ovr : Bool
  st : PortSt
  late : Bool
  deriving DecidableEq, Repr

/-- One entry of a port in the alignment ring (R91): frame, value and quality word. -/
structure RingEnt where
  fseq : Word
  val : Int
  q : Word
  deriving DecidableEq, Repr

/-- A calibration measurement under way (R148), with the TEST bays that have a slot on the port, and the slots (bay, slot) whose alternates
R143 relied on. -/
structure CalRun where
  session : Nat
  handle : Nat
  n : Nat
  sum : Int
  sumSq : Nat
  frames : Nat
  tests : List Nat
  relied : List (Nat × Nat)
  deriving DecidableEq, Repr

/-- A decision delivered at the cut-off (R126, R130): value and quality word (R136). -/
structure Sample where
  val : Int
  q : Word
  deriving DecidableEq, Repr

/-- A modulator port with its filters (R94 to R112, R130): `cur` is the output of the present frame that awaits its cut-off decision,
`ring` the decided entries, newest first, `runFrames` the frames since its last synchronising reset (R767), `dec` what it delivers to
the bays (R92). -/
structure Port where
  st : PortSt
  left : Nat
  resetPend : Bool
  s1 : List Int
  s2 : List Int
  s3 : List (Int × Bool)
  held : Int
  age : Nat
  cal : Option CalRun
  calEndPend : Bool
  cur : Option PortOut
  ring : List RingEnt
  runFrames : Nat
  dec : Sample
  deriving DecidableEq, Repr

/-- One sample in a subscription's history (R115 to R117): count, instant in ns of LTC, values with source quality,
simulation bit, bridged mark, the R139 flags of its APDU, and its place in the order of arrival (a bridged sample has those of the sample
that closed its gap). -/
structure SvSmp where
  cnt : Nat
  t : Rat
  vals : List (Int × Word)
  sim : Bool
  bridged : Bool
  tq : Bool
  arr : Nat
  deriving DecidableEq, Repr

/-- A resampled entry of the alignment ring (R118): frame, values with their quality bits. -/
structure SvEnt where
  fseq : Word
  vals : List (Int × Nat)
  deriving DecidableEq, Repr

/-- A sampled-value subscription (R113 to R129). State codes as SVSs_STAT.STATE. -/
structure Sub where
  st : Nat
  wasLost : Bool
  hist : List SvSmp
  run : Nat
  held : List Int
  age : List Nat
  mismatch : Bool
  lastMon : Time
  okFrames : Nat
  ents : List SvEnt
  timeq : Bool
  latMax : Nat
  stepT : Option (Word × Rat)
  arrN : Nat
  dec : List Sample
  deriving DecidableEq, Repr

/-- A swap group (R103 to R108): the coefficients of bank A and bank B, stage 2 then stage 3; none is the default
design (R109). -/
structure Swg where
  bankA : Option (List Int × List Int)
  bankB : Option (List Int × List Int)
  swapAt : Option Word
  deriving DecidableEq, Repr

/-- Slot substitution state of one bay slot (R133 to R135). -/
structure SlotSt where
  onAlt : Bool
  cnt : Nat
  deriving DecidableEq, Repr

/-- Acquisition (03). -/
structure Acq where
  ports : SMap Port
  subs : SMap Sub
  swgs : SMap Swg
  pllEver : List Bool
  pllLost : List Bool
  slots : SMap SlotSt
  views : SMap (List Sample)
  deriving DecidableEq, Repr

/-- One engine of the frame path, 0 to 33 as R65, 34 the zone engine, 35 the stitch unit: whether it is late, its
slack minimum of this second and whether it was late in it. What it computes stands with its bay. -/
structure Eng where
  late : Bool
  secMin : Option Int
  secLate : Bool
  deriving DecidableEq, Repr

/-- Why a bay moves to another engine: a carousel handover, its return, its end because JE0 is needed (R25), a fence, a stall, a passed
retest, a failed carousel test, a juggler engine that is free for an unprotected bay. -/
inductive MoveWhy where
  | carousel | carReturn | carEnd | fence | stall | retest | carFail | unprot
  deriving DecidableEq, Repr

/-- A pending change of the engine map (R20). -/
structure Move where
  bay : Nat
  dst : Nat
  why : MoveWhy
  copied : Bool
  notBefore : Word
  deriving DecidableEq, Repr

/-- The frame (02). Times of the budget are LTC since `trigLtc`, the LTC of the trigger after any step taken at it; `prevSpan` is the
LTC time from the trigger before to this one. `zeBack`: the ZE came back to service in this frame and takes part from the
next. `bindPend`: the binding of an earlier frame still runs; `bindHeld`: that of this frame
waits for it (R82); `lateLog`: BIND_LATE has been logged in this frame. -/
structure Frame where
  started : Bool
  sec : Nat
  fcnt : Nat
  fseq : Word
  trigMon : Time
  prevMon : Time
  trigLtc : Time
  prevSpan : Nat
  cutOff : Bool
  setDone : Bool
  deadline : Bool
  zeReleased : Bool
  zeDone : Bool
  zeLate : Bool
  zeBack : Bool
  bindAll : Bool
  arcRead : Bool
  binding : Bool
  bound : Bool
  bindPend : Bool
  bindHeld : Bool
  lateLog : Bool
  guard : Bool
  stepped : Bool
  engs : SMap Eng
  map : SMap Nat
  moves : List Move
  worst : Option Rat
  lateInt : Bool
  vcoreOn : Bool
  vcoreCnt : Nat
  deriving DecidableEq, Repr

/-- Stitch actions (R319). -/
inductive Act where
  /-- Commanded states of DO0 to DO15: mask and value. -/
  | localOut (mask val : Nat)
  /-- One output command to a station point: DEVID, point, value. -/
  | remoteOut (devid point val : Nat)
  /-- One boolean member of a publication. -/
  | goose (pub memb : Nat) (val : Bool)
  /-- A recorder trigger. -/
  | recTrig
  /-- A bay block flag. -/
  | flag (bay idx : Nat) (val : Bool)
  /-- A marker that the logic of a task reads. -/
  | marker (task idx : Nat) (val : Bool)
  /-- A reset of latches of a bay. -/
  | latchReset (bay mask : Nat)
  /-- A breaker-operation counter of a bay. -/
  | tripCount (bay : Nat)
  /-- An addition to a C counter of a task (R434). -/
  | counter (task idx : Nat) (delta : Int)
  /-- A staged setting group of a bay (32: the zone). -/
  | commit (bay group : Nat) (vals : List (Nat × Int))
  /-- A change of the active group. -/
  | groupSel (bay group : Nat)
  /-- Logic constants of a task. -/
  | consts (task index : Nat) (vals : List Word)
  deriving DecidableEq, Repr

/-- Stitch states of R326 before the end. -/
inductive StSt where
  | opened | staged | prepared | bound
  deriving DecidableEq, Repr

/-- Who cast a stitch on. -/
inductive StSrc where
  | host (w : Waiter)
  | logic (task group : Nat) (snapMon : Time)
  | engine
  deriving DecidableEq, Repr

/-- A control object (R353): kind as SELECT, object, point. -/
structure CtlObj where
  kind : Nat
  obj : Nat
  point : Nat
  deriving DecidableEq, Repr

/-- An open class A stitch (R319 to R326). -/
structure Stitch where
  id : Nat
  st : StSt
  src : StSrc
  acts : List Act
  bay : Option Nat
  obj : Option CtlObj
  close : Bool
  parts : List (Nat × Bool)
  prepSent : Bool
  b : Time
  tc : Time
  castMon : Time
  selTmo : Nat
  prepDl : Nat
  commitDl : Nat
  bindLtc : Time
  opWaiter : Option Waiter
  remote : Nat
  deriving DecidableEq, Repr

/-- The kept outcome of a finished stitch (R325). -/
structure FinStitch where
  id : Nat
  clsA : Bool
  dropped : Bool
  reason : Nat
  remote : Nat
  lateAbort : Bool
  ltc : Time
  deriving DecidableEq, Repr

/-- A remote command being repeated (R335 to R338). -/
structure RemCmd where
  stitch : Nat
  devid : Nat
  point : Nat
  val : Nat
  seq : Nat
  test : Bool
  sent : Nat
  lastMon : Time
  deriving DecidableEq, Repr

/-- An ABORT being repeated (R348). -/
structure AbortRep where
  stitch : Nat
  parts : List (Nat × Nat)
  tc : Time
  lastMon : Time
  deriving DecidableEq, Repr

/-- The stitch unit (07). -/
structure Stu where
  lastId : Nat
  opens : List Stitch
  hist : List FinStitch
  cmds : List RemCmd
  aborts : List AbortRep
  pPeak : Nat
  pendCommits : List (Nat × Nat × List (Nat × Int))
  pendGroups : List (Nat × Nat)
  deferLogic : List (Nat × Nat)
  deriving DecidableEq, Repr

/-- A trip demand (R339, R340): whether on, when it went on, whether its output actions were carried out (R344), whether
the minimum demand time runs, and that time in ms as it stood at cast-on (R370). -/
structure Demand where
  on : Bool
  onMon : Time
  out : Bool
  held : Bool
  tmin : Nat
  deriving DecidableEq, Repr

/-- A field input (R373 to R386). `cfg` is the DIx_CFG word in effect, `brk` BREAK (R381). The terminal reads `mv` mV and, while its sink is enabled, `ua`
µA since the last command that told it; its samples are taken up to MON `takenMon`. `smp` is the last sample, `run` how many alike came
last, `cur` the current of the last one. `cls` is the last class of R380 (0 BREAK, 1 OFF, 2 ON), `brkUs` and `okUs` for how long every class has
been BREAK, and none has, `winN` and `winSum` the samples of the present 1 ms mean. `outRun` and `inRun` count the samples of R702. -/
structure Di where
  cfg : Word
  deb : Bool
  filt : Bool
  tension : Nat
  fldLow : Bool
  brk : Bool
  pulsed : Bool
  sinkBad : Bool
  mv : Nat
  ua : Nat
  takenMon : Time
  smp : Bool
  run : Nat
  cur : Nat
  cls : Nat
  brkUs : Nat
  okUs : Nat
  winN : Nat
  winSum : Nat
  outRun : Nat
  inRun : Nat
  deriving DecidableEq, Repr

/-- One observation of an output (R396): pulled and unpulled readback, commanded states of all outputs. -/
structure Obs where
  rbp : Bool
  rb0 : Bool
  cmds : Nat
  deriving DecidableEq, Repr

/-- A field output (R387 to R400). `cmdA` is the last class A value (R342); `test` the output-test state (R726); `openOn` that OPEN_LOAD was given in
the on state (R398); `cur` is the current last measured in mA, `cond` the conductions above 1.0 A of the last 10 s (MON at the start, length in
ns), newest first, `condLong` and `condMuch` that TRIP_DUTY was logged for the present one and for the present 15 % (R390). -/
structure Do where
  cmdA : Bool
  test : Option Bool
  parked : Bool
  wait : Bool
  heldOff : Bool
  dead : Bool
  retries : Nat
  obs : List Obs
  fault : Nat
  sib : Nat
  rb : Bool
  cmdSeen : Bool
  shortMon : Time
  openOn : Bool
  cur : Nat
  cond : List (Time × Nat)
  condLong : Bool
  condMuch : Bool
  deriving DecidableEq, Repr

/-- Changes of the field supply's band (R401, R402): into SAG, LOW, LOCKOUT and NORMAL, and the end of LOCKOUT. -/
inductive BandMove where
  | sag | low | lockout | normal | restore
  deriving DecidableEq, Repr

/-- Field I/O (08). Bands as FIO_STAT.BAND. FL_P has read `flpMv` since the last command that told it, at `flpMon`; it has been below 15 V, at 15 V or
more, and at 16 V or more since `low15`, `since15`, `hi16` (R401, R402, R404). -/
structure Fio where
  dis : SMap Di
  dos : SMap Do
  band : Nat
  flpMv : Nat
  flpMon : Time
  low15 : Option Time
  since15 : Option Time
  hi16 : Option Time
  resetLock : Bool
  strobe : Nat
  imgFilt : Nat
  imgValid : Nat
  imgLow : Nat
  imgRb : Nat
  imgDeb : Nat
  imgBrk : Nat
  lockCmds : Nat
  lockEndMon : Time
  scanMon : Option Time
  obsPend : List (Nat × Time)
  deriving DecidableEq, Repr

end Sys2Proof.Machine
end

