-- ==== Sys2Proof/Machine/TypesB.lean ====
section
/-! DEFINITION. Plain data of State for the logic, time-base, lane, network and pair chapters of the spec (09 to 13). -/

namespace Sys2Proof.Machine

/-- Task states with the codes of LEt_STAT.STATE (R438, R457). -/
inductive TaskSt where
  | empty | loaded | run | stopped | fenced
  deriving DecidableEq, Repr

/-- Sizes a program image declares (R410, R690). -/
structure ProgHdr where
  format : Nat
  nCode : Nat
  nK : Nat
  mBits : Nat
  nT : Nat
  nC : Nat
  nE : Nat
  nInst : Nat
  eRet : Nat
  mRetLo : Nat
  mRetHi : Nat
  tRet : Nat
  cRet : Nat
  deriving DecidableEq, Repr

/-- A loaded program (R690): header, code, constants, instance table, initial E words, image CRC. -/
structure Prog where
  hdr : ProgHdr
  code : List Word
  k : List Word
  inst : List Nat
  e : List Word
  crc : Word
  bytes : List Byte
  deriving DecidableEq, Repr

/-- A timer (R431): start instant, running and Q bits, last IN, PT in µs, elapsed time in µs, expiry instant, all on
MON. -/
structure Tmr where
  start : Time
  run : Bool
  q : Bool
  lastIn : Bool
  pt : Nat
  et : Nat
  expiry : Time
  deriving DecidableEq, Repr

/-- A counter (R433). -/
structure Ctr where
  cv : Word
  edge : Bool
  q : Bool
  deriving DecidableEq, Repr

/-- The data of a task: markers as words, timers, counters, instance words (R422). -/
structure TData where
  m : SMap Word
  t : SMap Tmr
  c : SMap Ctr
  e : SMap Word
  deriving DecidableEq, Repr

/-- One station point as the snapshot holds it. -/
structure PtVal where
  val : Word
  valid : Bool
  stale : Bool
  test : Bool
  bin : Bool
  deriving DecidableEq, Repr

/-- The input snapshot of a cycle (R412): protection signals (start, operate words per bay, 32 the zone), measured
quantities, field image, station points by 4096 × entry + point, GOOSE points, system words, bay words. -/
structure Snap where
  start : SMap Nat
  oper : SMap Nat
  meas : SMap Word
  filt : Nat
  valid : Nat
  low : Nat
  rb : Nat
  pts : SMap PtVal
  goose : SMap PtVal
  sys : SMap Word
  bay0 : SMap Word
  bf : SMap Word
  fseq : Word
  deriving DecidableEq, Repr

/-- The output set of a task: DO bits, station points by 2048 × entry + point, publication members by 256 × publication +
member, block flags by 32 × bay + flag, command words by bay, each with the last value written (R422, R424). -/
structure OutSet where
  q : SMap Bool
  pts : SMap Word
  memb : SMap Bool
  bf : SMap Bool
  cmd : SMap Nat
  deriving DecidableEq, Repr

/-- A force (R449): area code, bit index, value, and the program value of a Q bit (R451, R454). -/
structure Force where
  area : Nat
  idx : Nat
  val : Bool
  pv : Bool
  deriving DecidableEq, Repr

/-- The cycle in progress: MON_S, snapshot, working copy, output set, accumulators, branch stack (value, whether AND),
address, ARITH, and the local outputs written (R403). -/
structure Cycle where
  monS : Time
  snap : Snap
  work : TData
  out : OutSet
  acc : Bool
  wacc : Word
  stack : List (Bool × Bool)
  pc : Nat
  arith : Bool
  wrote : List Nat
  deriving DecidableEq, Repr

/-- A logic task (09). -/
structure Task where
  st : TaskSt
  prog : Option Prog
  kNow : List Word
  data : TData
  out : OutSet
  cyc : Option Cycle
  lastSnap : Time
  first : Nat
  startKind : Nat
  lastOverrun : Bool
  ovrRun : Nat
  forces : List Force
  forcesNext : List Force
  relPv : SMap Bool
  grp : SMap (Nat × Nat)
  waiting : SMap (OutSet × List Nat × Time)
  constPend : List (Nat × List Word)
  ctrPend : List (Nat × Int)
  mkPend : List (Nat × Bool)
  stale : List Nat
  runAtReady : Bool
  stopWait : Option Waiter
  retAge : SMap Nat
  ctrl : Word
  deriving DecidableEq, Repr

/-- Time-base states with the codes of TB_STAT.STATE (R466). -/
inductive TbSt where
  | free | acquire | locked | hold
  deriving DecidableEq, Repr

/-- A time source, ranked as R467. -/
inductive Src where
  | ptp | irig | pps
  deriving DecidableEq, Repr

/-- One PTP port (R484, R486, R494 to R496): times of the last Announce and Sync of the chosen grandmaster, link delay and
path values in ps (newest first, at most 8), the value held back, a Sync waiting for its Follow_Up (sequence, receive stamp
and correction in ps), a Pdelay exchange (sequence and transmit stamp; sequence, round trip and request receipt), and the
engine's own sending: Pdelay_Req number, Sync number, time of the last Sync and Announce. -/
structure PtpPort where
  announceMon : Option Time
  syncMon : Option Time
  linkDelay : Int
  path : List Int
  held : Option Int
  pendSync : Option (Nat × Int × Int)
  pdReq : Option (Nat × Int)
  pdResp : Option (Nat × Int × Int)
  reqSeq : Nat
  reqMon : Option Time
  mSeq : Nat
  mSync : Option Time
  mAnn : Option Time
  deriving DecidableEq, Repr

/-- The chosen grandmaster (R483, R484): identity, announced data set as one ordered number, sync interval in ns. -/
structure Gm where
  id : BitVec 64
  rank : Nat
  syncNs : Nat
  deriving DecidableEq, Repr

/-- HOLD data (R496 to R498): MON at entry and at the start of HOLD_T, the path before the step, values of the new path
(newest first), offsets measured with their MON, values in a row back at the old path, a value held back. -/
structure HoldSt where
  entered : Time
  tStart : Time
  oldPath : Rat
  news : List Int
  offs : List (Time × Int)
  backCnt : Nat
  dev : Option Int
  deriving DecidableEq, Repr

/-- The time base (10). LTC is the 96-bit pair (ns, 2^-32 ns); INC is 8.32. -/
structure Tb where
  ltc : BitVec 96
  inc : BitVec 40
  mon : Time
  st : TbSt
  src : Option Src
  incHist : List (BitVec 40)
  yF : Rat
  lastMeas : Option (Src × Time)
  lastOfs : Option (Int × Time)
  lockCnt : Nat
  unlockCnt : Nat
  qual : List Src
  ports : List PtpPort
  gm : Option Gm
  ppsLast : Option Time
  irigCnt : Nat
  irigLast : Option (Nat × Time)
  irigMiss : Nat
  hold : Option HoldSt
  outlier : Nat
  firstPend : Option Int
  firstDue : Bool
  stepDue : Bool
  stepWaiter : Option Waiter
  everLocked : Bool
  tsq : List (List (Nat × Time))
  ppsWholeEnd : Option Time
  ppsTrgEnd : Option Time
  leap : Int
  deriving DecidableEq, Repr

/-- Lane states with the codes of LNl_STAT.STATE (R509). -/
inductive LaneSt where
  | off | train | align | up | down | test | fenced
  deriving DecidableEq, Repr

/-- What the transmitter of a lane sends between frames (R509, R512). -/
inductive LaneTx where
  | elecIdle | idle | localFault | config | prbs | frames
  deriving DecidableEq, Repr

/-- A lane, or SVC (11): state, MON at entry to ALIGN and to TRAIN (or the last restart of adaptation), when the equaliser last moved, when the
engine last measured the eye, when the present host scan started, whether one runs, the
equaliser words last held in UP, whether it has been UP, bits compared by the PRBS checker in eighths, bits in error. -/
structure Lane where
  st : LaneSt
  alignMon : Time
  trainMon : Time
  eqMon : Time
  eyeMon : Time
  scanMon : Time
  scan : Bool
  eqUp : Word × Word
  fromUp : Bool
  bits : Nat
  errs : Nat
  deriving DecidableEq, Repr

/-- Station entry states with the codes of STA_e_STAT.STATE (R551). -/
inductive StaSt where
  | disabled | waiting | admitted | live | silent
  deriving DecidableEq, Repr

/-- A layout announced by a station (R548, R552). -/
structure Layout where
  nInB : Nat
  nInW : Nat
  nOutB : Nat
  nOutW : Nat
  deriving DecidableEq, Repr

/-- A station entry (R551 to R558): state, layout, source MAC, last INPUT and frame times, last INPUT SEQ, point
values, error times, the time it last left LIVE. -/
structure Sta where
  st : StaSt
  layout : Option Layout
  mac : Nat
  lastInput : Time
  lastFrame : Time
  seq : Option Nat
  vals : SMap PtVal
  errs : List Time
  leftLive : Option Time
  deriving DecidableEq, Repr

/-- A GOOSE subscription (R536 to R540). -/
structure Gsub where
  live : Bool
  stNum : Option (Nat × Nat)
  tal : Nat
  lastMon : Time
  deriving DecidableEq, Repr

/-- A GOOSE point's value and quality marks (R537 to R540). -/
structure GPt where
  val : Bool
  valid : Bool
  stale : Bool
  test : Bool
  deriving DecidableEq, Repr

/-- A publication (R541 to R544): template bytes, member offsets, member values, test marks, stNum, sqNum, t, time of
the next transmission, interval in ns. -/
structure Gpub where
  tmpl : List Byte
  offs : SMap Word
  memb : SMap Bool
  test : List Nat
  stNum : Nat
  sqNum : Nat
  t : Time
  nextMon : Option Time
  interval : Nat
  deriving DecidableEq, Repr

/-- An open coalescing entry (R568 to R571). -/
structure Coal where
  code : Nat
  subject : Nat
  firstLtc : Time
  lastLtc : Time
  lastMon : Time
  count : Nat
  nOther : Nat
  bitmap : List Nat
  reporter : Nat
  deriving DecidableEq, Repr

/-- A subscription-table entry (R533, R534): set, GOOSE or SV, index, MAC, APPID. -/
structure SubEnt where
  set : Nat
  goose : Bool
  idx : Nat
  mac : Nat
  appid : Nat
  deriving DecidableEq, Repr

/-- A frame in the ingress buffer of a lane until it is handled (R563): lane, class, whether it lies in the shared part, octets, MON at its
admission. -/
structure InFrame where
  lane : Nat
  cls : Nat
  shared : Bool
  octets : Nat
  at' : Time
  deriving DecidableEq, Repr

/-- Network layers (12). `ingress` is what the ingress buffers hold. `tokens` are policer tokens in frames × 10^9 with the time of the last refill. -/
structure Net where
  table : SMap SubEnt
  gsubs : SMap Gsub
  gpts : SMap GPt
  gptsLatched : SMap GPt
  gprLatched : SMap PtVal
  gpubs : SMap Gpub
  stas : SMap Sta
  glxSeq : Nat
  tokens : SMap (Nat × Time)
  ingress : List InFrame
  coal : SMap Coal
  coalLog : Option Time
  prpSeq : Nat
  prpSeen : List (Nat × Nat × Nat × Time)
  nodes : List (Nat × Time)
  prpLast : Time
  beaconLast : Option Time
  deriving DecidableEq, Repr

/-- Pair roles with the codes of PAIR_STAT.ROLE (R586). -/
inductive Role where
  | single | init | standby | active | orphan
  deriving DecidableEq, Repr

/-- Feed states (R616). -/
inductive FeedSt where
  | absent | present | proving | proven | failed
  deriving DecidableEq, Repr

/-- A power feed (R616 to R618). -/
structure Feed where
  st : FeedSt
  mv : Nat
  since : Time
  proveMon : Time
  waiter : Option Waiter
  deriving DecidableEq, Repr

/-- One heartbeat as sent or received (R603). -/
structure Hb where
  role : Role
  sync : Bool
  m2Pending : Bool
  switchAnn : Bool
  claim : Word
  switchTag : Word
  tag : Word
  deriving DecidableEq, Repr

/-- One M2 item: registers, settings of a bay and group (4: parameters), an active group, a program, its constants, a
publication, coefficients of a swap group, the recorder index, a mirror entry of the integrator (R599, R602). -/
inductive M2Item where
  | regs (l : List (Nat × Word))
  | settings (bay group : Nat) (l : List (Nat × Int))
  | activeGroup (bay group : Nat)
  | prog (task : Nat) (p : Option Prog)
  | consts (task : Nat) (k : List Word)
  | gpub (pub : Nat) (tmpl : List Byte) (offs : SMap Word)
  | coefs (g : Nat) (a b : Option (List Int × List Int))
  | drIndex (l : List Nat)
  | entry (e : Nat) (cls : Nat) (l : List (Nat × Word))
  deriving DecidableEq, Repr

/-- Retentive words of a task as M1 carries them and the retentive image keeps them (R439, R607). -/
structure RetData where
  crc : Word
  k : List Word
  m : SMap Word
  t : SMap Tmr
  c : SMap Ctr
  e : SMap Word
  deriving DecidableEq, Repr

end Sys2Proof.Machine
end

