-- ==== Sys2Proof/Config.lean ====
section
/-! DEFINITION. What an implementation fixes and the spec leaves open: free values and free functions without a body.
Nothing in Lean can evaluate one; a statement about a free value holds for every value. -/

namespace Sys2Proof.Config

/-- The free value number n of the run (log entry 2). -/
opaque freeValue : Nat → Nat

/-- Square root of the bay and zone engines (log entry 4: no precision stated beyond R231, R270, R316). -/
opaque sqrtQ : Rat → Rat

/-- Cosine and sine of an angle in turns (log entry 4). -/
opaque cosTurn : Rat → Rat
opaque sinTurn : Rat → Rat

/-- Angle of the vector (x, y) in turns, from -1/2 to 1/2 (log entry 4). -/
opaque argTurn : Rat → Rat → Rat

/-- Exponential and natural logarithm (log entry 4). -/
opaque expQ : Rat → Rat
opaque lnQ : Rat → Rat

/-- Power with a fractional exponent (log entry 4; the exponent 0.02 of R183). -/
opaque powQ : Rat → Rat → Rat

/-- Coefficient of the resampler by phase 0 to 127 and window position 0 to 7 (R118; log entry 5). -/
opaque resampler : Nat → Nat → Rat

/-- Phase 0 to 127 chosen from the fractional position of a target between input instants (R118; log entry 5). -/
opaque resamplerPhase : Rat → Nat

/-- The Sorornox default filter design: stage 2 or 3 and tap (R109; log entry 6). Unity DC gain is R109's. -/
opaque defaultTap : Nat → Nat → Int

/-- Number of an event within its class, for the names whose number the spec leaves to the RMC image (R802; log
entry 7). -/
opaque evNumber : Machine.Ev → BitVec 12

/-- Kind of SOURCE that EVT_CODES reports for an event (R802; log entry 7). -/
opaque evSrcKind : Machine.Ev → BitVec 16

/-- The name octets EVT_CODES reports for an event (R802; log entry 7). -/
opaque evName : Machine.Ev → List (BitVec 8)

/-- An E-40 function block whose function the spec only names, run on its instance's words: type, words, MON_S in µs, to new words (R435,
R436; log entry 8). -/
opaque efbRun : Nat → List (BitVec 32) → Nat → List (BitVec 32)

/-- Where an E-40 function block of a type keeps its bits and its words: bit 32 × word + b of each bit, and each word (log entry 8). -/
opaque efbBits : Nat → List Nat
opaque efbWordsAt : Nat → List Nat

/-- The unit in µs of the presets of an E-40 function block that measures time (R436; log entry 8). -/
opaque efbUnit : Nat → Nat

/-- How long a received frame stays in an ingress buffer, in ns (R563; log entry 62). -/
opaque ingressNs : Nat

/-- The words of the engine's own mirror entries: region code at e, configuration at 512 + e (R599, R622; log entry 60). -/
opaque mirEngine : Nat → BitVec 32

/-- Payload octets of mirror data on the pair link: M1 of a task, and one M2 item (R607, R608; log entry 60). -/
opaque mirrorLen : Nat → Nat → Nat

/-- How long after a pair-link frame its credits are back, in ns (R564, R565; log entry 60). -/
opaque creditNs : Nat

/-- Translation of an E-40 program file (R437; log entry 8): LEt_E40 word and file bytes to a native image, none where
a translated operand falls outside its area. -/
opaque e40Translate : BitVec 32 → List (BitVec 8) → Option (List (BitVec 8))

/-- SHA-384 as a number (R739, R748; log entry 9). -/
opaque sha384 : List (BitVec 8) → Nat

/-- ECDSA P-384 verification: key octets, digest, signature octets (R739, R750; log entry 9). -/
opaque ecdsaVerify : List (BitVec 8) → Nat → List (BitVec 8) → Bool

/-- HSS verification: key octets, message, signature octets (R739; log entry 9). -/
opaque hssVerify : List (BitVec 8) → List (BitVec 8) → List (BitVec 8) → Bool

/-- Whether a key lies on P-384 (R756; log entry 9). -/
opaque onCurve : List (BitVec 32) → Bool

/-- The fused digests of the two Sorornox public keys: ECDSA, HSS (R739; log entry 9). -/
opaque fusedEcdsa : Nat
opaque fusedHss : Nat

/-- Device signatures: over a digest (96 octets) and over a message with index q (3604 octets) (R747; log entry 9). -/
opaque deviceSign : Nat → Nat → BitVec 8
opaque hssSign : List (BitVec 8) → Nat → Nat → BitVec 8

/-- The certificate bundle of R741 (log entry 9). -/
opaque certBundle : List (BitVec 8)

/-- Identity fixed at manufacture (log entry 3): register word by address. -/
opaque identity : Nat → BitVec 32

/-- The offered feature bitmap of the ordering code (R681, R801; log entry 3). -/
opaque featOffer : Nat

/-- The lane of a GOOSE publication without PRP or HSR: R532 says that its configuration names it, and no register does
(log entry 15). -/
opaque gpubLane : Nat → Nat

/-- Presets of a lane's equalisers by LN_CFG.RATE: the words 0 LN_ADAPT and 1 LN_DFE (R507; log entry 21). -/
opaque eqPreset : Nat → Nat → BitVec 32

end Sys2Proof.Config
end

