-- ==== Sys2Proof/Machine/Num.lean ====
section
/-! DEFINITION. Numbers: rounding, saturation, octets, checksums, binary32, exact rationals and phasors. -/

namespace Sys2Proof.Machine

/-- Convergent rounding of x / 2^s (R99). -/
def roundHalfEven (x : Int) (s : Nat) : Int :=
  let q := x / (2 ^ s : Nat)
  let r := x - q * (2 ^ s : Nat)
  if s = 0 then x
  else if r > (2 ^ (s - 1) : Nat) then q + 1
  else if r = (2 ^ (s - 1) : Nat) ∧ q % 2 = 1 then q + 1
  else q

/-- Clamp to a range. -/
def clampI (lo hi x : Int) : Int := if x < lo then lo else if hi < x then hi else x

/-- Saturation to 32 bits, with the mark whether it clamped (R99). -/
def sat32 (x : Int) : Int × Bool :=
  let y := clampI (-2147483648) 2147483647 x
  (y, decide (y ≠ x))

/-- A rational rounded to an integer, half to even. -/
def ratRound (q : Rat) : Int :=
  let f := q.floor
  let r := q - f
  if r > 1 / 2 then f + 1 else if r = 1 / 2 ∧ f % 2 = 1 then f + 1 else f

/-- A rational rounded up to an integer. -/
def ratCeil (q : Rat) : Int := -((-q).floor)

/-- Greatest integer whose square is at most n, by bisection over a fixed number of bits. -/
def isqrt (n : Nat) : Nat :=
  ((List.range 80).reverse).foldl (fun a i => if (a + 2 ^ i) * (a + 2 ^ i) ≤ n then a + 2 ^ i else a) 0

/-- The integer nearest the square root of a non-negative rational num / den (R148). A root is never halfway between
integers unless num / den is, so half-to-even is decided exactly by squares. -/
def sqrtRound (num den : Nat) : Nat :=
  let f := isqrt (num / den)
  -- compare num / den with (f + 1/2)^2
  let l := 4 * num
  let h := den * (2 * f + 1) * (2 * f + 1)
  if l > h then f + 1 else if l = h ∧ f % 2 = 1 then f + 1 else f

/-- Signed reading of a word. -/
def sgn32 (w : Nat) : Int := if w % 2 ^ 32 < 2 ^ 31 then (w % 2 ^ 32 : Nat) else (w % 2 ^ 32 : Nat) - (2 ^ 32 : Int)

/-- A signed number in n bits of two's complement. -/
def toBits (n : Nat) (x : Int) : Nat := (x % (2 ^ n : Nat)).toNat

/-- Signed difference of two 32-bit sequence numbers (R55, R624). -/
def sdiff32 (a b : Word) : Int := (a - b).toInt

/-- Signed difference of two 16-bit sequence numbers (R550, R679). -/
def sdiff16 (a b : Nat) : Int := (BitVec.ofNat 16 a - BitVec.ofNat 16 b).toInt

/-! Octets, most significant first (R10). -/

/-- A number as n octets. -/
def beBytes : Nat → Nat → List Byte
  | 0, _ => []
  | n + 1, x => BitVec.ofNat 8 (x >>> (8 * n)) :: beBytes n x

/-- Octets as a number. -/
def beNat (l : List Byte) : Nat := l.foldl (fun a b => a * 256 + b.toNat) 0

/-- n octets at an offset as a number; octets beyond the end count 0. -/
def beAt (l : List Byte) (off n : Nat) : Nat :=
  (List.range n).foldl (fun a i => a * 256 + ((l.drop (off + i)).headD 0).toNat) 0

/-- Zero octets. -/
def zeros (n : Nat) : List Byte := List.replicate n 0

/-- One octet of the CRC-32C step (reflected polynomial 0x82F63B78; log entry 10). -/
def crcByte (c : BitVec 32) (b : Byte) : BitVec 32 :=
  (List.range 8).foldl (fun a _ => if a.getLsbD 0 then (a >>> 1) ^^^ 0x82F63B78#32 else a >>> 1)
    (c ^^^ BitVec.ofNat 32 b.toNat)

/-- CRC-32C of octets (log entry 10). -/
def crc32c (l : List Byte) : Word := ~~~ (l.foldl crcByte 0xFFFFFFFF#32)

/-- CRC-8 of a claim word's CLAIM and SEQ: polynomial 0x2F, initial 0xFF, final XOR 0xFF (R580). -/
def crc8 (l : List Byte) : Byte :=
  (l.foldl (fun c b => (List.range 8).foldl
    (fun (a : Byte) _ => if a.getLsbD 7 then (a <<< 1) ^^^ 0x2F#8 else a <<< 1) (c ^^^ b)) 0xFF#8) ^^^ 0xFF#8

/-! binary32 (IEEE 754), round half to even. -/

/-- A binary32 word's class and value. -/
inductive F32 where
  | nan
  | inf (neg : Bool)
  | fin (neg : Bool) (q : Rat)
  deriving DecidableEq, Repr

/-- 2^e for an integer exponent. -/
def pow2 (e : Int) : Rat := if 0 ≤ e then ((2 ^ e.toNat : Nat) : Rat) else 1 / ((2 ^ (-e).toNat : Nat) : Rat)

/-- What a binary32 word stands for. -/
def f32Of (w : Word) : F32 :=
  let s := w.getLsbD 31
  let e : Nat := (w.toNat >>> 23) % 256
  let m : Nat := w.toNat % 2 ^ 23
  if e = 255 then (if m = 0 then .inf s else .nan)
  else
    let v : Rat := if e = 0 then ((m : Nat) : Rat) * pow2 (-149) else ((2 ^ 23 + m : Nat) : Rat) * pow2 ((e : Int) - 150)
    .fin s (if s then -v else v)

/-- The finite value of a binary32 word, 0 where it has none. -/
def f32Val (w : Word) : Rat := match f32Of w with | .fin _ q => q | _ => 0

/-- The canonical quiet NaN. -/
def f32NaN : Word := 0x7FC00000#32

def f32Inf (neg : Bool) : Word := if neg then 0xFF800000#32 else 0x7F800000#32

/-- Greatest e with 2^e ≤ q, for q > 0. -/
def ratLog2 (q : Rat) : Int :=
  let e : Int := (Nat.log2 q.num.natAbs : Int) - (Nat.log2 q.den : Int)
  if pow2 e ≤ q then (if pow2 (e + 1) ≤ q then e + 1 else e) else e - 1

/-- A rational rounded to binary32. `neg` is the sign of a zero result. -/
def f32Round (neg : Bool) (q : Rat) : Word :=
  if q = 0 then (if neg then 0x80000000#32 else 0#32)
  else
    let s := decide (q < 0)
    let a := if s then -q else q
    let e0 := ratLog2 a
    let e : Int := if e0 < -126 then -126 else e0
    let m := (ratRound (a * pow2 (23 - e))).toNat
    -- m counts units of 2^(e-23); a carry to 2^24 moves the exponent by itself
    let w : Nat := if m < 2 ^ 23 then m else (e + 126).toNat * 2 ^ 23 + m
    let w := if w ≥ 0x7F800000 then 0x7F800000 else w
    BitVec.ofNat 32 (w + (if s then 2 ^ 31 else 0))

/-- A value published as binary32. -/
def f32 (q : Rat) : Word := f32Round false q

/-- A value published as binary32, NaN where there is none. -/
def f32Opt : Option Rat → Word
  | some q => f32 q
  | none => f32NaN

/-! Phasors: exact rational pairs, elementary functions free (Config). -/

/-- A phasor. -/
structure Cx where
  re : Rat
  im : Rat
  deriving DecidableEq, Repr

namespace Cx
def add (a b : Cx) : Cx := ⟨a.re + b.re, a.im + b.im⟩
def sub (a b : Cx) : Cx := ⟨a.re - b.re, a.im - b.im⟩
def mul (a b : Cx) : Cx := ⟨a.re * b.re - a.im * b.im, a.re * b.im + a.im * b.re⟩
def conj (a : Cx) : Cx := ⟨a.re, -a.im⟩
def scale (k : Rat) (a : Cx) : Cx := ⟨k * a.re, k * a.im⟩
def zero : Cx := ⟨0, 0⟩
def sq (a : Cx) : Rat := a.re * a.re + a.im * a.im
def mag (a : Cx) : Rat := Config.sqrtQ a.sq
def arg (a : Cx) : Rat := Config.argTurn a.re a.im
end Cx

/-- √3 and √2 as the engines' square root gives them. -/
def sqrt3 : Rat := Config.sqrtQ 3
def sqrt2 : Rat := Config.sqrtQ 2

/-- The unit phasor at 120 degrees, a of R168. -/
def cxA : Cx := ⟨-1 / 2, sqrt3 / 2⟩
def cxA2 : Cx := ⟨-1 / 2, -(sqrt3 / 2)⟩

/-- An angle in turns wrapped to -1/2 to 1/2. -/
def wrapTurn (x : Rat) : Rat := x - ((x + 1 / 2).floor : Rat)

/-- Absolute value. -/
def ratAbs (x : Rat) : Rat := if x < 0 then -x else x

def ratMax (a b : Rat) : Rat := if a < b then b else a
def ratMin (a b : Rat) : Rat := if b < a then b else a

/-- Clamp of rationals. -/
def ratClamp (lo hi x : Rat) : Rat := ratMax lo (ratMin hi x)

end Sys2Proof.Machine
end

