-- ==== Sys2Proof/Machine/TypesC.lean ====
section
/-! DEFINITION. Plain data of State for the bay, motor and zone chapters of the spec (04 to 06). -/

namespace Sys2Proof.Machine

/-- One sample of a slot history (R162): primary value, usable under R141, quality word. -/
structure HSmp where
  v : Rat
  ok : Bool
  q : Nat
  deriving DecidableEq, Repr

/-- State of one element stage: operate fraction in units of 2^-48 (R185), reset frames, start (R184), operate, frame counters of its own timers, stored polarising voltage (R190). -/
structure El where
  g : Nat
  r : Nat
  start : Bool
  oper : Bool
  cnt : Nat
  arm : Nat
  mem : Option Cx
  deriving DecidableEq, Repr

/-- A stage at rest. -/
def El.init : El :=
  { g := 0, r := 0, start := false, oper := false, cnt := 0, arm := 0, mem := none }

/-- Motor states with the codes of quantity 56 (R237). -/
inductive MotSt where
  | stopped | starting | running
  deriving DecidableEq, Repr

/-- The motor memory (R260 to R267) with the timers of R237. Durations are frames; `starts` holds the ages in ns of the
last 16 counted starts, youngest first, as of MON `last` (none: not advanced yet, R265). `ieq2` is the square of the last valid I_eq
(R242); peaks are in amperes; `supCnt` are the frames of start supervision (R239). -/
structure Mot where
  theta : Rat
  ieq2 : Rat
  st : MotSt
  starts : List Nat
  last : Option Time
  lastDur : Nat
  lastPeak : Rat
  lastRise : Rat
  g45 : Nat
  runFrames : Nat
  nStarts : Nat
  restored : Bool
  stopCnt : Nat
  detCnt : Nat
  endCnt : Nat
  thetaAt : Rat
  durCnt : Nat
  supCnt : Nat
  peak : Rat
  runCnt : Nat
  oper49 : Bool
  emergPrev : Bool
  deriving DecidableEq, Repr

/-- A motor at rest: the cold state with θ given (R267). -/
def Mot.cold (theta : Rat) : Mot :=
  { theta := theta, ieq2 := 0, st := .stopped, starts := [], last := none, lastDur := 0, lastPeak := 0, lastRise := 0, g45 := 0,
    runFrames := 0, nStarts := 0, restored := false, stopCnt := 0, detCnt := 0, endCnt := 0,
    thetaAt := 0, durCnt := 0, supCnt := 0, peak := 0, runCnt := 0, oper49 := false, emergPrev := false }

/-- Breaker failure state (R217 to R219): initiations that started it, edge memory of BF_START_SRC, frames since the
last sample at or over the phase and the earth thresholds, timer frames. -/
structure Bf where
  started : Bool
  own : Bool
  ext : Bool
  extPrev : Option Bool
  phAge : Option Nat
  eAge : Option Nat
  cnt : Nat
  ownPend : Bool
  deriving DecidableEq, Repr

/-- Everything a bay carries from one frame to the next (R23). Slot histories are newest first. `thSq` is the square of the last valid I
(R208, R210), `f` the history of f with its mark Q_TIMEQ of several sources, `tqAge` the frames since V1 last carried that mark (R173). -/
structure BayD where
  hist : List (List HSmp)
  els : SMap El
  theta : Rat
  thSq : Rat
  thOper : Bool
  v1 : List (Option Cx)
  i1 : List (Option Cx)
  f : List (Option (Rat × Bool))
  tqAge : Nat
  ftr : Rat
  ftrHold : Nat
  ftrSrc : Nat
  trans : List (Nat × Option Bool)
  cbOpen : Option Time
  clpEnd : Option Time
  effPrev : Bool
  bf : Bf
  inr : List Nat
  energy : List Nat
  mot : Mot
  deriving DecidableEq, Repr

/-- A bay with nothing computed; θ given (R159, R211). -/
def BayD.init (theta : Rat) (energy : List Nat) (mot : Mot) : BayD :=
  { hist := List.replicate 8 [], els := [], theta := theta, thSq := 0, thOper := false, v1 := [], i1 := [], f := [], tqAge := 1000,
    ftr := 50, ftrHold := 0, ftrSrc := 0, trans := [], cbOpen := none, clpEnd := none, effPrev := false,
    bf := { started := false, own := false, ext := false, extPrev := none, phAge := none, eAge := none, cnt := 0,
            ownPend := false },
    inr := [0, 0, 0, 0], energy := energy, mot := mot }

/-- A phase current as the zone engine reads it: half-cycle phasor, sample, validity, source, marks. -/
structure PhCur where
  half : Option Cx
  smp : Option Rat
  src : Nat
  timeq : Bool
  ovr : Bool
  deriving DecidableEq, Repr

/-- The results of one bay frame (R38). `ph` are the phase currents of slots IA, IB, IC. `v1r` is V1 relative to Vn.
`zsi` are the signals whose stage has ZSI = 1, `meas` the quantities. -/
structure BayRes where
  fseq : Word
  start : Nat
  oper : Nat
  pos : Nat
  eff : Bool
  valid : Nat
  meas : List Word
  thermEst : Bool
  clp : Bool
  ftrSrc : Nat
  motStat : Word
  zsi : Nat
  dirF : Nat
  dirR : Nat
  zsiLong : Nat
  ph : List PhCur
  f : Option Rat
  dfdt : Option Rat
  v1r : Option Rat
  test : Bool
  inhibit : Bool
  energy : List Nat
  deriving DecidableEq, Repr

/-- Results that hold nothing (before the first frame, or OFF). -/
def BayRes.none : BayRes :=
  { fseq := 0, start := 0, oper := 0, pos := 0, eff := false, valid := 0, meas := List.replicate 64 0x7FC00000#32, thermEst := false,
    clp := false, ftrSrc := 0, motStat := 0, zsi := 0, dirF := 0, dirR := 0, zsiLong := 0, ph := [], f := .none,
    dfdt := .none, v1r := .none, test := false, inhibit := false, energy := [0, 0, 0, 0] }

/-- What signal references read (R156): input image, readbacks, latched station and GOOSE points, block flags, and the
trip outputs that report OPEN_LOAD (R221), and whether the reading bay is in TEST (R540). -/
structure SigImg where
  filt : Nat
  valid : Nat
  rb : Nat
  pts : SMap PtVal
  goose : SMap GPt
  bf : Nat
  openLoad : Nat
  test : Bool
  deriving DecidableEq, Repr

/-- What an engine takes when it starts a bay's frame: slot decisions with source values scaled to primary units, the
settings in effect, the active group, the references, MON, whether the bay's BRK demand is on. -/
structure BayIn where
  fseq : Word
  slots : List (Option (Rat × Word))
  set : SMap Int
  group : Nat
  test : Bool
  img : SigImg
  mon : Time
  demand : Bool
  clrMot : Nat
  clrEnergy : Bool
  own : Bool
  deriving DecidableEq, Repr

/-- Latch state of one zone phase (R284 to R288). -/
structure ZPh where
  above : Bool
  latch : Bool
  latchAge : Nat
  low : Nat
  run : Nat
  runOk : Bool
  rel : Nat
  deriving DecidableEq, Repr

def ZPh.init : ZPh := { above := false, latch := false, latchAge := 0, low := 0, run := 0, runOk := false, rel := 0 }

/-- Orders of one zone frame: bays to trip with the zone signal that orders them, the failed bay of a backtrip (32 for the others), and
whether as a test (R292, R299, R307, R312). -/
structure ZOrd where
  sig : Nat
  src : Nat
  bays : Nat
  test : Bool
  deriving DecidableEq, Repr

/-- Results of one zone frame (R317, R318). -/
structure ZRes where
  fseq : Word
  start : Nat
  oper : Nat
  invBlk : Nat
  tqBlk : Nat
  merged : Bool
  secs : List Nat
  tied : Nat
  dsBad : List Nat
  zbays : List Nat
  dif : List Word
  fbus : List Word
  orders : List ZOrd
  zsiBlk : SMap Nat
  route : List Nat
  deriving DecidableEq, Repr

def ZRes.none : ZRes :=
  { fseq := 0, start := 0, oper := 0, invBlk := 0, tqBlk := 0, merged := false, secs := List.replicate 32 0, tied := 0,
    dsBad := List.replicate 32 0, zbays := List.replicate 5 0, dif := List.replicate 30 0, fbus := List.replicate 8 0,
    orders := [], zsiBlk := [], route := List.replicate 32 0 }

/-- What the zone engine carries from frame to frame: phase latches by 4 × zone + phase, CTS elements, frames since the
last downstream start per section, shedding stages by 8 × stage + section, TOPO_BAD frames, held arc flags. -/
structure ZoneD where
  ph : SMap ZPh
  cts : SMap El
  ctsBlk : Nat
  zsi : SMap Nat
  shed : SMap El
  topoCnt : Nat
  difOper : Nat
  noRoute : Nat
  deriving DecidableEq, Repr

def ZoneD.init : ZoneD :=
  { ph := [], cts := [], ctsBlk := 0, zsi := [], shed := [], topoCnt := 0, difOper := 0, noRoute := 0 }

/-- The zone: state of the engine, results computed and published, light and fast-OC flags set since the last reading,
the last reading, the arc-flash decision of the frame (R304 to R307) and the last completed
one, demands of routed outputs, bays ordered in the last binding by each zone signal, the frame the engine is computing (its state, results
and BT_NOROUTE bays to come), late frames of the last second and of the present one, orders of the last binding, signals
of the last binding, whether the last zone frame was late, a late frame's results that count from the next trigger on (R81);
and as published at step 7 (R40): zone start and operate words, flags read, lateness. -/
structure Zone where
  d : ZoneD
  res : ZRes
  pub : ZRes
  pend : Option ZRes
  lightSet : Nat
  ocSet : Nat
  lightNow : Nat
  ocNow : Nat
  arcStart : Nat
  arcOper : Nat
  arcHeld : Nat × Nat
  dOut : SMap Demand
  dOrd : SMap Nat
  next : Option (ZoneD × ZRes × Nat)
  lateSec : Nat
  lateCnt : Nat
  ords : List ZOrd
  prevStart : Nat
  prevOper : Nat
  late : Bool
  after : Option ZRes
  sigS : Nat
  sigO : Nat
  pubLight : Nat
  pubOc : Nat
  pubLate : Bool
  deriving DecidableEq, Repr

def Zone.init : Zone :=
  { d := ZoneD.init, res := ZRes.none, pub := ZRes.none, pend := .none, lightSet := 0, ocSet := 0, lightNow := 0,
    ocNow := 0, arcStart := 0, arcOper := 0, arcHeld := (0, 0), dOut := [], dOrd := [], next := .none,
    lateSec := 0, lateCnt := 0, ords := [], prevStart := 0, prevOper := 0, late := false, after := .none,
    sigS := 0, sigO := 0, pubLight := 0, pubOc := 0, pubLate := false }

/-- A bay: mode in effect (0 OFF, 1 ON, 2 TEST), its state, the frame being computed with what was taken, inputs waiting
for a late engine, its two result buffers (R38), results of the last completed frame and published, those a late binding still has to publish (R82), whether the present frame completed on time, late marks (`pubLate` as published at step 7), block flags,
demands (R339; extra outputs by output), the outputs the extra-output latch holds, signals of the last binding, an own
trip for breaker failure (R217), time it went OFF, frames whose samples a stall lost, whether unprotected (R27), clears
asked for and clears for the present frame (R223, R268). -/
structure Bay where
  mode : Nat
  d : BayD
  comp : Option BayIn
  wait : Option BayIn
  buf0 : BayRes
  buf1 : BayRes
  res : BayRes
  pub : BayRes
  pend : Option BayRes
  resOk : Bool
  late : Bool
  pubLate : Bool
  lateSec : Nat
  lateCnt : Nat
  bf : Nat
  dBrk : Demand
  dXfer : Demand
  dOut : SMap Demand
  outLatch : Nat
  prevOper : Nat
  prevStart : Nat
  ownPend : Bool
  offMon : Time
  lost : Nat
  unprot : Bool
  clrMot : Nat
  clrEnergy : Bool
  clrMotNow : Nat
  clrEnergyNow : Bool
  deriving DecidableEq, Repr

/-- A bay at reset. -/
def Bay.init : Bay :=
  { mode := 0, d := BayD.init 0 [0, 0, 0, 0] (Mot.cold 0), comp := none, wait := none, buf0 := BayRes.none,
    buf1 := BayRes.none, res := BayRes.none, pub := BayRes.none,
    pend := none, resOk := false, late := false, pubLate := false, lateSec := 0, lateCnt := 0, bf := 0, dBrk := ⟨false, 0, false, false, 0⟩,
    dXfer := ⟨false, 0, false, false, 0⟩, dOut := [], outLatch := 0, prevOper := 0, prevStart := 0, ownPend := false, offMon := 0, lost := 0, unprot := false,
    clrMot := 0, clrEnergy := false, clrMotNow := 0, clrEnergyNow := false }

end Sys2Proof.Machine
end

