-- ==== Sys2Proof/Machine/Settings.lean ====
section
/-! DEFINITION. Settings: the element directory with ranges and defaults (04 R151 to R220, 05 R233 to R258, 06 R271 to
R311), the settings store, and the checks of a commit (R154, R155, R171, R178, R188, R224, R241, R246, R274, R283, R303,
R309). A value is a signed count of the setting's step (R152). -/

namespace Sys2Proof.Machine

/-- Range and default of a setting; `sig` marks a signal reference (R156). -/
structure SetDef where
  lo : Int
  hi : Int
  dflt : Int
  sig : Bool
  deriving DecidableEq, Repr

/-- A numeric setting. -/
def nSet (lo hi dflt : Int) : SetDef := { lo := lo, hi := hi, dflt := dflt, sig := false }

/-- A signal reference, default none. -/
def rSet : SetDef := { lo := 0, hi := 65535, dflt := 0, sig := true }

/-- 0/1 with default 0. -/
def bSet : SetDef := nSet 0 1 0

/-- BLK_SEL: 0 none, 1 to 32 a block flag. -/
def blkSet : SetDef := nSet 0 32 0

/-- Time-overcurrent stage settings with the element's PICKUP (R177). -/
def tocSets (pickup : SetDef) : List (Nat × SetDef) :=
  [(0, bSet), (1, pickup), (2, nSet 0 9 0), (3, nSet 10 15000 1000), (4, nSet 0 300000 100), (5, nSet 0 10000 0),
   (6, nSet 15 400 200), (7, nSet 0 2 0), (8, nSet 0 60000 0), (9, nSet 0 2 0), (10, bSet), (11, nSet 0 2 0),
   (12, blkSet), (13, bSet)]

/-- Undervoltage and overvoltage stage settings (R199). -/
def uvSets (pickup : SetDef) : List (Nat × SetDef) :=
  [(0, bSet), (1, pickup), (2, bSet), (3, bSet), (4, nSet 0 300000 1000), (5, nSet 0 60000 0), (8, blkSet)]

/-- Number of stages of an element, 0 where the directories of R153, R233 and R272 list none. -/
def elemStages : Nat → Nat
  | 0x00 => 1 | 0x10 => 4 | 0x11 => 4 | 0x12 => 2 | 0x13 => 2 | 0x14 => 1 | 0x15 => 2
  | 0x20 => 3 | 0x21 => 3 | 0x22 => 2 | 0x23 => 1 | 0x24 => 6
  | 0x30 => 1 | 0x31 => 1 | 0x32 => 1 | 0x33 => 1 | 0x34 => 3
  | 0x40 => 1 | 0x41 => 1 | 0x42 => 1 | 0x43 => 1 | 0x44 => 2 | 0x45 => 1 | 0x46 => 1 | 0x47 => 1
  | 0x50 => 7 | 0x51 => 6 | 0x52 => 1 | 0x53 => 1 | 0x54 => 4 | 0x55 => 8 | 0x56 => 2
  | _ => 0

/-- Settings of an element's stage by index. -/
def elemSets (code stage : Nat) : List (Nat × SetDef) :=
  match code with
  | 0x00 => [(0, nSet 0 3 0), (1, nSet 1 10000 400), (2, nSet 1 10000 100), (3, nSet 10 4000 1000), (4, bSet), (5, bSet),
      (6, bSet), (7, rSet), (8, rSet), (9, nSet 2 100 5), (10, rSet)]
  | 0x10 => tocSets (nSet 5 4000 100)
  | 0x11 => tocSets (nSet 5 10000 100) ++ [(14, bSet)]
  | 0x12 => tocSets (nSet 5 4000 100) ++
      [(16, bSet), (17, nSet (-90) 90 45), (18, nSet 30 90 85), (19, nSet 1 20 2), (20, bSet), (21, bSet)]
  | 0x13 => [(0, bSet), (1, nSet 0 3 0), (2, nSet 2 2000 10), (3, nSet 1 80 10), (4, nSet (-90) 90 0), (5, nSet 30 90 80),
      (6, nSet 1 5000 100), (7, bSet), (8, nSet 0 300000 300), (9, nSet 0 60000 0), (10, bSet), (11, bSet), (12, blkSet),
      (13, bSet)]
  | 0x14 => [(0, bSet), (1, nSet 5 2000 50), (2, nSet 1 80 10), (3, nSet 1 20 3), (4, nSet 10 1000 200),
      (5, nSet 0 1000 10), (6, bSet), (7, bSet), (8, bSet), (9, blkSet)]
  | 0x15 => tocSets (nSet 5 500 20)
  | 0x20 => uvSets (nSet 50 1200 800) ++ [(6, nSet 0 80 20), (7, bSet)]
  | 0x21 => uvSets (nSet 800 1600 1100)
  | 0x22 => [(0, bSet), (1, nSet 20 1000 200), (2, bSet), (3, nSet 0 300000 500), (4, nSet 0 60000 0), (5, blkSet)]
  | 0x23 => [(0, bSet), (1, nSet 10 500 50), (2, nSet 0 300000 1000), (3, nSet 0 60000 0), (4, blkSet)]
  | 0x24 => [(0, nSet 0 5 0), (1, nSet 4000 7000 4900), (2, nSet 10 1000 100), (3, nSet 2 50 5), (4, nSet 0 300000 200),
      (5, nSet 20 90 50), (6, blkSet)]
  | 0x30 => [(0, bSet), (1, nSet 10 400 105), (2, nSet 10 6000 300), (3, nSet 50 150 90), (4, nSet 80 150 100),
      (5, nSet 20 99 80), (6, nSet 0 100 0), (7, blkSet)]
  | 0x31 => [(0, bSet), (1, nSet 5 50 15), (2, nSet 0 1 1), (3, nSet 5 100 10), (4, nSet 5 400 100), (5, nSet 0 6000 500),
      (6, bSet), (7, nSet 1 3600 600), (8, nSet 1 36000 100), (9, nSet 100 1000 200)]
  | 0x32 => [(0, bSet), (1, nSet 0 2 0), (2, nSet 5 200 20), (3, nSet 0 200 10), (4, nSet 0 1 1), (5, nSet 0 1000 50),
      (6, nSet 50 1000 150), (7, nSet 0 2 0)]
  | 0x33 => [(0, nSet 0 2 0), (1, rSet), (2, nSet 1 600 20), (3, bSet)]
  | 0x34 =>
    if stage = 0 then (List.range 32).map (fun i => (i, nSet 101 4000 (if i = 0 then 200 else 2000)))
    else if stage = 1 then (List.range 32).map (fun i => (i, nSet 10 1000000 (if i = 0 then 10000 else 1000)))
    else [(0, nSet 2 32 2)]
  | 0x40 => [(0, bSet), (1, nSet 20 150 100), (2, nSet 100 150 105), (3, nSet 10 6000 200), (4, nSet 10 100 30),
      (5, nSet 0 100 30), (6, nSet 50 150 90), (7, nSet 80 150 100), (8, nSet 5 90 35), (9, nSet 0 1 1), (10, nSet 0 100 0),
      (11, nSet 10 100 50), (12, bSet), (13, rSet), (14, blkSet)]
  | 0x41 => [(0, bSet), (1, nSet 2 50 10), (2, nSet 10 1000 50), (3, nSet 110 1000 150), (4, nSet 2 100 10),
      (5, nSet 80 500 125), (6, nSet 10 3000 100), (7, rSet), (8, blkSet)]
  | 0x42 => [(0, bSet), (1, bSet), (2, nSet 150 1000 250), (3, nSet 5 600 50), (4, blkSet)]
  | 0x43 => [(0, bSet), (1, nSet 1 10 3), (2, nSet 1 10 2), (3, nSet 60 7200 3600), (4, nSet 0 3600 0)]
  | 0x44 => [(0, bSet), (1, nSet 5 100 30), (2, nSet 1 6000 50), (3, nSet 0 600 10), (4, blkSet)]
  | 0x45 => [(0, bSet), (1, nSet 5 100 15), (2, nSet 10 1000 200), (3, nSet 1 3600 1000), (4, nSet 1 10000 600), (5, blkSet)]
  | 0x46 => [(0, bSet), (1, nSet 100 1000 200), (2, nSet 5 6000 50), (3, nSet 0 600 20), (4, blkSet)]
  | 0x47 => [(0, bSet), (1, nSet 1 100 20), (2, nSet 1 6000 100), (3, nSet 0 600 10), (4, blkSet)]
  | 0x50 =>
    if stage ≤ 1 then (List.range 32).map (fun b => (b, nSet 0 8 8))
    else if stage ≤ 5 then (List.range 32).map (fun b => (b, rSet))
    else [(0, nSet 1 120 10)]
  | 0x51 =>
    if stage = 5 then [(0, nSet 10 2000 100), (1, nSet 5 200 20), (2, nSet 10 50 20), (3, nSet 50 95 85),
      (4, nSet 10 500 100), (5, bSet)]
    else
      [(0, bSet), (1, nSet 0 255 0), (2, nSet 5 400 30), (3, nSet 10 90 50), (4, nSet 10 200 50), (5, nSet 10 95 80)] ++
      (if stage < 4 then [(6, nSet 0 1 1), (7, nSet 2 100 10), (8, nSet 10 600 50), (9, bSet)] else [])
  | 0x52 => [(0, bSet), (1, nSet 0 100 20), (2, nSet 50 2000 300)]
  | 0x53 => [(0, bSet)]
  | 0x54 => [(0, bSet), (1, bSet), (2, nSet (-2147483648) 2147483647 0), (3, nSet (-2147483648) 2147483647 0),
      (4, nSet (-2147483648) 2147483647 0), (5, nSet 10 200 30), (6, nSet 2 16 4)]
  | 0x55 => [(0, nSet 0 3 0), (1, nSet 4000 7000 4900), (2, nSet 10 1000 100), (3, nSet 0 60000 200), (4, nSet 0 255 0),
      (5, nSet (-2147483648) 2147483647 0), (6, nSet 20 90 50)]
  | 0x56 => (List.range 8).map (fun s => (s, nSet 0 32 32))
  | _ => []

/-- Parts of a PID (R151). -/
def pidCode (pid : Nat) : Nat := pid / 256 % 256
def pidStage (pid : Nat) : Nat := pid / 32 % 8
def pidIdx (pid : Nat) : Nat := pid % 32

/-- A PID from its parts. -/
def pidOf (code stage idx : Nat) : Nat := code * 256 + stage * 32 + idx

/-- The definition under a PID: none where the directory lists none (R153, R233, R272). -/
def setDef (zone : Bool) (pid : Nat) : Option SetDef :=
  let c := pidCode pid
  if zone != decide (0x50 ≤ c) then none
  else if pidStage pid < elemStages c then ((elemSets c (pidStage pid)).find? (fun p => p.1 = pidIdx pid)).map (·.2)
  else none

/-- A signal reference that may be staged: kind 0 to 4 (R156), the index of kind 1 at most 47 (R385). Limits of the
indexes of kinds 2 and 3 are those of their tables (R556, R539), and of kind 4 the 32 block flags. -/
def sigRefOk (v : Int) : Bool :=
  let w := v.toNat
  let k := w / 4096
  let i := w % 4096
  decide (0 ≤ v ∧ v < 65536) && decide (k ≤ 4) && (k != 1 || decide (i < 48)) && (k != 4 || decide (i < 32))

/-- A value that may be staged under a definition (R152, R156). -/
def SetDef.ok (d : SetDef) (v : Int) : Bool := decide (d.lo ≤ v ∧ v ≤ d.hi) && (!d.sig || sigRefOk v)

/-- Key of the settings store: bay 0 to 31 or zone 32, group 0 to 3, PID. Parameters (element 0x00) and the zone stand
under group 0. -/
def setKey (bay group pid : Nat) : Nat :=
  (bay * 4 + (if pidCode pid = 0 ∨ bay = 32 then 0 else group)) * 65536 + pid

/-- Default of a PID. -/
def setDflt (bay pid : Nat) : Int := ((setDef (decide (bay = 32)) pid).map (·.dflt)).getD 0

/-- The committed value of a setting: the store over the defaults (R9). -/
def setGet (s : SMap Int) (bay group pid : Nat) : Int := SMap.getD s (setKey bay group pid) (setDflt bay pid)

/-- A setting written to the store, the entry left out at its default. -/
def setPut (s : SMap Int) (bay group pid : Nat) (v : Int) : SMap Int :=
  SMap.putD s (setDflt bay pid) (setKey bay group pid) v

/-! What a bay's slot map and features allow (R154, R171). `src c` tells that slot c (IA, IB, IC, IN, VA, VB, VC, VN) has
a source. `cfg code stage idx` is the value to be in effect. -/

/-- Slots of a bay. -/
def slotIA : Nat := 0
def slotIN : Nat := 3
def slotVA : Nat := 4
def slotVN : Nat := 7

/-- All three phase currents have a source. -/
def hasI3 (src : Nat → Bool) : Bool := src 0 && src 1 && src 2

/-- All three phase voltages have a source ("phase voltages present"). -/
def hasV3 (src : Nat → Bool) : Bool := src 4 && src 5 && src 6

/-- 3V0 by V0_SRC exists: measured needs VN, calculated needs three phase-earth voltages (R169). -/
def hasV0 (src : Nat → Bool) (vtConn sel : Int) : Bool := if sel = 0 then src 7 else hasV3 src && vtConn = 0

/-- 3I0 by SRC exists (R169). -/
def hasI0 (src : Nat → Bool) (sel : Int) : Bool := if sel = 0 then src 3 else hasI3 src

/-- Enabled under R171: EN, or INR_EN or CLP_EN, or a MODE other than off. -/
def stageEnabled (cfg : Nat → Nat → Nat → Int) (code stage : Nat) : Bool :=
  if code = 0x31 then cfg code 0 0 = 1 || cfg code 0 6 = 1
  else if code = 0x24 ∨ code = 0x33 ∨ code = 0x55 then cfg code stage 0 != 0
  else if code = 0x34 ∨ code = 0x50 ∨ code = 0x56 ∨ code = 0 then false
  else if code = 0x51 ∧ stage = 5 then false
  else cfg code stage 0 = 1

/-- The quantities an enabled stage names exist (R154 condition and R171). -/
def quantExists (src : Nat → Bool) (cfg : Nat → Nat → Nat → Int) (code stage : Nat) : Bool :=
  let vt := cfg 0 0 6
  match code with
  | 0x10 => src 0 || src 1 || src 2
  | 0x11 => hasI0 src (cfg code stage 14)
  | 0x12 => (src 0 || src 1 || src 2) && hasV3 src
  | 0x13 => hasI0 src (cfg code stage 10) && hasV0 src vt (cfg code stage 11)
  | 0x14 => hasI0 src (cfg code stage 7) && hasV0 src vt (cfg code stage 8)
  | 0x15 => hasI3 src
  | 0x20 => hasV3 src && (cfg code stage 2 = 0 || vt = 0)
  | 0x21 => hasV3 src && (cfg code stage 2 = 0 || vt = 0)
  | 0x22 => hasV0 src vt (cfg code stage 2)
  | 0x23 => hasV3 src && vt = 0
  | 0x24 => hasV3 src
  | 0x30 => src 0 || src 1 || src 2
  | 0x31 => cfg code 0 0 = 0 || src 0 || src 1 || src 2 || src 3
  | 0x32 => cfg code 0 1 = 1 || ((src 0 || src 1 || src 2) && (cfg code 0 3 = 0 || hasI3 src))
  | 0x40 => hasI3 src
  | 0x41 => src 0 || src 1 || src 2
  | 0x42 => src 0 || src 1 || src 2
  | 0x44 => src 0 || src 1 || src 2
  | 0x45 => hasI3 src
  | 0x46 => src 0 || src 1 || src 2
  | 0x47 => hasV3 src && hasI3 src
  | _ => true

/-- Elements of a bay and of the zone, in PID order. -/
def bayElems : List Nat :=
  [0x10, 0x11, 0x12, 0x13, 0x14, 0x15, 0x20, 0x21, 0x22, 0x23, 0x24, 0x30, 0x31, 0x32, 0x33,
   0x40, 0x41, 0x42, 0x43, 0x44, 0x45, 0x46, 0x47]

def zoneElems : List Nat := [0x51, 0x52, 0x53, 0x54, 0x55]

/-- Every stage of the listed elements. -/
def stagesOf (l : List Nat) : List (Nat × Nat) := l.flatMap (fun c => (List.range (elemStages c)).map (fun st => (c, st)))

/-- R178: combinations of overcurrent settings that no stage may hold, enabled or not: the index of the first setting at fault
(T_MIN, RESET, MEAS). -/
def tocBad (cfg : Nat → Nat → Nat → Int) (code stage : Nat) : Option Nat :=
  let curve := cfg code stage 2
  let meas := cfg code stage 9
  if cfg code stage 5 ≠ 0 ∧ curve = 0 then some 5
  else if cfg code stage 7 = 2 ∧ (curve = 0 ∨ curve = 8 ∨ curve = 9) then some 7
  else if (meas = 2 ∧ curve ≠ 0) ∨ (meas = 1 ∧ code ≠ 0x10) ∨ (meas ≠ 0 ∧ code = 0x15) then some 9
  else none

/-- R188: points 0 to NPTS - 1 strictly rising in M and not rising in t. -/
def curveBad (cfg : Nat → Nat → Nat → Int) : Bool :=
  let n := (cfg 0x34 2 0).toNat
  (List.range (n - 1)).any (fun i =>
    decide (cfg 0x34 0 (i + 1) ≤ cfg 0x34 0 i) || decide (cfg 0x34 1 i < cfg 0x34 1 (i + 1)))

/-- The checks of one bay's group with the values to be committed (R154, R171, R178, R188, R220, R241, R246): the status of the
first failing stage in PID order, with its PID. 0x31 is NOT_FEATURE and 0x22 BAD_PARAM of R669's table, given by the
caller. -/
def groupBad (nf bp : Nat) (featTef : Bool) (src : Nat → Bool) (cfg : Nat → Nat → Nat → Int) : Option (Nat × Nat) :=
  let motor := decide (cfg 0 0 0 = 1)
  (stagesOf bayElems).findSome? (fun p =>
    let c := p.1
    let st := p.2
    let en := stageEnabled cfg c st
    let toc := decide (c = 0x10 ∨ c = 0x11 ∨ c = 0x12 ∨ c = 0x15)
    if c = 0x14 && en && !featTef then some (nf, pidOf c st 0)
    else if decide (c ≥ 0x40) && en && !motor then some (bp, pidOf c st 0)
    else if decide (c ≠ 0x11) && en && !quantExists src cfg c st then some (bp, pidOf c st 0)
    else if toc && decide (cfg c st 2 = 9) && curveBad cfg then some (bp, pidOf c st 2)
    else if toc && (tocBad cfg c st).isSome then some (bp, pidOf c st ((tocBad cfg c st).getD 0))
    else if decide (c = 0x11) && en && !quantExists src cfg c st then some (bp, pidOf c st 14)
    else if decide (c = 0x33) && decide (cfg c 0 0 = 1) && decide (3 < cfg c 0 1) then some (bp, pidOf c 0 1)
    else if decide (c = 0x40) && (decide (cfg c 0 7 - cfg c 0 8 < 10) || decide (cfg c 0 6 > cfg c 0 7)) then
      some (bp, pidOf c 0 7)
    else if decide (c = 0x42) && decide (cfg c 0 1 = 1) && decide (cfg 0x41 0 7 = 0) then some (bp, pidOf c 0 1)
    else none)

/-- R274: a coupler whose sections are not both set and different, or another bay with both set and equal. -/
def topoBad (bayType : Nat → Int) (zcfg : Nat → Nat → Nat → Int) : List Nat :=
  numsWhere 32 (fun b =>
    let s1 := zcfg 0x50 0 b
    let s2 := zcfg 0x50 1 b
    if bayType b = 3 then s1 = 8 || s2 = 8 || s1 = s2 else s1 != 8 && s2 != 8 && s1 = s2)

/-- A 32-bit mask setting as bits. -/
def maskOf (v : Int) : Nat := toBits 32 v

/-- The checks of a zone commit (R154, R272, R283, R303, R309). -/
def zoneBad (nf bp : Nat) (feat87 featArc : Bool) (notLocal hasVolt : Nat → Bool) (zcfg : Nat → Nat → Nat → Int) :
    Option (Nat × Nat) :=
  let en (c st : Nat) : Bool := stageEnabled zcfg c st
  let r1 := (stagesOf [0x51]).findSome? (fun p =>
    if en 0x51 p.2 && !feat87 then some (nf, pidOf 0x51 p.2 0)
    else if decide (p.2 < 4) && en 0x51 p.2 && (List.range p.2).any (fun z =>
      en 0x51 z && (maskOf (zcfg 0x51 z 1) &&& maskOf (zcfg 0x51 p.2 1)) != 0) then some (bp, pidOf 0x51 p.2 1)
    else none)
  let r2 := (stagesOf [0x54]).findSome? (fun p =>
    if en 0x54 p.2 && !featArc then some (nf, pidOf 0x54 p.2 0)
    else if (List.range 32).any (fun b => (maskOf (zcfg 0x54 p.2 3)).testBit b && notLocal b) then
      some (bp, pidOf 0x54 p.2 3)
    else none)
  let r3 := (stagesOf [0x56]).findSome? (fun p => (List.range 8).findSome? (fun s =>
    let b := zcfg 0x56 p.2 s
    if b = 32 ∨ hasVolt b.toNat then none else some (bp, pidOf 0x56 p.2 s)))
  match r1 with
  | some x => some x
  | none => match r2 with
    | some x => some x
    | none => r3

end Sys2Proof.Machine
end

