-- ==== Sys2Proof/Machine/Measure.lean ====
section
/-! DEFINITION. Measurement of a bay frame (04 R156, R157, R162 to R173): windows, phasors, sequence and calculated
quantities with their validity, sources and quality, frequency tracking. Angles are in turns. Log entry 11 names the
readings taken. -/

namespace Sys2Proof.Machine

/-- Frames per second (R51). -/
def frameRate : Rat := 14400

/-- Quality bits (R136). -/
def qValid : Nat := 0x001
def qSettle : Nat := 0x002
def qStale : Nat := 0x004
def qInterp : Nat := 0x008
def qTimeq : Nat := 0x010
def qTest : Nat := 0x020
def qSubst : Nat := 0x040
def qLate : Nat := 0x080
def qOvr : Nat := 0x100

/-- Whether a quality word has a bit. -/
def hasQ (q b : Nat) : Bool := (q &&& b) != 0

/-- Usable under R141. -/
def usable (q : Nat) (test : Bool) : Bool := hasQ q qValid && (!hasQ q qTest || test)

/-- The source that a quality word names: 0 for every local port, 1 + s for subscription s (R136, R172). -/
def srcOf (q : Nat) : Nat := if q.testBit 23 then 1 + (q >>> 16) % 64 else 0

/-- A quantity: its value when valid, the sources combined, and the union of quality bits (R142). -/
structure Qy (α : Type) where
  v : Option α
  srcs : List Nat
  q : Nat
  deriving Repr

namespace Qy
def none {α : Type} : Qy α := ⟨.none, [], 0⟩
def map {α β : Type} (f : α → β) (x : Qy α) : Qy β := ⟨x.v.map f, x.srcs, x.q⟩
def map2 {α β γ : Type} (f : α → β → γ) (x : Qy α) (y : Qy β) : Qy γ :=
  ⟨x.v.bind (fun a => y.v.map (f a)), x.srcs ++ y.srcs.filter (fun s => !x.srcs.contains s), x.q ||| y.q⟩
/-- Combines several sources and carries Q_TIMEQ (R173). -/
def tq {α : Type} (x : Qy α) : Bool := decide (x.srcs.length > 1) && hasQ x.q qTimeq
/-- Invalid for an element without a TIMEQ setting when R173 says so. -/
def strict {α : Type} (x : Qy α) : Qy α := if x.tq then ⟨.none, x.srcs, x.q⟩ else x
end Qy

/-- The window of W samples of a slot, newest first, with the weight of each: the oldest counts by the fraction. -/
def windowOf (h : List HSmp) (W : Rat) : List (HSmp × Rat) :=
  let n := W.floor.toNat
  let fr := W - (n : Rat)
  (h.take n).map (fun x => (x, (1 : Rat))) ++ (if fr = 0 then [] else ((h.drop n).take 1).map (fun x => (x, fr)))

/-- Number of samples a window reaches back. -/
def windowLen (W : Rat) : Nat := (ratCeil W).toNat

/-- Valid when every sample of the window is there and usable (R163). -/
def windowOk (h : List HSmp) (W : Rat) : Bool :=
  let n := windowLen W
  decide (n ≤ h.length) && (h.take n).all (·.ok)

/-- Union of quality bits over a window. -/
def windowQ (h : List HSmp) (W : Rat) : Nat :=
  (h.take (windowLen W)).foldl (fun a x => a ||| (x.q &&& (qInterp ||| qSubst ||| qTimeq ||| qTest ||| qOvr))) 0

/-- A quantity of one slot over a window. -/
def slotQy {α : Type} (h : List HSmp) (W : Rat) (f : List (HSmp × Rat) → α) : Qy α :=
  match h with
  | [] => Qy.none
  | x :: _ => ⟨if windowOk h W then some (f (windowOf h W)) else none, [srcOf x.q], windowQ h W⟩

/-- Harmonic phasor (rms scale) over a window of W samples at ftr: the recursive DFT of R162 as its closed sum. -/
def dftOf (ftr W : Rat) (harm : Nat) (w : List (HSmp × Rat)) : Cx :=
  let sum := (w.zipIdx).foldl (fun (a : Cx) p =>
    let th : Rat := (harm : Rat) * ftr * (p.2 : Rat) / frameRate
    a.add ⟨p.1.1.v * p.1.2 * Config.cosTurn th, p.1.1.v * p.1.2 * Config.sinTurn th⟩) Cx.zero
  Cx.scale (sqrt2 / W) sum

/-- Mean square over a window: its root is the true RMS (R162). -/
def msOf (W : Rat) (w : List (HSmp × Rat)) : Rat := w.foldl (fun a p => a + p.1.v * p.1.v * p.2) 0 / W

/-- Quantities of the eight slots in a frame (R162). -/
structure SlotMeas where
  fund : List (Qy Cx)
  half : List (Qy Cx)
  h2 : List (Qy Cx)
  ms : List (Qy Rat)

/-- True RMS of a slot. -/
def SlotMeas.rms (m : SlotMeas) (c : Nat) : Qy Rat := (m.ms.getD c Qy.none).map Config.sqrtQ

/-- Measures all slots at ftr. -/
def measSlots (hist : List (List HSmp)) (ftr : Rat) : SlotMeas :=
  let N := frameRate / ftr
  { fund := hist.map (fun h => slotQy h N (dftOf ftr N 1)),
    half := hist.map (fun h => slotQy h (N / 2) (dftOf ftr (N / 2) 1)),
    h2 := hist.map (fun h => slotQy h N (dftOf ftr N 2)),
    ms := hist.map (fun h => slotQy h N (msOf N)) }

/-- A slot's entry of a list of quantities. -/
def qAt {α : Type} (l : List (Qy α)) (c : Nat) : Qy α := l.getD c Qy.none

/-- Sum and sequence of three phasors: (x + k·y + k²·z) / 3 with k given. -/
def seqOf (k : Cx) (x y z : Qy Cx) : Qy Cx :=
  Qy.map2 (fun p c => Cx.scale (1 / 3) (p.add ((k.mul k).mul c))) (Qy.map2 (fun a b => a.add (k.mul b)) x y) z

def cxOne : Cx := ⟨1, 0⟩

/-- Positive (`pos` true) or negative sequence of currents or phase-earth voltages (R168). -/
def seq12 (acb pos : Bool) (x y z : Qy Cx) : Qy Cx :=
  let k := if pos then cxA else cxA2
  if acb then seqOf k x z y else seqOf k x y z

/-- Factor from phase-to-phase to phase-earth sequence voltages: 1 / (√3∠±30°). -/
def lineToPhase (up : Bool) : Cx :=
  let y := 1 / (2 * sqrt3)
  ⟨1 / 2, if up then -y else y⟩

/-- V1 or V2 (R168) under either VT_CONN. -/
def seqV (vt1 acb pos : Bool) (x y z : Qy Cx) : Qy Cx :=
  let s := seq12 acb pos x y z
  if vt1 then s.map (fun v => v.mul (lineToPhase (pos != acb))) else s

/-- Mean rotation rate in Hz over the last two cycles at ftr, while every phasor of them is at least `minMag` (R165,
R166). The list is newest first. -/
def rateOf (l : List (Option Cx)) (ftr minMag : Rat) : Option Rat :=
  let W := (ratCeil (2 * frameRate / ftr)).toNat
  let xs := l.take (W + 1)
  if decide (xs.length = W + 1) && xs.all (fun o => match o with | some x => decide (minMag ≤ x.mag) | none => false) then
    let args := xs.map (fun o => (o.getD Cx.zero).arg)
    let turns := (args.zip (args.drop 1)).foldl (fun a p => a + wrapTurn (p.1 - p.2)) 0
    some (turns * frameRate / (W : Rat))
  else none

/-- df/dt over w cycles (R167): history of f newest first, each with its Q_TIMEQ mark. -/
def dfdtOf (l : List (Option (Rat × Bool))) (ftr : Rat) (w : Nat) : Option (Rat × Bool) :=
  let K := (ratRound ((w : Rat) * frameRate / ftr)).toNat
  match l.getD 0 none, l.getD K none with
  | some a, some b => if K = 0 then none else some ((a.1 - b.1) * frameRate / (K : Rat), a.2 || b.2)
  | _, _ => none

/-- A marked value for an element without a TIMEQ setting (R173). -/
def unmarked (o : Option (Rat × Bool)) : Option Rat := o.bind (fun p => if p.2 then none else some p.1)

/-- What a signal reference reads (R156, R385, R540): kind 1 inputs and readbacks, 2 station points, 3 GOOSE points, 4
the bay's own block flag. A point that is not valid, not binary, or under test outside a TEST bay reads OFF (R540,
R556). -/
def sigRef (img : SigImg) (v : Int) : Bool :=
  let w := v.toNat
  let i := w % 4096
  match w / 4096 with
  | 1 => if i < 32 then img.filt.testBit i && img.valid.testBit i else img.rb.testBit (i - 32)
  | 2 => match SMap.get? img.pts i with
    | some p => p.valid && p.bin && p.val != 0
    | none => false
  | 3 => match SMap.get? img.goose i with
    | some p => p.valid && p.val && (!p.test || img.test)
    | none => false
  | 4 => img.bf.testBit i
  | _ => false

/-- Whether a reference names something. -/
def refSet (v : Int) : Bool := decide (v.toNat / 4096 ≠ 0)

/-- Two-contact position with the codes of BAYn_CB.POS: 0 intermediate, 1 open, 2 closed, 3 bad (R157). -/
def contactPos (img : SigImg) (a b : Int) : Nat :=
  let ca := sigRef img a
  let cb := sigRef img b
  match refSet a, refSet b with
  | true, true => if ca then (if cb then 3 else 2) else (if cb then 1 else 0)
  | true, false => if ca then 2 else 1
  | false, true => if cb then 1 else 2
  | false, false => 0

end Sys2Proof.Machine
end

