-- ==== Sys2Proof/Machine/Elements.lean ====
section
/-! DEFINITION. The protection elements of a bay (04 R174 to R221): one function per element over the quantities of the
frame, each giving the stage's new state. Log entries 11 and 12 name the readings taken. -/

namespace Sys2Proof.Machine

/-- 1.000 of the operate fraction, in units of 2^-48 (R185). -/
def gOne : Nat := 2 ^ 48

/-- g raised by Δt / t, rounded up to 2^-48, set to 1 from 1 - 2^-32 on; t = 0 gives 1 (R184, R185). -/
def gUp (g : Nat) (t : Rat) : Nat :=
  if t ≤ 0 then gOne
  else
    let g' := g + (ratCeil ((2 ^ 48 : Nat) / (frameRate * t))).toNat
    if g' ≥ gOne - 2 ^ 16 then gOne else g'

/-- g lowered by Δt / t, the decrement rounded toward zero, not below 0 (R184, R185). -/
def gDown (g : Nat) (t : Rat) : Nat := if t ≤ 0 then 0 else g - ((2 ^ 48 : Nat) / (frameRate * t)).floor.toNat

/-- A rational rounded to binary64 (R185). -/
def f64 (q : Rat) : Rat :=
  if q = 0 then 0
  else
    let a := ratAbs q
    let e := ratLog2 a
    let m := (ratRound (a * pow2 (52 - e)) : Rat) * pow2 (e - 52)
    if q < 0 then -m else m

/-- A count of steps as a number: v / d. -/
def per (v : Int) (d : Nat) : Rat := (v : Rat) / (d : Rat)

/-- Constants of the inverse curves 1 to 7 (R183): A, B, p as a ratio, tr. -/
def curveConst : Int → Rat × Rat × Rat × Rat
  | 1 => (14 / 100, 0, 2 / 100, 135 / 10)
  | 2 => (135 / 10, 0, 1, 473 / 10)
  | 3 => (80, 0, 2, 80)
  | 4 => (120, 0, 1, 120)
  | 5 => (515 / 10000, 1140 / 10000, 2 / 100, 485 / 100)
  | 6 => (1961 / 100, 491 / 1000, 2, 216 / 10)
  | _ => (282 / 10, 1217 / 10000, 2, 291 / 10)

/-- M to the power p of a curve. -/
def powM (m p : Rat) : Rat := if p = 1 then m else if p = 2 then m * m else Config.powQ m p

/-- t of the user curve at M, none below M_0 (R187). -/
def userT (cfg : Nat → Nat → Nat → Int) (k m : Rat) : Option Rat :=
  let n := (cfg 0x34 2 0).toNat
  let M (i : Nat) : Rat := per (cfg 0x34 0 i) 100
  let T (i : Nat) : Rat := per (cfg 0x34 1 i) 1000
  if m < M 0 then none
  else if M (n - 1) ≤ m then some (T (n - 1) * k)
  else
    match (List.range (n - 1)).find? (fun i => decide (M i ≤ m ∧ m < M (i + 1))) with
    | none => none
    | some i =>
      if m = M i then some (T i * k)
      else
        let x := (Config.lnQ m - Config.lnQ (M i)) / (Config.lnQ (M (i + 1)) - Config.lnQ (M i))
        some (k * Config.expQ (Config.lnQ (T i) + x * (Config.lnQ (T (i + 1)) - Config.lnQ (T i))))

/-- Operate time at M, none where the increment is 0 (R183, R185, R187). -/
def curveT (cfg : Nat → Nat → Nat → Int) (curve : Int) (k m : Rat) : Option Rat :=
  if m ≤ 1 then none
  else if curve = 9 then (userT cfg k m).map f64
  else if curve = 8 then some (f64 (k / (339 / 1000 - 236 / 1000 / m)))
  else
    let (a, b, p, _) := curveConst curve
    some (f64 (k * (a / (powM m p - 1) + b)))

/-- The pseudocode of R184 with multiple m. `forced` is the fast start of R179. -/
def tocStep (cfg : Nat → Nat → Nat → Int) (code stage : Nat) (st : El) (m : Rat) (forced : Bool) : El :=
  let s := cfg code stage
  let curve := s 2
  let k := per (s 3) 1000
  if 1 ≤ m ∨ forced then
    let g :=
      if curve = 0 then gUp st.g (per (s 4) 1000)
      else match curveT cfg curve k (ratMin m (per (s 6) 10)) with
        | none => st.g
        | some t => gUp st.g (ratMax t (per (s 5) 1000))
    { st with start := true, r := 0, g := g, oper := decide (g = gOne) }
  else if 95 / 100 ≤ m ∧ st.start then { st with oper := decide (st.g = gOne) }
  else
    let st := { st with start := false, oper := false }
    if s 7 = 0 then { st with g := 0 }
    else if s 7 = 1 then
      if per (s 8) 1000 * frameRate ≤ ((st.r + 1 : Nat) : Rat) then { st with g := 0, r := 0 } else { st with r := st.r + 1 }
    else
      let (_, _, _, tr) := curveConst curve
      { st with g := gDown st.g (f64 (k * tr / (1 - m * m))) }

/-- A definite-time stage: start, T_DEF, and the definite-reset rule of R184 with T_RESET. -/
def defStep (st : El) (start : Bool) (tDef tReset : Rat) : El :=
  if start then
    let g := gUp st.g tDef
    { st with start := true, r := 0, g := g, oper := decide (g = gOne) }
  else
    let st := { st with start := false, oper := false }
    if tReset * frameRate ≤ ((st.r + 1 : Nat) : Rat) then { st with g := 0, r := 0 } else { st with r := st.r + 1 }

/-- A stage's timer by counted frames: operates once T of start has been counted (motor elements, R260). -/
def cntStep (st : El) (start : Bool) (t : Rat) : El :=
  if start then
    { st with start := true, cnt := st.cnt + 1, oper := decide (t * frameRate ≤ ((st.cnt + 1 : Nat) : Rat)) }
  else { st with start := false, cnt := 0, oper := false }

/-- A stage's frame: disabled it is cleared (R229), blocked it is cleared with its timer at 0 (R176), with an invalid
quantity it keeps its state and shows nothing (R175), else it is evaluated. -/
def runStage (en blocked valid : Bool) (st : El) (f : Unit → El) : El × Bool × Bool :=
  if !en then (El.init, false, false)
  else if blocked then ({ El.init with mem := st.mem, arm := st.arm }, false, false)
  else if !valid then (st, false, false)
  else
    let st' := f ()
    (st', st'.start, st'.oper)

/-- The quantities and settings one bay frame is computed from. -/
structure Ctx where
  cfg : Nat → Nat → Nat → Int
  img : SigImg
  src : Nat → Bool
  hist : List (List HSmp)
  m : SlotMeas
  inR : Rat
  inE : Rat
  vn : Rat
  vt1 : Bool
  acb : Bool
  ftr : Rat
  pos : Nat
  eff : Bool
  i0c : Qy Cx
  i0h : Qy Cx
  i0h2 : Qy Cx
  v0c : Qy Cx
  i1 : Qy Cx
  i2 : Qy Cx
  v1 : Qy Cx
  v2 : Qy Cx
  f : Option Rat
  fHist : List (Option (Rat × Bool))
  v1Hist : List (Option Cx)
  clp : Bool
  inrBlk : List Bool
  trans : List (Nat × Option Bool)

namespace Ctx

/-- BLK_SEL: 0 none, 1 to 32 a block flag of the bay. -/
def blk (c : Ctx) (v : Int) : Bool := decide (v > 0) && c.img.bf.testBit (v.toNat - 1)

/-- Phase slots that have a source. -/
def phases (c : Ctx) : List Nat := [0, 1, 2].filter c.src

/-- Vn / √3. -/
def vph (c : Ctx) : Rat := c.vn / sqrt3

/-- Newest sample of a slot. -/
def smp (c : Ctx) (slot k : Nat) : Option Rat :=
  match (c.hist.getD slot []).getD k { v := 0, ok := false, q := 0 } with
  | x => if x.ok then some x.v else none

/-- A sample k frames back of the measured IN (0) or of the sum of the phase currents (1). -/
def i0smp (c : Ctx) (sel : Int) (k : Nat) : Option Rat :=
  if sel = 0 then c.smp 3 k
  else match c.smp 0 k, c.smp 1 k, c.smp 2 k with
    | some x, some y, some z => some (x + y + z)
    | _, _, _ => none

/-- A sample k frames back of 3V0: VN slot (0) or the sum of the phase-earth voltages (1) (R169). -/
def v0smp (c : Ctx) (sel : Int) (k : Nat) : Option Rat :=
  if sel = 0 then c.smp 7 k
  else match c.smp 4 k, c.smp 5 k, c.smp 6 k with
    | some x, some y, some z => some (x + y + z)
    | _, _, _ => none

/-- 3I0 by SRC, and its rated value. -/
def i0 (c : Ctx) (sel : Int) : Qy Cx := if sel = 0 then qAt c.m.fund 3 else c.i0c
def i0rated (c : Ctx) (sel : Int) : Rat := if sel = 0 then c.inE else c.inR

/-- 3V0 by V0_SRC. -/
def v0 (c : Ctx) (sel : Int) : Qy Cx := if sel = 0 then qAt c.m.fund 7 else c.v0c

/-- V0 relative: |3V0| / 3 over Vn / √3 (R170). -/
def v0rel (c : Ctx) (x : Cx) : Rat := x.mag / 3 / c.vph

/-- Phases that block under inrush for a stage with INRUSH_BLK (R213): the phases of `ph` left under CROSS 0. -/
def inrPhases (c : Ctx) (blkSet : Bool) (ph : List Nat) : List Nat :=
  if !blkSet then ph
  else if c.cfg 0x31 0 2 = 1 then (if (c.inrBlk.take 3).any id then [] else ph)
  else ph.filter (fun x => !(c.inrBlk.getD x false))

/-- An earth or negative-sequence stage blocked by inrush (R213; log entry 12). -/
def inrEarth (c : Ctx) (slot : Nat) : Bool :=
  c.inrBlk.getD slot false || (decide (c.cfg 0x31 0 2 = 1) && (c.inrBlk.take 3).any id)

end Ctx

/-- Two newest samples of a slot both at or over a threshold (R179). -/
def fastStart (a b : Option Rat) (thr : Rat) : Bool :=
  match a, b with
  | some x, some y => decide (thr ≤ ratAbs x) && decide (thr ≤ ratAbs y)
  | _, _ => false

/-- PICKUP with cold load applied, and whether cold load blocks (R215). -/
def tocPickup (c : Ctx) (code stage : Nat) : Rat :=
  let s := c.cfg code stage
  let p := per (s 1) (if code = 0x11 then 1000 else 100)
  if s 11 = 1 ∧ c.clp then p * per (c.cfg 0x31 0 9) 100 else p

/-- Blocked by its flag or by cold load (R176, R215). -/
def tocBlk (c : Ctx) (code stage : Nat) : Bool :=
  c.blk (c.cfg code stage 12) || (decide (c.cfg code stage 11 = 2) && c.clp)

/-- Highest of a list of optional values, 0 for none. -/
def maxOf (l : List (Option Rat)) : Rat := l.foldl (fun a o => ratMax a (o.getD 0)) 0

/-- Phase overcurrent (0x10): R179 to R184 on the highest unblocked phase. -/
def evPhoc (c : Ctx) (st : El) (stage : Nat) : El × Bool × Bool :=
  let s := c.cfg 0x10 stage
  let val (x : Nat) : Option Rat :=
    if s 9 = 1 then (c.m.rms x).v
    else if s 9 = 2 then (qAt c.m.half x).v.map Cx.mag
    else (qAt c.m.fund x).v.map Cx.mag
  let ph := c.phases
  let left := c.inrPhases (decide (s 10 = 1)) ph
  let pk := tocPickup c 0x10 stage * c.inR
  runStage (decide (s 0 = 1)) (tocBlk c 0x10 stage || left.isEmpty) (ph.all (fun x => (val x).isSome)) st (fun _ =>
    tocStep c.cfg 0x10 stage st (maxOf (left.map val) / pk)
      (decide (s 9 = 2) && left.any (fun x => fastStart (c.smp x 0) (c.smp x 1) (2 * sqrt2 * pk))))

/-- Earth overcurrent (0x11): measured IN or calculated 3I0. -/
def evEfoc (c : Ctx) (st : El) (stage : Nat) : El × Bool × Bool :=
  let s := c.cfg 0x11 stage
  let sel := s 14
  let q := if s 9 = 2 then (if sel = 0 then qAt c.m.half 3 else c.i0h) else c.i0 sel
  let pk := tocPickup c 0x11 stage * c.i0rated sel
  let inr := decide (s 10 = 1) && c.inrEarth (if sel = 0 then 3 else 4)
  runStage (decide (s 0 = 1)) (tocBlk c 0x11 stage || inr) q.strict.v.isSome st (fun _ =>
    tocStep c.cfg 0x11 stage st ((q.v.getD Cx.zero).mag / pk)
      (decide (s 9 = 2) && fastStart (c.i0smp sel 0) (c.i0smp sel 1) (2 * sqrt2 * pk)))

/-- Negative-sequence overcurrent (0x15). -/
def evNsoc (c : Ctx) (st : El) (stage : Nat) : El × Bool × Bool :=
  let s := c.cfg 0x15 stage
  let inr := decide (s 10 = 1) && (c.inrBlk.take 3).any id
  runStage (decide (s 0 = 1)) (tocBlk c 0x15 stage || inr) c.i2.strict.v.isSome st (fun _ =>
    tocStep c.cfg 0x15 stage st ((c.i2.v.getD Cx.zero).mag / (tocPickup c 0x15 stage * c.inR)) false)

/-- A phasor turned by an angle in turns. -/
def Cx.turn (a : Cx) (t : Rat) : Cx := a.mul ⟨Config.cosTurn t, Config.sinTurn t⟩

/-- Polarising voltage of phase x, rotated by +90° (R189): VBC, VCA, VAB, with B and C exchanged under ACB. -/
def polV (c : Ctx) (x : Nat) : Qy Cx :=
  let j : Cx := ⟨0, 1⟩
  let y := (x + 1) % 3
  let z := (x + 2) % 3
  let d :=
    if c.vt1 then
      -- slots VAB, VBC, VCA; VBC stands in slot VB, VCA in VC, VAB in VA
      qAt c.m.fund (4 + y)
    else Qy.map2 Cx.sub (qAt c.m.fund (4 + y)) (qAt c.m.fund (4 + z))
  (if c.acb then d.map (Cx.scale (-1)) else d).map (fun v => v.mul j)

/-- Stored polarising voltage of phase x: V1 turned to the phase (R190). -/
def memV (c : Ctx) (v1 : Cx) (x : Nat) : Cx :=
  let k := if x = 0 then cxOne else if (x = 1) != c.acb then cxA2 else cxA
  v1.mul k

/-- Direction of an angle difference in turns with RCA and SECTOR in degrees: some true forward, some false reverse
(R189). -/
def dirOf (phi : Rat) (rca sector : Int) : Option Bool :=
  let r := per rca 360
  let s := per sector 360
  if ratAbs (wrapTurn (phi + r)) ≤ s then some true
  else if ratAbs (wrapTurn (phi + r - 1 / 2)) ≤ s then some false
  else none

/-- Directional phase overcurrent (0x12): R189 to R192. `mem` holds the stored V1, `arm` the frames since V1 fell; both are followed whether
the stage is enabled or not (R190). -/
def evDpoc (c : Ctx) (st : El) (stage : Nat) : El × Bool × Bool :=
  let s := c.cfg 0x12 stage
  let vmin := per (s 19) 100
  let v1low := match c.v1.v with
    | some v => decide (v.mag / c.vph < vmin)
    | none => st.mem.isSome || decide (0 < st.arm)
  -- the phasor from two cycles before V1 fell, turned at f_tr each frame, kept 0.5 s
  let mem' : Option Cx × Nat :=
    if !v1low then (none, 0)
    else match st.mem with
      | some v => if st.arm < 7200 then (some (v.turn (c.ftr / frameRate)), st.arm + 1) else (none, 7200)
      | none =>
        if st.arm > 0 then (none, st.arm)
        else
          let w := (ratRound (2 * frameRate / c.ftr)).toNat
          ((c.v1Hist.getD w none).map (fun v => v.turn (c.ftr * (w : Rat) / frameRate)), 1)
  let val (x : Nat) : Option Rat :=
    if s 9 = 2 then (qAt c.m.half x).v.map Cx.mag else (qAt c.m.fund x).v.map Cx.mag
  let ph := c.phases
  let pol (x : Nat) : Qy Cx := polV c x
  let comb (x : Nat) : Qy (Rat × Option Cx) :=
    Qy.map2 (fun i v =>
      let rel := v.mag / c.vn
      let p : Option Cx := if rel < vmin then (mem'.1.map (fun m => memV c m x)) else some v
      (i.arg, p)) (qAt c.m.fund x) (pol x)
  let tq := ph.any (fun x => (comb x).tq)
  let nondir := tq && decide (s 21 = 1)
  let dirOk (x : Nat) : Bool :=
    nondir || (match (comb x).v with
      | some (ia, some v) =>
        match dirOf (wrapTurn (ia - v.arg)) (s 17) (s 18) with
        | some fwd => fwd == decide (s 16 = 0)
        | none => decide (s 20 = 1)
      | some (_, none) => decide (s 20 = 1)
      | none => false)
  let left := c.inrPhases (decide (s 10 = 1)) ph
  let pk := tocPickup c 0x12 stage * c.inR
  let valid := ph.all (fun x => (val x).isSome && (nondir || (comb x).v.isSome))
  let st := { st with mem := mem'.1, arm := mem'.2 }
  let (el, start, oper) :=
    runStage (decide (s 0 = 1)) (tocBlk c 0x12 stage || left.isEmpty || (tq && decide (s 21 = 0))) valid st (fun _ =>
      let ok := left.filter dirOk
      let m := maxOf (ok.map val) / pk
      tocStep c.cfg 0x12 stage st m
        (decide (s 9 = 2) && ok.any (fun x => fastStart (c.smp x 0) (c.smp x 1) (2 * sqrt2 * pk))))
  ({ el with mem := st.mem, arm := st.arm }, start, oper)

/-- The direction condition of the directional earth fault (R194) for DIR. -/
def defDir (c : Ctx) (s : Nat → Int) (i0 v0 : Cx) : Bool :=
  let pk := per (s 2) 1000 * c.i0rated (s 10)
  let nv := Cx.scale (-1) v0
  let phi := wrapTurn (i0.arg - nv.arg)
  let fwd := decide (s 7 = 0)
  let mag := i0.mag
  decide (per (s 3) 100 ≤ c.v0rel v0) &&
  (if s 1 = 0 then
    decide (pk ≤ mag) &&
      decide (ratAbs (wrapTurn (phi + per (s 4) 360 - (if fwd then 0 else 1 / 2))) ≤ per (s 5) 360)
  else if s 1 = 1 then
    let p := mag * Config.cosTurn phi
    decide (pk ≤ (if fwd then p else -p))
  else if s 1 = 2 then
    let p := mag * Config.sinTurn phi
    decide (pk ≤ (if fwd then p else -p))
  else
    let g := if nv.sq = 0 then 0 else (i0.mul nv.conj).re / nv.sq
    decide (per (s 6) 100000 ≤ (if fwd then g else -g)) && decide (pk ≤ mag))

/-- Directional earth fault (0x13): R193 to R195. -/
def evDef (c : Ctx) (st : El) (stage : Nat) : El × Bool × Bool :=
  let s := c.cfg 0x13 stage
  let q := Qy.map2 (fun i v => (i, v)) (c.i0 (s 10)) (c.v0 (s 11))
  let nondir := q.tq && decide (s 13 = 1)
  let valid := if nondir then (c.i0 (s 10)).v.isSome else q.v.isSome
  runStage (decide (s 0 = 1)) (c.blk (s 12) || (q.tq && decide (s 13 = 0))) valid st (fun _ =>
    let start :=
      if nondir then decide (per (s 2) 1000 * c.i0rated (s 10) ≤ ((c.i0 (s 10)).v.getD Cx.zero).mag)
      else match q.v with
        | some (i, v) => defDir c s i v
        | none => false
    defStep st start (per (s 8) 1000) (per (s 9) 1000))

/-- The quantities of the intermittent earth fault are valid: the residual current, the residual voltage, and no Q_TIMEQ of the two
together when they come from several sources (R173, R175). -/
def iefOk (c : Ctx) : Bool :=
  let s := c.cfg 0x14 0
  let v := c.v0 (s 8)
  v.v.isSome && (c.i0smp (s 7) 0).isSome && !(Qy.map2 (fun _ y => y) (c.i0 (s 7)) v).tq

/-- Intermittent earth fault (0x14): R197, R198, from the transients counted by `newTrans`. -/
def evIef (c : Ctx) (st : El) : El × Bool × Bool :=
  let s := c.cfg 0x14 0
  let v := (c.v0 (s 8)).v
  runStage (decide (s 0 = 1)) (c.blk (s 9)) (iefOk c) st (fun _ =>
    let n := (c.trans.filter (fun t => t.2 == some (decide (s 6 = 0)))).length
    let start := decide (s 3 ≤ (n : Int)) && decide (per (s 2) 100 ≤ c.v0rel (v.getD Cx.zero))
    defStep st start (per (s 5) 100) 0)

/-- Transients after this frame (R197): ages in frames, direction once 29 samples have passed, none older than T_WIN. -/
def newTrans (c : Ctx) (old : List (Nat × Option Bool)) : List (Nat × Option Bool) :=
  let s := c.cfg 0x14 0
  if s 0 != 1 then []
  else if !iefOk c then old
  else match c.i0smp (s 7) 0 with
    | none => old
    | some x =>
      let aged := old.map (fun t => (t.1 + 1, t.2))
      let win := (per (s 4) 100 * frameRate).floor.toNat
      let kept := aged.filter (fun t => decide (t.1 ≤ win))
      let dirs := kept.map (fun t =>
        if t.1 = 28 then
          let sum := (List.range 29).foldl (fun (a : Option Rat) k =>
            match a, c.i0smp (s 7) k, c.v0smp (s 8) k, c.v0smp (s 8) (k + 1) with
            | some a, some i, some v, some w => some (a + i * (v - w))
            | _, _, _, _ => none) (some 0)
          match sum with
          | some y => (28, if y < 0 then some true else if 0 < y then some false else none)
          | none => t
        else t)
      let recent := aged.any (fun t => decide (t.1 < 144))
      if per (s 1) 100 * c.i0rated (s 7) ≤ ratAbs x ∧ !recent then (0, none) :: dirs else dirs

/-- Phase-phase (QUANT 0) or phase-earth voltages relative to their rated value (R170). -/
def voltRel (c : Ctx) (quant : Int) (x : Nat) : Qy Rat :=
  if c.vt1 then (qAt c.m.fund (4 + x)).map (fun v => v.mag / c.vn)
  else if quant = 1 then (qAt c.m.fund (4 + x)).map (fun v => v.mag / c.vph)
  else (Qy.map2 Cx.sub (qAt c.m.fund (4 + x)) (qAt c.m.fund (4 + (x + 1) % 3))).map (fun v => v.mag / c.vn)

/-- Undervoltage (0x20) and overvoltage (0x21): R199 to R201. The stage starts when the phases that LOGIC requires pass PICKUP, and stays
started while the phases that LOGIC requires have not passed the drop value (DEDUCED, log entry 12). -/
def evVolt (c : Ctx) (under : Bool) (st : El) (stage : Nat) : El × Bool × Bool :=
  let s := c.cfg (if under then 0x20 else 0x21) stage
  let p := per (s 1) 1000
  let vs := [0, 1, 2].map (fun x => (voltRel c (s 2) x).strict)
  let meas := [0, 1, 2].map (fun x => (voltRel c 1 x).v)
  let dead := under && meas.all (fun v => match v with | some y => decide (y < per (s 6) 100) | none => false)
  let cb := under && decide (s 7 = 1) && !c.eff
  runStage (decide (s 0 = 1)) (c.blk (s 8) || dead || cb) (vs.all (·.v.isSome)) st (fun _ =>
    let xs := vs.map (fun q => q.v.getD 0)
    let req (f : Rat → Bool) : Bool := if s 3 = 1 then xs.all f else xs.any f
    let start :=
      if under then req (fun v => decide (v < p)) || (st.start && req (fun v => decide (v ≤ 102 / 100 * p)))
      else req (fun v => decide (p ≤ v)) || (st.start && req (fun v => decide (98 / 100 * p ≤ v)))
    defStep st start (per (s 4) 1000) (per (s 5) 1000))

/-- A rising quantity with drop ratio 0.98 (R201, R202). -/
def evOver (c : Ctx) (st : El) (en blk : Int) (q : Qy Rat) (p tDef tReset : Rat) : El × Bool × Bool :=
  let q := q.strict
  runStage (decide (en = 1)) (c.blk blk) q.v.isSome st (fun _ =>
    let v := q.v.getD 0
    defStep st (decide (p ≤ v) || (st.start && decide (98 / 100 * p ≤ v))) tDef tReset)

/-- Residual overvoltage (0x22). -/
def evRov (c : Ctx) (st : El) (stage : Nat) : El × Bool × Bool :=
  let s := c.cfg 0x22 stage
  evOver c st (s 0) (s 5) ((c.v0 (s 2)).map c.v0rel) (per (s 1) 1000) (per (s 3) 1000) (per (s 4) 1000)

/-- Negative-sequence overvoltage (0x23). -/
def evNsov (c : Ctx) (st : El) : El × Bool × Bool :=
  let s := c.cfg 0x23 0
  evOver c st (s 0) (s 4) (c.v2.map (fun v => v.mag / c.vph)) (per (s 1) 1000) (per (s 2) 1000) (per (s 3) 1000)

/-- A frequency start with hysteresis (R204, R205): `mode` as element 0x24. -/
def freqStart (mode : Int) (was : Bool) (f df fp dp : Rat) : Bool :=
  let h : Rat := 2 / 100
  match mode with
  | 1 => decide (f ≤ fp) || (was && decide (f < fp + h))
  | 2 => decide (fp ≤ f) || (was && decide (fp - h < f))
  | m =>
    let d := if m = 3 then -df else if m = 4 then df else ratAbs df
    decide (dp ≤ d) || (was && decide (95 / 100 * dp ≤ d))

/-- Frequency stage (0x24): R203 to R206. A V1 under V_BLK blocks it, its timer at 0; with an invalid quantity it shows nothing and keeps its
state (R175). -/
def evFreq (c : Ctx) (st : El) (stage : Nat) : El × Bool × Bool :=
  let s := c.cfg 0x24 stage
  let isF := decide (s 0 ≤ 2)
  let df := unmarked (dfdtOf c.fHist c.ftr (s 3).toNat)
  let low := match c.v1.v with
    | some v => decide (v.mag / c.vph < per (s 5) 100)
    | none => false
  let valid := c.v1.strict.v.isSome && (if isF then c.f.isSome else df.isSome)
  runStage (decide (s 0 ≠ 0)) (c.blk (s 6) || low) valid st (fun _ =>
    defStep st (freqStart (s 0) st.start (c.f.getD 0) (df.getD 0) (per (s 1) 100) (per (s 2) 100)) (per (s 4) 1000) 0)

/-- Trip-circuit supervision (0x33): R220, R221. -/
def evTcs (c : Ctx) (st : El) : El × Bool × Bool :=
  let s := c.cfg 0x33 0
  let failed := if s 0 = 1 then c.img.openLoad.testBit (s 1).toNat else !sigRef c.img (s 1)
  runStage (decide (s 0 ≠ 0)) (decide (s 3 = 1) && decide (c.pos = 1)) true st (fun _ =>
    cntStep st failed (per (s 2) 10))

/-- Inrush frames per quantity (phases A to C, measured IN, 3I0) after this frame, which of them detect inrush and which block (R213,
R214). With an invalid quantity nothing is detected and the count is kept (R175). -/
def inrushStep (cfg : Nat → Nat → Nat → Int) (inR : Rat) (fund h2 : List (Qy Cx)) (old : List Nat) :
    List Nat × List Bool × List Bool :=
  let s := cfg 0x31 0
  let on := decide (s 0 = 1)
  let det (i : Nat) : Option Bool :=
    match (qAt fund i).strict.v, (qAt h2 i).strict.v with
    | some f, some h =>
      let fm := f.mag
      some (decide (per (s 3) 100 * inR ≤ fm) && decide (fm ≤ per (s 4) 10 * inR) && decide (per (s 1) 100 * fm ≤ h.mag))
    | _, _ => none
  let cnt : List Nat := (List.range 5).map (fun i => if !on then 0 else match det i with
    | some d => if d then old.getD i 0 + 1 else 0
    | none => old.getD i 0)
  let now : List Bool := (List.range 5).map (fun i => on && det i == some true)
  (cnt, now, (cnt.zip now).map (fun p => p.2 && decide (((p.1 : Nat) : Rat) ≤ per (s 5) 100 * frameRate)))

/-- Cold load after this frame: MON at which the breaker opened, MON at which cold load ends (R215); disabled it is cleared (R229). -/
def coldStep (cfg : Nat → Nat → Nat → Int) (mon : Time) (eff : Bool) (opened ends : Option Time) :
    Option Time × Option Time :=
  let s := cfg 0x31 0
  let ends := match ends with
    | some e => if s 6 ≠ 1 ∨ e ≤ mon then none else some e
    | none => none
  if !eff then (some (opened.getD mon), ends)
  else match opened with
    | none => (none, ends)
    | some o =>
      if s 6 = 1 ∧ (s 7).toNat * 1000000000 ≤ (mon - o).toNat then
        (none, some (mon + BitVec.ofNat 64 ((s 8).toNat * 100000000)))
      else (none, ends)

/-- Breaker failure (0x32): R217 to R219. Gives the new state with start and operate of retrip and backtrip. -/
def bfStep (c : Ctx) (demand : Bool) (b : Bf) : Bf × Bool × Bool × Bool × Bool :=
  let s := c.cfg 0x32 0
  let ext := sigRef c.img (c.cfg 0 0 10)
  let edge := decide (s 7 ≠ 0) && ext && b.extPrev == some false
  let own := decide (s 7 ≠ 2) && b.ownPend
  let base := { b with extPrev := some ext, ownPend := false }
  if s 0 != 1 then
    ({ base with started := false, own := false, ext := false, phAge := none, eAge := none, cnt := 0 },
     false, false, false, false)
  else
    let lim := 6 / 10 * frameRate / c.ftr
    let older (o : Option Nat) : Option Nat := o.map (· + 1)
    let hit := c.phases.any (fun x => match c.smp x 0 with
      | some v => decide (sqrt2 * (per (s 2) 100 * c.inR) ≤ ratAbs v)
      | none => false)
    let ehit := decide (s 3 ≠ 0) && (match c.i0smp 1 0 with
      | some v => decide (sqrt2 * (per (s 3) 100 * c.inR) ≤ ratAbs v)
      | none => false)
    -- the quantities of the current criterion: phases, and 3I0 where I_BF_E asks for it, which Q_TIMEQ of several sources makes invalid (R173)
    let valid := decide (s 1 = 1) || (c.phases.all (fun x => (c.smp x 0).isSome) && (decide (s 3 = 0) || !c.i0c.tq))
    let phAge := if hit then some 0 else older b.phAge
    let eAge := if ehit then some 0 else older b.eAge
    let within (o : Option Nat) : Bool := match o with
      | some a => decide ((a : Rat) ≤ lim)
      | none => false
    let cur := within phAge || within eAge
    let con := decide (c.pos = 2) || decide (c.pos = 0)
    let crit := if s 1 = 0 then cur else if s 1 = 1 then con else cur || con
    if !valid then ({ base with own := b.own || own, ext := b.ext || edge, started := b.started || own || edge },
      false, false, false, false)
    else
      let o := b.own || own
      let e := b.ext || edge
      let started := (b.started || own || edge) && crit && ((o && demand) || (e && ext))
      if !started then
        ({ base with started := false, own := false, ext := false, phAge := phAge, eAge := eAge, cnt := 0 },
         false, false, false, false)
      else
        let n := b.cnt + 1
        let done (t : Int) : Bool := decide (per t 1000 * frameRate ≤ (n : Rat))
        ({ base with started := true, own := o, ext := e, phAge := phAge, eAge := eAge, cnt := n },
         decide (s 4 = 1), decide (s 4 = 1) && done (s 5), true, done (s 6))

/-- One frame's new cable θ with current ratio squared x and time constant τ in seconds (R208), capped at 10. -/
def thetaStep (th x tau : Rat) : Rat :=
  let e := Config.expQ (-(1 / (frameRate * tau)))
  ratMin 10 (th * e + x * (1 - e))

end Sys2Proof.Machine
end

