-- ==== Sys2Proof/Machine/Motor.lean ====
section
/-! DEFINITION. The motor elements (05): motor state, thermal replica, starts, restart inhibit and the elements 0x40 to
0x47, one frame. -/

namespace Sys2Proof.Machine

/-- Ages brought up to MON (R251). -/
def Mot.age (m : Mot) (mon : Time) : Mot :=
  match m.last with
  | some t => { m with starts := m.starts.map (· + (mon - t).toNat), last := some mon }
  | none => { m with last := some mon }

/-- The clears of BAYn_MOT_CTRL, by bit: θ, start ages, counters (R268). -/
def Mot.clear (m : Mot) (k : Nat) : Mot :=
  let m := if k.testBit 0 then { m with theta := 0 } else m
  let m := if k.testBit 1 then { m with starts := [] } else m
  if k.testBit 2 then { m with runFrames := 0, nStarts := 0 } else m

/-- One start counted (R237, R251). -/
def Mot.count (m : Mot) : Mot := { m with starts := (0 :: m.starts).take 16, nStarts := m.nStarts + 1 }

/-- Starts younger than T_WIN (R251). -/
def Mot.inWin (m : Mot) (tWin : Int) : Nat := (m.starts.filter (fun a => decide (a < tWin.toNat * 1000000000))).length

/-- The basic current IB_A in amperes (R234). -/
def motIbA (cfg : Nat → Nat → Nat → Int) : Rat := per (cfg 0x40 0 1) 100 * ((cfg 0 0 1 : Int) : Rat)

/-- The state table of R237, for a valid I_max of `amps`. `eff` is the effective breaker state. -/
def motState (cfg : Nat → Nat → Nat → Int) (ftr : Rat) (eff : Bool) (amps : Rat) (m : Mot) : Mot :=
  let imax := amps / motIbA cfg
  let s := cfg 0x41 0
  let after (n : Nat) (t : Rat) : Bool := decide (t * frameRate ≤ ((n : Nat) : Rat))
  let low := decide (imax < per (s 1) 100)
  let m := { m with stopCnt := if low then m.stopCnt + 1 else 0,
                    detCnt := if low then 0 else m.detCnt + 1,
                    endCnt := if imax < per (s 5) 100 then m.endCnt + 1 else 0,
                    restored := false }
  let toRun (m : Mot) : Mot := { m with st := .running, runCnt := 0 }
  if !eff then { m with st := .stopped, detCnt := 0 }
  else match m.st with
    | .stopped =>
      if low then m
      else if per (s 3) 100 ≤ imax ∧ ((m.detCnt - 1 : Nat) : Rat) ≤ per (s 4) 100 * frameRate then
        { m.count with st := .starting, thetaAt := m.theta, durCnt := 0, supCnt := 0, peak := amps, endCnt := 0 }
      else if after m.detCnt (per (s 4) 100) then
        { toRun m.count with lastDur := 0, lastPeak := amps, lastRise := 0 }
      else m
    | .starting =>
      if after m.stopCnt (per (s 2) 100) then { m with st := .stopped, detCnt := 0 }
      else
        let m := { m with durCnt := m.durCnt + 1, supCnt := m.supCnt + 1, peak := ratMax m.peak amps }
        if frameRate / ftr ≤ ((m.endCnt : Nat) : Rat) then
          { toRun m with lastDur := m.durCnt, lastPeak := m.peak, lastRise := m.theta - m.thetaAt }
        else m
    | .running =>
      if after m.stopCnt (per (s 2) 100) then { m with st := .stopped, detCnt := 0 }
      else { m with runCnt := m.runCnt + 1 }

/-- The causes of the restart inhibit that hold (R252): thermal, count, between. -/
def motCauses (cfg : Nat → Nat → Nat → Int) (m : Mot) : Bool × Bool × Bool :=
  let s := cfg 0x40 0
  let r := cfg 0x43 0
  let n : Int := (m.inWin (r 3) : Int)
  if m.st != .stopped then (false, false, false)
  else
    (decide (s 9 = 1) && decide (per (s 7 - s 8) 100 < m.theta),
     decide (r 0 = 1) && (decide (r 1 ≤ n) || (decide (r 2 ≤ n) && decide (per (s 11) 100 ≤ m.theta))),
     decide (r 0 = 1) && (match m.starts with
       | a :: _ => decide (a < (r 4).toNat * 1000000000)
       | [] => false))

/-- Time until every present cause has ended, in seconds (R253). -/
def motRemain (cfg : Nat → Nat → Nat → Int) (m : Mot) : Rat :=
  let s := cfg 0x40 0
  let r := cfg 0x43 0
  let (th, cnt, btw) := motCauses cfg m
  let tauStop := per (s 3) 10 * 60 * per (s 4) 10
  let lim := per (s 7 - s 8) 100
  let tTh := if th then tauStop * Config.lnQ (m.theta / lim) else 0
  let goal := if per (s 11) 100 ≤ m.theta then min (r 1) (r 2) else r 1
  let left (age : Nat) (t : Int) : Rat := ((t.toNat * 1000000000 - age : Nat) : Rat) / 1000000000
  let tCnt := if cnt then left (m.starts.getD (goal.toNat - 1) 0) (r 3) else 0
  let tBtw := if btw then left (m.starts.getD 0 0) (r 4) else 0
  ratMax tTh (ratMax tCnt tBtw)

/-- The time constant of R242 by state, in seconds. -/
def motTau (cfg : Nat → Nat → Nat → Int) (st : MotSt) : Rat :=
  let s := cfg 0x40 0
  per (s 3) 10 * 60 * (if st = .stopped then per (s 4) 10 else 1)

/-- What the motor elements give in a frame. -/
structure MotOut where
  mot : Mot
  els : List (Nat × El)
  start : Nat
  oper : Nat
  meas : List (Nat × Word)
  stat : Word
  est : Bool
  inhibit : Bool
  emergEdge : Bool

/-- Bits of a list of signals that are on. -/
def sigBits (l : List (Nat × Bool)) : Nat := l.foldl (fun a p => if p.2 then a + 2 ^ p.1 else a) 0

/-- One frame of a motor bay (R235 to R259). `el` gives the stages' states, `p` the active power of R222. -/
def motStep (c : Ctx) (mon : Time) (el : Nat → Nat → El) (imax : Option Rat) (p : Option Rat) (m0 : Mot) : MotOut :=
  let cfg := c.cfg
  let ib := motIbA cfg
  let s40 := cfg 0x40 0
  let s41 := cfg 0x41 0
  let pu := imax.map (fun x => x / ib)
  let m := m0.age mon
  let m := match imax with
    | some x => motState cfg c.ftr c.eff x m
    | none => m
  let m := if m.st = .running then { m with runFrames := m.runFrames + 1 } else m
  -- thermal replica (R242, R244)
  let seq := (Qy.map2 (fun a b => (a, b)) c.i1 c.i2).strict
  let est := !seq.v.isSome
  let ieq2 := match seq.v with
    | some (a, b) => a.sq + per (s40 5) 10 * b.sq
    | none => m.ieq2
  let tau := motTau cfg m.st
  let kib := per (s40 2) 100 * ib
  let r := ieq2 / (kib * kib)
  let th := thetaStep m.theta r tau
  let trip := per (s40 7) 100
  let on49 := decide (s40 0 = 1) && !c.blk (s40 14)
  let oper49 := on49 && (decide (trip ≤ th) || (m.oper49 && decide (per (s40 7 - s40 8) 100 ≤ th)))
  let emerg := sigRef c.img (s40 13)
  let m := { m with theta := th, ieq2 := ieq2, oper49 := oper49, emergPrev := emerg }
  -- restart inhibit (R252, R254)
  let (cTh, cCnt, cBtw) := motCauses cfg m
  let inh := (cTh || cCnt || cBtw) && !emerg
  -- start supervision (R239), shown while I_max is valid (R175); a block sets its timer to 0 (R176)
  let on41 := decide (s41 0 = 1) && !c.blk (s41 8) && pu.isSome
  let m := if c.blk (s41 8) then { m with supCnt := 0 } else m
  let starting := decide (m.st = .starting)
  let sup := starting && decide (per (s41 6) 10 * frameRate ≤ ((m.supCnt : Nat) : Rat))
  -- locked rotor (R247)
  let s42 := cfg 0x42 0
  let lrStart := starting && (if s42 1 = 0 then (match pu with | some x => decide (per (s42 2) 100 ≤ x) | none => false)
    else !sigRef c.img (s41 7))
  let (e42, st42, op42) := runStage (decide (s42 0 = 1)) (c.blk (s42 4)) (decide (s42 1 = 1) || pu.isSome) (el 0x42 0)
    (fun _ => cntStep (el 0x42 0) lrStart (per (s42 3) 10))
  let armed (t : Rat) : Bool := decide (m.st = .running) && decide (t * frameRate ≤ ((m.runCnt : Nat) : Rat))
  -- jam (R249)
  let s46 := cfg 0x46 0
  let (e46, st46, op46) := runStage (decide (s46 0 = 1)) (c.blk (s46 4)) pu.isSome (el 0x46 0) (fun _ =>
    let x := pu.getD 0
    let pk := per (s46 1) 100
    cntStep (el 0x46 0) (armed (per (s46 3) 10) &&
      (decide (pk ≤ x) || ((el 0x46 0).start && decide (95 / 100 * pk ≤ x)))) (per (s46 2) 100))
  -- undercurrent (R256)
  let uc (st : Nat) : El × Bool × Bool :=
    let s := cfg 0x44 st
    let e := el 0x44 st
    runStage (decide (s 0 = 1)) (c.blk (s 4)) pu.isSome e (fun _ =>
      let x := pu.getD 0
      let pk := per (s 1) 100
      cntStep e (armed (per (s 3) 1) &&
        ((decide (per (s41 1) 100 ≤ x) && decide (x < pk)) || (e.start && decide (x < 105 / 100 * pk)))) (per (s 2) 10))
  let (e440, st440, op440) := uc 0
  let (e441, st441, op441) := uc 1
  -- load loss (R257)
  let s47 := cfg 0x47 0
  let pB := sqrt3 * c.vn * ib
  let (e47, st47, op47) := runStage (decide (s47 0 = 1)) (c.blk (s47 4)) p.isSome (el 0x47 0) (fun _ =>
    let x := p.getD 0
    let pk := per (s47 1) 100 * pB
    cntStep (el 0x47 0) (armed (per (s47 3) 1) &&
      (decide (x < pk) || ((el 0x47 0).start && decide (x < 105 / 100 * pk)))) (per (s47 2) 10))
  -- negative sequence (R259); its fraction is motor memory
  let s45 := cfg 0x45 0
  let i2 := c.i2.strict.v.map (fun x => x.mag / ib)
  let (e45, st45, op45) := runStage (decide (s45 0 = 1)) (c.blk (s45 5)) i2.isSome { el 0x45 0 with g := m.g45 } (fun _ =>
    let x := i2.getD 0
    let pk := per (s45 1) 100
    let e := { el 0x45 0 with g := m.g45 }
    let start := decide (pk ≤ x) || (e.start && decide (95 / 100 * pk ≤ x))
    let g :=
      if pk ≤ x then gUp e.g (ratMin (per (s45 3) 1) (per (s45 2) 10 / (x * x)))
      else if x < 95 / 100 * pk then gDown e.g (per (s45 4) 1)
      else e.g
    { e with start := start, g := g, oper := start && decide (g = gOne) })
  let m := { m with g45 := e45.g }
  let n : Nat := m.inWin (cfg 0x43 0 3)
  let stN : Nat := match m.st with | .stopped => 0 | .starting => 1 | .running => 2
  let stat : Nat := stN + 4 * bit cTh + 8 * bit cCnt + 16 * bit cBtw + 32 * bit emerg + 64 * bit m.restored + 256 * min n 16
  { mot := m,
    els := [(0x42 * 8, e42), (0x46 * 8, e46), (0x44 * 8, e440), (0x44 * 8 + 1, e441), (0x47 * 8, e47), (0x45 * 8, e45)],
    start := sigBits [(48, on49 && decide (per (s40 6) 100 ≤ th)), (49, inh), (50, on41 && starting), (51, st42),
      (52, st46), (53, st440), (54, st441), (55, st45), (56, st47), (57, decide (m.st = .running)), (58, emerg)],
    oper := sigBits [(48, oper49), (50, on41 && sup), (51, op42), (52, op46), (53, op440), (54, op441),
      (55, op45), (56, op47)],
    meas := [(48, f32 th), (49, if est then f32NaN else f32 (Config.sqrtQ ieq2 / ib)),
      (50, if trip < r ∧ th < r then f32 (tau * Config.lnQ ((r - th) / (r - trip))) else f32Inf false),
      (51, f32 (motRemain cfg m)), (52, f32 (n : Rat)), (53, f32 ((m.lastDur : Rat) / frameRate)),
      (54, f32 m.lastPeak), (55, f32 m.lastRise), (56, f32 (stN : Rat)), (57, f32Opt i2),
      (58, f32 ((m.runFrames : Rat) / (frameRate * 3600))), (59, f32 (m.nStarts : Rat))],
    stat := BitVec.ofNat 32 stat,
    est := est, inhibit := inh, emergEdge := emerg && !m0.emergPrev }

/-- θ advanced over n frames with the stored current (R263). The start ages stand as of MON `last`, that of the mirrored frame, and the first
frame computed advances them over the gap. -/
def Mot.catchUp (cfg : Nat → Nat → Nat → Int) (n : Nat) (m : Mot) : Mot :=
  let kib := per (cfg 0x40 0 2) 100 * motIbA cfg
  { m with theta := n.fold (fun _ _ th => thetaStep th (m.ieq2 / (kib * kib)) (motTau cfg m.st)) m.theta }

end Sys2Proof.Machine
end

