-- ==== Sys2Proof/Machine/BayCalc.lean ====
section
/-! DEFINITION. One frame of a bay (04 R157 to R223, 05): samples into the histories, quantities, elements, metering, and
the result buffer. Log entry 11 names the readings taken. -/

namespace Sys2Proof.Machine

/-- The value of a setting for a bay's active group. -/
def bayCfg (set : SMap Int) (bay group code stage idx : Nat) : Int := setGet set bay group (pidOf code stage idx)

/-- Nominal frequency of a bay. -/
def fnOf (cfg : Nat → Nat → Nat → Int) : Rat := if cfg 0 0 4 = 1 then 60 else 50

/-- The slot histories with this frame's samples (R141, R162). A slot without a source adds an invalid sample. -/
def pushSamples (hist : List (List HSmp)) (slots : List (Option (Rat × Word))) (test : Bool) : List (List HSmp) :=
  (List.range 8).map (fun c =>
    let x : HSmp := match slots.getD c none with
      | some (v, q) => { v := v, ok := usable q.toNat test, q := q.toNat }
      | none => { v := 0, ok := false, q := 0 }
    (x :: hist.getD c []).take 360)

/-- Invalid samples entered for frames lost to a stall (R88). -/
def pushLost (hist : List (List HSmp)) (n : Nat) : List (List HSmp) :=
  hist.map (fun h => (List.replicate (min n 360) { v := 0, ok := false, q := 0 } ++ h).take 360)

/-- f_tr after a frame, the frames of hold, and its source code (R165). -/
def trackF (fn : Rat) (f i1 : Option Rat) (ftr : Rat) (hold : Nat) : Rat × Nat × Nat :=
  match f with
  | some x => (ratClamp 40 70 x, 0, 1)
  | none => match i1 with
    | some x => (ratClamp 40 70 x, 0, 2)
    | none => if 28800 ≤ hold then (fn, 28800, 0) else (ftr, hold + 1, 0)

/-- Energy counters in units of 2^-32 Wh or varh after a frame: import and export active, import and export reactive
(R223). -/
def energyStep (p q : Option Rat) (e : List Nat) : List Nat :=
  let inc (x : Rat) : Nat := (ratRound (x * (2 ^ 32 : Nat) / (frameRate * 3600))).toNat
  let pos (o : Option Rat) : Nat := match o with | some x => if 0 < x then inc x else 0 | none => 0
  let neg (o : Option Rat) : Nat := match o with | some x => if x < 0 then inc (-x) else 0 | none => 0
  ([pos p, neg p, pos q, neg q].zipIdx).map (fun x => (e.getD x.2 0 + x.1) % 2 ^ 96)

/-- An angle against the reference, in degrees (R164). -/
def angDeg (ref : Option Rat) (x : Option Cx) : Option Rat :=
  match ref, x with
  | some r, some v => some (360 * wrapTurn (v.arg - r))
  | _, _ => none

/-- What a bay frame gives. -/
structure BayOut where
  d : BayD
  res : BayRes
  emerg : Bool

/-- Reads an element stage's state. -/
def elOf (els : SMap El) (code stage : Nat) : El := SMap.getD els (code * 8 + stage) El.init

/-- Computes one frame of bay b (R38, R162 to R223, R235 to R259). CB_I_MIN of R157 is compared with the full-cycle fundamental of a phase
current, an invalid one counting as below it (DESIGN CHOICE, log entry 11: the spec names no measure). -/
def bayCompute (b : Nat) (inp : BayIn) (d0 : BayD) : BayOut :=
  let cfg := bayCfg inp.set b inp.group
  let d0 := { d0 with bf := { d0.bf with ownPend := inp.own } }
  let d0 := if inp.clrEnergy then { d0 with energy := [0, 0, 0, 0] } else d0
  let mot0 := d0.mot.clear inp.clrMot
  let src (c : Nat) : Bool := (inp.slots.getD c none).isSome
  let hist := pushSamples d0.hist inp.slots inp.test
  let inR : Rat := cfg 0 0 1
  let vn : Rat := 10 * (cfg 0 0 3 : Rat)
  let vt1 := decide (cfg 0 0 6 = 1)
  let acb := decide (cfg 0 0 5 = 1)
  let ftr := d0.ftr
  let m := measSlots hist ftr
  let add (x y : Qy Cx) : Qy Cx := Qy.map2 Cx.add x y
  let sum3 (l : List (Qy Cx)) (k : Nat) : Qy Cx := add (add (qAt l k) (qAt l (k + 1))) (qAt l (k + 2))
  let none3 : Qy Cx := Qy.none
  let i0c := if hasI3 src then sum3 m.fund 0 else none3
  let i0h := if hasI3 src then sum3 m.half 0 else none3
  let i0h2 := if hasI3 src then sum3 m.h2 0 else none3
  let v0c := if hasV3 src && !vt1 then sum3 m.fund 4 else none3
  let i1 := if hasI3 src then seq12 acb true (qAt m.fund 0) (qAt m.fund 1) (qAt m.fund 2) else none3
  let i2 := if hasI3 src then seq12 acb false (qAt m.fund 0) (qAt m.fund 1) (qAt m.fund 2) else none3
  let v1 := if hasV3 src then seqV vt1 acb true (qAt m.fund 4) (qAt m.fund 5) (qAt m.fund 6) else none3
  let v2 := if hasV3 src then seqV vt1 acb false (qAt m.fund 4) (qAt m.fund 5) (qAt m.fund 6) else none3
  let v1Hist := (v1.v :: d0.v1).take 722
  let i1Hist := (i1.v :: d0.i1).take 722
  let tqAge := if v1.tq then 0 else min (d0.tqAge + 1) 1000
  let vph := vn / sqrt3
  let f := rateOf v1Hist ftr (10 / 100 * vph)
  let fI := rateOf i1Hist ftr (5 / 100 * inR)
  let fq := f.map (fun x => (x, decide (((tqAge : Nat) : Rat) ≤ ratCeil (2 * frameRate / ftr))))
  let fHist := (fq :: d0.f).take 18002
  let (ftr', hold', fsrc) := trackF (fnOf cfg) f fI ftr d0.ftrHold
  -- breaker (R157)
  let pos := contactPos inp.img (cfg 0 0 7) (cfg 0 0 8)
  let phs := [0, 1, 2].filter src
  let eff := decide (pos = 2) || phs.any (fun x => match (qAt m.fund x).v with
    | some v => decide (per (cfg 0 0 9) 100 * inR ≤ v.mag)
    | none => false)
  let (opened, clpEnd) := coldStep cfg inp.mon eff d0.cbOpen d0.clpEnd
  let clp := clpEnd.isSome && decide (cfg 0x31 0 6 = 1)
  let (inrCnt, inrNow, inrBlk) := inrushStep cfg inR ([0, 1, 2, 3].map (qAt m.fund) ++ [i0c]) ([0, 1, 2, 3].map (qAt m.h2) ++ [i0h2])
    d0.inr
  let c0 : Ctx :=
    { cfg := cfg, img := inp.img, src := src, hist := hist, m := m, inR := inR, inE := cfg 0 0 2, vn := vn,
      vt1 := vt1, acb := acb, ftr := ftr, pos := pos, eff := eff, i0c := i0c, i0h := i0h, i0h2 := i0h2, v0c := v0c, i1 := i1,
      i2 := i2, v1 := v1, v2 := v2, f := unmarked fq, fHist := fHist, v1Hist := v1Hist, clp := clp, inrBlk := inrBlk, trans := [] }
  let trans := newTrans c0 d0.trans
  let c := { c0 with trans := trans }
  let el := elOf d0.els
  -- elements with their signal numbers
  let evs : List (Nat × Nat × Nat × (El × Bool × Bool)) :=
    (List.range 4).map (fun s => (0x10, s, s, evPhoc c (el 0x10 s) s)) ++
    (List.range 4).map (fun s => (0x11, s, 4 + s, evEfoc c (el 0x11 s) s)) ++
    (List.range 2).map (fun s => (0x12, s, 8 + s, evDpoc c (el 0x12 s) s)) ++
    (List.range 2).map (fun s => (0x13, s, 10 + s, evDef c (el 0x13 s) s)) ++
    [(0x14, 0, 12, evIef c (el 0x14 0))] ++
    (List.range 2).map (fun s => (0x15, s, 13 + s, evNsoc c (el 0x15 s) s)) ++
    (List.range 3).map (fun s => (0x20, s, 16 + s, evVolt c true (el 0x20 s) s)) ++
    (List.range 3).map (fun s => (0x21, s, 19 + s, evVolt c false (el 0x21 s) s)) ++
    (List.range 2).map (fun s => (0x22, s, 22 + s, evRov c (el 0x22 s) s)) ++
    [(0x23, 0, 24, evNsov c (el 0x23 0))] ++
    (List.range 6).map (fun s => (0x24, s, 25 + s, evFreq c (el 0x24 s) s)) ++
    [(0x33, 0, 35, evTcs c (el 0x33 0))]
  -- stages with ZSI: the frames they have operated (R182, R314)
  let isToc (code : Nat) : Bool := decide (code = 0x10 ∨ code = 0x11 ∨ code = 0x12 ∨ code = 0x15)
  let evs := evs.map (fun e =>
    if isToc e.1 then
      let st := e.2.2.2.1
      (e.1, e.2.1, e.2.2.1, ({ st with cnt := if e.2.2.2.2.2 then (el e.1 e.2.1).cnt + 1 else 0 }, e.2.2.2.2))
    else e)
  let zsiOf (e : Nat × Nat × Nat × (El × Bool × Bool)) : Bool := isToc e.1 && decide (cfg e.1 e.2.1 13 = 1)
  let fbDelay : Rat := per (setGet inp.set 32 0 (pidOf 0x52 0 2)) 1000
  let zsi := sigBits (evs.map (fun e => (e.2.2.1, zsiOf e)))
  let zsiLong := sigBits (evs.map (fun e =>
    (e.2.2.1, zsiOf e && decide (fbDelay * frameRate ≤ ((e.2.2.2.1.cnt : Nat) : Rat)))))
  let dir (v : Int) : Nat := sigBits ([0, 1].map (fun s => (8 + s, decide (cfg 0x12 s 16 = v))))
  -- cable thermal (R208 to R211)
  let sq := phs.map (fun x => (qAt m.ms x).v)
  let rms := phs.map (fun x => (m.rms x).v)
  let thI : Option Rat := if phs.isEmpty then some 0 else if sq.all (·.isSome) then some (maxOf sq) else none
  let iTh := thI.getD d0.thSq
  let s30 := cfg 0x30 0
  let iref := per (s30 1) 100 * inR
  let theta := thetaStep d0.theta (iTh / (iref * iref)) (per (s30 2) 10 * 60)
  let trip30 := per (s30 4) 100
  let on30 := decide (s30 0 = 1) && !c.blk (s30 7)
  let thOper := on30 && (decide (trip30 ≤ theta) || (d0.thOper && decide (per (s30 5) 100 ≤ theta)))
  -- breaker failure
  let (bf, rtS, rtO, btS, btO) := bfStep c inp.demand d0.bf
  -- metering (R222, R223)
  let vi (v i : Qy Cx) : Qy Cx := Qy.map2 (fun a b => a.mul b.conj) v i
  let pw : Qy Cx :=
    if vt1 then add (vi (qAt m.fund 4) (qAt m.fund 0)) (vi ((qAt m.fund 5).map (Cx.scale (-1))) (qAt m.fund 2))
    else add (add (vi (qAt m.fund 4) (qAt m.fund 0)) (vi (qAt m.fund 5) (qAt m.fund 1))) (vi (qAt m.fund 6) (qAt m.fund 2))
  let p := pw.v.map (·.re)
  let q := pw.v.map (·.im)
  let sva := pw.v.map (·.mag)
  let pf := pw.v.bind (fun z => let s := z.mag; if s = 0 then none else some (z.re / s))
  let energy := energyStep p q d0.energy
  -- motor
  let motor := decide (cfg 0 0 0 = 1)
  let imax : Option Rat := if phs.isEmpty || rms.any (·.isNone) then none else some (maxOf rms)
  let mo := motStep c inp.mon el imax (pw.strict.v.map (fun z => z.re)) mot0
  let mot := if motor then mo.mot else mot0
  -- results
  let mag (x : Qy Cx) : Option Rat := x.v.map Cx.mag
  let ref : Option Rat :=
    let va := (qAt m.fund 4).v
    let ia := (qAt m.fund 0).v
    let rated := if vt1 then vn else vph
    match va with
    | some v => if 5 / 100 * rated ≤ v.mag then some v.arg else
        (match ia with | some i => if 5 / 100 * inR ≤ i.mag then some i.arg else none | none => none)
    | none => match ia with
      | some i => if 5 / 100 * inR ≤ i.mag then some i.arg else none
      | none => none
  let ang (k : Nat) : Option Rat := angDeg ref (qAt m.fund k).v
  let h2max : Option Rat := phs.foldl (fun a x => match (qAt m.fund x).v, (qAt m.h2 x).v with
    | some fv, some hv => if fv.mag = 0 then a else some (match a with
      | some y => ratMax y (hv.mag / fv.mag)
      | none => hv.mag / fv.mag)
    | _, _ => a) none
  let n : Option Rat := none
  let low : List (Option Rat) :=
    [mag (qAt m.fund 0), mag (qAt m.fund 1), mag (qAt m.fund 2), mag (qAt m.fund 3), mag i0c, mag i1, mag i2,
     ang 0, ang 1, ang 2, ang 3, mag (qAt m.fund 4), mag (qAt m.fund 5), mag (qAt m.fund 6),
     (if src 7 then mag (qAt m.fund 7) else mag v0c), mag v1, mag v2, ang 4, ang 5, ang 6, f, (dfdtOf fHist ftr 5).map (·.1),
     p, q, sva, pf, (m.rms 0).v, (m.rms 1).v, (m.rms 2).v, h2max, some theta, some ftr']
  let meas := low.map f32Opt ++ (List.range 16).map (fun _ => f32Opt n) ++ (List.range 16).map (fun i =>
    if motor then (match mo.meas.find? (fun x => x.1 = 48 + i) with
      | some x => x.2
      | none => f32NaN) else f32NaN)
  let allQ := (m.fund.foldl (fun a x => a ||| x.q) 0)
  let vphs := [4, 5, 6].filter src
  let i0v0 := [qAt m.fund 3, i0c].any (fun i => [qAt m.fund 7, v0c].any (fun v => (Qy.map2 (fun x _ => x) i v).tq))
  let valid :=
    bit (phs.all (fun x => (qAt m.fund x).v.isSome)) + 2 * bit (qAt m.fund 3).v.isSome + 4 * bit i0c.v.isSome +
    8 * bit (vphs.all (fun x => (qAt m.fund x).v.isSome)) + 16 * bit (qAt m.fund 7).v.isSome + 32 * bit v0c.v.isSome +
    64 * bit f.isSome + 128 * bit (i1.v.isSome && i2.v.isSome) + 256 * bit (v1.v.isSome && v2.v.isSome) +
    512 * bit (i0c.tq || v0c.tq || i1.tq || v1.tq || pw.tq || i0v0) + 1024 * bit (hasQ allQ qOvr) +
    2048 * bit (hasQ allQ qTest) + 4096 * bit (hasQ allQ qSubst)
  let start := sigBits (evs.map (fun e => (e.2.2.1, e.2.2.2.2.1))) +
    sigBits [(32, on30 && decide (per (s30 3) 100 ≤ theta)), (33, rtS), (34, btS),
      (36, decide (cfg 0x31 0 0 = 1) && (inrNow.take 3).any id), (37, clp)] +
    (if motor then mo.start else 0)
  let oper := sigBits (evs.map (fun e => (e.2.2.1, e.2.2.2.2.2))) +
    sigBits [(32, thOper), (33, rtO), (34, btO)] + (if motor then mo.oper else 0)
  let els := evs.foldl (fun (a : SMap El) e => SMap.putD a El.init (e.1 * 8 + e.2.1) e.2.2.2.1)
    (if motor then mo.els.foldl (fun (a : SMap El) e => SMap.putD a El.init e.1 e.2) [] else [])
  { d := { hist := hist, els := els, theta := theta, thSq := iTh, thOper := thOper, v1 := v1Hist, i1 := i1Hist, f := fHist, tqAge := tqAge,
           ftr := ftr', ftrHold := hold', ftrSrc := fsrc, trans := trans, cbOpen := opened, clpEnd := clpEnd, effPrev := eff,
           bf := bf, inr := inrCnt, energy := energy, mot := mot },
    res := { fseq := inp.fseq, start := start, oper := oper, pos := pos, eff := eff, valid := valid, meas := meas,
             thermEst := thI.isNone || (motor && mo.est), clp := clp, ftrSrc := fsrc, motStat := if motor then mo.stat else 0,
             zsi := zsi, dirF := dir 0, dirR := dir 1, zsiLong := zsiLong,
             ph := [0, 1, 2].map (fun x =>
               { half := (qAt m.half x).v, smp := c.smp x 0, src := (qAt m.half x).srcs.headD 0,
                 timeq := hasQ (qAt m.half x).q qTimeq, ovr := hasQ (qAt m.half x).q qOvr }),
             f := unmarked fq, dfdt := unmarked (dfdtOf fHist ftr 5), v1r := v1.v.map (fun v => v.mag / vph), test := inp.test,
             inhibit := motor && mo.inhibit, energy := energy },
    emerg := motor && mo.emergEdge }

end Sys2Proof.Machine
end

