-- ==== Sys2Proof/Machine/ZoneCalc.lean ====
section
/-! DEFINITION. One frame of the zone engine (06 R275 to R318): topology, busbar differential, interlocking, backtrip,
shedding. The arc-flash decision is taken at its own reading (R306). Log entry 13 names the readings taken. -/

namespace Sys2Proof.Machine

/-- What the zone engine reads of a bay: mode, whether the frame is late, unprotected, the results (held ones of a late
bay), the effective breaker state, which a bay that is OFF has by its contacts alone (R157), and the block flags for references. -/
structure ZBay where
  mode : Nat
  late : Bool
  unprot : Bool
  res : BayRes
  eff : Bool
  bf : Nat
  bayType : Int

/-- What a zone frame is computed from. -/
structure ZIn where
  fseq : Word
  set : SMap Int
  bays : List ZBay
  img : SigImg

def ZBay.off : ZBay := { mode := 0, late := false, unprot := false, res := BayRes.none, eff := false, bf := 0, bayType := 0 }

namespace ZIn
def cfg (z : ZIn) (code stage idx : Nat) : Int := setGet z.set 32 0 (pidOf code stage idx)
def bay (z : ZIn) (b : Nat) : ZBay := z.bays.getD b ZBay.off
def coupler (z : ZIn) (b : Nat) : Bool := decide ((z.bay b).bayType = 3)
/-- SEC1 (0) or SEC2 (1) of a bay. -/
def sec (z : ZIn) (x b : Nat) : Int := z.cfg 0x50 x b
/-- Position of a disconnector (R275): closed where no contact is configured. -/
def dsPos (z : ZIn) (x b : Nat) : Nat :=
  let a := z.cfg 0x50 (2 + 2 * x) b
  let o := z.cfg 0x50 (3 + 2 * x) b
  if !refSet a && !refSet o then 2 else contactPos { z.img with bf := (z.bay b).bf } a o
def dsBad (z : ZIn) (x b : Nat) : Bool := let p := z.dsPos x b; decide (p = 0 ∨ p = 3)
/-- Connected through disconnector x (R276). -/
def via (z : ZIn) (x b : Nat) : Bool := decide (z.sec x b ≠ 8) && decide (z.dsPos x b ≠ 1)
/-- Sections a bay is connected to, as bits (R276). -/
def secs (z : ZIn) (b : Nat) : Nat :=
  (if z.via 0 b then 2 ^ (z.sec 0 b).toNat else 0) ||| (if z.via 1 b then 2 ^ (z.sec 1 b).toNat else 0)
/-- A coupler ties its sections (R277). -/
def tied (z : ZIn) (b : Nat) : Bool := z.coupler b && z.via 0 b && z.via 1 b && (z.bay b).eff
end ZIn

/-- Sections set for a bay, whatever its disconnectors (R282). -/
def ZIn.set2 (z : ZIn) (b : Nat) : Nat :=
  (if z.sec 0 b = 8 then 0 else 2 ^ (z.sec 0 b).toNat) ||| (if z.sec 1 b = 8 then 0 else 2 ^ (z.sec 1 b).toNat)

/-- Enabled zones 0 to 3. -/
def ZIn.zones (z : ZIn) : List Nat := (List.range 4).filter (fun k => z.cfg 0x51 k 0 = 1)

/-- Zones joined to zone k by bays connected to both, and their mask (R281). -/
def ZIn.merge (z : ZIn) (secs : List Nat) : List (Nat × Nat) :=
  let masks := z.zones.map (fun k => (k, maskOf (z.cfg 0x51 k 1)))
  let join (l : List (Nat × Nat)) : List (Nat × Nat) :=
    l.map (fun p => (p.1, l.foldl (fun a q =>
      if (List.range 32).any (fun b => !z.coupler b && (secs.getD b 0 &&& a) != 0 && (secs.getD b 0 &&& q.2) != 0) then
        a ||| q.2 else a) p.2))
  join (join (join masks))

/-- Sum set of a mask with coefficients (R280); for the check zone the disconnectors are not asked (R282). -/
def ZIn.sum (z : ZIn) (secs : List Nat) (tied : List Bool) (check : Bool) (mask : Nat) : List (Nat × Bool) :=
  (List.range 32).filterMap (fun b =>
    if z.coupler b then
      if !(tied.getD b false) then none
      else
        let in1 := mask.testBit (z.sec 0 b).toNat
        let in2 := mask.testBit (z.sec 1 b).toNat
        if in1 && in2 then none else if in1 then some (b, true) else if in2 then some (b, false) else none
    else if ((if check then z.set2 b else secs.getD b 0) &&& mask) != 0 then some (b, true) else none)

/-- The differential quantities of one zone phase: none while blocked under R289, else Id, Ir in I_BASE and id, ir in
amperes; with the marks Q_TIMEQ and Q_OVR of the sum. -/
structure ZQ where
  v : Option (Rat × Rat × Rat × Rat)
  tq : Bool
  ovr : Bool
  late : Bool

/-- Sums one phase over a sum set (R280, R289). -/
def ZIn.diff (z : ZIn) (ibase : Rat) (set : List (Nat × Bool)) (x : Nat) : ZQ :=
  let cur (b : Nat) : PhCur := (z.bay b).res.ph.getD x { half := none, smp := none, src := 0, timeq := false, ovr := false }
  let ok := set.all (fun p =>
    decide ((z.bay p.1).mode ≠ 0) && !(z.bay p.1).unprot && (cur p.1).half.isSome && (cur p.1).smp.isSome)
  let sumC := set.foldl (fun (a : Cx) p =>
    let c := (cur p.1).half.getD Cx.zero
    if p.2 then a.add c else a.sub c) Cx.zero
  let sumM := set.foldl (fun (a : Rat) p => a + ((cur p.1).half.getD Cx.zero).mag) 0
  let sumI := set.foldl (fun (a : Rat) p =>
    let c := (cur p.1).smp.getD 0
    if p.2 then a + c else a - c) 0
  let sumA := set.foldl (fun (a : Rat) p => a + ratAbs ((cur p.1).smp.getD 0)) 0
  { v := if ok then some (sumC.mag / ibase, sumM / ibase, ratAbs sumI, sumA) else none,
    tq := set.any (fun p => decide ((cur p.1).src ≠ 0)) && set.any (fun p => (cur p.1).timeq),
    ovr := set.any (fun p => (cur p.1).ovr),
    late := set.any (fun p => (z.bay p.1).late) }

/-- Threshold of the bias characteristic at Ir (R284). -/
def biasThr (idMin k1 knee k2 ir : Rat) : Rat :=
  ratMax idMin (if ir ≤ knee then k1 * ir else k1 * knee + k2 * (ir - knee))

/-- One frame of a zone phase's latch state (R284, R286, R287). -/
def ZPh.step (cfg : Nat → Nat → Nat → Int) (k : Nat) (q : Rat × Rat × Rat × Rat) (p : ZPh) : ZPh :=
  let (Id, Ir, di, ri) := q
  let s := cfg 0x51 k
  let g := cfg 0x51 5
  let k1 := per (s 3) 100
  let thr := biasThr (per (s 2) 100) k1 (per (s 4) 10) (per (s 5) 100) Ir
  let above := decide (thr ≤ Id) || (p.above && decide (95 / 100 * thr ≤ Id))
  let ibase : Rat := 10 * (g 0 : Rat)
  let lim := sqrt2 * (per (g 1) 10 * ibase)
  let n := (ratCeil (per (g 2) 10000 * frameRate)).toNat
  let hi := decide (lim ≤ ri)
  let low := if hi then 0 else p.low + 1
  let inBand := decide (di ≤ k1 * ri)
  let (run, runOk) :=
    if hi && decide (288 ≤ p.low) then (1, inBand)
    else if 0 < p.run ∧ p.run < n then (p.run + 1, p.runOk && inBand)
    else (0, false)
  let sets := decide (run = n) && runOk
  let relNow := above && decide (per (g 3) 100 * Ir ≤ Id)
  let rel := if relNow then p.rel + 1 else 0
  let age := if sets then 0 else p.latchAge + 1
  let clears := decide (288 ≤ low) || decide (per (g 4) 100 * frameRate ≤ ((age : Nat) : Rat)) || decide (144 ≤ rel)
  { above := above, latch := (sets || p.latch) && !clears, latchAge := age, low := low, run := run, runOk := runOk,
    rel := rel }

/-- A zone phase in a frame in which its sum is not valid (R289): the age of the latch goes on, what counts consecutive samples or frames is
broken. -/
def ZPh.skip (cfg : Nat → Nat → Nat → Int) (p : ZPh) : ZPh :=
  let age := p.latchAge + 1
  { p with latch := p.latch && !decide (per (cfg 0x51 5 4) 100 * frameRate ≤ ((age : Nat) : Rat)), latchAge := age, low := 0, run := 0,
           runOk := false, rel := 0 }

/-- What the zone engine gives in a frame. -/
structure ZOut where
  d : ZoneD
  res : ZRes
  noRoute : Nat

/-- Bus frequency of a section: the reference bay in use (R310). -/
def ZIn.fref (z : ZIn) (secs : List Nat) (s : Nat) : Option Nat :=
  let ok (v : Int) : Option Nat :=
    if v = 32 then none
    else
      let b := v.toNat
      if (secs.getD b 0).testBit s && (z.bay b).res.f.isSome && decide ((z.bay b).mode ≠ 0) then some b else none
  match ok (z.cfg 0x56 0 s) with
  | some b => some b
  | none => ok (z.cfg 0x56 1 s)

/-- Computes one frame of the zone engine. `last` are its last completed results. -/
def zoneCompute (z : ZIn) (last : ZRes) (d : ZoneD) : ZOut :=
  let cfg := z.cfg
  let bays := List.range 32
  let secs := bays.map z.secs
  let tied := bays.map z.tied
  let dsb := bays.map (fun b => bit (z.dsBad 0 b) + 2 * bit (z.dsBad 1 b))
  -- busbar differential
  let ibase : Rat := 10 * (cfg 0x51 5 0 : Rat)
  let merged := z.merge secs
  let maskM (k : Nat) : Nat := ((merged.find? (fun p => p.1 = k)).map (·.2)).getD 0
  let czOn := decide (cfg 0x51 4 0 = 1)
  let zs := z.zones ++ (if czOn then [4] else [])
  let sets := (List.range 5).map (fun k =>
    if k = 4 then (if czOn then z.sum secs tied true (maskOf (cfg 0x51 4 1)) else [])
    else z.sum secs tied false (maskM k))
  let qs := (List.range 5).map (fun k => [0, 1, 2].map (fun x => z.diff ibase (sets.getD k []) x))
  let q (k x : Nat) : ZQ := (qs.getD k []).getD x { v := none, tq := false, ovr := false, late := false }
  let on (k : Nat) : Bool := zs.contains k
  let inv (k : Nat) : Bool := on k && [0, 1, 2].any (fun x => (q k x).v.isNone)
  let tqOwn (k : Nat) : Bool := on k && [0, 1, 2].any (fun x => (q k x).tq)
  let tqAny := zs.any tqOwn
  let tqBlk (k : Nat) : Bool := on k && (if cfg 0x51 5 5 = 0 then tqAny else tqOwn k)
  let late (k : Nat) : Bool := on k && (q k 0).late
  let ph0 (k x : Nat) : ZPh := SMap.getD d.ph (k * 4 + x) ZPh.init
  let ph1 (k x : Nat) : ZPh :=
    if !on k then ZPh.init
    else if late k then ph0 k x
    else match (q k x).v with
      | some v => (ph0 k x).step cfg k v
      | none => (ph0 k x).skip cfg
  let phs := (List.range 5).map (fun k => [0, 1, 2].map (ph1 k))
  let p (k x : Nat) : ZPh := (phs.getD k []).getD x ZPh.init
  let fresh (k x : Nat) : Bool := on k && !tqBlk k && (q k x).v.isSome
  -- the CTS block stands until Id is seen below 0.95 of CTS_ID on every phase (R291)
  let ctsHeld (k : Nat) : Bool :=
    d.ctsBlk.testBit k && decide (cfg 0x51 k 9 = 1) && [0, 1, 2].any (fun x => match (q k x).v with
      | some (i, _, _, _) => decide (95 / 100 * per (cfg 0x51 k 7) 100 ≤ i)
      | none => true)
  let operNow (k : Nat) : Bool :=
    if late k then d.difOper.testBit k
    else [0, 1, 2].any (fun x =>
      fresh k x && (p k x).above && !(p k x).latch && !ctsHeld k &&
      (decide (cfg 0x51 k 6 = 0) || (fresh 4 x && (p 4 x).above)) &&
      (!(q k x).ovr || decide (144 ≤ (p k x).rel)))
  let opers := [0, 1, 2, 3].map (fun k => on k && operNow k)
  let operK (k : Nat) : Bool := opers.getD k false
  -- CTS (R291)
  let ctsE (k : Nat) : El :=
    let e := SMap.getD d.cts k El.init
    if !on k then El.init
    else if late k then e
    else
      let hi := [0, 1, 2].any (fun x => match (q k x).v with
        | some (i, _, _, _) => decide (per (cfg 0x51 k 7) 100 ≤ i)
        | none => false)
      cntStep e (hi && !operK k) (per (cfg 0x51 k 8) 10)
  let ctsEs := [0, 1, 2, 3].map ctsE
  let cts (k : Nat) : El := ctsEs.getD k El.init
  let ctsBlk := bitsOf 4 (fun k => on k && (if late k then d.ctsBlk.testBit k
    else decide (cfg 0x51 k 9 = 1) && ((cts k).oper || ctsHeld k)))
  let difOrders := ([0, 1, 2, 3].filter operK).map (fun k =>
    let set := (sets.getD k []).map (·.1)
    let cps := bays.filter (fun b => z.coupler b && (secs.getD b 0 &&& maskM k) != 0)
    let m := bitsOf 32 (fun b => set.contains b || cps.contains b)
    ({ sig := k, src := 32, bays := m, test := (set ++ cps).any (fun b => decide ((z.bay b).mode = 2)) } : ZOrd))
  -- interlocking (R293 to R297)
  let zsiOn := decide (cfg 0x52 0 0 = 1)
  let downNow (b s : Nat) : Bool :=
    let r := (z.bay b).res
    let st := r.start &&& r.zsi
    let isOff := decide ((z.bay b).mode = 0)
    let nd := st &&& (2 ^ 64 - 1 - 768)
    if isOff || !(secs.getD b 0).testBit s then false
    else if z.coupler b then
      nd != 0 || ((st &&& 768 &&& r.dirF) != 0 && decide (z.sec 0 b = (s : Int))) ||
        ((st &&& 768 &&& r.dirR) != 0 && decide (z.sec 1 b = (s : Int)))
    else decide ((z.bay b).bayType ≤ 1) && st != 0
  let zsiAge : SMap Nat := (List.range 256).foldl (fun (a : SMap Nat) k =>
    if downNow (k / 8) (k % 8) then SMap.put a k 0
    else match SMap.get? d.zsi k with
      | some n => if (z.bay (k / 8)).late then SMap.put a k n else if ((n + 1 : Nat) : Rat) ≤ per (cfg 0x52 0 1) 1000 * frameRate then SMap.put a k (n + 1) else a
      | none => a) []
  let zsiOnSec (s own : Nat) : Bool := zsiAge.any (fun e => decide (e.1 % 8 = s ∧ e.1 / 8 ≠ own))
  let zsiBlk : SMap Nat := if !zsiOn then [] else bays.foldl (fun (a : SMap Nat) b =>
    let r := (z.bay b).res
    if (z.bay b).bayType = 2 then
      if r.zsi != 0 && (List.range 8).any (fun s => (secs.getD b 0).testBit s && zsiOnSec s 32) then SMap.put a b r.zsi else a
    else if z.coupler b then
      let look (x : Nat) : Bool := z.via x b && zsiOnSec (z.sec x b).toNat b
      let m := (if look 1 then r.zsi &&& r.dirF &&& 768 else 0) ||| (if look 0 then r.zsi &&& r.dirR &&& 768 else 0) |||
        (if look 0 || look 1 then r.zsi &&& (2 ^ 64 - 1 - 768) else 0)
      if m != 0 then SMap.put a b m else a
    else a) []
  -- backtrip routing (R299, R300)
  let btOn := decide (cfg 0x53 0 0 = 1)
  let route := bays.map (fun b => bitsOf 32 (fun o => decide (o ≠ b) && (secs.getD o 0 &&& secs.getD b 0) != 0))
  let btBays := if btOn then bays.filter (fun b => (z.bay b).res.oper.testBit 34 && decide ((z.bay b).mode ≠ 0)) else []
  let btNo := btBays.filter (fun b => secs.getD b 0 = 0)
  let btGo := btBays.filter (fun b => secs.getD b 0 ≠ 0)
  let btOrders := (btGo.filter (fun b => route.getD b 0 ≠ 0)).map (fun b =>
    ({ sig := 28, src := b, bays := route.getD b 0, test := decide ((z.bay b).mode = 2) } : ZOrd))
  let noRouteMask := bitsOf 32 btNo.contains
  -- shedding (R310 to R312)
  let ref (s : Nat) : Option Nat := z.fref secs s
  let shedE (st s : Nat) : Option El :=
    let c := cfg 0x55 st
    if c 0 = 0 ∨ !(maskOf (c 4)).testBit s then none
    else
      let e := SMap.getD d.shed (st * 8 + s) El.init
      match ref s with
      | none => none
      | some b =>
        let zb := z.bay b
        if zb.late then some e
        else
          let lowV := match zb.res.v1r with
            | some v => decide (v < per (c 6) 100)
            | none => true
          let dfBad := decide (c 0 ≠ 1) && zb.res.dfdt.isNone
          if lowV || dfBad then none
          else
            let f := zb.res.f.getD 0
            let df := zb.res.dfdt.getD 0
            let a := freqStart 1 e.start f df (per (c 1) 100) (per (c 2) 100)
            let g := freqStart 3 e.start f df (per (c 1) 100) (per (c 2) 100)
            some (defStep e (if c 0 = 1 then a else if c 0 = 2 then g else a && g) (per (c 3) 1000) 0)
  let shedL := (List.range 64).filterMap (fun k => (shedE (k / 8) (k % 8)).map (fun e => (k, e)))
  let shedOrders := (shedL.filter (fun p => p.2.oper)).map (fun p =>
    ({ sig := 20 + p.1 / 8, src := 32,
       bays := bitsOf 32 (fun b => (maskOf (cfg 0x55 (p.1 / 8) 5)).testBit b && (secs.getD b 0).testBit (p.1 % 8)),
       test := false } : ZOrd))
  -- topology (R278)
  let bad := dsb.any (fun x => x != 0)
  let topoCnt := if bad then d.topoCnt + 1 else 0
  let topoOp := bad && decide (per (cfg 0x50 6 0) 1 * frameRate ≤ ((topoCnt : Nat) : Rat))
  let start := sigBits (
    (List.range 4).map (fun k => (k, on k && (if late k then last.start.testBit k
      else [0, 1, 2].any (fun x => fresh k x && (p k x).above)))) ++
    [(4, on 4 && [0, 1, 2].any (fun x => fresh 4 x && (p 4 x).above))] ++
    (List.range 4).map (fun k => (5 + k, on k && [0, 1, 2].any (fun x => (p k x).latch))) ++
    (List.range 4).map (fun k => (9 + k, (cts k).start)) ++
    (List.range 8).map (fun st => (20 + st, shedL.any (fun p => decide (p.1 / 8 = st) && p.2.start))) ++
    [(28, !btOrders.isEmpty), (29, bad)])
  let oper := sigBits (
    (List.range 4).map (fun k => (k, operK k)) ++ (List.range 4).map (fun k => (9 + k, (cts k).oper)) ++
    (List.range 8).map (fun st => (20 + st, shedL.any (fun p => decide (p.1 / 8 = st) && p.2.oper))) ++ [(29, topoOp)])
  { d := { ph := (List.range 20).foldl (fun (a : SMap ZPh) i => SMap.putD a ZPh.init i (p (i / 4) (i % 4))) [],
           cts := (List.range 4).foldl (fun (a : SMap El) k => SMap.putD a El.init k (cts k)) [],
           ctsBlk := ctsBlk, zsi := zsiAge, shed := shedL.foldl (fun (a : SMap El) e => SMap.putD a El.init e.1 e.2) [],
           topoCnt := topoCnt, difOper := bitsOf 4 operK, noRoute := noRouteMask },
    res := { fseq := z.fseq, start := start, oper := oper, invBlk := bitsOf 5 inv, tqBlk := bitsOf 5 tqBlk,
             merged := merged.any (fun e => decide (e.2 ≠ maskOf (cfg 0x51 e.1 1))), secs := secs,
             tied := bitsOf 32 (fun b => tied.getD b false), dsBad := dsb,
             zbays := (List.range 5).map (fun k => bitsOf 32 (((sets.getD k []).map (·.1)).contains)),
             dif := (List.range 30).map (fun i =>
               match (q (i / 6) (i % 3)).v with
               | some (a, r, _, _) => f32 (if i % 6 < 3 then a else r)
               | none => f32NaN),
             fbus := (List.range 8).map (fun s => f32Opt ((ref s).bind (fun b => (z.bay b).res.f))),
             orders := difOrders ++ btOrders ++ shedOrders, zsiBlk := zsiBlk, route := route },
    noRoute := noRouteMask &&& (2 ^ 32 - 1 - d.noRoute % 2 ^ 32) }

/-- The arc-flash decision of a reading (R307): starts and operates as signals 16 to 19, with orders, from the light and
fast-OC flags of this reading and the one before. -/
def arcDecide (cfg : Nat → Nat → Nat → Int) (lightNow lightPrev ocNow ocPrev : Nat) : Nat × Nat :=
  let en (k : Nat) : Bool := decide (cfg 0x54 k 0 = 1)
  let lm (k : Nat) : Nat := maskOf (cfg 0x54 k 2)
  let om (k : Nat) : Nat := maskOf (cfg 0x54 k 3)
  (sigBits ((List.range 4).map (fun k => (16 + k, en k && (lightNow &&& lm k) != 0))),
   sigBits ((List.range 4).map (fun k => (16 + k, en k && ((lightNow ||| lightPrev) &&& lm k) != 0 &&
     (decide (cfg 0x54 k 1 = 1) || ((ocNow ||| ocPrev) &&& om k) != 0)))))

end Sys2Proof.Machine
end

