-- ==== Sys2Proof/Machine/Mach.lean ====
section
/-! DEFINITION. The rest of the block's plain data (11 to 18), and Mach: everything the block holds but the queue of waiting
commands. -/

namespace Sys2Proof.Machine

/-- Pins the part reads or drives (19). True is the pin's high level, of MCLK0 and MCLK1 that they run (false: held low, R806). -/
structure Pins where
  psA : Bool
  ready : Bool
  faultN : Bool
  hpIrqN : Bool
  ppsOut : Bool
  mvddOk : Bool
  mclk0 : Bool
  mclk1 : Bool
  deriving DecidableEq, Repr

/-- The protection section of a retentive image (R439): settings, active groups, registers of R369 with latches, counts
and bay modes, the extra outputs that the OUT latches hold, thermal memory, energy counters. -/
structure Prot where
  set : SMap Int
  group : SMap Nat
  regs : SMap Word
  outLatch : SMap Nat
  theta : SMap (Rat × Rat)
  mot : SMap Mot
  energy : SMap (List Nat)
  deriving DecidableEq, Repr

/-- A copy of the retentive image (R441). -/
structure RetImg where
  seq : Word
  ltc : Time
  locked : Bool
  fseq : Word
  prot : Prot
  tasks : List (Option RetData)
  deriving DecidableEq, Repr

/-- Non-volatile data of the retentive areas: image copies in banks A and B, start records (R772), a write in progress
with the banks left to write and whether it is a hold-up image, time of the last write, the next SEQ, task data of the image in
use, and bays whose motor memory was restored with the LTC of the image (R265). -/
structure Nv where
  retA : Option RetImg
  retB : Option RetImg
  srA : StartRec
  srB : StartRec
  writing : Option (RetImg × List Nat × Bool)
  lastMon : Time
  nextSeq : Word
  downPend : SMap Time
  deriving DecidableEq, Repr

/-- The content of an M0 set (R599): the tag of its frame, the sender's MON at its trigger, trip latches, bays, zone, commanded
states, class A stitches, last ID, states and outputs of the tasks. -/
structure M0Set where
  tag : Word
  mon : Time
  latch : SMap Word
  bays : SMap Bay
  zone : Zone
  cmds : Nat
  opens : List Stitch
  lastId : Nat
  tasks : List TaskSt
  outs : List OutSet
  deriving DecidableEq, Repr

/-- Pair-link frame contents (R603). -/
inductive PairMsg where
  | hb (h : Hb)
  | m0 (s : M0Set)
  | m1 (full : Bool) (last : Bool) (task : Nat) (d : RetData)
  | m2 (full : Bool) (last : Bool) (item : M2Item)
  | syncReq
  deriving DecidableEq, Repr

/-- What the part hands out: claim words, pair-link frames, GLX frames, GOOSE messages, PTP messages, PRP supervision,
host frames, HP transactions (status word, octets after it), UDP packets, answers to ARP and ICMP echo on SVC, in the order sent. A pair-link frame has its lane, which of how many frames of
its content it is, its length in octets and that content. `tag` is the VID and PCP of a tagged frame (R529). -/
inductive Sent where
  | claim (word : Nat)
  | pair (lane : Nat) (seq tag : Word) (part parts len : Nat) (m : PairMsg)
  | glx (flags typ dst seq : Nat) (claim : Word) (stitch : Nat) (body : List Byte) (mac : Nat) (tag : Option (Nat × Nat)) (lane : Nat)
      (prp : Option Nat)
  | goose (pub stNum sqNum : Nat) (t : Time) (tal : Nat) (membs : List (Nat × Bool)) (test : List Nat) (tag : Option (Nat × Nat))
      (lane : Nat) (prp : Option Nat)
  | ptp (typ port seq : Nat) (body : List Int) (tag : Option (Nat × Nat))
  | prpSup (seq lane : Nat)
  | host (lane : Nat) (bytes : List Byte)
  | hp (status : Word) (bytes : List Byte)
  | udp (p : OutPkt)
  | arp (mac : Nat) (ip : Word)
  | echo (mac : Nat) (ip : Word) (bytes : List Byte)
  deriving DecidableEq, Repr

/-- What the departure of a frame is stamped for (R490 to R492): a host's ID, a Pdelay_Req, a Sync, a Pdelay_Resp with the stamp of its
request. -/
inductive TxPost where
  | plain | stamp (id : Nat) | pdReq (seq : Nat) | sync (seq : Nat) | pdResp (seq : Nat) (t2 : Int)
  deriving DecidableEq, Repr

/-- A frame in a transmit queue (R529): lane, class, octets on the wire from destination to FCS. -/
structure TxFrame where
  lane : Nat
  cls : Nat
  octets : Nat
  frame : Sent
  post : TxPost
  deriving DecidableEq, Repr

/-- A pair-link frame that waits for credits (R564): its TAG, which of how many frames of its content it is, its length. -/
structure PairTx where
  tag : Word
  part : Nat
  parts : Nat
  len : Nat
  msg : PairMsg
  deriving DecidableEq, Repr

/-- A standby output test in progress: output and MON at its start (R613). -/
structure Otest where
  run : Option (Nat × Time)
  next : Nat
  lastMon : Time
  passed : Nat
  deriving DecidableEq, Repr

/-- The pair (13). `txq` are the frames that wait for credits, `credits` those held on a lane, `owed` the credits of frames on their way: lane,
number, MON at sending (R564). `m0Late` is the M0 set of a frame whose binding ran on into the next (R48, R82). `claimMon` is when the last claim word was sent, `passDue` that a full pass waits for
both lanes (R610). `switchWait` are the PAIR_SWITCH requests that wait for the switch frame. -/
structure Pair where
  role : Role
  epoch : BitVec 16
  peer : Option Word
  peerOn : Bool
  peerMon : Time
  ownPos : Nat
  posGone : Time
  posConf : Bool
  hbMon : Option Time
  hbLast : Option Hb
  hbAnyMon : Option Time
  hbRun : Nat
  hbLost : Bool
  refused : Bool
  listenMon : Option Time
  m0Good : Nat
  m0Last : Option M0Set
  m0Ofs : Time
  m0Pend : Option M0Set
  m0Late : Option M0Set
  m0Part : Option (Word × Word × Bool)
  rxSeq : Option Word
  mirF : Option Word
  full : Bool
  fullM1 : Bool
  sync : Bool
  everSync : Bool
  syncReqPend : Bool
  m2Defer : List (Nat × Nat × Nat)
  m2Stale : Bool
  switchTag : Option Word
  switchWait : List Waiter
  dAlignPend : Option Nat
  otest : Otest
  txSeq : Word
  txq : List PairTx
  credits : SMap Nat
  owed : List (Nat × Nat × Time)
  claimSeq : Nat
  claimMon : Option Time
  passDue : Bool
  degraded : Bool
  drIndex : List Nat
  m1Last : Time
  m0Sec : Nat
  m1 : List (Option RetData)
  mirPend : List Nat
  deriving DecidableEq, Repr

/-- Feeds, hold-up store and the combined input (R616 to R620). -/
structure Power where
  feedA : Feed
  feedB : Feed
  onStore : Bool
  autoProof : Bool
  deriving DecidableEq, Repr

/-- Everything the block holds but its queue. `txq` are the frames in the transmit queues of the lanes, `txEnd` when a lane's present frame ends
(R529). `regs` holds each register word that differs from its reset word; `fresh1` the RW1C bits
that the engine set at the present instant (R13), by register; `freshC` the RC counters that rose at the present instant (R14), by
register: the word before the first increment, and the increments. An instant is one tick of MON. -/
structure Mach where
  free : Nat
  inReset : Bool
  pins : Pins
  sent : List Sent
  txq : List TxFrame
  txEnd : SMap Time
  regs : SMap Word
  fresh1 : SMap Word
  freshC : SMap (Word × Word)
  tb : Tb
  fr : Frame
  acq : Acq
  bays : SMap Bay
  set : SMap Int
  group : SMap Nat
  stage : SMap (Nat × SMap Int)
  zone : Zone
  stu : Stu
  fio : Fio
  tasks : List Task
  lanes : List Lane
  net : Net
  pair : Pair
  power : Power
  recs : Recs
  cmd : Cmd
  hlth : Hlth
  sec : SecSt
  start : Start
  nv : Nv
  deriving DecidableEq, Repr

end Sys2Proof.Machine
end

