-- ==== Sys2Proof/Machine/Wire.lean ====
section
/-! DEFINITION. What arrives from outside, as the operands of the commands carry it: ASDUs, GOOSE and GLX messages, PTP
messages, MAC frames, station layouts (03, 10, 12). -/

namespace Sys2Proof.Machine

/-- One ASDU of a sampled-value APDU (R113, R114): confRev, the CRC of its svID (R535), smpCnt, smpSynch, gmIdentity, and
the values with their source quality. -/
structure Asdu where
  confRev : Word
  idCrc : Word
  smpCnt : Nat
  smpSynch : Nat
  gm : Option (BitVec 64)
  vals : List (Int × Word)
  deriving DecidableEq, Repr

/-- One element of a GOOSE message's allData: a Boolean, or a quality with its validity (1 invalid, 3 questionable) and test bit (R537, R539). -/
inductive GVal where
  | bool (b : Bool)
  | qual (validity : Nat) (test : Bool)
  | other
  deriving DecidableEq, Repr

/-- A GOOSE message (R535 to R537): the CRC of its gocbRef, confRev, ndsCom, simulation, stNum, sqNum, timeAllowedtoLive in
ms, allData. -/
structure GooseMsg where
  idCrc : Word
  confRev : Word
  ndsCom : Bool
  sim : Bool
  stNum : Nat
  sqNum : Nat
  tal : Nat
  data : List GVal
  deriving DecidableEq, Repr

/-- The header of a GLX frame (R548), with the source MAC of the Ethernet frame and the lane it came on. -/
structure GlxHdr where
  ver : Nat
  flags : Nat
  resv : Nat
  dst : Nat
  src : Nat
  seq : Nat
  len : Nat
  claim : Word
  stitch : Nat
  mac : Nat
  lane : Nat
  deriving DecidableEq, Repr

/-- The header of a command packet after its transport and session (R668, R669). -/
structure Hdr where
  udp : Bool
  ip : Word
  port : Nat
  session : Nat
  seq : Nat
  deriving DecidableEq, Repr

/-- An Announce (R483 to R486): domain, grandmasterIdentity, its data set as one ordered number (lower is better, IEEE
1588-2019 default algorithm), currentUtcOffset where valid. -/
structure Announce where
  domain : Nat
  gm : BitVec 64
  rank : Nat
  utc : Option Nat
  deriving DecidableEq, Repr

/-- A Sync or Follow_Up (R483, R494): domain, clock identity of the sender, sequence, twoStepFlag, logMessageInterval,
originTimestamp (in a two-step Sync unused), correctionField in ps, time of reception at the PCS in ps of LTC. -/
structure SyncMsg where
  domain : Nat
  src : BitVec 64
  seq : Nat
  twoStep : Bool
  logInt : Int
  origin : Int
  corr : Int
  rx : Int
  deriving DecidableEq, Repr

/-- A Pdelay_Resp or its Follow_Up (R494): sequence, twoStepFlag, requestReceiptTimestamp or responseOriginTimestamp and
correctionField in ps, time of reception at the PCS in ps of LTC. -/
structure PdResp where
  seq : Nat
  twoStep : Bool
  stamp : Int
  corr : Int
  rx : Int
  deriving DecidableEq, Repr

/-- An IRIG-B frame as decoded (R488): whether consistent, seconds of its reference marker counted as UTC (a second 60 as
the second after it), whether it is second 60, whether it carries a year, its IEEE 1344 time quality, local offset in s and
leap announcement, LTC in ns of the leading edge of the reference marker. -/
structure IrigFrame where
  ok : Bool
  sec : Nat
  s60 : Bool
  year : Bool
  tq : Option Nat
  loc : Int
  leap : Int
  edge : Int
  deriving DecidableEq, Repr

/-- What a frame carries above its Ethernet header: sampled values (APPID, simulation, ASDUs), GOOSE (APPID, message), GLX
(header, type, payload), PTP, PRP or HSR supervision of a node, another. -/
inductive FrameBody where
  | sv (appid : Nat) (sim : Bool) (l : List Asdu)
  | goose (appid : Nat) (g : GooseMsg)
  | glx (h : GlxHdr) (typ : Nat) (p : List Byte)
  | announce (a : Announce)
  | sync (s : SyncMsg)
  | followUp (s : SyncMsg)
  | pdReq (seq : Nat) (rx : Int)
  | pdResp (r : PdResp)
  | pdRespFu (r : PdResp)
  | supervision (node : Nat)
  | arp (target : Word)
  | echo (dst src : Word) (bytes : List Byte)
  | other
  deriving DecidableEq, Repr

/-- A frame received by a MAC (R526): lane (4 SVC), whether its FCS is right, whether the lane dropped during it (R513), its
length, 802.1Q tag (VID, PCP), whether it has two tags, destination and source, EtherType, PRP trailer or HSR tag (LAN 0 A,
1 B; sequence number), octets without FCS, and what they say. -/
structure MacFrame where
  lane : Nat
  fcs : Bool
  cut : Bool
  len : Nat
  tag : Option (Nat × Nat)
  double : Bool
  dst : Nat
  src : Nat
  etype : Nat
  red : Option (Nat × Nat)
  bytes : List Byte
  body : FrameBody
  deriving DecidableEq, Repr

/-- A region of on-die SRAM (allocation and shared frame memory tables of 01), and the SEC's private SRAM. -/
inductive SramRegion where
  /-- The local of a bay or juggler engine, and of the zone engine. -/
  | engineLocal (e : Nat)
  | zoneLocal
  /-- Program and data of a logic task. -/
  | logic (t : Nat)
  /-- Shared frame memory: the result block of a bay, that of the zone, and the regions whose writers are no domains. -/
  | bayResult (b : Nat)
  | zoneResult
  | alignRing
  | svStaging
  | signalImage
  | stitchStaging
  | mirrorAssembly
  | transient
  | analogueStaging
  | binaryStaging
  /-- The other regions, and the SEC's own. -/
  | packetBuffers
  | rmcLocal
  | pocket
  | coalescing
  | domainState
  | systemTables
  | secPrivate
  deriving DecidableEq, Repr

/-- Who owns an SRAM region (R34, R701): a containment domain, the RMC, the SEC. -/
inductive SramOwner where
  | dom (d : Nat)
  | rmc
  | sec
  deriving DecidableEq, Repr

/-- What the HARDWARE phase finds (R757 to R759, R770): domains whose BIST fails, tasks whose stored image fails its CRC, firmware
slots (kind, slot) whose flash does not read back, banks (0 A, 1 B) whose retentive image and whose start record are not valid. -/
structure HwDone where
  bist : List Nat
  badProg : List Nat
  badImg : List (Nat × Nat)
  badRet : List Nat
  badSr : List Nat
  deriving DecidableEq, Repr

/-- Consecutive stage-2 samples of a port, oldest first (R304). -/
structure PortRun where
  port : Nat
  samples : List Int
  deriving DecidableEq, Repr

/-- The lane an SV frame comes in on and its destination address (R489, R535). -/
structure SvFrom where
  lane : Nat
  mac : Nat
  deriving DecidableEq, Repr

/-- Output y has carried `ma` mA for `us` µs (R390, R398, R400). -/
structure OutRead where
  out : Nat
  us : Nat
  ma : Nat
  deriving DecidableEq, Repr

/-- FL_P has been `mv` mV for the last `us` µs (R401). -/
structure FlpRead where
  mv : Nat
  us : Nat
  deriving DecidableEq, Repr

/-- What comes with an eye measurement of the engine (R518): the height, the settings adaptation has found (R506), and the invalid code
groups or headers received since the last. -/
structure EyeRead where
  height : Nat
  adapt : Word
  dfe : Word
  bad : Nat
  deriving DecidableEq, Repr

/-- A lane and the error-free bits its checker has seen in a row (R521). -/
structure PrbsRun where
  lane : Nat
  run : Nat
  deriving DecidableEq, Repr

/-- Errors the checker found and the bits it found them in (R522). -/
structure PrbsErrs where
  errs : Nat
  win : Nat
  deriving DecidableEq, Repr

/-- A PRP supervision frame: the lane it comes in on and the node it names (R531). -/
structure PrpSup where
  lane : Nat
  node : Nat
  deriving DecidableEq, Repr

/-- What the 500 µs stage test of an output finds (R613, R615): the current through the test load in µA, whether the demagnetisation clamp
worked at switch-off, whether the readback was on at any time. -/
structure StageRead where
  ua : Nat
  clamp : Bool
  rb : Bool
  deriving DecidableEq, Repr

end Sys2Proof.Machine
end

