-- ==== Sys2Proof/Syntax.lean ====
section
/-! DEFINITION. The block's commands: one constructor per row of spec/opcode_table.json, in the table's order, with the operands of the
operation or event it stands for. -/

namespace Sys2Proof

open Machine

/-- A command: a transaction, a request, a register access, an event on a pin or lane, an instant that has come (opcode_table.json).
A logic instruction carries its task and its operand. -/
inductive Instr where
  /-- FRAME_TRIGGER (R51): The time-base island fires the frame trigger on the first tick at or after the frame's target
  instant, advancing FCNT_S and FSEQ and starting a new frame. -/
  | frameTrigger (bits : List (List Bool)) (rb : Nat) (late : List Bool)
  /-- ALIGNER_CUT_OFF (R61): At 6 us after the trigger the aligner takes what is in the alignment ring for the sample instant.
  -/
  | alignerCutOff
  /-- ALIGNED_SET_COMPLETE (R62): The aligner completes the coherent sample set and the bay engines are released. -/
  | alignedSetComplete
  /-- BAY_FRAME_COMPLETE (R39): An engine completes the computation of its bay's frame and writes the result buffer. -/
  | bayFrameComplete (e : Nat)
  /-- BAY_DEADLINE (R75): At 44 us an engine that has not completed its bay's frame makes that frame late. -/
  | bayDeadline
  /-- ZE_FRAME_COMPLETE (R46): The zone engine completes the switchboard functions for the frame. -/
  | zeFrameComplete (mismatch : Bool)
  /-- ARC_FLAG_READ (R306): At 48 us the light and fast-OC flags are read for the frame's arc-flash decision. -/
  | arcFlagRead
  /-- FAST_OC_FLAG_SET (R304): N_ARC consecutive stage-2 samples above threshold set a bay's fast-OC flag. `p` are a port and its samples, oldest
  first. -/
  | fastOcFlagSet (b : Nat) (p : PortRun)
  /-- STITCH_BINDING (R803): At 56 us the stitch unit is released to bind the frame's decisions. -/
  | stitchBinding
  /-- BINDING_COMPLETE (R47): Binding of the frame completes and the publish and mirror steps follow. -/
  | bindingComplete
  /-- GUARD_INTERVAL_START (R64): At 62 us the guard interval begins and handover state copies may start. -/
  | guardIntervalStart
  /-- HANDOVER_COPY_DONE (R23): A bay's 32 KiB state copy to the receiving engine finishes. -/
  | handoverCopyDone (b : Nat)
  /-- VCORE_LOOP_TICK (R71): Every 144 frames the VCORE loop moves VCORE by at most one step from the worst slack. -/
  | vcoreLoopTick
  /-- SRAM_ECC_ERROR (R33): A read meets a corrected or uncorrectable SRAM error. -/
  | sramEccError (r : SramRegion) (uncorr : Bool)
  /-- MCLK_ENABLE_WRITE (R806): Setting MCLKx_EN starts the PLL locking to the frame trigger. -/
  | mclkEnableWrite (ses : Nat) (w : Word)
  /-- MCLK_PLL_LOCK (R30): The MCLK PLL locks, the clock runs and its ports reset at the next trigger. -/
  | mclkPllLock (x : Nat)
  /-- MCLK_PLL_LOSS (R110): The MCLK PLL loses lock while enabled. -/
  | mclkPllLoss (x : Nat)
  /-- MOD_STUCK (R96): A port without data transitions for STUCK_LIM periods enters STUCK. -/
  | modStuck (p : Nat)
  /-- MOD_STUCK_RECOVER (R97): Transitions seen for 64 periods end STUCK with a reset at the next trigger. -/
  | modStuckRecover (p : Nat)
  /-- MOD_PORT_ENABLE (R110): Writing MODp_CFG.EN from 0 to 1 enables a port with a synchronising reset. -/
  | modPortEnable (ses : Nat) (p : Nat) (w : Word)
  /-- MOD_GAIN_OFFSET_WRITE (R145): A write of MODp_GAIN or MODp_OFFSET is accepted only in CAL or unmapped and applies at the
  next trigger. -/
  | modGainOffsetWrite (ses : Nat) (p : Nat) (gain : Bool) (w : Word)
  /-- COEF_DATA_ACCESS (R104): An access to COEF_DATA loads an inactive-bank coefficient and advances TAP. -/
  | coefDataAccess (ses : Nat) (w : Option Word)
  /-- SWAP_ARM (R105): Writing SWGg_CTRL.ARM checks the inactive bank and arms a coefficient swap. -/
  | swapArm (ses : Nat) (g : Nat) (w : Word)
  /-- SV_APDU_RECEIVE (R115): An accepted SV APDU has its samples time-tagged and placed in the subscription history. -/
  | svApduReceive (mac : SvFrom) (appid : Nat) (sim : Bool) (l : List Asdu)
  /-- RESAMPLE_COMPLETE (R118): The resampler writes the value for a target instant into the alignment ring. -/
  | resampleComplete (n : Nat) (k : Word)
  /-- SV_STREAM_TIMEOUT (R124): No sample for STREAM_TMO moves a subscription from OK to LOST. -/
  | svStreamTimeout (n : Nat)
  /-- SV_SUBSCRIPTION_ENABLE (R534): Writing SVSs_CFG.EN enters the subscription in the table and moves it to WAITING. -/
  | svSubscriptionEnable (ses : Nat) (n : Nat) (w : Word)
  /-- CAL_MEASUREMENT_DONE (R148): After CAL_FRAMES outputs the calibration mean and RMS are stored. -/
  | calMeasurementDone (p : Nat)
  /-- TRANSIENT_CAPTURE_STOP (R654): The transient ring stops TR_POST outputs after the first trigger of a record. -/
  | transientCaptureStop
  /-- TRANSIENT_COPY_DONE (R149): The RMC finishes copying the transient outputs into the record and restarts the ring. -/
  | transientCopyDone
  /-- BAY_MODE_WRITE (R158): A write of BAYn_CTRL.MODE requests OFF, ON or TEST for the next trigger. -/
  | bayModeWrite (ses : Nat) (b : Nat) (mode : Nat)
  /-- CLR_ENERGY (R223): Writing BAYn_CTRL.CLR_ENERGY clears the energy counters at the next trigger. -/
  | clrEnergy (ses : Nat) (b : Nat)
  /-- BAY_LATCH_CLEAR (R341): A write of 1 to a BAYn_LATCH bit clears the latch when no setting signal operates. -/
  | bayLatchClear (ses : Nat) (b : Nat) (w : Word)
  /-- MOT_CNT_CLR (R268): Writing CNT_CLR clears running hours and the start counter. -/
  | motCntClr (ses : Nat) (b : Nat)
  /-- MOT_START_CLR (R251): Writing START_CLR clears the start ages. -/
  | motStartClr (ses : Nat) (b : Nat)
  /-- MOT_THETA_RESET (R269): Writing THETA_RESET sets the motor theta to 0 and logs THETA_RESET. -/
  | motThetaReset (ses : Nat) (b : Nat)
  /-- PREPARE_DEADLINE (R347): At B a stitch with every READY is bound off, otherwise dropped. -/
  | prepareDeadline (id : Nat)
  /-- COMMIT_INSTANT (R326): At T_C the bound class A stitch carries out its local actions after its interlock check. -/
  | commitInstant (id : Nat)
  /-- ABORT_REPEAT (R348): ABORT is repeated every 250 us until T_C. -/
  | abortRepeat (id : Nat)
  /-- REMOTE_CMD_REPEAT (R335): An unacknowledged remote command is sent again 250 us later. -/
  | remoteCmdRepeat (devid : Nat) (point : Nat)
  /-- SELECTION_TIMEOUT (R354): A selection not operated within SEL_TMO is dropped. -/
  | selectionTimeout (id : Nat)
  /-- TRIP_MIN_EXPIRY (R340): The minimum demand time ends and a demand whose signals dropped may go off. -/
  | tripMinExpiry (b : Nat)
  /-- DI_DEBOUNCE (R377): An input's samples stay constant for DEB_US and the debounced state changes. -/
  | diDebounce (x : Nat) (l : List (Nat × Nat × Nat))
  /-- WIRE_BREAK_CHANGE (R381): BREAK sets or clears after WB_TIME of consistent classes. -/
  | wireBreakChange (x : Nat) (l : List (Nat × Nat × Nat))
  /-- INPUT_SINK_CHECK (R702): Ten out-of-band sink samples count an error in the input group. -/
  | inputSinkCheck (x : Nat) (l : List (Nat × Nat × Nat))
  /-- OUTPUT_DIAG_SCAN (R396): Every 10 ms an observation of each commanded-off output is taken and classified. -/
  | outputDiagScan (rbp : Nat) (rb0 : Nat) (rbOn : Nat) (cur : List Nat)
  /-- OUTPUT_CHANGE_OBSERVATION (R397): 1 ms after another output changes, an observation is taken for sibling correlation. -/
  | outputChangeObservation (y : Nat) (rbp : Nat) (rb0 : Nat)
  /-- SHORT_TO_M (R398): Current limit for 1 ms switches the stage off. -/
  | shortToM (y : OutRead)
  /-- SHORT_RETRY (R399): A shorted stage retries after its delay and stays off after three failures. -/
  | shortRetry (y : Nat)
  /-- OPEN_LOAD_ON_STATE (R400): A conducting output with high readback and low current for 10 ms is classed OPEN_LOAD. -/
  | openLoadOnState (y : OutRead)
  /-- TRIP_DUTY (R390): Excess conduction of a trip output above 1 A logs TRIP_DUTY. -/
  | tripDuty (y : OutRead)
  /-- FLD_SAG_ENTRY (R401): FL_P below 19.2 V enters SAG and freezes diagnostics. -/
  | fldSagEntry (mv : FlpRead)
  /-- FLD_LOW_ENTRY (R383): FL_P below 15 V for 1 ms enters LOW and sets Q_FLD_LOW. -/
  | fldLowEntry (mv : FlpRead)
  /-- FLD_LOCKOUT_ENTRY (R403): FL_P below 10 V enters LOCKOUT and switches every driver off. -/
  | fldLockoutEntry (mv : FlpRead)
  /-- FLD_LOCKOUT_END (R402): After 5 ms at 16 V or more LOCKOUT ends and outputs resume or wait. -/
  | fldLockoutEnd (mv : FlpRead)
  /-- FLD_NORMAL_RETURN (R405): FL_P at 19.4 V returns the band to NORMAL and frozen records resume. -/
  | fldNormalReturn (mv : FlpRead)
  /-- DO_CFG_WRITE (R408): A DOy_CFG write is checked against the output's state and close rules. -/
  | doCfgWrite (ses : Nat) (y : Nat) (w : Word)
  /-- OUT_TEST_END (R726): An output test's TIME ends and the commanded state is restored. -/
  | outTestEnd
  /-- LOGIC_SNAPSHOT (R412): A logic task takes its input snapshot and starts a cycle. -/
  | logicSnapshot (t : Nat)
  /-- NOP (R425): Does nothing. -/
  | lgNop (t : Nat)
  /-- LD (R425): Loads a bit into ACC. -/
  | lgLd (t : Nat) (area : Nat) (idx : Nat)
  /-- LDN (R425): Loads the inverse of a bit into ACC. -/
  | lgLdn (t : Nat) (area : Nat) (idx : Nat)
  /-- AND (R425): ANDs a bit into ACC. -/
  | lgAnd (t : Nat) (area : Nat) (idx : Nat)
  /-- ANDN (R425): ANDs the inverse of a bit into ACC. -/
  | lgAndn (t : Nat) (area : Nat) (idx : Nat)
  /-- OR (R425): ORs a bit into ACC. -/
  | lgOr (t : Nat) (area : Nat) (idx : Nat)
  /-- ORN (R425): ORs the inverse of a bit into ACC. -/
  | lgOrn (t : Nat) (area : Nat) (idx : Nat)
  /-- XOR (R425): XORs a bit into ACC. -/
  | lgXor (t : Nat) (area : Nat) (idx : Nat)
  /-- ST (R425): Stores ACC into a writable bit. -/
  | lgSt (t : Nat) (area : Nat) (idx : Nat)
  /-- STN (R425): Stores the inverse of ACC into a writable bit. -/
  | lgStn (t : Nat) (area : Nat) (idx : Nat)
  /-- SET (R425): Sets a writable bit when ACC is 1. -/
  | lgSet (t : Nat) (area : Nat) (idx : Nat)
  /-- RST (R425): Clears a writable bit when ACC is 1. -/
  | lgRst (t : Nat) (area : Nat) (idx : Nat)
  /-- NOT (R425): Inverts ACC. -/
  | lgNot (t : Nat)
  /-- RE (R425): Detects a rising edge of ACC against an M bit. -/
  | lgRe (t : Nat) (area : Nat) (idx : Nat)
  /-- FE (R425): Detects a falling edge of ACC against an M bit. -/
  | lgFe (t : Nat) (area : Nat) (idx : Nat)
  /-- LDV (R425): Loads the Q_VALID of an I or N bit into ACC. -/
  | lgLdv (t : Nat) (area : Nat) (idx : Nat)
  /-- LDFL (R425): Loads the Q_FLD_LOW of a local input into ACC. -/
  | lgLdfl (t : Nat) (area : Nat) (idx : Nat)
  /-- LDST (R425): Loads the Q_STALE of a station input into ACC. -/
  | lgLdst (t : Nat) (area : Nat) (idx : Nat)
  /-- AND_OPEN (R425): Pushes ACC with an AND and loads a bit. -/
  | lgAndOpen (t : Nat) (area : Nat) (idx : Nat)
  /-- OR_OPEN (R425): Pushes ACC with an OR and loads a bit. -/
  | lgOrOpen (t : Nat) (area : Nat) (idx : Nat)
  /-- CLOSE_PAREN (R425): Pops the branch stack and combines it with ACC. -/
  | lgCloseParen (t : Nat)
  /-- LDW (R425): Loads a word into WACC. -/
  | lgLdw (t : Nat) (area : Nat) (idx : Nat)
  /-- STW (R425): Stores WACC into a writable word. -/
  | lgStw (t : Nat) (area : Nat) (idx : Nat)
  /-- STWC (R425): Stores WACC into a writable word when ACC is 1. -/
  | lgStwc (t : Nat) (area : Nat) (idx : Nat)
  /-- ADD (R426): Adds a word to WACC with saturation. -/
  | lgAdd (t : Nat) (area : Nat) (idx : Nat)
  /-- SUB (R426): Subtracts a word from WACC with saturation. -/
  | lgSub (t : Nat) (area : Nat) (idx : Nat)
  /-- MUL (R426): Multiplies WACC by a word with saturation. -/
  | lgMul (t : Nat) (area : Nat) (idx : Nat)
  /-- DIV (R426): Divides WACC by a word, giving 0 on division by zero. -/
  | lgDiv (t : Nat) (area : Nat) (idx : Nat)
  /-- MOD (R426): Takes WACC modulo a word, giving 0 for a zero divisor. -/
  | lgMod (t : Nat) (area : Nat) (idx : Nat)
  /-- WAND (R425): Bitwise AND of WACC with a word. -/
  | lgWand (t : Nat) (area : Nat) (idx : Nat)
  /-- WOR (R425): Bitwise OR of WACC with a word. -/
  | lgWor (t : Nat) (area : Nat) (idx : Nat)
  /-- WXOR (R425): Bitwise XOR of WACC with a word. -/
  | lgWxor (t : Nat) (area : Nat) (idx : Nat)
  /-- SHL (R426): Shifts WACC left with saturation. -/
  | lgShl (t : Nat) (area : Nat) (idx : Nat)
  /-- SHR (R425): Shifts WACC arithmetically right. -/
  | lgShr (t : Nat) (area : Nat) (idx : Nat)
  /-- EQ (R425): Sets ACC to WACC equal to a word. -/
  | lgEq (t : Nat) (area : Nat) (idx : Nat)
  /-- NE (R425): Sets ACC to WACC not equal to a word. -/
  | lgNe (t : Nat) (area : Nat) (idx : Nat)
  /-- GT (R425): Sets ACC to WACC greater than a word. -/
  | lgGt (t : Nat) (area : Nat) (idx : Nat)
  /-- GE (R425): Sets ACC to WACC greater than or equal to a word. -/
  | lgGe (t : Nat) (area : Nat) (idx : Nat)
  /-- LT (R425): Sets ACC to WACC less than a word. -/
  | lgLt (t : Nat) (area : Nat) (idx : Nat)
  /-- LE (R425): Sets ACC to WACC less than or equal to a word. -/
  | lgLe (t : Nat) (area : Nat) (idx : Nat)
  /-- FADD (R425): Floating-point addition into WACC. -/
  | lgFadd (t : Nat) (area : Nat) (idx : Nat)
  /-- FSUB (R425): Floating-point subtraction into WACC. -/
  | lgFsub (t : Nat) (area : Nat) (idx : Nat)
  /-- FMUL (R425): Floating-point multiplication into WACC. -/
  | lgFmul (t : Nat) (area : Nat) (idx : Nat)
  /-- FDIV (R425): Floating-point division into WACC. -/
  | lgFdiv (t : Nat) (area : Nat) (idx : Nat)
  /-- FGT (R426): Sets ACC to a floating-point greater-than comparison. -/
  | lgFgt (t : Nat) (area : Nat) (idx : Nat)
  /-- FLT (R426): Sets ACC to a floating-point less-than comparison. -/
  | lgFlt (t : Nat) (area : Nat) (idx : Nat)
  /-- ITOF (R425): Converts WACC from integer to binary32. -/
  | lgItof (t : Nat)
  /-- FTOI (R426): Converts WACC from binary32 to integer, rounding half to even. -/
  | lgFtoi (t : Nat)
  /-- TON (R431): Runs an on-delay timer on MON_S. -/
  | lgTon (t : Nat) (idx : Nat)
  /-- TOF (R431): Runs an off-delay timer on MON_S. -/
  | lgTof (t : Nat) (idx : Nat)
  /-- TP (R431): Runs a pulse timer on MON_S. -/
  | lgTp (t : Nat) (idx : Nat)
  /-- CTU (R433): Counts up on a rising edge of ACC. -/
  | lgCtu (t : Nat) (idx : Nat)
  /-- CTD (R433): Counts down on a rising edge of ACC. -/
  | lgCtd (t : Nat) (idx : Nat)
  /-- CLD (R425): Loads WACC into a counter when ACC is 1. -/
  | lgCld (t : Nat) (idx : Nat)
  /-- JMP (R425): Jumps to an address. -/
  | lgJmp (t : Nat) (area : Nat) (idx : Nat)
  /-- JMPC (R425): Jumps when ACC is 1. -/
  | lgJmpc (t : Nat) (area : Nat) (idx : Nat)
  /-- JMPCN (R425): Jumps when ACC is 0. -/
  | lgJmpcn (t : Nat) (area : Nat) (idx : Nat)
  /-- CALLFB (R435): Runs the function block of an E-40 instance. -/
  | lgCallfb (t : Nat) (idx : Nat)
  /-- END (R412): Ends execution; the cycle's stitches are staged and the cycle completes. -/
  | lgEnd (t : Nat) (mismatch : Bool)
  /-- LOGIC_OVERRUN (R418): A cycle not complete at CYC_MAX is abandoned and its stitches dropped. -/
  | logicOverrun (t : Nat)
  /-- TB_INC_WRITE (R460): A host write of TB_INC_FRAC loads a new INC in FREE without the servo. -/
  | tbIncWrite (ses : Nat) (w : Word)
  /-- TB_LTC_READ (R464): A read of TB_LTC_LO latches the LTC and MON registers from one tick. -/
  | tbLtcRead (ses : Nat)
  /-- SOURCE_ENABLE_CLEAR (R467): Clearing the enable of the followed source moves the servo or loses the source. -/
  | sourceEnableClear (ses : Nat) (w : Word)
  /-- PTP_ANNOUNCE_RECEIVE (R484): An Announce is taken into the best master clock choice. -/
  | ptpAnnounceReceive (p : Nat) (a : Announce)
  /-- PTP_ANNOUNCE_TIMEOUT (R486): The third missed Announce loses the PTP source. -/
  | ptpAnnounceTimeout
  /-- PTP_SYNC_RECEIVE (R494): A Sync yields a path value and, when accepted, an offset measurement. -/
  | ptpSyncReceive (p : Nat) (x : SyncMsg)
  /-- PTP_FOLLOW_UP_RECEIVE (R483): A Follow_Up completes a two-step Sync measurement. -/
  | ptpFollowUpReceive (p : Nat) (x : SyncMsg)
  /-- PTP_PDELAY_REQ_SEND (R492): The engine sends a Pdelay_Req on a PTP port. -/
  | ptpPdelayReqSend (p : Nat)
  /-- PTP_PDELAY_RESP_RECEIVE (R494): A Pdelay_Resp updates the port's link delay. -/
  | ptpPdelayRespReceive (p : Nat) (x : PdResp)
  /-- PTP_PDELAY_REQ_RECEIVE (R490): A received Pdelay_Req is answered by a Pdelay_Resp. -/
  | ptpPdelayReqReceive (p : Nat) (seq : Nat) (rx : Int)
  /-- PTP_MASTER_SYNC_SEND (R485): As master the engine sends Sync and Announce. -/
  | ptpMasterSyncSend (p : Nat)
  /-- PPS_IN_EDGE (R487): A PPS_IN rising edge is time-stamped and qualifies or measures offset. -/
  | ppsInEdge
  /-- PPS_TIMEOUT (R466): 2 s without a PPS edge loses the 1PPS source. -/
  | ppsTimeout
  /-- IRIG_FRAME_RECEIVE (R488): An IRIG-B frame is decoded, qualifying the source or measuring offset. -/
  | irigFrameReceive (f : IrigFrame)
  /-- IRIG_FRAME_TIMEOUT (R498): Two missing or inconsistent frames lose the IRIG-B source. -/
  | irigFrameTimeout
  /-- TB_STEP_ARM (R474): Writing TB_STEP_CTRL.ARM arms or disarms a TIME_STEP. -/
  | tbStepArm (ses : Nat) (w : Word)
  /-- HOLD_T_END (R497): At the end of HOLD_T the mean offset is judged to leave or stay in HOLD. -/
  | holdTEnd
  /-- HOLD_MAX_EXPIRY (R498): HOLD_MAX in HOLD moves to ACQUIRE on the new path. -/
  | holdMaxExpiry
  /-- TB_RR_ACCEPT (R499): Writing TB_RR_CTRL.ACCEPT takes the new path and leaves HOLD. -/
  | tbRrAccept (ses : Nat)
  /-- TRIGGER_ARM (R480): Writing TRGn_CTRL.ARM arms a time trigger. -/
  | triggerArm (ses : Nat) (n : Nat) (w : Word)
  /-- TRIGGER_FIRE (R481): An armed trigger reaches its target and carries out its action. -/
  | triggerFire (n : Nat)
  /-- PPS_OUT_PULSE_END (R501): A PPS_OUT pulse ends after PPS_W. -/
  | ppsOutPulseEnd
  /-- TSQ_ENTRY_READ (R493): A read of LNl_TSQ_ENT0 removes and latches the oldest host stamp. -/
  | tsqEntryRead (ses : Nat) (l : Nat)
  /-- LANE_CFG_WRITE (R525): A LNl_CFG write enables or disables a lane and sets its rate and role. -/
  | laneCfgWrite (ses : Nat) (l : Nat) (w : Word)
  /-- LANE_SYNC_GAINED (R509): A training lane gains synchronisation and enters ALIGN. -/
  | laneSyncGained (l : Nat) (an : Bool) (adapt : Word) (dfe : Word) (freq : Nat)
  /-- LANE_LOSS_OF_LOCK (R510): A loss-of-lock cause drops the lane to TRAIN. -/
  | laneLossOfLock (l : Nat) (cause : Nat) (bad : Nat)
  /-- LANE_UP (R515): UP_HOLD in ALIGN without a cause brings the lane UP. -/
  | laneUp (l : Nat)
  /-- ADAPT_PRESET_RESTART (R507): No synchronisation in 5 ms restarts adaptation from presets. -/
  | adaptPresetRestart (l : Nat)
  /-- ADAPT_FREEZE (R508): Writing LNl_ADAPT.FREEZE holds or resumes equaliser adaptation. -/
  | adaptFreeze (ses : Nat) (l : Nat) (w : Word)
  /-- EYE_SCAN_START (R516): Writing LNl_SCAN_CTRL.START begins an eye scan point. -/
  | eyeScanStart (ses : Nat) (l : Nat) (w : Word)
  /-- EYE_SCAN_DONE (R517): A scan point completes and its disagreements are stored. -/
  | eyeScanDone (l : Nat) (errs : Nat)
  /-- EYE_AUTO_MEASURE (R518): Every 100 ms the engine measures the eye itself. -/
  | eyeAutoMeasure (l : Nat) (w : Nat) (h : EyeRead)
  /-- PRBS_ENABLE (R520): Writing GEN_EN, CHK_EN or LOOP in TEST starts the generator, checker or loopback. -/
  | prbsEnable (ses : Nat) (l : Nat) (w : Word)
  /-- PRBS_SYNC_GAIN (R521): 64 error-free bits put the PRBS checker in SYNC. -/
  | prbsSyncGain (l : PrbsRun)
  /-- PRBS_SYNC_LOSS (R522): 32 errors in 64 bits lose checker SYNC. -/
  | prbsSyncLoss (l : Nat) (errs : PrbsErrs)
  /-- PRBS_CLR (R523): Writing CLR clears the PRBS error and bit counters. -/
  | prbsClr (ses : Nat) (l : Nat)
  /-- PRBS_INJ (R519): Writing INJ inverts one transmitted bit. -/
  | prbsInj (ses : Nat) (l : Nat)
  /-- MAC_FRAME_RECEIVE (R526): A received frame passes the receive steps and is dispatched or discarded. -/
  | macFrameReceive (f : MacFrame)
  /-- GOOSE_RECEIVE (R537): An accepted GOOSE message sets its points and refreshes liveness. -/
  | gooseReceive (lane : Nat) (mac : Nat) (appid : Nat) (g : GooseMsg)
  /-- GOOSE_TAL_EXPIRY (R538): timeAllowedtoLive passes and the points go stale. -/
  | gooseTalExpiry (g : Nat)
  /-- GOOSE_REPEAT (R543): A publication is repeated at its growing interval. -/
  | gooseRepeat (p : Nat)
  /-- GOOSE_PUB_ENABLE (R541): Enabling a publication checks its template offsets. -/
  | goosePubEnable (ses : Nat) (p : Nat) (w : Word)
  /-- GPUB_WIN_ACCESS (R573): An access to GPUB_WIN_DATA loads template or offsets and advances the index. -/
  | gpubWinAccess (ses : Nat) (w : Option Word)
  /-- GLX_ANNOUNCE_RECEIVE (R551): A station ANNOUNCE admits, re-admits or is ignored. -/
  | glxAnnounceReceive (h : GlxHdr) (p : List Byte)
  /-- GLX_INPUT_RECEIVE (R550): A station INPUT updates its points and liveness. -/
  | glxInputReceive (h : GlxHdr) (p : List Byte)
  /-- GLX_LEAVE_RECEIVE (R566): A station LEAVE returns its entry to WAITING. -/
  | glxLeaveReceive (h : GlxHdr) (p : List Byte)
  /-- GLX_ACK_RECEIVE (R559): An ACK ends the repetition of the acknowledged command. -/
  | glxAckReceive (h : GlxHdr) (p : List Byte)
  /-- GLX_READY_RECEIVE (R349): A participant's READY is recorded; the last one prepares the stitch. -/
  | glxReadyReceive (h : GlxHdr) (p : List Byte)
  /-- GLX_REFUSE_RECEIVE (R348): A REFUSE drops the stitch and sends ABORT. -/
  | glxRefuseReceive (h : GlxHdr) (p : List Byte)
  /-- GLX_REPORT_RECEIVE (R569): A REPORT opens or updates a coalescing entry. -/
  | glxReportReceive (h : GlxHdr) (p : List Byte)
  /-- REPORT_COALESCE_CLOSE (R570): HOLD_MS after the last report the entry closes with a summary. -/
  | reportCoalesceClose
  /-- GLX_BEACON_SEND (R560): Every 5 ms the unit broadcasts BEACON with its claim. -/
  | glxBeaconSend
  /-- STATION_LIVE_TIMEOUT (R553): No INPUT for LIVE_TMO moves a station out of LIVE or ADMITTED. -/
  | stationLiveTimeout (e : Nat)
  /-- STATION_AGE_OUT (R551): A silent station without any frame for AGE_T returns to WAITING. -/
  | stationAgeOut (e : Nat)
  /-- STATION_ENABLE (R547): Writing STA_e_CFG.EN enables or disables a station entry. -/
  | stationEnable (ses : Nat) (e : Nat) (w : Word)
  /-- HOST_FRAME_RECEIVE (R572): A frame matching a host filter goes to the host in a NOTIFY. -/
  | hostFrameReceive (lane : Nat) (etype : Nat) (bytes : List Byte)
  /-- PRP_SUPERVISION_SEND (R530): A PRP or HSR supervision frame is sent every LIFE_MS. -/
  | prpSupervisionSend
  /-- PRP_SUPERVISION_RECEIVE (R531): A supervision frame updates the node table. -/
  | prpSupervisionReceive (node : PrpSup)
  /-- CLAIM_WORD_SEND (R582): Every 64 us the unit sends its claim word on the claim line. -/
  | claimWordSend
  /-- CLAIM_WORD_RECEIVE (R580): A valid peer claim word is received and compared. -/
  | claimWordReceive (syncOk : Bool) (c : Word) (seq : Nat) (crc : Nat)
  /-- CLAIM_TIMEOUT (R581): No valid peer claim for CLM_TIMEOUT makes the peer claim absent. -/
  | claimTimeout
  /-- HEARTBEAT_RECEIVE (R586): A peer heartbeat drives the pair role table. -/
  | heartbeatReceive (seq : Word) (h : Hb)
  /-- HEARTBEAT_TIMEOUT (R591): No heartbeat for HB_TIMEOUT loses the heartbeat. -/
  | heartbeatTimeout
  /-- PAIR_LISTEN_END (R587): LISTEN ends in INIT and the role is chosen. -/
  | pairListenEnd
  /-- M0_FRAME_RECEIVE (R604): An M0 frame is received into its set. -/
  | m0FrameReceive (seq : Word) (tag : Word) (last : Bool) (x : M0Set)
  /-- M1_FRAME_RECEIVE (R594): M1 retentive data is received by the standby. -/
  | m1FrameReceive (seq : Word) (full : Bool) (last : Bool) (t : Nat) (d : RetData)
  /-- M2_FRAME_RECEIVE (R601): M2 configuration data is received and applied. -/
  | m2FrameReceive (seq : Word) (full : Bool) (last : Bool) (x : M2Item)
  /-- SYNC_REQ_RECEIVE (R608): A SYNC_REQ makes the active send a full M1 and M2 pass. -/
  | syncReqReceive (seq : Word)
  /-- M1_FULL_PASS (R607): Each second the active sends a full pass of M1 data. -/
  | m1FullPass
  /-- PAIR_CTRL_SWITCH (R598): Writing PAIR_CTRL.SWITCH announces a switch frame 16 frames ahead. -/
  | pairCtrlSwitch (ses : Nat)
  /-- PAIR_CTRL_RESYNC (R622): Writing PAIR_CTRL.RESYNC clears SYNC and sends SYNC_REQ. -/
  | pairCtrlResync (ses : Nat)
  /-- MIRROR_ENTRY_WRITE (R602): An integrator mirror entry is written and sent in full. -/
  | mirrorEntryWrite (ses : Nat) (e : Nat) (cfg : Bool) (w : Word)
  /-- STANDBY_OUTPUT_TEST (R613): Every OTEST_PERIOD a standby tests the next output stage. -/
  | standbyOutputTest
  /-- STANDBY_OUTPUT_TEST_END (R615): The 500 us stage test ends and a failure is recorded. -/
  | standbyOutputTestEnd (ok : StageRead)
  /-- FEED_PRESENT (R616): A feed rises to 16.8 V and becomes PRESENT. -/
  | feedPresent (f : Nat) (mv : Nat)
  /-- FEED_LOSS (R617): A feed falls below 16.8 V, failing any proof. -/
  | feedLoss (f : Nat) (mv : Nat)
  /-- FEED_PROOF_END (R620): After FEED_T alone a proving feed is PROVEN. -/
  | feedProofEnd (f : Nat)
  /-- AUTO_FEED_PROOF (R618): A present unproven feed is proved 1 s after a survived hold-up. -/
  | autoFeedProof (f : Nat)
  /-- PWR_PROVE (R691): Writing PWR_CTRL.PROVE_A or PROVE_B starts a feed proof. -/
  | pwrProve (ses : Nat) (w : Word)
  /-- HOLDUP_EVENT (R619): The combined input below 15.5 V for 50 us starts the retentive write. -/
  | holdupEvent
  /-- EVENT_RECORD_WRITTEN (R630): The log writer completes and verifies one record. -/
  | eventRecordWritten (res : Nat) (off : Nat)
  /-- REPEAT_ENTRY_CLOSE (R632): A repeat entry closes after REPEAT_WIN without a repeat. -/
  | repeatEntryClose
  /-- REPEAT_REWRITE (R633): A record with a changing repeat entry is rewritten every 10 ms. -/
  | repeatRewrite
  /-- EVR_CURSOR_WRITE (R636): Writing EVR_CURSOR latches a record into the window. -/
  | evrCursorWrite (ses : Nat) (w : Word)
  /-- EVR_WINDOW_READ (R637): A read of EVR_WINDOW_15 advances the cursor and latches the next record. -/
  | evrWindowRead (ses : Nat)
  /-- EVR_CTRL_CLEAR (R638): Writing EVR_CTRL.CLEAR clears the event log. -/
  | evrCtrlClear (ses : Nat)
  /-- DR_CTRL_MANUAL (R648): Writing DR_CTRL.MANUAL triggers a disturbance record. -/
  | drCtrlManual (ses : Nat)
  /-- DR_CTRL_CLEAR (R657): Writing DR_CTRL.CLEAR deletes every disturbance record. -/
  | drCtrlClear (ses : Nat)
  /-- DR_RECORD_END (R650): A record reaches its last row and ends. -/
  | drRecordEnd
  /-- HP_STATUS (R662): An HP STATUS transaction returns the status word. -/
  | hpStatus
  /-- HP_WRITE (R663): An HP WRITE transaction delivers one request packet. -/
  | hpWrite (l : List Byte)
  /-- HP_READ (R664): An HP READ transaction sends the next reply or NOTIFY. -/
  | hpRead (n : Nat)
  /-- UDP_DATAGRAM_RECEIVE (R666): A UDP datagram on SVC delivers one request packet. -/
  | udpDatagramReceive (dst : Word) (dport : Nat) (src : Word) (sport : Nat) (frag : Bool) (l : List Byte)
  /-- NOTIFY_RESEND (R679): An unacknowledged UDP NOTIFY is sent again after 100 ms. -/
  | notifyResend
  /-- SESSION_TIMEOUT (R674): A session without a request for SESS_TMO ends. -/
  | sessionTimeout
  /-- HELLO (R672): Opens a session. -/
  | pkHello (h : Hdr) (p : List Byte)
  /-- FEAT_OFFER (R681): Returns the offered and accepted feature bitmaps. -/
  | pkFeatOffer (h : Hdr) (p : List Byte)
  /-- FEAT_ACCEPT (R682): Accepts a set of offered features. -/
  | pkFeatAccept (h : Hdr) (p : List Byte)
  /-- PING (R684): Echoes bytes with the present LTC. -/
  | pkPing (h : Hdr) (p : List Byte)
  /-- BYE (R675): Ends the session. -/
  | pkBye (h : Hdr) (p : List Byte)
  /-- NOTIFY_ACK (R679): Acknowledges NOTIFYs up to an NSEQ. -/
  | pkNotifyAck (h : Hdr) (p : List Byte)
  /-- NOTIFY_CFG (R677): Sets the session's event and notification mask. -/
  | pkNotifyCfg (h : Hdr) (p : List Byte)
  /-- REG_READ (R685): Reads consecutive registers. -/
  | pkRegRead (h : Hdr) (p : List Byte)
  /-- REG_WRITE (R685): Writes consecutive registers, stopping at the first refusal. -/
  | pkRegWrite (h : Hdr) (p : List Byte)
  /-- REG_MODIFY (R686): Read-modify-writes one register atomically without read side effects. -/
  | pkRegModify (h : Hdr) (p : List Byte)
  /-- SET_STAGE (R807): Stages parameter values into a bay's group or parameter buffer. -/
  | pkSetStage (h : Hdr) (p : List Byte)
  /-- SET_COMMIT (R224): Commits staged settings of bays as one class A stitch. -/
  | pkSetCommit (h : Hdr) (p : List Byte)
  /-- GROUP_SELECT (R228): Selects a bay's active setting group. -/
  | pkGroupSelect (h : Hdr) (p : List Byte)
  /-- SET_READ (R684): Reads committed or staged settings. -/
  | pkSetRead (h : Hdr) (p : List Byte)
  /-- SET_DISCARD (R688): Sets a staging buffer back to committed values and releases it. -/
  | pkSetDiscard (h : Hdr) (p : List Byte)
  /-- PROG_LOAD (R429): Loads a program image segment by segment and checks it. -/
  | pkProgLoad (h : Hdr) (p : List Byte)
  /-- PROG_START (R438): Starts a task cold or by resume. -/
  | pkProgStart (h : Hdr) (p : List Byte)
  /-- PROG_STOP (R438): Stops a running task. -/
  | pkProgStop (h : Hdr) (p : List Byte)
  /-- CONST_WRITE (R446): Changes constant words of a task as a class A stitch. -/
  | pkConstWrite (h : Hdr) (p : List Byte)
  /-- FORCE (R449): Forces an I, Q or M bit of a task. -/
  | pkForce (h : Hdr) (p : List Byte)
  /-- UNFORCE (R454): Releases one or all forces of a task. -/
  | pkUnforce (h : Hdr) (p : List Byte)
  /-- FORCE_LIST (R684): Returns the forces of a task. -/
  | pkForceList (h : Hdr) (p : List Byte)
  /-- SELECT (R353): Selects a control object by casting on a class A stitch. -/
  | pkSelect (h : Hdr) (p : List Byte)
  /-- OPERATE (R355): Stages the selected control and closes staging. -/
  | pkOperate (h : Hdr) (p : List Byte)
  /-- CANCEL (R355): Drops a selected stitch. -/
  | pkCancel (h : Hdr) (p : List Byte)
  /-- STITCH_STATUS (R325): Returns the state and outcome of a stitch. -/
  | pkStitchStatus (h : Hdr) (p : List Byte)
  /-- EVR_READ (R804): Reads event records in bulk from an RSEQ. -/
  | pkEvrRead (h : Hdr) (p : List Byte)
  /-- EVR_CLEAR (R638): Clears the event log. -/
  | pkEvrClear (h : Hdr) (p : List Byte)
  /-- EVT_CODES (R802): Returns the event codes and names of a class. -/
  | pkEvtCodes (h : Hdr) (p : List Byte)
  /-- DR_LIST (R684): Returns the disturbance record index. -/
  | pkDrList (h : Hdr) (p : List Byte)
  /-- DR_READ (R656): Reads raw bytes of a disturbance record. -/
  | pkDrRead (h : Hdr) (p : List Byte)
  /-- DR_TRIGGER (R648): Triggers a disturbance record. -/
  | pkDrTrigger (h : Hdr) (p : List Byte)
  /-- DR_CLEAR (R657): Clears the disturbance records. -/
  | pkDrClear (h : Hdr) (p : List Byte)
  /-- TIME_GET (R684): Returns LTC, MON and time-base status from one tick. -/
  | pkTimeGet (h : Hdr) (p : List Byte)
  /-- TIME_STEP (R473): Arms a time step. -/
  | pkTimeStep (h : Hdr) (p : List Byte)
  /-- TIME_ACCEPT (R499): Accepts the new path in HOLD. -/
  | pkTimeAccept (h : Hdr) (p : List Byte)
  /-- PAIR_STATUS (R684): Returns pair and power status. -/
  | pkPairStatus (h : Hdr) (p : List Byte)
  /-- PAIR_SWITCH (R597): Requests a planned switchover. -/
  | pkPairSwitch (h : Hdr) (p : List Byte)
  /-- PAIR_RESYNC (R609): Makes a standby resynchronise. -/
  | pkPairResync (h : Hdr) (p : List Byte)
  /-- FEED_PROVE (R618): Proves one feed. -/
  | pkFeedProve (h : Hdr) (p : List Byte)
  /-- MAINT_START (R691): Starts a maintenance activity with its tokens. -/
  | pkMaintStart (h : Hdr) (p : List Byte)
  /-- MAINT_END (R725): Ends a maintenance activity. -/
  | pkMaintEnd (h : Hdr) (p : List Byte)
  /-- MAINT_LIST (R684): Lists running maintenance activities. -/
  | pkMaintList (h : Hdr) (p : List Byte)
  /-- OUT_TEST (R726): Drives an output of a tested group for a time. -/
  | pkOutTest (h : Hdr) (p : List Byte)
  /-- RESTART (R759): Restarts the module warm or cold after the reply. -/
  | pkRestart (h : Hdr) (p : List Byte)
  /-- ROLE_CHALLENGE (R749): Gives the session a nonce. -/
  | pkRoleChallenge (h : Hdr) (p : List Byte)
  /-- ROLE_RESPONSE (R750): Grants the maintenance role on a valid credential. -/
  | pkRoleResponse (h : Hdr) (p : List Byte)
  /-- ROLE_DROP (R673): Drops the maintenance role. -/
  | pkRoleDrop (h : Hdr) (p : List Byte)
  /-- FW_STAGE (R740): Stages and verifies a firmware image. -/
  | pkFwStage (h : Hdr) (p : List Byte)
  /-- FW_ACTIVATE (R735): Marks the staged slot active for the next restart. -/
  | pkFwActivate (h : Hdr) (p : List Byte)
  /-- ATTEST (R746): Builds and returns a signed attestation report. -/
  | pkAttest (h : Hdr) (p : List Byte)
  /-- CERT_READ (R741): Returns the certificate bundle. -/
  | pkCertRead (h : Hdr) (p : List Byte)
  /-- SEAL (R754): Burns the seal fuse. -/
  | pkSeal (h : Hdr) (p : List Byte)
  /-- DIAG_SUMMARY (R684): Returns HEALTH, FAULT and the fenced domains. -/
  | pkDiagSummary (h : Hdr) (p : List Byte)
  /-- DOMAIN_STATUS (R684): Returns the state and errors of one domain. -/
  | pkDomainStatus (h : Hdr) (p : List Byte)
  /-- FRAME_SEND (R572): Sends a host frame, optionally time-stamped. -/
  | pkFrameSend (h : Hdr) (p : List Byte)
  /-- REGISTER_WRITE (R11): A write to a register without behaviour of its own follows its access code. -/
  | registerWrite (ses : Nat) (a : Nat) (w : Word)
  /-- RC_COUNTER_READ (R14): A read of an RC counter returns and clears it atomically. -/
  | rcCounterRead (ses : Nat) (a : Nat)
  /-- FRM_COUNT_READ (R89): A read of FRM_COUNT latches FSEQ into FRM_SEQ_LATCH. -/
  | frmCountRead (ses : Nat)
  /-- ENERGY_LOW_READ (R232): A read of an energy low word latches the high word. -/
  | energyLowRead (ses : Nat) (b : Nat) (k : Nat)
  /-- D_ALIGN_WRITE (R59): A write of FRM_CFG.D_ALIGN changes the alignment delay when all bays are OFF. -/
  | dAlignWrite (ses : Nat) (d : Nat)
  /-- HLT_UNFENCE_REQUEST (R709): Writing HLT_UNFENCE.REQ requests the unfence of a domain. -/
  | hltUnfenceRequest (ses : Nat) (w : Word)
  /-- RETEST_DONE (R710): A retest completes and the domain passes or is fenced again. -/
  | retestDone (d : Nat) (pass : Bool)
  /-- CAROUSEL_SLOT (R715): A carousel slot begins every PERIOD. -/
  | carouselSlot
  /-- CAROUSEL_TEST_DONE (R718): An engine's carousel test completes, passing or fencing it. -/
  | carouselTestDone (e : Nat) (pass : Bool)
  /-- CAROUSEL_NEXT_REQ (R719): Writing NEXT_REQ makes NEXT_ENG the subject of the next slot. -/
  | carouselNextReq (ses : Nat) (w : Word)
  /-- RMC_WATCHDOG (R704): The RMC watchdog expires and counts N errors. -/
  | rmcWatchdog
  /-- MRAM_SCRUB_DONE (R727): An MRAM scrub completes and ends its activity. -/
  | mramScrubDone (b : Nat) (n : Nat)
  /-- TEMP_READ (R784): Every 100 ms the temperature diodes are read and reported. -/
  | tempRead (l : List Int)
  /-- ATB_CTRL_WRITE (R733): A write of ATB_n_CTRL sets the bus mode and node. -/
  | atbCtrlWrite (ses : Nat) (n : Nat) (w : Word)
  /-- ROLE_LOCKOUT_END (R752): 60 s after five failures role responses are accepted again. -/
  | roleLockoutEnd
  /-- ROLE_NONCE_EXPIRY (R751): A challenge nonce expires after 60 s. -/
  | roleNonceExpiry
  /-- MKEY_LOAD (R756): Writing word 23 of a maintenance key loads the slot. -/
  | mkeyLoad (ses : Nat) (k : Nat) (w : Word)
  /-- MKEY_REVOKE (R753): Writing SEC_MKEY_CTRL.REVOKE revokes a key slot. -/
  | mkeyRevoke (ses : Nat) (w : Word)
  /-- POWER_ON (R757): Power is applied and the start phases begin. -/
  | powerOn (psA : Bool) (mvA : Nat) (mvB : Nat) (okA : Bool) (okB : Bool)
  /-- RST_N_ASSERT (R792): RST_N low for 10 us resets the module. -/
  | rstNAssert
  /-- HARDWARE_PHASE_DONE (R758): BIST completes and the engine enters HOST. -/
  | hardwarePhaseDone (x : HwDone)
  /-- START_KIND_WRITE (R760): Writing START_CTRL.KIND fixes the restart kind and restores or initialises. -/
  | startKindWrite (ses : Nat) (kind : Nat)
  /-- START_GO (R764): Writing START_CTRL.GO ends CONFIG. -/
  | startGo (ses : Nat)
  /-- TIME_WAIT_EXPIRY (R765): TIME_WAIT passes without time and TIME ends with NO_TIME. -/
  | timeWaitExpiry
  /-- BAY_WAIT_EXPIRY (R768): Bays not ready within BAY_WAIT are given up. -/
  | bayWaitExpiry
  /-- RET_IMAGE_WRITE (R440): Every RET_PERIOD the retentive image is written to both banks. -/
  | retImageWrite
  /-- MVDD_FAULT (R796): An MVDD overload limits the supply and logs MVDD_FAULT. -/
  | mvddFault
  /-- FLD_LOW_EXIT (R401): FL_P rising back to 15 V or more moves the field supply band from LOW to SAG and starts the Q_FLD_LOW
  clearing time. -/
  | fldLowExit (mv : FlpRead)
  /-- PTP_SYNC_TIMEOUT (R486): Three Sync intervals without a Sync from the chosen grandmaster move the servo to the other port,
  or on both ports lose the PTP source. -/
  | ptpSyncTimeout
  /-- PDELAY_RESP_FOLLOW_UP_RECEIVE (R494): A received Pdelay_Resp_Follow_Up completes a two-step peer-delay exchange and
  updates the port's link delay. -/
  | pdelayRespFollowUpReceive (p : Nat) (x : PdResp)
  /-- PRP_NODE_FORGET (R530): A node not heard within NodeForgetTime is removed from the PRP node table, which lowers the count
  in PRP_5. -/
  | prpNodeForget (node : Nat)
  /-- GOOSE_SUB_ENABLE (R534): Writing GSUBg_CFG.EN enters or removes the GOOSE subscription in the subscription table, refusing
  it when its set is full or its address is a duplicate. -/
  | gooseSubEnable (ses : Nat) (g : Nat) (w : Word)
  /-- DR_ENABLE (R651): Writing DR_CTRL.EN arms the disturbance recorder, reserving blocks and starting the pre-trigger ring, or
  disarms it. -/
  | drEnable (ses : Nat) (w : Word)
  /-- RST_N_RELEASE (R792): The rising edge of RST_N ends the reset and starts the start phases from HARDWARE. -/
  | rstNRelease (psA : Bool)
  /-- RET_IMAGE_WRITE_DONE (R772): A retentive image write completes in both banks, and after a hold-up image the start record
  is rewritten with HOLDUP_PREV. -/
  | retImageWriteDone
  deriving DecidableEq, Repr

end Sys2Proof
end

