-- ==== Sys2Proof/Machine/Regs.lean ====
section
/-! DEFINITION. The register file: stored words by register, field access, saturating counters, and the times and codes the
other files share. -/

namespace Sys2Proof.Machine

/-- A Nat as a word. -/
def wd (n : Nat) : Word := BitVec.ofNat 32 n

/-- The word a register holds at reset: the identity registers are fixed at manufacture (log entry 3), every other holds
its table's reset values. -/
def Reg.init : Reg → Word
  | .idRev => Config.identity 4
  | .idSerialHi => Config.identity 8
  | .idSerialLo => Config.identity 12
  | .idFw => Config.identity 16
  | .glbFeatOffer w => wd (Config.featOffer % 1024 / 2 ^ (32 * w))
  | .macHi l => Config.identity (0x20 + 8 * l)
  | .macLo l => Config.identity (0x24 + 8 * l)
  | r => r.resetWord

namespace Mach

/-- The stored word of a register. -/
def rd (m : Mach) (r : Reg) : Word := SMap.getD m.regs r.addr r.init

/-- A register's stored word set; nothing is listed for a word equal to the reset word. -/
def wr (m : Mach) (r : Reg) (w : Word) : Mach := { m with regs := SMap.putD m.regs r.init r.addr w }

/-- A field of a register's stored word. -/
def fld (m : Mach) (r : Reg) (f : Fld) : Nat := f.get (m.rd r)

/-- The RW1C bits of a register that the engine set at this instant. -/
def fresh1Of (m : Mach) (r : Reg) : Word := SMap.getD m.fresh1 r.addr 0

/-- RW1C bits that the engine sets are kept until the instant is over (R13). -/
def fresh1Add (m : Mach) (r : Reg) (f : Fld) (v : Nat) : Mach :=
  if f.acc = .rw1c ∧ v ≠ 0 then { m with fresh1 := SMap.putD m.fresh1 0 r.addr (m.fresh1Of r ||| f.set 0 v) } else m

/-- A field set. -/
def setF (m : Mach) (r : Reg) (f : Fld) (v : Nat) : Mach := (m.fresh1Add r f v).wr r (f.set (m.rd r) v)

/-- A one-bit field. -/
def flag (m : Mach) (r : Reg) (f : Fld) : Bool := m.fld r f != 0

/-- RW1C bits set by the engine (R13). -/
def orW (m : Mach) (r : Reg) (w : Word) : Mach :=
  ({ m with fresh1 := SMap.putD m.fresh1 0 r.addr (m.fresh1Of r ||| w) } : Mach).wr r (m.rd r ||| w)

/-- An RC register at this instant: its word before the instant's first increment, and the instant's increments (R14). -/
def freshCOf (m : Mach) (r : Reg) : Word × Word := SMap.getD m.freshC r.addr (m.rd r, 0)

/-- An increment of an RC counter is kept apart until the instant is over (R14). -/
def freshCAdd (m : Mach) (r : Reg) (f : Fld) (n : Nat) : Mach :=
  if f.acc = .rc then
    let e := m.freshCOf r
    { m with freshC := SMap.put m.freshC r.addr (e.1, f.set e.2 (min (f.get e.2 + n) (2 ^ (f.hi + 1 - f.lo) - 1))) }
  else m

/-- A counter field raised by n, saturating at its width. -/
def bump (m : Mach) (r : Reg) (f : Fld) (n : Nat) : Mach :=
  (m.freshCAdd r f n).setF r f (min (m.fld r f + n) (2 ^ (f.hi + 1 - f.lo) - 1))

/-- LTC in ns (R458). -/
def ltc (m : Mach) : Time := (m.tb.ltc >>> 32).setWidth 64

/-- MON in ns (R462). -/
def mon (m : Mach) : Time := m.tb.mon

/-- Time passed on MON since an instant, in ns. -/
def since (m : Mach) (t : Time) : Nat := (m.mon - t).toNat

/-- The next free value, and the state with the counter advanced (log entry 2). -/
def freeVal (m : Mach) : Nat × Mach := (Config.freeValue m.free, { m with free := m.free + 1 })

/-- A bay. -/
def bay (m : Mach) (b : Nat) : Bay := SMap.getD m.bays b Bay.init

/-- A bay replaced. -/
def setBay (m : Mach) (b : Nat) (x : Bay) : Mach := { m with bays := SMap.put m.bays b x }

/-- A bay changed. -/
def updBay (m : Mach) (b : Nat) (f : Bay → Bay) : Mach := m.setBay b (f (m.bay b))

/-- Active setting group of a bay (R228). -/
def groupOf (m : Mach) (b : Nat) : Nat := SMap.getD m.group b 0

/-- A committed setting in effect for a bay's active group. -/
def cfg (m : Mach) (b code stage idx : Nat) : Int := bayCfg m.set b (m.groupOf b) code stage idx

/-- A committed zone setting. -/
def zcfg (m : Mach) (code stage idx : Nat) : Int := setGet m.set 32 0 (pidOf code stage idx)

/-- A domain. -/
def dom (m : Mach) (d : Nat) : Dom := SMap.getD m.hlth.doms d { st := 0, errs := [], total := 0, fenceLtc := 0 }

/-- A domain is fenced or under retest. -/
def fenced (m : Mach) (d : Nat) : Bool := decide ((m.dom d).st = 1 ∨ (m.dom d).st = 2)

/-- A feature accepted (R682): bit number of the feature bitmap. -/
def feat (m : Mach) (k : Nat) : Bool := (m.rd (.glbFeatAcc (k / 32))).getLsbD (k % 32)

/-- Something handed out. -/
def send (m : Mach) (x : Sent) : Mach := { m with sent := m.sent ++ [x] }

end Mach

-- The MRAM bank maps (R41): offset in the bank and size in octets of each region.

/-- Bank A: skein, retentive image, disturbance area. -/
def mramSkein : Nat × Nat := (0, 0x1000000)
def mramRetA : Nat × Nat := (0x1000000, 0x800000)
def mramDistA : Nat × Nat := (0x1800000, 0x2800000)

/-- Bank B: disturbance area, retentive mirror, spare skein, pocket log. -/
def mramDistB : Nat × Nat := (0, 0x3000000)
def mramRetB : Nat × Nat := (0x3000000, 0x800000)
def mramSpare : Nat × Nat := (0x3800000, 0x7F0000)
def mramPocket : Nat × Nat := (0x3FF0000, 0x10000)

/-- Blocks of 1 MiB of the two disturbance areas (R655). -/
def distBlocksA : Nat := mramDistA.2 / 0x100000
def distBlocksB : Nat := mramDistB.2 / 0x100000

/-- Milliseconds and microseconds in ns. -/
def msNs (n : Nat) : Nat := n * 1000000
def usNs (n : Nat) : Nat := n * 1000

/-- A Nat as a time. -/
def tm (n : Nat) : Time := BitVec.ofNat 64 n


end Sys2Proof.Machine
end

