-- ==== Sys2Proof/Machine/Gate.lean ====
section
/-! DEFINITION. Claims, roles and claim gates (13 R575 to R588), the commanded and conducting state of the outputs (07 R342,
08 R387 to R395), and sending on the lanes (12 R529 to R532, R548, R549). -/

namespace Sys2Proof.Machine

/-- Claim a is higher than claim b (R576). -/
def claimHigher (a b : Word) : Bool :=
  let d : Int := (a.extractLsb' 16 16 - b.extractLsb' 16 16).toInt
  let h (x : Word) : Nat := (x.extractLsb' 12 4).toNat
  if d ≠ 0 then decide (0 < d)
  else if h a ≠ h b then decide (h b < h a)
  else a.getLsbD 0 && !b.getLsbD 0

/-- Domain number of an output's group (R695). -/
def doDomain (y : Nat) : Nat := if y < 8 then 45 else if y < 12 then 46 else 47

/-- A demand whose output actions were carried out is on. -/
def Demand.drives (d : Demand) : Bool := d.on && d.out

/-- Commands as CMD and PREPARE carry them (R548). -/
def glxCmds (l : List (Nat × Nat)) : List Byte :=
  beBytes 1 l.length ++ [0, 0, 0] ++ l.flatMap (fun p => beBytes 2 p.1 ++ [0, 0] ++ beBytes 4 p.2)

/-- Built-in PMA latencies in ps, transmit and receive, by LN_CFG.RATE (table before R489). -/
def pma (rate : Nat) : Int × Int := [(12800, 22400), (9300, 15500), (6200, 11600)].getD rate (12800, 22400)

namespace Mach

/-- The unit binds decisions: SINGLE or ACTIVE (R588). -/
def acts (m : Mach) : Bool := decide (m.pair.role = .single ∨ m.pair.role = .active)

/-- STANDBY or ORPHAN (R588, R589). -/
def passive (m : Mach) : Bool := decide (m.pair.role = .standby ∨ m.pair.role = .orphan)

/-- Present HEALTH (R712). -/
def health (m : Mach) : Nat := m.fld .hltStat F.hltStat_HEALTH

/-- A claim with the unit's POS (R575). -/
def claimOf (m : Mach) (epoch health : Nat) : Word := wd (epoch % 65536 * 65536 + health % 16 * 4096 + bit m.pins.psA)

/-- The own claim; a SINGLE unit has EPOCH 1 (R575, the chapter's opening). -/
def ownClaim (m : Mach) : Word := m.claimOf (if m.pair.role = .single then 1 else m.pair.epoch.toNat) m.health

/-- The peer claim while present (R581). -/
def peerClaim (m : Mach) : Option Word :=
  if m.pair.peerOn then m.pair.peer else none

/-- A peer claim lower than the own is present (R394, R583). -/
def confirm (m : Mach) : Bool :=
  match m.peerClaim with
  | some c => claimHigher m.ownClaim c
  | none => false

/-- Output y is claim-gated (R392). -/
def gated (m : Mach) (y : Nat) : Bool := decide (12 ≤ y) || m.flag (.doCfg y) F.doCfg_CLAIM

/-- Output y is close-class (R394). -/
def closeClass (m : Mach) (y : Nat) : Bool :=
  m.flag (.doCfg y) F.doCfg_CLOSE ||
    (List.range 32).any (fun b => (m.fld (.bayClsLoc b) F.bayClsLoc_DO_MASK).testBit y)

/-- The gate of output y passes, or it is not gated (R393 to R395). -/
def gatePass (m : Mach) (y : Nat) : Bool :=
  if !m.feat 3 then true
  else if m.closeClass y then m.confirm
  else if !m.gated y then true
  else match m.peerClaim with
    | some c => claimHigher m.ownClaim c
    | none => true

/-- Some bay's or the zone's demand routed to output y is on (R342). -/
def demandOn (m : Mach) (y : Nat) : Bool :=
  m.bays.any (fun p =>
    (p.2.dBrk.drives && (m.fld (.bayBrkLoc p.1) F.bayBrkLoc_DO_MASK).testBit y) ||
    (match SMap.get? p.2.dOut y with
      | some d => d.drives
      | none => false)) ||
  (match SMap.get? m.zone.dOut y with
    | some d => d.drives
    | none => false)

/-- The state of an output of field I/O. -/
def doSt (m : Mach) (y : Nat) : Do :=
  SMap.getD m.fio.dos y
    { cmdA := false, test := none, parked := true, wait := false, heldOff := false, dead := false, retries := 0, obs := [],
      fault := 0, sib := 0, rb := false, cmdSeen := false, shortMon := 0, openOn := false, cur := 0,
      cond := [], condLong := false, condMuch := false }

/-- An output's state changed. -/
def updDo (m : Mach) (y : Nat) (f : Do → Do) : Mach :=
  { m with fio := { m.fio with dos := SMap.put m.fio.dos y (f (m.doSt y)) } }

/-- The commanded state of output y (R342, R588, R726). -/
def cmdOn (m : Mach) (y : Nat) : Bool :=
  match (m.doSt y).test with
  | some v => v
  | none =>
    if m.passive then m.gated y && (match m.pair.m0Last with
      | some s => s.cmds.testBit y
      | none => false)
    else m.demandOn y || (m.doSt y).cmdA

/-- Commanded states of all outputs. -/
def cmdMask (m : Mach) : Nat := bitsOf 16 m.cmdOn

/-- Output y conducts (R387). -/
def conducts (m : Mach) (y : Nat) : Bool :=
  let d := m.doSt y
  m.cmdOn y && m.gatePass y && decide (m.fio.band ≠ 3) && !d.parked && !m.fenced (doDomain y) && !d.heldOff && !d.dead &&
    !d.wait

/-- A task changed. -/
def updTask (m : Mach) (t : Nat) (f : Task → Task) : Mach :=
  match m.tasks[t]? with
  | some x => { m with tasks := setAt m.tasks t (f x) }
  | none => m

-- Sending

/-- A lane. -/
def lane (m : Mach) (l : Nat) : Lane :=
  m.lanes.getD l { st := .off, alignMon := 0, trainMon := 0, eqMon := 0, eyeMon := 0, scanMon := 0, scan := false, eqUp := (0, 0),
                   fromUp := false, bits := 0, errs := 0 }

/-- A lane changed. -/
def updLane (m : Mach) (l : Nat) (f : Lane → Lane) : Mach := { m with lanes := setAt m.lanes l (f (m.lane l)) }

/-- Lane l is UP in role ETH. -/
def ethUp (m : Mach) (l : Nat) : Bool := decide ((m.lane l).st = .up) && decide (m.fld (.lnCfg l) F.lnCfg_ROLE = 0)

/-- SVC is UP. -/
def svcUp (m : Mach) : Bool := decide ((m.lane 4).st = .up)

/-- PRP or HSR is on (R530). -/
def dual (m : Mach) : Bool := m.flag .netCtrl F.netCtrl_PRP || m.flag .netCtrl F.netCtrl_HSR

/-- The class of a PCP (R528). -/
def pcpClass (m : Mach) (pcp : Nat) : Nat := m.fld .netPcpMap F.netPcpMap_MAP / 4 ^ pcp % 4

/-- The class of a frame with a tag, or without one (R528). -/
def tagClass (m : Mach) (tag : Option (Nat × Nat)) : Nat := m.pcpClass (match tag with
  | some t => t.2
  | none => m.fld .netCtrl F.netCtrl_DEF_PCP)

/-- Octets that wait in the queues of lane l. -/
def txHeld (m : Mach) (l : Nat) : Nat := ((m.txq.filter (fun f => f.lane = l)).map TxFrame.octets).foldl (· + ·) 0

/-- A frame put into the queue of its class on a lane (R529); one that the 32 KiB of the lane's queues cannot hold is discarded (R562, log
entry 62). -/
def txPut (m : Mach) (l cls octets : Nat) (x : Sent) (post : TxPost) : Mach :=
  if 32768 < m.txHeld l + max 64 octets then m
  else { m with txq := m.txq ++ [{ lane := l, cls := cls, octets := max 64 octets, frame := x, post := post }] }

/-- A frame put into the queues of its lanes: under PRP or HSR of L0 and L1 with one sequence number (R531), else of those named (R532). A
lane that is not UP in role ETH takes nothing. `octets` are those without a trailer. -/
def ethOut (m : Mach) (lanes : List Nat) (cls octets : Nat) (mk : Nat → Option Nat → Sent) : Mach :=
  let d := m.dual
  let ls := (if d then [0, 1] else lanes).filter m.ethUp
  if ls.isEmpty then m
  else
    let n := m.net.prpSeq
    let m := if d then { m with net := { m.net with prpSeq := (n + 1) % 65536 } } else m
    forEach ls m (fun m l => m.txPut l cls (octets + 6 * bit d) (mk l (if d then some n else none)) .plain)

/-- The tag of the engine's own GLX frames and of its PTP frames (NET_VLAN), and octets of a frame with or without a tag. -/
def glxTag (m : Mach) : Option (Nat × Nat) :=
  if m.flag .netVlan F.netVlan_GLX_TAG then some (m.fld .netVlan F.netVlan_GLX_VID, m.fld .netCtrl F.netCtrl_GLX_PCP) else none
def ptpTag (m : Mach) : Option (Nat × Nat) :=
  if m.flag .netVlan F.netVlan_PTP_TAG then some (m.fld .netVlan F.netVlan_PTP_VID, m.fld .netVlan F.netVlan_PTP_PCP) else none
def wireLen (tag : Option (Nat × Nat)) (n : Nat) : Nat := 18 + 4 * bit tag.isSome + n

/-- A PTP message into the queue of its port's lane, at PTP_PCP when PTP_TAG is 1 (R529); its length by type (IEEE 1588). -/
def ptpOut (m : Mach) (typ p seq : Nat) (body : List Int) (post : TxPost) : Mach :=
  let n := match typ with
    | 0 | 1 => 44
    | 2 => 64
    | _ => 54
  m.txPut p (m.tagClass m.ptpTag) (wireLen m.ptpTag n) (.ptp typ p seq body m.ptpTag) post

-- Stamps (R489)

/-- ASYM registers of a port, in ps. -/
def asymRx (m : Mach) (l : Nat) : Int := sgn32 (m.rd (.lnAsymRx l)).toNat
def asymTx (m : Mach) (l : Nat) : Int := sgn32 (m.rd (.lnAsymTx l)).toNat

/-- The PMA latencies of a lane in ps, send and receive; SVC has its own row (R489). -/
def pmaOf (m : Mach) (l : Nat) : Int × Int := if l = 4 then (13600, 23200) else pma (m.fld (.lnCfg l) F.lnCfg_RATE)

/-- Receive stamp of lane l in ps of LTC. -/
def rxStamp (m : Mach) (l : Nat) (pcs : Int) : Int := pcs - (m.pmaOf l).2 - m.asymRx l

/-- LTC in ps. -/
def ltcPs (m : Mach) : Int := ((m.tb.ltc.toNat * 1000 / 4294967296 : Nat) : Int)

/-- Transmit stamp of a frame leaving lane l now. -/
def txStamp (m : Mach) (l : Nat) : Int := m.ltcPs + (m.pmaOf l).1 + m.asymTx l

-- Pair link

/-- TAG of a frame (R603). -/
def tagOf (sec fcnt : Nat) : Word := wd (sec % 2 ^ 18 * 16384 + fcnt)
def tagNow (m : Mach) : Word := tagOf m.fr.sec m.fr.fcnt

/-- The lanes of the pair link that are UP (R503, R610). -/
def pairUp (m : Mach) : List Nat :=
  [2, 3].filter (fun l => decide ((m.lane l).st = .up) && decide (m.fld (.lnCfg l) F.lnCfg_ROLE = 1))

/-- What a pair-link frame does that arrives: one of its lanes is UP (R44, R514). -/
def onPair (f : Mach → Mach) (m : Mach) : Mach := if m.pairUp.isEmpty then m else f m

/-- Pair-link frames of a content of `n` payload octets, at most 1904 in each (R603), waiting for credits. None while no lane is UP. -/
def pairPut (m : Mach) (tag : Word) (x : PairMsg) (n : Nat) : Mach :=
  if !m.feat 3 || m.pairUp.isEmpty then m
  else
    let k := max 1 ((n + 1903) / 1904)
    { m with pair := { m.pair with txq := m.pair.txq ++ (List.range k).map (fun i =>
        { tag := tag, part := i, parts := k, len := 16 + min 1904 (n - 1904 * i), msg := x }) } }

/-- A pair-link content on its way (R603): heartbeat and SYNC_REQ have their lengths, that of mirror data is free (log entry 60). -/
def pairSend (m : Mach) (tag : Word) (x : PairMsg) : Mach :=
  m.pairPut tag x (match x with
    | .hb _ => 12
    | .syncReq => 0
    | .m0 _ => 14336
    | .m1 _ _ t _ => Config.mirrorLen 1 t
    | .m2 _ _ _ => Config.mirrorLen 2 0)

/-- A station entry. -/
def sta (m : Mach) (e : Nat) : Sta :=
  SMap.getD m.net.stas e
    { st := .disabled, layout := none, mac := 0, lastInput := 0, lastFrame := 0, seq := none, vals := [], errs := [],
      leftLive := none }

/-- A station entry changed. -/
def updSta (m : Mach) (e : Nat) (f : Sta → Sta) : Mach :=
  { m with net := { m.net with stas := SMap.put m.net.stas e (f (m.sta e)) } }

/-- The enabled station entry of a DEVID. -/
def staOf (m : Mach) (devid : Nat) : Option Nat :=
  (List.range 256).find? (fun e => decide ((m.sta e).st ≠ .disabled) && decide (m.fld (.staCfg e) F.staCfg_DEVID = devid))

/-- The next GLX sequence number, and the state with it taken. -/
def glxSeq (m : Mach) : Nat × Mach :=
  (m.net.glxSeq, { m with net := { m.net with glxSeq := (m.net.glxSeq + 1) % 65536 } })

/-- A GLX frame to a station (R548, R549), with the claim; nothing leaves while GLX is off, no entry names the DEVID, or the
unit does not act (R587, R588). -/
def glxTo (m : Mach) (devid flags typ seq stitch : Nat) (body : List Byte) : Mach :=
  if !m.flag .netCtrl F.netCtrl_GLX_EN || !m.acts then m
  else match m.staOf devid with
    | none => m
    | some e =>
      let c := m.ownClaim
      let mac := (m.sta e).mac
      m.ethOut [m.fld (.staCfg e) F.staCfg_LANE] (m.pcpClass (m.fld .netCtrl F.netCtrl_GLX_PCP)) (wireLen m.glxTag (20 + body.length))
        (fun l p => .glx flags typ devid seq c stitch body mac m.glxTag l p)

/-- The group MAC of GLX. -/
def glxMac (m : Mach) : Nat :=
  m.fld .netGlxMacHi F.netGlxMacHi_MAC % 65536 * 2 ^ 32 + m.fld .netGlxMacLo F.netGlxMacLo_MAC

/-- BEACON (R548, R560): LTC and FSEQ with the own claim, to the group address, on every ETH lane without PRP or HSR
(log entry 15). A unit in INIT sends none (R587). -/
def beacon (m : Mach) : Mach :=
  if !m.flag .netCtrl F.netCtrl_GLX_EN || decide (m.pair.role = .init) then m
  else
    let (n, m) := m.glxSeq
    let c := m.ownClaim
    let body := beBytes 8 m.ltc.toNat ++ beBytes 4 m.fr.fseq.toNat
    let mac := m.glxMac
    let tag := m.glxTag
    m.ethOut [0, 1, 2, 3] (m.pcpClass (m.fld .netCtrl F.netCtrl_GLX_PCP)) (wireLen tag 32) (fun l p => .glx 128 4 0 n c 0 body mac tag l p)

end Mach

end Sys2Proof.Machine
end

