-- ==== Sys2Proof/Machine/View.lean ====
section
/-! DEFINITION. What the block shows of itself: views of State that registers and other units read, none of which changes anything. -/

namespace Sys2Proof.Machine

/-- Codes of LNl_STAT.STATE. -/
def LaneSt.code : LaneSt → Nat
  | .off => 0 | .train => 1 | .align => 2 | .up => 3 | .down => 4 | .test => 5 | .fenced => 6

/-- Codes of STA_e_STAT.STATE. -/
def StaSt.code : StaSt → Nat
  | .disabled => 0 | .waiting => 1 | .admitted => 2 | .live => 3 | .silent => 4

/-- A role's code (PAIR_STAT.ROLE). -/
def Role.code : Role → Nat
  | .single => 0 | .init => 1 | .standby => 2 | .active => 3 | .orphan => 4

/-- The code of a source in TB_STAT.SRC. -/
def Src.code : Src → Nat
  | .ptp => 1 | .irig => 2 | .pps => 3

/-- The index words of a record (DR_IDX_r_w). -/
def DrRec.idx (r : DrRec) (complete : Bool) (w : Nat) : Word :=
  match w with
  | 0 => wd r.recNo
  | 1 => r.trigLtc.setWidth 32
  | 2 => (r.trigLtc >>> 32).setWidth 32
  | _ => wd (2 ^ 31 + bit complete * 2 ^ 30 + bit r.damaged * 2 ^ 29 + bit r.test * 2 ^ 28 + bit r.linked * 2 ^ 27 +
      r.blocks.length % 256)

/-- Sibling n is a candidate of a record of output y (R397). -/
def candidate (l : List Obs) (y n : Nat) : Bool := decide (n ≠ y) && l.all (fun o => o.cmds.testBit n = o.rb0)

namespace Mach

/-- Oldest and newest readable RSEQ of a log (0 where it has none). -/
def oldestOf (l : EvLog) : Word := (l.head?.map (·.rseq)).getD 0

def newestOf (l : EvLog) : Word := (l.getLast?.map (·.rseq)).getD 0

/-- Errors of a window on MON that are still within W_MS (R697, R700). -/
def inWindow (m : Mach) (errs : List Time) : List Time :=
  errs.filter (fun t => decide (m.since t ≤ msNs (m.fld .hltWin F.hltWin_W_MS)))

/-- Errors of a domain within the present window (R697). -/
def domErrs (m : Mach) (d : Nat) : Nat := (m.inWindow (m.dom d).errs).length

/-- HLT_STAT.FABRIC (R703). -/
def fabric (m : Mach) : Bool := decide (m.fld .hltWin F.hltWin_N ≤ (m.inWindow m.hlth.fabErrs).length)

/-- The engine that computes bay b (R19, R20). -/
def engOf (m : Mach) (b : Nat) : Nat := SMap.getD m.fr.map b b

/-- The bay that engine e carries. -/
def bayOn (m : Mach) (e : Nat) : Option Nat := (List.range 32).find? (fun b => decide (m.engOf b = e))

/-- Juggler engine j carries the bay of a fenced engine (R24). -/
def carriesFenced (m : Mach) (j : Nat) : Bool :=
  match m.bayOn j with
  | some b => m.fenced b
  | none => false

/-- A station's errors are lasting (R558). -/
def staSuspect (m : Mach) (e : Nat) : Bool :=
  decide (m.fld .hltWin F.hltWin_N ≤ (m.inWindow (m.sta e).errs).length)

/-- A publication. -/
def gpub (m : Mach) (p : Nat) : Gpub :=
  SMap.getD m.net.gpubs p
    { tmpl := [], offs := [], memb := [], test := [], stNum := 0, sqNum := 0, t := 0, nextMon := none, interval := 0 }

/-- Publication, member window and index of GPUB_WIN_ADDR. -/
def gwPub (m : Mach) : Nat := (m.rd .gpubWinAddr).toNat / 2 ^ 24 % 128

def gwMemb (m : Mach) : Bool := (m.rd .gpubWinAddr).getLsbD 16

def gwIdx (m : Mach) : Nat := (m.rd .gpubWinAddr).toNat % 2048

/-- What GPUB_WIN_DATA shows. -/
def gwShow (m : Mach) : Word :=
  if m.gwMemb then SMap.getD (m.gpub m.gwPub).offs m.gwIdx 0 else wd (beAt (m.gpub m.gwPub).tmpl (4 * m.gwIdx) 4)

/-- The trip-matrix word of a bay signal and of a zone signal. -/
def tmw (m : Mach) (b s : Nat) : Word := m.rd (.bayTm b s)

/-- The conditions of a close of bay b, but for the claim, from the last published results (R356). -/
def closeIlk (m : Mach) (b : Nat) : Bool :=
  let x := m.bay b
  let r := x.pub
  let blk := m.fld (.bayClsIlk b) F.bayClsIlk_CLS_BLK
  (decide (x.mode = 1) || (decide (x.mode = 2) && (m.rd .stuTestOut).getLsbD b)) &&
  decide (m.rd (.bayLatch b) &&& 7 = 0) && !(List.range 64).any (fun s => r.oper.testBit s && (m.tmw b s).getLsbD 0) &&
  !r.start.testBit 34 && (!r.inhibit || r.motStat.getLsbD 5) && decide (r.pos = 1) &&
  (decide (blk = 0) || !x.bf.testBit (blk - 1))

/-- Zone signals as published (R40, R317). -/
def zoneStart (m : Mach) : Nat := m.zone.sigS

def zoneOper (m : Mach) : Nat := m.zone.sigO

/-- The zone engine takes no part in this frame: it is fenced, or came back to service in it. -/
def zeOut (m : Mach) : Bool := m.fenced 34 || m.fr.zeBack

/-- The start of BT while the stitch unit routes backtrips itself (R314, R317). -/
def routed (m : Mach) : Nat := if m.zone.ords.any (fun o => decide (o.sig = 28)) then 2 ^ 28 else 0

/-- The zone signals of the present frame: those of the zone engine's results, kept as published while it is fenced (R45), the arc-flash
decision, and BT for a backtrip that the stitch unit routes itself (R314, R317). -/
def zoneSigs (m : Mach) : Nat × Nat :=
  let own (w : Nat) : Nat := w &&& (2 ^ 32 - 1 - 15 * 65536)
  if m.zeOut then
    ((own m.zone.sigS &&& (2 ^ 32 - 1 - 2 ^ 28)) ||| m.zone.arcHeld.1 ||| m.routed, own m.zone.sigO ||| m.zone.arcHeld.2)
  else (own m.zone.res.start ||| m.zone.arcHeld.1, own m.zone.res.oper ||| m.zone.arcHeld.2)

/-- A bay runs on a juggler engine for the carousel, or because its own engine is fenced (R232). -/
def onCarousel (m : Mach) (b : Nat) : Bool := decide (m.engOf b = 32) && !m.fenced b && decide ((m.bay b).mode ≠ 0)

def onSpare (m : Mach) (b : Nat) : Bool := decide (32 ≤ m.engOf b) && m.fenced b && decide ((m.bay b).mode ≠ 0)

/-- An input. -/
def di (m : Mach) (x : Nat) : Di :=
  SMap.getD m.fio.dis x
    { cfg := Reg.resetWord (.diCfg x), deb := false, filt := false, tension := 0, fldLow := true, brk := false, pulsed := false,
      sinkBad := false, mv := 0, ua := 0, takenMon := m.start.resetMon, smp := false, run := 0, cur := 0, cls := 1, brkUs := 0, okUs := 0,
      winN := 0, winSum := 0, outRun := 0, inRun := 0 }

/-- The group of input x is fenced. -/
def diFenced (m : Mach) (x : Nat) : Bool := m.fenced (48 + x / 8)

/-- Input x is named in an enabled LIGHT_MASK (R305). -/
def diLight (m : Mach) (x : Nat) : Bool :=
  (List.range 4).any (fun k => decide (m.zcfg 0x54 k 0 = 1) && (maskOf (m.zcfg 0x54 k 2)).testBit x)

/-- Q_VALID of input x (R383, R386). -/
def diValid (m : Mach) (x : Nat) : Bool := !m.diFenced x && !(m.di x).brk

/-- The carousel rotates (R715). -/
def carRun (m : Mach) : Bool :=
  m.hlth.car.running && !m.carriesFenced 32 && !m.hlth.car.paused && !m.fenced 32

/-- A POS conflict holds until it has been gone for 1 s (R578). -/
def posConflict (m : Mach) : Bool := m.pair.posConf && decide (m.since m.pair.posGone < 1000000000)

/-- The log that EVR_SEL.SRC selects, and whether it is fenced (R637). -/
def selLog (m : Mach) (src : Nat) : EvLog × Bool :=
  match src with
  | 1 => (m.recs.onDie, false)
  | 2 => (m.recs.pocketLog, m.fenced 44)
  | _ => (if m.recs.active = 0 then m.recs.skeinA else if m.recs.active = 1 then m.recs.spare else [],
          decide (m.recs.active = 2))

/-- Usable free blocks (R655): not of a stored record, held, damaged, or in a fenced bank. -/
def drFree (m : Mach) : List Nat :=
  (List.range (distBlocksA + distBlocksB)).filter (fun k =>
    !m.recs.dr.held.contains k && !m.recs.dr.badBlocks.contains k && !(m.recs.dr.stored.any (fun r => r.blocks.contains k)) &&
    !m.fenced (if k < distBlocksA then 43 else 44))

-- Swap groups (R103 to R109)

/-- A swap group. -/
def swg (m : Mach) (g : Nat) : Swg := SMap.getD m.acq.swgs g { bankA := none, bankB := none, swapAt := none }

/-- A bank of n taps of unity DC gain and linear phase (R105, R109): the one given, which the default design is, or else that of the two middle
taps alone. -/
def unityTaps (n : Nat) (f : Nat → Int) : List Int :=
  let l := (List.range n).map f
  if l.foldl (· + ·) 0 = 2 ^ 23 ∧ l = l.reverse ∧ l.all (fun x => decide (-8388608 ≤ x ∧ x ≤ 8388607)) then l
  else (List.range n).map (fun i => if i = n / 2 ∨ i + 1 = n / 2 then 4194304 else 0)

/-- Coefficients of a group's bank (0 A, 1 B): stage 2 and stage 3; the default design where none was loaded (R109). -/
def bank (m : Mach) (g b : Nat) : List Int × List Int :=
  match (if b = 0 then (m.swg g).bankA else (m.swg g).bankB) with
  | some c => c
  | none => (unityTaps 64 (Config.defaultTap 2), unityTaps 160 (Config.defaultTap 3))

/-- Active bank of a group. -/
def activeBank (m : Mach) (g : Nat) : Nat := m.fld (.swgCtrl g) F.swgCtrl_ACTIVE

/-- The coefficient at COEF_ADDR (R103, R104), the default design's where none was loaded. -/
def coefNow (m : Mach) : Int :=
  let a := m.rd .coefAddr
  let c := m.bank (F.coefAddr_GROUP.get a) (F.coefAddr_BANK.get a)
  (if F.coefAddr_STAGE.get a = 0 then c.1 else c.2).getD (F.coefAddr_TAP.get a) 0

/-- The oldest host entry of a lane's time-stamp queue (R491, R493). -/
def tsqHead (m : Mach) (l : Nat) : Option (Nat × Time) := (m.tb.tsq.getD l []).find? (fun e => e.1.testBit 15)

end Mach

end Sys2Proof.Machine
end

