-- ==== Sys2Proof/Machine/Peek.lean ====
section
/-! DEFINITION. What a register shows, without the effects a read may have (R50, R629). A field that follows the block's state is
computed here; every other stands in the register file. -/

namespace Sys2Proof.Machine

/-- A word from fields and values. -/
def fields (base : Word) (l : List (Fld × Nat)) : Word := l.foldl (fun w p => p.1.set w p.2) base

/-- Codes of MODp_STAT.STATE, LEt_STAT.STATE, TB_STAT.STATE and PWR_STAT. -/
def PortSt.code : PortSt → Nat
  | .off => 0 | .settling => 1 | .run => 2 | .stuck => 3 | .cal => 4
def TaskSt.code : TaskSt → Nat
  | .empty => 0 | .loaded => 1 | .run => 2 | .stopped => 3 | .fenced => 4
def TbSt.code : TbSt → Nat
  | .free => 0 | .acquire => 1 | .locked => 2 | .hold => 3
def FeedSt.code : FeedSt → Nat
  | .absent => 0 | .present => 1 | .proving => 2 | .proven => 3 | .failed => 4

/-- Low and high halves of a time. -/
def loW (t : Time) : Word := t.setWidth 32
def hiW (t : Time) : Word := (t >>> 32).setWidth 32

/-- A word of an open coalescing entry (COAL_e_w). -/
def Coal.word (c : Coal) (w : Nat) : Word :=
  match w with
  | 0 => wd (c.code % 65536 * 65536 + c.subject % 65536)
  | 1 => hiW c.firstLtc
  | 2 => loW c.firstLtc
  | 3 => hiW c.lastLtc
  | 4 => loW c.lastLtc
  | 5 => wd (min c.count (2 ^ 32 - 1))
  | 6 => wd (2 ^ 31 + min c.bitmap.length 511 * 65536 + c.reporter % 65536)
  | 7 => wd (min c.nOther (2 ^ 32 - 1))
  | _ => wd (bitsOf 32 (fun b => c.bitmap.contains (32 * (w - 8) + b)))

/-- A word of a used subscription-table entry (SUB_e_w). -/
def SubEnt.word (s : SubEnt) (w : Nat) : Word :=
  match w with
  | 0 => wd (2 ^ 31 + bit s.goose * 2 ^ 30 + s.idx % 256 * 65536 + s.mac / 2 ^ 32 % 65536)
  | 1 => wd (s.mac % 2 ^ 32)
  | _ => wd (s.appid % 65536)

/-- MIRe_CFG of an engine entry: which entries are in use, their class and length are the engine's, within the field's bounds (R599, R622; log
entry 60). -/
def engineEntry (w : Word) : Word :=
  if w.getLsbD 31 then fields 0 [(F.mirCfg_EN, 1), (F.mirCfg_CLASS, w.toNat / 65536 % 3), (F.mirCfg_LEN, 4 + w.toNat % 4093)] else 0

namespace Mach

/-- Registers of acquisition (R150). -/
def peekAcq (m : Mach) (r : Reg) : Word :=
  let w := m.rd r
  match r with
  | .modStat p =>
    let x := SMap.get? m.acq.ports p
    let st : PortSt := (x.map (·.st)).getD .off
    let on := m.flag (.modCfg p) F.modCfg_EN && decide (4 ≤ m.start.phase)
    let code := if m.fenced (52 + p) then 5 else if on then st.code else 0
    fields w [(F.modStat_BANK, m.fld (.swgCtrl (m.fld (.modCfg p) F.modCfg_SWG)) F.swgCtrl_ACTIVE),
      (F.modStat_SETTLE_LEFT, if code = 1 then min 18 ((x.map (·.left)).getD 0) else 0), (F.modStat_STATE, code)]
  | .svsStat s =>
    match SMap.get? m.acq.subs s with
    | some x => fields w [(F.svsStat_TIMEQ, bit x.timeq), (F.svsStat_STATE, x.st)]
    | none => w
  | .coefData => wd (toBits 24 m.coefNow)
  | _ => w

/-- Registers of bays (R232, R269, R370). A bay's energy and, while OFF, its cable state are those it keeps. -/
def peekBay (m : Mach) (r : Reg) : Word :=
  let w := m.rd r
  match r with
  | .bayStat n =>
    let x := m.bay n
    fields 0 [(F.bayStat_UNPROT, bit x.unprot), (F.bayStat_LATE, bit x.pubLate), (F.bayStat_CAROUSEL, bit (m.onCarousel n)),
      (F.bayStat_SPARE, bit (m.onSpare n)), (F.bayStat_THERM_EST, bit x.pub.thermEst), (F.bayStat_CLP_ACT, bit x.pub.clp),
      (F.bayStat_LATE_SEC, min x.lateSec 255), (F.bayStat_GROUP, m.groupOf n), (F.bayStat_FTR_SRC, x.pub.ftrSrc),
      (F.bayStat_MODE, x.mode), (F.bayStat_ENGINE n, if x.unprot then 63 else m.engOf n)]
  | .bayStartLo n => wd (m.bay n).pub.start
  | .bayStartHi n => wd ((m.bay n).pub.start / 2 ^ 32)
  | .bayOperLo n => wd (m.bay n).pub.oper
  | .bayOperHi n => wd ((m.bay n).pub.oper / 2 ^ 32)
  | .bayBlkf n => wd (m.bay n).bf
  | .bayCb n => fields 0 [(F.bayCb_EFF_CLOSED, bit (m.bay n).pub.eff), (F.bayCb_POS, (m.bay n).pub.pos)]
  | .bayValid n => wd (m.bay n).pub.valid
  | .bayMeas n x =>
    let b := m.bay n
    if b.mode = 0 then (if x = 30 then f32 b.d.theta else f32NaN) else b.pub.meas.getD x f32NaN
  | .bayEnergy n x =>
    let b := m.bay n
    let e := if b.mode = 0 then b.d.energy else b.pub.energy
    if x % 2 = 0 then wd (e.getD (x / 2) 0 / 2 ^ 32) else w
  | .bayMotStat n => (m.bay n).pub.motStat
  | .bayClsIlk n => F.bayClsIlk_ILK_OK.set w (bit (m.closeIlk n))
  | .stuStat => F.stuStat_A_OPEN.set w m.stu.opens.length
  | _ => w

/-- Registers of the zone (R318). -/
def peekZone (m : Mach) (r : Reg) : Word :=
  let p := m.zone.pub
  match r with
  | .znStart => wd m.zoneStart
  | .znOper => wd m.zoneOper
  | .znStat =>
    let f := bit m.zeOut
    fields 0 [(F.znStat_TQ_BLK, p.tqBlk), (F.znStat_INV_BLK, p.invBlk), (F.znStat_LATE_SEC, min m.zone.lateSec 255),
      (F.znStat_MERGED, bit p.merged), (F.znStat_TOPO_FROZEN, f), (F.znStat_ARC_FB, f), (F.znStat_LATE, bit m.zone.pubLate),
      (F.znStat_ZE_FENCED, bit (m.fenced 34))]
  | .znBaysec b => fields 0 [(F.znBaysec_TIED, bit (p.tied.testBit b)), (F.znBaysec_DS2_BAD, p.dsBad.getD b 0 / 2 % 2),
      (F.znBaysec_DS1_BAD, p.dsBad.getD b 0 % 2), (F.znBaysec_SEC, p.secs.getD b 0)]
  | .znZbays z => wd (p.zbays.getD z 0)
  | .znDif z x => p.dif.getD (6 * z + x) 0
  | .znFbus s => p.fbus.getD s 0
  | .znArcOc => wd m.zone.pubOc
  | .znArcLight => wd m.zone.pubLight
  | _ => m.rd r

/-- Registers of field I/O (R409). -/
def peekFio (m : Mach) (r : Reg) : Word :=
  let w := m.rd r
  match r with
  | .diStat x =>
    let d := m.di x
    if !m.fr.started then w
    else fields 0 [(F.diStat_TENSION, d.tension), (F.diStat_LIGHT, bit (m.diLight x)), (F.diStat_PULSED, bit d.pulsed),
      (F.diStat_BREAK, bit d.brk), (F.diStat_FLD_LOW, bit d.fldLow), (F.diStat_VALID, bit (m.diValid x)), (F.diStat_DEB, bit d.deb),
      (F.diStat_STATE, bit (d.filt && !m.diFenced x))]
  | .doCfg y => if 12 ≤ y then F.doCfg_CLAIM.set w 1 else w
  | .diCur x => wd (min (m.di x).cur 65535)
  | .doCur y => if m.conducts y then wd (min (m.doSt y).cur 65535) else 0
  | .doStat y =>
    let d := m.doSt y
    fields w [(F.doStat_PAR_SIB, d.sib), (F.doStat_FAULT, d.fault), (F.doStat_RETRIES, d.retries),
      (F.doStat_CLOSE_EFF, bit (m.closeClass y)), (F.doStat_FENCED, bit (m.fenced (doDomain y))), (F.doStat_PARKED, bit d.parked),
      (F.doStat_WAIT_CMD, bit d.wait), (F.doStat_GATE_OK, bit (m.gatePass y && m.fr.started)), (F.doStat_RB, bit d.rb),
      (F.doStat_CONDUCT, bit (m.conducts y)), (F.doStat_CMD, bit (m.cmdOn y))]
  | .doObs y =>
    let l := (m.doSt y).obs
    fields 0 [(F.doObs_CAND y, bitsOf 16 (candidate l y)), (F.doObs_N_OBS, l.length),
      (F.doObs_OBS_RB, bitsOf 8 (fun j => ((l[j]?).map (·.rb0)).getD false))]
  | .fioStat => fields w [(F.fioStat_BAND, m.fio.band), (F.fioStat_FLP_MV, m.fio.flpMv)]
  | .diState => wd m.fio.imgFilt
  | .diDeb => wd m.fio.imgDeb
  | .diValid => wd m.fio.imgValid
  | .diFldlow => wd m.fio.imgLow
  | .diBreak => wd m.fio.imgBrk
  | .doIo => wd (m.cmdMask * 65536 + bitsOf 16 (fun y => (m.doSt y).rb))
  | .doCond => wd (bitsOf 16 (fun y => (m.doSt y).wait) * 65536 + bitsOf 16 m.conducts)
  | _ => w

/-- Registers of logic, time base and lanes (R457, R501, R525). -/
def peekTime (m : Mach) (r : Reg) : Word :=
  let w := m.rd r
  match r with
  | .leStat t =>
    match m.tasks[t]? with
    | some x => fields 0 [(F.leStat_FORCES, x.forces.length), (F.leStat_START_KIND, x.startKind),
        (F.leStat_STATE, if m.fenced (35 + t) then 4 else x.st.code)]
    | none => w
  | .tbStat => fields w [(F.tbStat_SRC, (m.tb.src.map Src.code).getD 0), (F.tbStat_STATE, m.tb.st.code)]
  | .tbLtcLo => m.ltc.setWidth 32
  | .lnTsqEnt0 l => ((m.tsqHead l).map (fun e => wd (2 ^ 31 + e.1 % 65536))).getD 0
  | .tbIncFrac => wd m.tb.inc.toNat
  | .lnStat l => F.lnStat_STATE.set w (if m.fenced (39 + l) then 6 else ((m.lanes[l]?).map (fun x => x.st.code)).getD 0)
  | .svcStat => F.svcStat_STATE.set w (((m.lanes[4]?).map (fun x => x.st.code)).getD 0)
  | _ => w

/-- Registers of network and pair (R574, R622). -/
def peekNet (m : Mach) (r : Reg) : Word :=
  let w := m.rd r
  match r with
  | .sub e k => ((SMap.get? m.net.table e).map (fun x => x.word k)).getD 0
  | .staStat e => fields 0 [(F.staStat_MAC_HI, (m.sta e).mac / 2 ^ 32 % 65536), (F.staStat_SUSPECT, bit (m.staSuspect e)),
      (F.staStat_STATE, (m.sta e).st.code)]
  | .staMacLo e => wd (m.sta e).mac
  | .coal e k => ((SMap.get? m.net.coal e).map (fun x => x.word k)).getD 0
  | .gpubWinData => m.gwShow
  | .pairStat =>
    let p := m.pair
    fields 0 [(F.pairStat_POS, bit m.pins.psA), (F.pairStat_POS_CONFLICT, bit m.posConflict),
      (F.pairStat_M2_STALE, bit (if p.role = .active then !p.m2Defer.isEmpty || p.passDue else p.m2Stale)),
      (F.pairStat_DEGRADED, bit p.degraded), (F.pairStat_CONFIRM, bit m.confirm), (F.pairStat_PEER_CLAIM, bit p.peerOn),
      (F.pairStat_HB_OK, bit (p.hbMon.isSome && !p.hbLost)), (F.pairStat_EVER_SYNC, bit p.everSync), (F.pairStat_SYNC, bit p.sync),
      (F.pairStat_ROLE, p.role.code)]
  | .mirAddr e => if e < 512 ∧ m.feat 3 then Config.mirEngine e else w
  | .mirCfg e => if e < 512 ∧ m.feat 3 then engineEntry (Config.mirEngine (512 + e)) else w
  | .pairClaimOwn => m.ownClaim
  | .pairClaimPeer => m.pair.peer.getD 0
  | .pairMirF => m.pair.mirF.getD 0
  | .pwrStat => fields w [(F.pwrStat_ON_STORE, bit m.power.onStore), (F.pwrStat_FEED_B, m.power.feedB.st.code),
      (F.pwrStat_FEED_A, m.power.feedA.st.code)]
  | .pwrVfa => wd (min m.power.feedA.mv 65535)
  | .pwrVfb => wd (min m.power.feedB.mv 65535)
  | _ => w

/-- Registers of recorders, sessions, health and start-up (R660, R693, R733, 18). -/
def peekSys (m : Mach) (r : Reg) : Word :=
  let w := m.rd r
  let c := m.recs
  match r with
  | .evrStat => fields w [(F.evrStat_REPEAT_OPEN, c.rpt.length), (F.evrStat_POCKET_ONLY, bit (decide (c.active = 2))),
      (F.evrStat_A_FENCED, bit c.fencedA), (F.evrStat_SKEIN, bit (decide (c.active = 1)))]
  | .evrOldest => oldestOf (m.selLog (m.fld .evrSel F.evrSel_SRC)).1
  | .evrNewest => newestOf (m.selLog (m.fld .evrSel F.evrSel_SRC)).1
  | .drStat => fields w [(F.drStat_STORED, c.dr.stored.length), (F.drStat_FREE_BLK, m.drFree.length),
      (F.drStat_RECORDING, bit c.dr.run.isSome), (F.drStat_ARMED, bit c.dr.armed)]
  | .drIdx i k =>
    match c.dr.stored[i]? with
    | some x => x.idx true k
    | none => match c.dr.run with
      | some x => if i = c.dr.stored.length then x.body.idx false k else 0
      | none => 0
  | .glbStat => fields w [(F.glbStat_HEALTH, m.health), (F.glbStat_FAULT, bit (!m.pins.faultN)),
      (F.glbStat_START_KIND, m.start.kindEff)]
  | .cmdStat => fields 0 [(F.cmdStat_UDP, bitsOf 4 (fun s => ((m.cmd.slots.getD s none).map (·.udp)).getD false)),
      (F.cmdStat_OPEN, bitsOf 4 (fun s => (m.cmd.slots.getD s none).isSome))]
  | .sessInfo s =>
    match m.cmd.slots.getD s none with
    | some x => fields 0 [(F.sessInfo_SESSION, x.num), (F.sessInfo_OPEN, 1), (F.sessInfo_UDP, bit x.udp),
        (F.sessInfo_MAINT, bit x.maint)]
    | none => 0
  | .sessPeer s =>
    match m.cmd.slots.getD s none with
    | some x => if x.udp then x.ip else 0
    | none => 0
  | .sessSeq s =>
    match m.cmd.slots.getD s none with
    | some x => wd (x.lastSeq * 65536 + x.nseqAck)
    | none => 0
  | .hltStat => fields w [(F.hltStat_FAULT, bit (!m.pins.faultN)), (F.hltStat_FABRIC, bit m.fabric), (F.hltStat_CAR_RUN, bit m.carRun)]
  | .hltCarStat => fields w [(F.hltCarStat_PHASE, if m.carriesFenced 32 then 5 else if m.hlth.car.paused then 4 else m.hlth.car.phase),
      (F.hltCarStat_SLOT, m.hlth.car.slot)]
  | .hltFenced k => wd (bitsOf 32 (fun b => m.fenced (32 * k + b)))
  | .hltDom d =>
    if 132 ≤ d then fields 0 [(F.hltDom_STATE, 4)]
    else fields 0 [(F.hltDom_STATE, (m.dom d).st), (F.hltDom_ERR_WIN, min (m.domErrs d) 255),
      (F.hltDom_ERR_TOTAL, min (m.dom d).total 65535)]
  | .startStat => fields w [(F.startStat_CAUSE, m.start.cause), (F.startStat_KIND_EFF, m.start.kindEff), (F.startStat_PHASE, m.start.phase)]
  | .frmCount => wd m.fr.fcnt
  | _ => w

/-- The word a register shows, by its block. -/
def peek (m : Mach) (r : Reg) : Word :=
  let b := r.addr / 0x10000
  if b = 1 ∨ b = 6 ∨ b = 7 then m.peekTime r
  else if b = 2 then m.peekAcq r
  else if b = 3 then m.peekBay r
  else if b = 4 then (if r.addr < 0x41000 then m.peekZone r else m.peekBay r)
  else if b = 5 then m.peekFio r
  else if b = 8 ∨ b = 9 then m.peekNet r
  else m.peekSys r

/-- The word an address shows: reserved addresses show 0 (R11). -/
def peekAddr (m : Mach) (a : Nat) : Word :=
  match Reg.ofAddr a with
  | some r => m.peek r
  | none => 0

end Mach

end Sys2Proof.Machine
end

