-- ==== Sys2Proof/Machine/Notify.lean ====
section
/-! DEFINITION. Event codes (14 R623, R626, R802), the octets of a record, and the NOTIFY queue of the command interface
(15 R665, R677 to R679). -/

namespace Sys2Proof.Machine

/-- The event class of a name (table under R808; by the chapter that names the event, log entry 7). -/
def Ev.cls : Ev → Nat
  | .fwFallback | .bootFail | .roleFail | .hssExhausted | .progStoreBad | .retInvalid | .retProgMismatch | .startNoTime
  | .bayStartFail => 0
  | .lateFrame | .slackWarn | .vcoreLimit | .bindLate | .stallTakeover | .domError | .domFenced | .domUnfenced
  | .domRetestFail | .carFail | .tempHigh | .tempOk => 1
  | .modStuck | .svCfgMismatch | .svLost | .calAbort => 2
  | .emergStart | .thetaReset | .btNoroute | .motDownUnk | .grpConflict => 3
  | .stitchRec | .stitchFull | .stitchUncertain | .remoteNoack | .remoteRefused => 4
  | .diBreak | .diBreakEnd | .tripDuty | .doFault | .fldSag | .fldLow | .fldLockout | .fldRestore | .holdup | .mvddFault => 5
  | .logicStopped | .logicOverrun | .logicUnfenced | .logicPtTask | .logicPtType | .logicEvent | .forceClear => 6
  | .timeSrcLost | .timeSrcChange | .timeLock | .timeUnlock | .timeRr | .timeRrBack | .timeAsym | .timeAccept
  | .timeHoldMax | .timeStepFail | .timeStepped | .trgDisarm => 7
  | .laneUp | .laneDown | .staJoin | .staBack | .staLeave | .staLayout | .staLayoutBad | .staAged | .staSilent
  | .staDupDevid | .staUnknown | .staSuspect | .staReport | .gooseLost | .gooseCfgMismatch | .gooseTestUnmarked
  | .coalFull | .rptSummary => 8
  | .takeover | .takeoverRefused | .takeoverStale | .pairDemoted | .pairPosConflict | .pairDegraded | .pairRestored
  | .pairOrphan | .pairRejoin | .pairLinkLost | .pairLinkBack | .otestFail => 9
  | .evOverflow | .logMediaFault | .evCleared | .drTrig | .drOverwrite | .drFull | .drDamaged => 10
  | .maintStart | .maintEnd => 11

/-- The number of a name in its class: stated for class 10 and STITCH_REC (R626, R802), else the RMC image's. -/
def Ev.num : Ev → Nat
  | .stitchRec | .evOverflow => 1
  | .logMediaFault => 2
  | .evCleared => 3
  | .drTrig => 4
  | .drOverwrite => 5
  | .drFull => 6
  | .drDamaged => 7
  | e => (Config.evNumber e).toNat

/-- CODE of an event record (R623). -/
def Ev.code (e : Ev) : Nat := e.cls * 4096 + e.num

/-- The three that never open an entry nor merge (R632). -/
def Ev.single : Ev → Bool
  | .stitchRec | .evOverflow | .evCleared => true
  | _ => false

/-- The 64 octets of an event record (R623). -/
def EvRec.bytes (e : EvRec) : List Byte :=
  let flags := 32768 * bit e.test + 16384 * bit e.repSat + 8192 * bit e.stitch + 4096 * bit e.step +
    256 * min e.snap.length 8 + 128 * bit e.deferred
  let l := beBytes 2 e.ev.code ++ beBytes 2 e.source ++ beBytes 2 flags ++ beBytes 2 e.reps ++ beBytes 8 e.ltc.toNat ++
    beBytes 8 e.lastLtc.toNat ++ (List.range 8).flatMap (fun i => beBytes 4 (e.snap.getD i 0).toNat) ++
    beBytes 4 e.rseq.toNat
  l ++ beBytes 4 (crc32c l).toNat

/-- Octets of a packet (R668). -/
def OutPkt.len (p : OutPkt) : Nat := 20 + p.payload.length

/-- The octets of a packet (R668): FLAGS 0x8000 in a reply, 0x4000 in a NOTIFY. -/
def OutPkt.bytes (p : OutPkt) : List Byte :=
  let l := [0xC3#8, 1#8] ++ beBytes 2 (if p.notify then 0x4000 else 0x8000) ++ beBytes 2 p.seq ++ beBytes 2 p.op ++
    beBytes 2 p.payload.length ++ beBytes 2 p.session ++ beBytes 2 p.status ++ [0, 0] ++ p.payload
  l ++ beBytes 4 (crc32c l).toNat

namespace Mach

/-- The open session of a number. -/
def sess (m : Mach) (num : Nat) : Option Session :=
  m.cmd.slots.findSome? (fun x => match x with
    | some s => if s.num = num then some s else none
    | none => none)

/-- The open sessions in slot order. -/
def sessions (m : Mach) : List Session := m.cmd.slots.filterMap id

/-- An open session changed. -/
def updSess (m : Mach) (num : Nat) (f : Session → Session) : Mach :=
  { m with cmd := { m.cmd with slots := m.cmd.slots.map (fun x => x.map (fun s => if s.num = num then f s else s)) } }

/-- Octets of the NOTIFYs in the queue (R678). -/
def noteBytes (m : Mach) : Nat :=
  ((m.cmd.hpOut.filter (fun p => p.notify)) ++ m.cmd.udpNotes).foldl (fun a p => a + p.len) 0

/-- HP_IRQ_N follows the queued NOTIFYs of HP sessions (R665). -/
def setIrq (m : Mach) : Mach :=
  { m with pins := { m.pins with hpIrqN := !(m.cmd.hpOut.any (fun p => p.notify)) } }

/-- A NOTIFY queued for a session, numbered (R677); a UDP one is sent at once and kept until acknowledged (R679). -/
def notePut (m : Mach) (s : Session) (complete : Bool) (kind : Nat) (body : List Byte) : Mach :=
  let n := (s.nseq + 1) % 65536
  let p : OutPkt :=
    { session := s.num, udp := s.udp, ip := s.nip, port := s.nport, notify := true, complete := complete, seq := n,
      op := 0x00F0, status := 0, payload := beBytes 2 kind ++ [0, 0] ++ body, sentMon := m.mon }
  let m := m.updSess s.num (fun x => { x with nseq := n })
  if s.udp then ({ m with cmd := { m.cmd with udpNotes := m.cmd.udpNotes ++ [p] } } : Mach).send (.udp p)
  else ({ m with cmd := { m.cmd with hpOut := m.cmd.hpOut ++ [p] } } : Mach).setIrq

/-- A NOTIFY for a session (R678): a COMPLETE is never lost, another kind leaves the last 4 KiB free. A discarded NOTIFY
takes no number (log entry 14). -/
def notify (m : Mach) (s : Session) (complete : Bool) (kind : Nat) (body : List Byte) : Mach :=
  if complete || decide (m.noteBytes + 24 + body.length ≤ 28 * 1024) then m.notePut s complete kind body
  else ((m.updSess s.num (fun x => { x with lost := x.lost + 1 })).bump .cmdCntNlost F.cmdCntNlost_COUNT 1)

/-- A NOTIFY of one kind to every session that a test names. -/
def notifyAll (m : Mach) (p : Session → Bool) (kind : Nat) (body : List Byte) : Mach :=
  forEach (m.sessions.filter p) m (fun m s => match m.sess s.num with
    | some x => m.notify x false kind body
    | none => m)

/-- LOST NOTIFYs once the queue is below half full (R678). -/
def noteLost (m : Mach) : Mach :=
  if m.noteBytes < 16 * 1024 then
    forEach (m.sessions.filter (fun s => decide (0 < s.lost))) m (fun m s =>
      let c := s.lost
      let m := m.updSess s.num (fun x => { x with lost := 0 })
      match m.sess s.num with
      | some x => m.notePut x false 5 (beBytes 4 (min c (2 ^ 32 - 1)))
      | none => m)
  else m

/-- The COMPLETE of a request that received ST_PENDING (R677), if its session is still open. -/
def complete (m : Mach) (w : Waiter) (status stitch reason : Nat) (at_ : Time) (data : Nat) : Mach :=
  match m.sess w.session with
  | some s => m.notify s true 1 (beBytes 2 w.seq ++ beBytes 2 w.op ++ beBytes 2 status ++ beBytes 2 stitch ++
      beBytes 1 reason ++ [0, 0, 0] ++ beBytes 8 at_.toNat ++ beBytes 8 data)
  | none => m

/-- The COMPLETE for a waiter that may be absent. -/
def completeO (m : Mach) (w : Option Waiter) (status stitch reason : Nat) (at_ : Time) (data : Nat) : Mach :=
  match w with
  | some x => m.complete x status stitch reason at_ data
  | none => m

/-- EVENT NOTIFYs of a written record (R677, R809). -/
def noteEv (m : Mach) (e : EvRec) : Mach :=
  m.notifyAll (fun s => s.evtMask.testBit e.ev.cls) 2 e.bytes

end Mach

end Sys2Proof.Machine
end

