-- ==== Sys2Proof/Machine/Ops.lean ====
section
/-! DEFINITION. Operations every unit shares: entering events into the ingress FIFO with the repeat table (14 R625 to R634,
R808). -/

namespace Sys2Proof.Machine

namespace Mach

/-- General and reserved entries in use (R625 to R627). -/
def fifoGen (m : Mach) : Nat := (m.recs.fifo.filter (fun e => !e.resv)).length
def fifoRes (m : Mach) : Nat := (m.recs.fifo.filter (fun e => e.resv)).length

/-- Snapshot words of a class after the words its code places first (R628). -/
def snapOf (m : Mach) (cls : Nat) (words : List Word) : List Word :=
  let l := (List.range 8).filterMap (fun j =>
    if m.flag (.evrSnap cls j) F.evrSnap_EN then some (m.peekAddr (4 * m.fld (.evrSnap cls j) F.evrSnap_ADDR)) else none)
  (words ++ l).take 8

/-- A record at the tail of the FIFO, FIFO_PEAK kept (R625). -/
def fifoPut (m : Mach) (e : EvRec) : Mach :=
  let m := { m with recs := { m.recs with fifo := m.recs.fifo ++ [e] } }
  let n := m.recs.fifo.length
  if m.fld .evrStat F.evrStat_FIFO_PEAK < n then m.setF .evrStat F.evrStat_FIFO_PEAK n else m

/-- A record changed where it stands: in the FIFO and in every log that holds it. -/
def recUpd (m : Mach) (uid : Nat) (f : EvRec → EvRec) : Mach :=
  let g := fun (l : List EvRec) => l.map (fun e => if e.uid = uid then f e else e)
  { m with recs := { m.recs with fifo := g m.recs.fifo, skeinA := g m.recs.skeinA, spare := g m.recs.spare,
                                 pocketLog := g m.recs.pocketLog, onDie := g m.recs.onDie } }

/-- An open entry's values given to its record (R633). -/
def RptEntry.put (r : RptEntry) (e : EvRec) : EvRec :=
  { e with reps := r.reps, repSat := r.repSat, lastLtc := r.lastLtc, step := e.step || r.step }

/-- A repeat entry closes: the record is rewritten once more, and once written and repeated it is notified again (R632,
R633, R809). -/
def rptClose (m : Mach) (r : RptEntry) : Mach :=
  let m := m.recUpd r.uid (RptEntry.put r)
  let m := { m with recs := { m.recs with rpt := m.recs.rpt.filter (fun x => x.uid != r.uid) } }
  if r.reps = 0 then m
  else match (m.recs.skeinA ++ m.recs.spare ++ m.recs.onDie).find? (fun e => e.uid = r.uid) with
    | some e => m.noteEv e
    | none => m

/-- A repeat entry opened for a new record; with 32 in use the one updated least recently closes (R632). -/
def rptOpen (m : Mach) (e : EvRec) : Mach :=
  if m.fld .evrCtrl F.evrCtrl_REPEAT_WIN = 0 then m
  else
    let m :=
      if m.recs.rpt.length < 32 then m
      else
        match m.recs.rpt.foldl (fun (a : Option RptEntry) r => match a with
            | some x => if m.since x.lastMon < m.since r.lastMon then some r else a
            | none => some r) none with
        | some r => m.rptClose r
        | none => m
    let r : RptEntry :=
      { ev := e.ev, source := e.source, uid := e.uid, lastMon := m.mon, rewriteMon := m.mon, changed := false, reps := 0,
        repSat := false, step := false, ltc := e.ltc, lastLtc := e.ltc, lostStep := false }
    { m with recs := { m.recs with rpt := m.recs.rpt ++ [r] } }

/-- A repeat counted in its open entry (R631, R808). -/
def rptHit (m : Mach) (r : RptEntry) : Mach :=
  let n := min (r.reps + 1) 65535
  let r' := { r with reps := n, repSat := decide (n = 65535), lastLtc := m.ltc, lastMon := m.mon, changed := true,
                     step := r.step || r.lostStep }
  { m with recs := { m.recs with rpt := m.recs.rpt.map (fun x => if x.uid = r.uid then r' else x) } }

/-- A new record for the FIFO. -/
def newRec (m : Mach) (e : Ev) (source : Nat) (words : List Word) (test resv : Bool) : EvRec :=
  { ev := e, source := source % 65536, test := test, repSat := false, stitch := decide (e = .stitchRec), step := false,
    deferred := false, reps := 0, ltc := m.ltc, lastLtc := m.ltc, snap := m.snapOf e.cls words, uid := m.recs.nextUid,
    resv := resv, rseq := 0, session := 0 }

/-- The record counter moves on. -/
def uidNext (m : Mach) : Mach := { m with recs := { m.recs with nextUid := m.recs.nextUid + 1 } }

/-- An open entry of the same event and source whose window has passed closes (R632). -/
def rptPassed (m : Mach) (e : Ev) (source : Nat) : Mach :=
  match m.recs.rpt.find? (fun r => decide (r.ev = e ∧ r.source = source)) with
  | some r => m.rptClose r
  | none => m

/-- An event makes a record of its own, or is lost and counted (R625 to R634). -/
def emitNew (m : Mach) (e : Ev) (source : Nat) (words : List Word) (test : Bool) : Mach :=
  if m.fifoGen < 192 then
    let x := m.newRec e source words test false
    let m := (m.uidNext).fifoPut x
    if e.single then m else m.rptOpen x
  else
    let first := decide (m.recs.lostN = 0)
    let m := (m.bump .evrLost F.evrLost_COUNT 1).setF .evrStat F.evrStat_OVF_SEEN 1
    { m with recs := { m.recs with lostN := m.recs.lostN + 1,
                                   lostFirst := if first then m.ltc else m.recs.lostFirst } }

/-- An event occurs (R625 to R634): merged into an open entry, entered, or lost and counted. -/
def emitT (m : Mach) (e : Ev) (source : Nat) (words : List Word) (test : Bool) : Mach :=
  let source := source % 65536
  let win := msNs (m.fld .evrCtrl F.evrCtrl_REPEAT_WIN)
  let hit := if e.single || decide (win = 0) then none
    else m.recs.rpt.find? (fun r => decide (r.ev = e ∧ r.source = source) && decide (m.since r.lastMon ≤ win))
  match hit with
  | some r => m.rptHit r
  | none => (m.rptPassed e source).emitNew e source words test

/-- An event without first words or test mark. -/
def emit (m : Mach) (e : Ev) (source : Nat) : Mach := m.emitT e source [] false

/-- An event whose code places words first. -/
def emitW (m : Mach) (e : Ev) (source : Nat) (words : List Word) : Mach := m.emitT e source words false

/-- The record of a stitch (R626, R627): a general entry, a reserved one, or kept until one frees. The spec gives it no
SOURCE: a free value (log entry 16). -/
def emitStitch (m : Mach) (id : Nat) (clsA : Bool) (reason : Nat) (test : Bool) : Mach :=
  let w : Word := wd (id % 65536 * 65536 + bit clsA * 256 + reason % 256)
  let (src, m) := m.freeVal
  if m.fifoGen < 192 then (m.uidNext).fifoPut (m.newRec .stitchRec src [w] test false)
  else if m.fifoRes < 64 then (m.uidNext).fifoPut (m.newRec .stitchRec src [w] test true)
  else
    let x := { m.newRec .stitchRec src [w] test true with deferred := true, snap := [w] }
    let m := m.uidNext
    { m with recs := { m.recs with deferred := m.recs.deferred ++ [x] } }

/-- Deferred stitch records and waiting clears enter as entries free, in their order (R627, R638). -/
def fifoRefill (m : Mach) : Mach :=
  match m.recs.deferred with
  | x :: rest =>
    if m.fifoGen < 192 ∨ m.fifoRes < 64 then
      let resv := decide (192 ≤ m.fifoGen)
      let w := x.snap.take 1
      let x := { x with resv := resv, snap := if x.ev = .stitchRec then m.snapOf 4 w else x.snap,
                        ltc := if x.ev = .stitchRec then x.ltc else m.ltc }
      ({ m with recs := { m.recs with deferred := rest } } : Mach).fifoPut x
    else m
  | [] => m

end Mach

end Sys2Proof.Machine
end

