-- ==== Sys2Proof/Machine/Stitch.lean ====
section
/-! DEFINITION. The stitch unit's primitives (07): cast-on, drop, the actions, and what the actions reach: output commands,
GOOSE publications (12 R542 to R544), recorder triggers (14 R648), station errors (12 R558). -/

namespace Sys2Proof.Machine

/-- Status of a drop reason (R329). -/
def reasonStatus (r : Nat) : Nat :=
  [0, 0x0102, 0x0202, 0x0205, 0x0205, 0x0205, 0x0205, 0x0205, 0x0208, 0x0208, 0x0204, 0x0208, 0x0208].getD r 0

/-- A stitch is not yet bound. -/
def Stitch.unbound (s : Stitch) : Bool := decide (s.st ≠ .bound)

/-- An action that a remote participant carries out (R319). -/
def Act.isRemote : Act → Bool
  | .remoteOut _ _ _ => true
  | _ => false

/-- The bay that an action names (R326, R364). -/
def Act.bay? : Act → Option Nat
  | .flag b _ _ | .latchReset b _ | .tripCount b | .commit b _ _ | .groupSel b _ => some b
  | _ => none

/-- A stitch names a bay, as its control object or in an action (R326, R364). -/
def Stitch.names (s : Stitch) (b : Nat) : Bool := decide (s.bay = some b) || s.acts.any (fun a => decide (a.bay? = some b))

namespace Mach

/-- Output actions of a stitch for a bay are carried out: not those of a bay in TEST unless its bit in STU_TEST_OUT is 1 (R344). -/
def stitchDrive (m : Mach) (bay : Option Nat) : Bool :=
  match bay with
  | some b => decide ((m.bay b).mode ≠ 2) || (m.rd .stuTestOut).getLsbD b
  | none => true

/-- A station error (R558, R700). -/
def staErr (m : Mach) (e : Nat) : Mach :=
  let was := m.staSuspect e
  let m := m.updSta e (fun s => { s with errs := m.inWindow s.errs ++ [m.mon] })
  if !was && m.staSuspect e then m.emit .staSuspect e else m

/-- An open class A stitch. -/
def stitch (m : Mach) (id : Nat) : Option Stitch := m.stu.opens.find? (fun s => s.id = id)

/-- An open stitch changed. -/
def updStitch (m : Mach) (id : Nat) (f : Stitch → Stitch) : Mach :=
  { m with stu := { m.stu with opens := m.stu.opens.map (fun s => if s.id = id then f s else s) } }

/-- The ID after the last, skipping IDs of unfinished stitches (R321). At most 192 are held, so 193 trials reach a free
one. -/
def nextId (m : Mach) : Nat :=
  let rec go (fuel n : Nat) : Nat :=
    let n := if 65535 ≤ n then 1 else n + 1
    match fuel with
    | 0 => n
    | k + 1 => if m.stu.opens.any (fun s => s.id = n) then go k n else n
  go 193 m.stu.lastId

/-- An ID taken (R321), reported in STU_LAST_ID. -/
def takeId (m : Mach) : Nat × Mach :=
  let n := m.nextId
  (n, ({ m with stu := { m.stu with lastId := n } } : Mach).setF .stuLastId F.stuLastId_ID n)

/-- A class A cast-on (R321, R322): none when no slot is free. -/
def castOn (m : Mach) (src : StSrc) (obj : Option CtlObj) (bay : Option Nat) (close : Bool) : Option (Nat × Mach) :=
  if 192 ≤ m.stu.opens.length then none
  else
    let (n, m) := m.takeId
    let s : Stitch :=
      { id := n, st := .opened, src := src, acts := [], bay := bay, obj := obj, close := close, parts := [],
        prepSent := false, b := 0, tc := 0, castMon := m.mon, selTmo := m.fld .stuCtrl F.stuCtrl_SEL_TMO,
        prepDl := m.fld .stuCtrl F.stuCtrl_PREP_DL, commitDl := m.fld .stuCtrl F.stuCtrl_COMMIT_DL, bindLtc := 0,
        opWaiter := none, remote := 0 }
    some (n, { m with stu := { m.stu with opens := m.stu.opens ++ [s] } })

/-- STU_STAT.FULL (R324). -/
def stuFull (m : Mach) : Mach := m.setF .stuStat F.stuStat_FULL 1

/-- The outcome of a finished stitch kept (R325). -/
def histPut (m : Mach) (h : FinStitch) : Mach :=
  let l := m.stu.hist ++ [h]
  { m with stu := { m.stu with hist := l.drop (l.length - 1024) } }

/-- The ABORTs of a stitch: sent to every participant, repeated until T_C (R348). -/
def sendAborts (m : Mach) (s : Stitch) : Mach :=
  let (m, ps) := s.parts.foldl (fun (a : Mach × List (Nat × Nat)) p =>
    let (n, m) := a.1.glxSeq
    (m.glxTo p.1 0 0x33 n s.id [], a.2 ++ [(p.1, n)])) (m, [])
  { m with stu := { m.stu with aborts := m.stu.aborts ++ [{ stitch := s.id, parts := ps, tc := s.tc, lastMon := m.mon }] } }

/-- Ownership of the staging buffers a stitch commits ends (R688). Zero owns nothing. -/
def releaseStage (m : Mach) (s : Stitch) : Mach :=
  forEach s.acts m (fun m a => match a with
    | .commit b g _ =>
      let f := fun (m : Mach) (k : Nat) => match SMap.get? m.stage k with
        | some x => { m with stage := SMap.put m.stage k (0, x.2) }
        | none => m
      f (f m (b * 8 + g)) (b * 8 + 4)
    | _ => m)

/-- What a bound stitch commits of a task's output set (R412, R359). -/
def commitOut (m : Mach) (o : OutSet) (acts : List Act) : OutSet :=
  acts.foldl (fun (o : OutSet) a => match a with
    | .localOut mask val =>
      { o with q := (List.range 16).foldl (fun q y => if mask.testBit y then SMap.put q y (val.testBit y) else q) o.q }
    | .remoteOut d p v => match m.staOf d with
      | some e => { o with pts := SMap.put o.pts (2048 * e + p) (wd v) }
      | none => o
    | .goose p k v => { o with memb := SMap.put o.memb (256 * p + k) v }
    | .flag b i v => { o with bf := SMap.put o.bf (32 * b + i) v }
    | _ => o) o

/-- The outcome of a logic group's stitch (R360), 1 bound or 2 dropped with the reason: a bound one's values are
committed; the group's waiting set is then cast on (R415). -/
def logicDone (m : Mach) (s : Stitch) (outcome reason : Nat) : Mach :=
  match s.src with
  | .logic t g _ =>
    let c (o : OutSet) : OutSet := if outcome = 1 then m.commitOut o s.acts else o
    let m := m.updTask t (fun x =>
      { x with grp := SMap.put x.grp g (s.id, if outcome = 1 then 0 else reason), out := c x.out })
    { m with stu := { m.stu with deferLogic := m.stu.deferLogic ++ [(t, g)] } }
  | _ => m

/-- A host stitch's COMPLETE (R355): at the request that staged it. -/
def stitchComplete (m : Mach) (s : Stitch) (status reason : Nat) : Mach :=
  m.completeO s.opWaiter status s.id reason m.ltc 0

/-- A class A stitch is dropped (R326 to R330). -/
def stitchDrop (m : Mach) (id reason : Nat) : Mach :=
  match m.stitch id with
  | none => m
  | some s =>
    let late := decide (s.st = .bound)
    let abort := s.prepSent && !s.parts.isEmpty
    let m := { m with stu := { m.stu with opens := m.stu.opens.filter (fun x => x.id ≠ id) } }
    let m := if abort then (m.sendAborts s).bump .stuCntAbort F.stuCntAbort_COUNT 1 else m
    let m := m.bump .stuCntDrop F.stuCntDrop_COUNT 1
    let m := m.histPut { id := id, clsA := true, dropped := true, reason := reason, remote := s.remote, lateAbort := late,
                         ltc := m.ltc }
    let m := if m.passive then m else m.emitStitch id true reason false
    let m := m.releaseStage s
    let m := m.logicDone s 2 reason
    m.stitchComplete s (reasonStatus reason) reason

/-- Every open stitch that a test names is dropped. -/
def dropWhere (m : Mach) (p : Stitch → Bool) (reason : Nat) : Mach :=
  forEach ((m.stu.opens.filter p).map (·.id)) m (fun m id => m.stitchDrop id reason)

-- Output commands

/-- Commanded states followed up (R397, R399, R403): an output that goes off stops waiting and may retry again, and each
change asks for an observation of the others 1 ms later. -/
def doSync (m : Mach) : Mach :=
  forEach (List.range 16) m (fun m y =>
    let c := m.cmdOn y
    if c = (m.doSt y).cmdSeen then m
    else
      let m := m.updDo y (fun d =>
        if c then { d with cmdSeen := true }
        else { d with cmdSeen := false, wait := false, dead := false, heldOff := false, retries := 0 })
      { m with fio := { m.fio with obsPend := m.fio.obsPend ++ [(y, m.mon)] } })

/-- A bound local-output action (R319, R342). Setting an output on is the fresh command of R403 outside LOCKOUT. -/
def outAct (m : Mach) (mask val : Nat) : Mach :=
  forEach ((List.range 16).filter mask.testBit) m (fun m y =>
    m.updDo y (fun d => { d with cmdA := val.testBit y, wait := d.wait && !(val.testBit y && decide (m.fio.band ≠ 3)) }))

-- Recorder triggers

/-- A recorder trigger (R648): its row is that of frame `fseq`. While the recorder is off nothing is triggered. -/
def drTrig (m : Mach) (kind arg : Nat) (fseq : Word) (test : Bool) : Mach :=
  if !m.flag .drCtrl F.drCtrl_EN then m
  else
    let t : DrTrig := { kind := kind, arg := arg, fseq := fseq, ltc := m.ltc, test := test }
    { m with recs := { m.recs with dr := { m.recs.dr with trigPend := m.recs.dr.trigPend ++ [t] } } }

-- GOOSE publication

/-- A publication changed. -/
def updGpub (m : Mach) (p : Nat) (f : Gpub → Gpub) : Mach :=
  { m with net := { m.net with gpubs := SMap.put m.net.gpubs p (f (m.gpub p)) } }

/-- A publication's message sent with its present numbers (R543), at the PCP of its template (R529); timeAllowedtoLive is twice the interval to the next. -/
def gooseSend (m : Mach) (p : Nat) : Mach :=
  let g := m.gpub p
  let tag := if beAt g.tmpl 12 2 = 0x8100 then some (beAt g.tmpl 14 2 % 4096, beAt g.tmpl 14 2 / 8192) else none
  m.ethOut [Config.gpubLane p % 4] (m.tagClass tag) (m.fld (.gpubCtrl p) F.gpubCtrl_LEN + 4)
    (fun l r => .goose p g.stNum g.sqNum g.t (2 * g.interval / 1000000) g.memb g.test tag l r)

/-- The member of a publication has a quality offset (R544). -/
def gpubQual (m : Mach) (p k : Nat) : Bool := (SMap.getD (m.gpub p).offs k 0xFFFF).toNat % 65536 != 0xFFFF

/-- The GOOSE changes of one binding step: one change for each publication (R542, R544). A publication that is not
enabled keeps the values and sends nothing. -/
def gooseFlush (m : Mach) (l : List (Nat × Nat × Bool × Bool)) : Mach :=
  forEach ((List.range 128).filter (fun p => l.any (fun c => c.1 = p))) m (fun m p =>
    let ch := l.filter (fun c => c.1 = p)
    let marked := ch.filter (fun c => c.2.2.2)
    let m := forEach marked m (fun m c => if m.gpubQual p c.2.1 then m else m.emit .gooseTestUnmarked p)
    let tMin := msNs (m.fld (.gpubCtrl p) F.gpubCtrl_T_MIN)
    let quals := marked.filterMap (fun c => if m.gpubQual p c.2.1 then some c.2.1 else none)
    let m := m.updGpub p (fun g =>
      { g with
        memb := ch.foldl (fun a c => SMap.put a c.2.1 c.2.2.1) g.memb
        test := (g.test.filter (fun k => !(ch.any (fun c => c.2.1 = k)))) ++ quals.eraseDups })
    if m.flag (.gpubCtrl p) F.gpubCtrl_EN then
      (m.updGpub p (fun g => { g with stNum := (g.stNum + 1) % 2 ^ 32, sqNum := 0, t := m.ltc, interval := tMin,
                                      nextMon := some (m.mon + tm tMin) })).gooseSend p
    else m)

-- Actions

/-- A remote command sent at bind-off and repeated (R335); earlier ones to the point stop (R337). -/
def remoteCmd (m : Mach) (stitch devid point val : Nat) (test : Bool) : Mach :=
  let cs := m.stu.cmds.filter (fun c => !(decide (c.devid = devid ∧ c.point = point)))
  let (n, m) := m.glxSeq
  let m := m.glxTo devid (if test then 64 else 0) 0x20 n stitch (glxCmds [(point, val)])
  let c : RemCmd := { stitch := stitch, devid := devid, point := point, val := val, seq := n, test := test, sent := 1,
                      lastMon := m.mon }
  { m with stu := { m.stu with cmds := cs ++ [c] } }

/-- Zone orders for bay b in the last binding. -/
def zoneOrders (m : Mach) (b : Nat) : List ZOrd := m.zone.ords.filter (fun o => o.bays.testBit b)

def ztm (m : Mach) (s : Nat) : Word := m.rd (.znTm s)

/-- Operates of a bay as bound: those of its last frame completed on time without the ZSI operates blocked (R296); while the ZE
is fenced, an upstream one counts once its stage has operated for FB_DELAY (R314). -/
def bayOper (m : Mach) (b : Nat) : Nat :=
  let r := (m.bay b).res
  let blk :=
    if m.zeOut then
      (if m.zcfg 0x52 0 0 = 1 ∧ 2 ≤ m.cfg b 0 0 0 then r.zsi &&& (2 ^ 64 - 1 - r.zsiLong) else 0)
    else SMap.getD m.zone.res.zsiBlk b 0
  r.oper &&& (2 ^ 64 - 1 - blk % 2 ^ 64)

/-- Some of the operates `o` of bay b has given bits in its trip-matrix entry. -/
def opWith (m : Mach) (b o : Nat) (p : Word → Bool) : Bool := (List.range 64).any (fun s => o.testBit s && p (m.tmw b s))

/-- The latches of a bay that its operates `o` and its orders would set (R341): BRK, XFER, OUT. -/
def latchSet (m : Mach) (b o : Nat) (ords : List ZOrd) : Nat :=
  let zl := ords.any (fun z => (m.ztm z.sig).getLsbD 0 && (m.ztm z.sig).getLsbD 1)
  bit (m.opWith b o (fun w => w.getLsbD 1 && w.getLsbD 0) || zl) +
  2 * bit (m.opWith b o (fun w => w.getLsbD 1 && w.getLsbD 3)) +
  4 * bit (m.opWith b o (fun w => w.getLsbD 1 && decide (w.toNat / 65536 ≠ 0)))

/-- The latches that the signals operating now would set (R341). -/
def latchSetters (m : Mach) (b : Nat) : Nat := m.latchSet b (m.bayOper b) (m.zoneOrders b)

/-- Latches cleared where no signal would set them (R341). -/
def clearLatches (m : Mach) (b mask : Nat) : Mach :=
  let keep := m.latchSetters b
  let go := mask &&& (7 - keep)
  let m := m.wr (.bayLatch b) (m.rd (.bayLatch b) &&& ~~~ (wd go))
  if go.testBit 2 then m.updBay b (fun x => { x with outLatch := 0 }) else m

/-- One action of a bound stitch (R319, R320), with the GOOSE changes of the step collected. -/
def doAct (st : Nat) (test drive : Bool) (a : Mach × List (Nat × Nat × Bool × Bool)) (act : Act) :
    Mach × List (Nat × Nat × Bool × Bool) :=
  let (m, gl) := a
  match act with
  | .localOut mask val => (if drive then m.outAct mask val else m, gl)
  | .remoteOut d p v => (if drive then m.remoteCmd st d p v test else m, gl)
  | .goose p k v => (m, gl ++ [(p, k, v, test)])
  | .recTrig => (m.drTrig 1 st m.fr.fseq test, gl)
  | .flag b i v => (m.updBay b (fun x => { x with bf := if v then x.bf ||| 2 ^ i else x.bf &&& (2 ^ 32 - 1 - 2 ^ i) }), gl)
  | .latchReset b k => (m.clearLatches b k, gl)
  | .tripCount b => (m.bump (.bayTripcnt b) F.bayTripcnt_COUNT 1, gl)
  | .commit b g l => ({ m with stu := { m.stu with pendCommits := m.stu.pendCommits ++ [(b, g, l)] } }, gl)
  | .groupSel b g => ({ m with stu := { m.stu with pendGroups := m.stu.pendGroups ++ [(b, g)] } }, gl)
  | .marker t i v => (m.updTask t (fun x => { x with mkPend := x.mkPend ++ [(i, v)] }), gl)
  | .counter t i d => (m.updTask t (fun x => { x with ctrPend := x.ctrPend ++ [(i, d)] }), gl)
  | .consts t i vs =>
    (m.updTask t (fun x => { x with constPend := x.constPend ++ [(i, vs)] }), gl)

end Mach

end Sys2Proof.Machine
end

