-- ==== Sys2Proof/Machine/Dom.lean ====
section
/-! DEFINITION. Containment (16 R695 to R701, R725): errors, windows and fences, with what a fence does to the fenced unit; the
engine map (01 R19 to R28); the end of a maintenance activity and of a calibration (03 R146, R147). -/

namespace Sys2Proof.Machine

/-- A modulator port at rest. -/
def Port.init : Port :=
  { st := .off, left := 0, resetPend := false, s1 := [], s2 := [], s3 := [], held := 0, age := 255, cal := none,
    calEndPend := false, cur := none, ring := [], runFrames := 0, dec := ⟨0, 0⟩ }

/-- Records of the skein, of the spare skein and of the pocket log, 64 octets each (bank maps of 01), and of the on-die pocket (14). -/
def skeinCap : Nat := mramSkein.2 / 64
def spareCap : Nat := mramSpare.2 / 64
def pocketCap : Nat := mramPocket.2 / 64
def onDieCap : Nat := 64

/-- An offset into its bank that lies in skein s (0 A, 1 the spare: R41). -/
def skeinOff (s off : Nat) : Nat :=
  let r := if s = 0 then mramSkein else mramSpare
  r.1 + off % r.2

/-- A record at the end of a ring of n records. -/
def ringPut (n : Nat) (l : EvLog) (e : EvRec) : EvLog := let l := l ++ [e]; l.drop (l.length - n)

namespace Mach

-- Domains

/-- A domain replaced. -/
def setDom (m : Mach) (d : Nat) (x : Dom) : Mach := { m with hlth := { m.hlth with doms := SMap.put m.hlth.doms d x } }

-- Engine map

/-- The map changed for one bay. -/
def setEng (m : Mach) (b e : Nat) : Mach :=
  { m with fr := { m.fr with map := if e = b then SMap.del m.fr.map b else SMap.put m.fr.map b e } }

/-- The record of an engine of the frame path. -/
def eng (m : Mach) (e : Nat) : Eng :=
  SMap.getD m.fr.engs e { late := false, secMin := none, secLate := false }

/-- An engine's record changed. -/
def updEng (m : Mach) (e : Nat) (f : Eng → Eng) : Mach :=
  { m with fr := { m.fr with engs := SMap.put m.fr.engs e (f (m.eng e)) } }

/-- A pending change of the map. -/
def addMove (m : Mach) (x : Move) : Mach := { m with fr := { m.fr with moves := m.fr.moves ++ [x] } }

/-- Bay b has lost its engine and no juggler takes it: unprotected (R27), on no juggler engine; its unbound stitches are dropped
(R364). -/
def unprotect (m : Mach) (b : Nat) : Mach :=
  ((m.updBay b (fun x => { x with unprot := true })).setEng b b).dropWhere (fun s => s.unbound && s.names b) 10

/-- A juggler engine may take a bay: not fenced, not in retest. -/
def jugglerOk (m : Mach) (j : Nat) : Bool := !m.fenced j

/-- Pending moves of a bay dropped. -/
def dropMoves (m : Mach) (b : Nat) : Mach :=
  { m with fr := { m.fr with moves := m.fr.moves.filter (fun v => v.bay ≠ b) } }

/-- The juggler engine for the bay of a fenced engine: JE1, else JE0 (R24). -/
def jugglerFor (m : Mach) : Nat := if m.jugglerOk 33 && (m.bayOn 33).isNone then 33 else 32

/-- JE0 is needed for a fenced bay (R25): a handover to it is not made, and a carousel bay that it carries returns at the next
boundary. -/
def je0Need (m : Mach) : Mach :=
  let m := { m with fr := { m.fr with moves := m.fr.moves.filter (fun (v : Move) => v.why ≠ MoveWhy.carousel) } }
  match m.bayOn 32 with
  | none => m
  | some c =>
    if m.fenced c || m.fr.moves.any (fun (v : Move) => decide (v.bay = c ∧ v.why = MoveWhy.carEnd)) then m
    else (m.dropMoves c).addMove { bay := c, dst := c, why := .carEnd, copied := false, notBefore := m.fr.fseq + 1 }

/-- The move of bay b off an engine that is or will be fenced, from the next frame boundary on, once its state is copied: back to its
own engine where that is in service (R706), else to a juggler engine (R24, R25). -/
def leaveMove (m : Mach) (b e : Nat) (why : MoveWhy) : Mach :=
  let dst := if e ≠ b ∧ !m.fenced b then b else m.jugglerFor
  (if dst = 32 then m.je0Need else m).addMove { bay := b, dst := dst, why := why, copied := false, notBefore := m.fr.fseq + 1 }

/-- At a frame boundary the bay of a fenced engine goes to JE1, else to JE0 (R24); while a carousel bay on JE0 returns, JE0 takes the
bay one boundary later (R25); with both taken the bay is unprotected (R27). -/
def placeFenced (m : Mach) (b : Nat) (why : MoveWhy) : Mach :=
  if m.jugglerOk 33 && (m.bayOn 33).isNone then m.setEng b 33
  else if m.jugglerOk 32 then
    match m.bayOn 32 with
    | none => m.setEng b 32
    | some c =>
      if m.fenced c then m.unprotect b
      else (m.je0Need).addMove { bay := b, dst := 32, why := why, copied := false, notBefore := m.fr.fseq + 1 }
  else m.unprotect b

-- Maintenance and calibration

/-- A maintenance activity ends (R725): logged with its handle and ACT; a waiting COMPLETE is sent with the status. -/
def maintEnd (m : Mach) (x : Maint) (status : Nat) : Mach :=
  let m := { m with cmd := { m.cmd with maint := m.cmd.maint.filter (fun y => y.handle ≠ x.handle) } }
  let m := m.emitW .maintEnd x.handle [wd (x.handle * 65536 + x.act)]
  m.completeO x.waiter status 0 0 m.ltc 0

/-- The running activities of a kind on a target end. -/
def maintEndOf (m : Mach) (act target status : Nat) : Mach :=
  forEach (m.cmd.maint.filter (fun x => decide (x.act = act ∧ x.target = target))) m (fun m x => m.maintEnd x status)

/-- A port. -/
def port (m : Mach) (p : Nat) : Port := SMap.getD m.acq.ports p Port.init

/-- A port changed. -/
def updPort (m : Mach) (p : Nat) (f : Port → Port) : Mach :=
  { m with acq := { m.acq with ports := SMap.put m.acq.ports p (f (m.port p)) } }

/-- A calibration ends by itself (R146): CAL_ABORT logged, the activity ended; the port takes the state given. -/
def calAbort (m : Mach) (p : Nat) (st : PortSt) : Mach :=
  if (m.port p).cal.isNone then m
  else
    let m := m.updPort p (fun x => { x with cal := none, calEndPend := false, st := st })
    (m.emit .calAbort p).maintEndOf 2 p 0

-- Disturbance records on a faulty bank (R655)

/-- Records with a block in the faulty place are damaged and logged. -/
def drDamage (m : Mach) (bad : Nat → Bool) : Mach :=
  let hit := m.recs.dr.stored.filter (fun r => !r.damaged && r.blocks.any bad)
  let m := { m with recs := { m.recs with dr := { m.recs.dr with
    stored := m.recs.dr.stored.map (fun r => if r.blocks.any bad then { r with damaged := true } else r),
    run := m.recs.dr.run.map (fun r =>
      if r.body.blocks.any bad then { r with body := { r.body with damaged := true } } else r) } } }
  forEach hit m (fun m r => m.emit .drDamaged r.recNo)

-- The pocket (R640 to R642)

/-- The event recorder changed. -/
def updRecs (m : Mach) (f : Recs → Recs) : Mach := { m with recs := f m.recs }

/-- A record written to the on-die pocket, and to the pocket log while `log` and bank B are usable; each has its own series
(R624, R640, R641). Its EVENT NOTIFY is that of the on-die copy. -/
def pocketPut (m : Mach) (e : EvRec) (log : Bool) : Mach :=
  let a := { e with rseq := m.recs.nextOnDie }
  let m := m.updRecs (fun r => { r with onDie := ringPut onDieCap r.onDie a, nextOnDie := r.nextOnDie + 1 })
  if log && !m.fenced 44 then
    m.updRecs (fun r => { r with pocketLog := ringPut pocketCap r.pocketLog { e with rseq := r.nextPocketLog },
                                 nextPocketLog := r.nextPocketLog + 1 })
  else m

/-- The record as it stands in a log after a write. -/
def written (m : Mach) (uid : Nat) : Option EvRec :=
  (m.recs.skeinA ++ m.recs.spare ++ m.recs.onDie).find? (fun e => e.uid = uid)

/-- LOG_MEDIA_FAULT of skein s (0 A, 1 spare) with the failing offset, which lies in the skein's region, to the on-die pocket and, as R640 has it, the pocket
log. -/
def mediaLog (m : Mach) (s off : Nat) (log : Bool) : Mach :=
  let e := m.newRec .logMediaFault s [wd (skeinOff s off)] false false
  let m := (m.uidNext).pocketPut e log
  match m.written e.uid with
  | some x => m.noteEv x
  | none => m

/-- The skein in use after a change of what is usable: 0 skein A, 1 the spare, 2 none (R640, R641). -/
def pickSkein (m : Mach) : Mach :=
  let a := if m.recs.active = 0 && !m.recs.fencedA then 0
    else if m.recs.active = 1 && !m.recs.fencedSpare then 1
    else if !m.recs.fencedA then 0
    else if !m.recs.fencedSpare then 1
    else 2
  { m with recs := { m.recs with active := a } }

-- Task states and lanes

/-- The start record rewritten in bank A, then bank B (R772); a fenced bank takes no write (R44). -/
def startRec (m : Mach) (holdup : Bool) : Mach :=
  let run := bitsOf 4 (fun t => match m.tasks[t]? with
    | some x => decide (x.st = .run)
    | none => false)
  let seq := max m.nv.srA.seq m.nv.srB.seq + 1
  let r : StartRec := { seq := seq, taskRun := run, holdupPrev := holdup, valid := true }
  { m with nv := { m.nv with srA := if m.fenced 43 then m.nv.srA else r, srB := if m.fenced 44 then m.nv.srB else r } }

/-- A task's state changed; the start record follows a change into or out of RUN (R772). -/
def setTask (m : Mach) (t : Nat) (st : TaskSt) : Mach :=
  match m.tasks[t]? with
  | none => m
  | some x =>
    let m := m.updTask t (fun x => { x with st := st })
    if decide (x.st = .run) != decide (st = .run) then m.startRec false else m

/-- A lane leaves TEST: generator, checker and loop are cleared. -/
def prbsOff (m : Mach) (l : Nat) : Mach :=
  let r := Reg.lnPrbsCtrl l
  let m := ((m.setF r F.lnPrbsCtrl_GEN_EN 0).setF r F.lnPrbsCtrl_CHK_EN 0).setF r F.lnPrbsCtrl_LOOP 0
  m.setF (.lnPrbsStat l) F.lnPrbsStat_SYNC 0

-- Fences

/-- What a fence does to its unit (third column of R695's table). A bank fenced for another error than that of a log write has no
failing offset of its own: a free value (log entry 16). -/
def fenceUnit (m : Mach) (d : Nat) : Mach :=
  if d < 35 then m
  else if d < 39 then
    let t := d - 35
    let m : Mach := match m.tasks[t]? with
      | some (x : Task) =>
        if x.st = TaskSt.empty then m
        else
          let m := (m.updTask t (fun x => { x with cyc := none, waiting := [], stopWait := none })).setTask t .fenced
          m.completeO x.stopWait (reasonStatus 10) 0 0 m.ltc 0
      | none => m
    m.dropWhere (fun s => decide (s.st = .opened ∨ s.st = .staged) &&
      (match s.src with
        | .logic t' _ _ => decide (t' = t)
        | _ => false)) 10
  else if d < 43 then
    let l := d - 39
    (if (m.lane l).st = .test then m.prbsOff l else m).updLane l (fun x => { x with st := .fenced, scan := false })
  else if d = 43 then
    let (off, m) := if !m.recs.fencedA && decide (m.recs.active = 0) then m.freeVal else (0, m)
    let m := if !m.recs.fencedA && decide (m.recs.active = 0) then (m.setF .evrStat F.evrStat_MEDIA_FAULT 1).mediaLog 0 off true
      else m
    ((m.updRecs (fun r => { r with fencedA := true })).pickSkein).drDamage (fun k => decide (k < 40))
  else if d = 44 then
    let (off, m) := if m.recs.fencedSpare then (0, m) else m.freeVal
    let m :=
      if m.recs.fencedSpare then m
      else if m.recs.active = 0 then
        ((m.setF .evrStat F.evrStat_MEDIA_FAULT 1).emitW .logMediaFault 1 [wd (skeinOff 1 off)]).mediaLog 1 off false
      else if m.recs.active = 1 then (m.setF .evrStat F.evrStat_MEDIA_FAULT 1).mediaLog 1 off true
      else m
    ((m.updRecs (fun r => { r with fencedSpare := true })).pickSkein).drDamage (fun k => decide (40 ≤ k))
  else if d < 52 then m
  else if d < 68 then m.calAbort (d - 52) .run
  else m

/-- A domain is fenced at this instant, with the error that caused it (R697, R698). -/
def fenceNow (m : Mach) (d : Nat) (src : ErrSrc) : Mach :=
  if m.fenced d then m
  else
    let x := m.dom d
    let m := m.setDom d { x with st := 1, fenceLtc := m.ltc }
    (m.emitW .domFenced d [wd src.code]).fenceUnit d

/-- An engine of the frame path is to be fenced at the frame boundary of R84. -/
def fenceLater (m : Mach) (d : Nat) (src : ErrSrc) : Mach :=
  if m.hlth.fencePend.any (fun p => p.1 = d) then m
  else { m with hlth := { m.hlth with fencePend := m.hlth.fencePend ++ [(d, src)] } }

/-- One error against a domain (R697, R698). A fenced domain's errors are counted and say nothing further. -/
def domErr (m : Mach) (d : Nat) (src : ErrSrc) : Mach :=
  let x := m.dom d
  let errs := m.inWindow x.errs ++ [m.mon]
  let m := m.setDom d { x with errs := errs, total := x.total + 1 }
  if m.fenced d then m
  else if m.fld .hltWin F.hltWin_N ≤ errs.length then
    if d < 35 then m.fenceLater d src else m.fenceNow d src
  else m.emitW .domError d [wd src.code]

/-- A stalled engine, or one whose local SRAM failed, is fenced at once; its bay's juggler starts at the next boundary
(R86, R88, R701). -/
def engStall (m : Mach) (e : Nat) (src : ErrSrc) : Mach :=
  if m.fenced e then m
  else
    let b := m.bayOn e
    let m := m.fenceNow e src
    let m := m.updEng e (fun x => { x with late := false })
    match b with
    | none => m
    | some b =>
      let k := (match (m.bay b).comp, (m.bay b).wait with
        | some _, some _ => 2
        | some _, none => 1
        | none, some _ => 1
        | none, none => 0)
      let m := m.updBay b (fun x => { x with comp := none, wait := none, lost := x.lost + k, late := true })
      ((m.dropWhere (fun s => s.unbound && s.names b) 10).dropMoves b).leaveMove b e .stall

/-- Errors in the RMC, SEC or fabric windows (R703, R704): n at once. -/
def rmcErr (m : Mach) (n : Nat) : Mach :=
  let errs := m.inWindow m.hlth.rmcErrs ++ List.replicate n m.mon
  { m with hlth := { m.hlth with rmcErrs := errs,
                                 rmcLasting := m.hlth.rmcLasting || decide (m.fld .hltWin F.hltWin_N ≤ errs.length) } }

def secErr (m : Mach) (n : Nat) : Mach :=
  let errs := m.inWindow m.hlth.secErrs ++ List.replicate n m.mon
  { m with hlth := { m.hlth with secErrs := errs,
                                 secLasting := m.hlth.secLasting || decide (m.fld .hltWin F.hltWin_N ≤ errs.length) } }

def fabErr (m : Mach) : Mach :=
  ({ m with hlth := { m.hlth with fabErrs := m.inWindow m.hlth.fabErrs ++ [m.mon] } } : Mach).bump .hltFabCnt
    F.hltFabCnt_COUNT 1

end Mach

end Sys2Proof.Machine
end

