-- ==== Sys2Proof/Machine/Acq.lean ====
section
/-! DEFINITION. Acquisition (03): the decimation chain, the cut-off decisions, sampled values, slots, calibration. -/

namespace Sys2Proof.Machine

/-- Convolution of two finite sequences. -/
def convL (a b : List Int) : List Int :=
  (List.range (a.length + b.length - 1)).map (fun n =>
    (List.range (n + 1)).foldl (fun s i => s + a.getD i 0 * b.getD (n - i) 0) 0)

/-- The 94 coefficients of the sinc3 stage: three moving sums of 32 (table of the decimation chain). -/
def sinc3 : List Int := let o : List Int := List.replicate 32 1; convL (convL o o) o

/-- Sum of products. -/
def dotL : List Int → List Int → Int
  | a :: as, b :: bs => a * b + dotL as bs
  | _, _ => 0

/-- Outputs of a decimating filter: one for every `dec` inputs, `n` of them, over the history (newest first) and the new
inputs (oldest first); the first coefficient meets the newest input. -/
def firRun (coef : List Int) (dec n : Nat) (hist new : List Int) : List Int :=
  let all := hist.reverse ++ new
  (List.range n).map (fun j =>
    let stop := hist.length + dec * (j + 1)
    dotL coef ((all.take stop).drop (stop - coef.length)).reverse)

/-- The newest inputs kept for the next frame, newest first. -/
def keepLast (n : Nat) (hist new : List Int) : List Int := (new.reverse ++ hist).take n

/-- What a port's chain gives in a frame (R98, R99): the stage-2 outputs, the stage-3 output, whether a stage saturated
while producing it, and the histories. -/
structure ChainOut where
  s2 : List Int
  s3 : Int
  sat : Bool
  h1 : List Int
  h2 : List Int
  h3 : List (Int × Bool)

/-- One frame of the chain: 1280 captured values as +1 and -1. `c2`, `c3` are the banks at the trigger, `old2` the stage-2
bank before it: the last stage-2 output and the stage-3 output fall on the trigger (R108). -/
def chainRun (old2 c2 c3 : List Int) (x : List Int) (h1 h2 : List Int) (h3 : List (Int × Bool)) : ChainOut :=
  let y1 := firRun sinc3 32 40 h1 x
  let a := firRun old2 4 10 h2 y1
  let b := firRun c2 4 10 h2 y1
  let y2 := ((a.take 9 ++ b.drop 9).map (fun v => sat32 (roundHalfEven v 8)))
  let h3' := (y2.reverse ++ h3).take 160
  let s3 := sat32 (roundHalfEven (dotL c3 (h3'.map (·.1))) 23)
  { s2 := y2.map (·.1), s3 := s3.1, sat := s3.2 || h3'.any (·.2), h1 := keepLast 93 h1 x, h2 := keepLast 63 h2 y1,
    h3 := h3'.take 159 }

/-- Gain and offset (R99). -/
def corrected (s3 off : Int) (gain : Nat) : Int × Bool := sat32 (roundHalfEven ((s3 - off) * (gain : Int)) 22)

/-- Zero histories (R110). -/
def zeros1 : List Int := List.replicate 93 0
def zeros2 : List Int := List.replicate 63 0
def zeros3 : List (Int × Bool) := List.replicate 159 (0, false)

/-- Sampling rate of a subscription by SVSs_CFG.RATE. -/
def svRate (r : Nat) : Nat := [4800, 14400, 4000, 4800].getD r 4800

/-- Target instant of frame number `n` counted in frames of 1/14400 s from LTC 0: R51. -/
def targetNs (n : Nat) : Nat := n / 14400 * 1000000000 + (n % 14400 * 625000 + 8) / 9

/-- G_LOC in ns (R90). -/
def gLoc : Rat := 22461 / 2 / 18432000 * 1000000000

/-- The window of a target: the four samples at or before it and the four after it, oldest first (R118). The history is
newest first. -/
def svWindow (hist : List SvSmp) (t : Rat) : List SvSmp × List SvSmp :=
  (((hist.filter (fun e => decide (e.t ≤ t))).take 4).reverse,
   (((hist.filter (fun e => decide (t < e.t))).reverse).take 4))

/-- A window has a gap that was not bridged: two neighbours whose counts do not follow each other (R125, R126). -/
def svGap (rate : Nat) (w : List SvSmp × List SvSmp) : Bool :=
  let l := w.1 ++ w.2
  (l.zip (l.drop 1)).any (fun p => decide (p.2.cnt ≠ (p.1.cnt + 1) % rate))

namespace Mach

-- Swap groups (R105)

/-- The inactive bank may be swapped in (R105). -/
def swapOk (m : Mach) (g : Nat) : Bool :=
  let act := m.bank g (m.activeBank g)
  let ina := m.bank g (1 - m.activeBank g)
  let near (a b : List Int) : Bool :=
    let d := a.foldl (· + ·) 0 - b.foldl (· + ·) 0
    decide (d.natAbs * 1000 ≤ 2 ^ 23)
  decide (ina.1 = ina.1.reverse ∧ ina.2 = ina.2.reverse) && near ina.1 act.1 && near ina.2 act.2

-- Ports

/-- The clock of a port is locked (R806). -/
def clkLocked (m : Mach) (p : Nat) : Bool :=
  if m.fld (.modCfg p) F.modCfg_CLK_SEL = 0 then m.flag .acqStat F.acqStat_MCLK0_LOCK
  else m.flag .acqStat F.acqStat_MCLK1_LOCK

/-- Port p is enabled: a request made before the trigger that ends TIME is held until then (R763). -/
def portEn (m : Mach) (p : Nat) : Bool := m.flag (.modCfg p) F.modCfg_EN && decide (4 ≤ m.start.phase)

/-- Port p's frame at the trigger of frame FSEQ (R91, R95, R98 to R112): `bits` are the 1280 captured bits, oldest first;
`late` tells that its entry is not written (R130). `old2` is the stage-2 bank before the trigger. -/
def portFrame (m : Mach) (p : Nat) (bits : List Bool) (late : Bool) (old2 : List Int) : Mach × List Int :=
  let x := m.port p
  if !m.portEn p || m.fenced (52 + p) || !m.clkLocked p then (m, [])
  else
    let g := m.fld (.modCfg p) F.modCfg_SWG
    let (c2, c3) := m.bank g (m.activeBank g)
    let inv := m.flag (.modCfg p) F.modCfg_INV
    let reset := x.resetPend
    let xs : List Int := (List.range 1280).map (fun i => if (bits.getD i false) != inv then 1 else -1)
    let c := chainRun old2 c2 c3 xs x.s1 x.s2 x.s3
    let c : ChainOut := if reset then { s2 := [], s3 := 0, sat := false, h1 := zeros1, h2 := zeros2, h3 := zeros3 } else c
    let off := sgn32 (m.fld (.modOffset p) F.modOffset_OFFSET)
    let (v, sat) := corrected c.s3 off (m.fld (.modGain p) F.modGain_GAIN)
    let ovr := c.sat || sat || decide (m.fld (.modOvrLim p) F.modOvrLim_OVR_LIM ≤ v.natAbs)
    let left := if reset then 17 else x.left - 1
    let st : PortSt := if reset then .settling else x.st
    let e : PortOut := { fseq := m.fr.fseq, val := v, ovr := ovr, st := st, late := late }
    let st' : PortSt := if st = .settling ∧ left = 0 then .run else st
    let cal := x.cal.map (fun k => if k.n ≤ k.frames then k else { k with sum := k.sum + c.s3, sumSq := k.sumSq + c.s3.natAbs ^ 2, frames := k.frames + 1 })
    let m := m.updPort p (fun y =>
      { y with st := st', left := left, resetPend := false, s1 := c.h1, s2 := c.h2, s3 := c.h3, cal := cal,
               cur := some e, runFrames := if reset then 0 else y.runFrames + 1 })
    (if ovr then m.setF (.modStat p) F.modStat_OVR 1 else m, c.s2)

/-- A port's synchronising reset asked for (R110 to R112): at the next trigger. A port that is STUCK goes to SETTLING with any reset, and one in
CAL ends its calibration by itself (DESIGN CHOICE, log entry 58). -/
def portReset (m : Mach) (p : Nat) : Mach :=
  (m.calAbort p .settling).updPort p (fun x => { x with st := .settling, left := 18, resetPend := true })

/-- Quality word (R136) from its bits, source and age. -/
def qword (bits : Nat) (sv : Bool) (idx age : Nat) : Word :=
  let a := if bits % 2 = 1 then 0 else min age 255
  wd (a * 2 ^ 24 + bit sv * 2 ^ 23 + idx % 64 * 65536 + bits % 512)

/-- The cut-off decision of a port for its entry of the present frame (R130), the first matching row. The state is that of the cut-off; an
output within N_SETTLE is flagged whatever state follows it. -/
def portDecide (m : Mach) (p : Nat) : Mach :=
  let x := m.port p
  let give (m : Mach) (v : Int) (b : Nat) : Mach :=
    m.updPort p (fun y =>
      let valid := decide (b % 2 = 1)
      let age := if valid then 0 else min (y.age + 1) 255
      { y with ring := ({ fseq := m.fr.fseq, val := v, q := qword b false p age } :: y.ring).take 64, cur := none,
               held := if valid then v else y.held, age := age })
  if !m.portEn p || m.fenced (52 + p) || !m.clkLocked p || decide (x.st = .off) then give m 0 0
  else match x.cur.filter (fun e => decide (e.fseq = m.fr.fseq) && !e.late) with
    | none => (give m x.held qLate).domErr (52 + p) .entryLate
    | some e =>
      let o := if e.ovr then qOvr else 0
      match (if e.st = .settling then e.st else x.st) with
      | .stuck => give m e.val o
      | .settling => give m e.val (qSettle + o)
      | .cal => give m e.val (qValid + qTest + o)
      | .run => give m e.val (qValid + o)
      | .off => give m 0 0

/-- What a port delivers for target frame k: its entry in the alignment ring (R92). -/
def portTake (m : Mach) (k : Word) (p : Nat) : Mach :=
  m.updPort p (fun y => { y with dec := match y.ring.find? (fun e => e.fseq = k) with
    | some e => { val := e.val, q := e.q }
    | none => { val := 0, q := qword 0 false p 255 } })

-- Subscriptions

/-- A subscription. -/
def sub (m : Mach) (s : Nat) : Sub :=
  SMap.getD m.acq.subs s
    { st := 0, wasLost := false, hist := [], run := 0, held := [], age := [], mismatch := false, lastMon := 0,
      okFrames := 0, ents := [], timeq := false, latMax := 0, stepT := none, arrN := 0, dec := [] }

/-- A subscription changed. -/
def updSub (m : Mach) (s : Nat) (f : Sub → Sub) : Mach :=
  { m with acq := { m.acq with subs := SMap.put m.acq.subs s (f (m.sub s)) } }

/-- Frames of 1/14400 s from LTC 0 to frame k, counted back or on from the present frame. -/
def frameNo (m : Mach) (k : Word) : Int := ((m.fr.sec * 14400 + m.fr.fcnt : Nat) : Int) + sdiff32 k m.fr.fseq

/-- The sample instant t_k in ns of LTC (R90). -/
def tK (m : Mach) (k : Word) : Rat := (((targetNs (m.frameNo k).toNat : Nat) : Rat)) - gLoc

/-- The first target whose window lies after a step ends its mark: later ones lie after it too (R121). -/
def pastStep (s : Nat) (m : Mach) : Mach := if (m.sub s).stepT.isSome then m.updSub s (fun y => { y with stepT := none }) else m

/-- The earliest of the eight input instants nearest a target of subscription s, in ns of LTC: the fourth at or before it (R115, R118). -/
def windowFirst (m : Mach) (s : Nat) (t : Rat) : Rat :=
  let f : Rat := ((svRate (m.fld (.svsCfg s) F.svsCfg_RATE) : Nat) : Rat)
  let dly : Rat := ((sgn32 (m.fld (.svsDlyCorr s) F.svsDlyCorr_DLY_CORR) : Int) : Rat)
  (((((t + dly) * f / 1000000000).floor : Int) : Rat) - 3) / f * 1000000000 - dly

/-- The cut-off decision of a subscription for target frame k (R126, R127, R140), the first matching row. A value whose
window contains an instant before a step settles (R121); the spec states no value for it, the held one is given (log entry 17). -/
def subDecide (m : Mach) (k : Word) (s : Nat) : Mach :=
  let x := m.sub s
  let n := m.fld (.svsCfg s) F.svsCfg_NVAL + 1
  let hold := decide (m.tb.st = .hold)
  let tq := if hold then qTimeq else 0
  let t := m.tK k
  let heldAt (i : Nat) : Int := x.held.getD i 0
  let all (f : Nat → Int × Nat) : Mach :=
    let l := (List.range n).map f
    let age := (l.zipIdx).map (fun p => if p.1.2 % 2 = 1 then 0 else min (x.age.getD p.2 255 + 1) 255)
    m.updSub s (fun y =>
      { y with dec := (l.zip age).map (fun p => { val := p.1.1, q := qword (p.1.2 ||| tq) true s p.2 }),
               held := (l.zipIdx).map (fun p => if p.1.2 % 2 = 1 then p.1.1 else heldAt p.2) ++ y.held.drop n, age := age ++ y.age.drop n })
  if x.st = 0 ∨ m.fenced (68 + s) ∨ x.mismatch then all (fun _ => (0, 0))
  else if x.st = 3 ∨ (x.st = 1 ∧ x.wasLost) then all (fun i => (heldAt i, qStale))
  else
    let before := match x.stepT with
      | some (fs, t0) => decide (sdiff32 k fs < 0) || decide (m.windowFirst s t < t0)
      | none => false
    if before then all (fun i => (heldAt i, qSettle))
    else Mach.pastStep s (match x.ents.find? (fun e => e.fseq = k) with
      | some e => all (fun i => let p := e.vals.getD i (0, 0); (p.1, p.2))
      | none =>
        let w := svWindow x.hist t
        if svGap (svRate (m.fld (.svsCfg s) F.svsCfg_RATE)) w then all (fun i => (heldAt i, qStale))
        else all (fun i => (heldAt i, qLate)))

/-- The aligner cut-off of the present frame (R61, R126, R130). -/
def cutOff (m : Mach) : Mach :=
  let k := m.fr.fseq - wd (m.fld .frmCfg F.frmCfg_D_ALIGN)
  let m := forEach (List.range 16) m (fun m p => (m.portDecide p).portTake k p)
  forEach (m.acq.subs.map (·.1)) m (fun m s => m.subDecide k s)

/-- The R139 flags of a window: those of the APDU that completed it, its latest arrival. -/
def windowTq (w : List SvSmp) : Bool :=
  (w.foldl (fun (a : Nat × Bool) e => if a.1 ≤ e.arr then (e.arr, e.tq) else a) (0, false)).2

/-- The resampled value of subscription s for frame k (R118, R138, R139), where its window is complete and has no
unbridged gap; rounded half to even and saturated to 32 bits (DESIGN CHOICE, log entry 58). -/
def resample (m : Mach) (s : Nat) (k : Word) : Option SvEnt :=
  let x := m.sub s
  let cfg := Reg.svsCfg s
  let rate := svRate (m.fld cfg F.svsCfg_RATE)
  let t := m.tK k
  let (a, b) := svWindow x.hist t
  if a.length < 4 ∨ b.length < 4 ∨ svGap rate (a, b) then none
  else
    let w := a ++ b
    let t0 := (a.getLast?).map (·.t) |>.getD 0
    let t1 := (b.head?).map (·.t) |>.getD 0
    let ph := Config.resamplerPhase (if t1 = t0 then 0 else (t - t0) / (t1 - t0)) % 128
    let interp := w.any (·.bridged)
    let vals := (List.range (m.fld cfg F.svsCfg_NVAL + 1)).map (fun i =>
      let v := (w.zipIdx).foldl (fun (acc : Rat) p => acc + Config.resampler ph p.2 * (((p.1.vals.getD i (0, 0)).1 : Int) : Rat)) 0
      let qs := w.map (fun e => (e.vals.getD i (0, 0)).2)
      let bad := qs.any (fun q => decide (q.toNat % 4 ≠ 0) || q.getLsbD 12)
      let bitsQ := (if bad then 0 else qValid) +
        (if qs.any (fun q => q.getLsbD 2 || q.getLsbD 3) then qOvr else 0) +
        (if qs.any (·.getLsbD 10) then qSubst else 0) +
        (if qs.any (·.getLsbD 11) || w.any (·.sim) then qTest else 0) +
        (if windowTq w then qTimeq else 0) + (if interp then qInterp else 0)
      ((sat32 (ratRound v)).1, bitsQ))
    some { fseq := k, vals := vals }

-- Slots (R131 to R135)

/-- A source word's value and quality at this frame's cut-off: none for KIND 0 or 3. -/
def srcSample (m : Mach) (w : Word) : Option Sample :=
  let neg (x : Sample) : Sample := if F.slotMap_INV.get w = 1 then { x with val := -x.val } else x
  match F.slotMap_KIND.get w with
  | 1 => some (neg (m.port (F.slotMap_PORT.get w)).dec)
  | 2 =>
    let s := F.slotMap_SUB.get w
    some (neg ((m.sub s).dec.getD (F.slotMap_VAL.get w) { val := 0, q := qword 0 true s 255 }))
  | _ => none

/-- The slot's sample in this frame and the slot's substitution state (R133 to R135), which is kept while the bay is OFF and over a remap
(DESIGN CHOICE, log entry 58). -/
def slotStep (m : Mach) (b c : Nat) (test : Bool) : Mach × Option Sample :=
  match m.srcSample (m.rd (.slotMap b c)) with
  | none => (m, none)
  | some p =>
    match m.srcSample (m.rd (.slotAlt b c)) with
    | none => (m, some p)
    | some a =>
      let key := b * 8 + c
      let s := SMap.getD m.acq.slots key { onAlt := false, cnt := 0 }
      let pu := usable p.q.toNat test
      let au := usable a.q.toNat test
      let a' : Sample := { a with q := a.q ||| wd qSubst }
      let put (x : SlotSt) : Mach := { m with acq := { m.acq with slots := SMap.put m.acq.slots key x } }
      if !s.onAlt then
        if !pu && au then (put { onAlt := true, cnt := 0 }, some a') else (m, some p)
      else if !pu then (put { onAlt := true, cnt := 0 }, some (if au then a' else p))
      else if !au then (put { onAlt := false, cnt := 0 }, some p)
      else if m.fld .acqCtrl F.acqCtrl_SUBST_RET ≤ s.cnt + 1 then (put { onAlt := false, cnt := 0 }, some p)
      else (put { onAlt := true, cnt := s.cnt + 1 }, some a')

/-- The slots of a bay in this frame (R131). -/
def baySlots (m : Mach) (b : Nat) : Mach × List (Option Sample) :=
  (List.range 8).foldl (fun (a : Mach × List (Option Sample)) c =>
    let (m, x) := a.1.slotStep b c (decide ((a.1.bay b).mode = 2))
    (m, a.2 ++ [x])) (m, [])

/-- A bay slot has a source, a primary on port p, an alternate that is usable now. -/
def slotKind (m : Mach) (b c : Nat) : Nat := m.fld (.slotMap b c) F.slotMap_KIND
def slotOnPort (m : Mach) (b c p : Nat) : Bool :=
  decide (m.slotKind b c = 1) && decide (m.fld (.slotMap b c) F.slotMap_PORT = p)
def altUsable (m : Mach) (b c : Nat) : Bool :=
  match m.srcSample (m.rd (.slotAlt b c)) with
  | some a => usable a.q.toNat (decide ((m.bay b).mode = 2))
  | none => false

/-- TEST bays with a slot on port p, and the slots of other enabled bays on it, whose alternates a calibration relies on (R143, R146). -/
def calTests (m : Mach) (p : Nat) : List Nat :=
  (List.range 32).filter (fun b => decide ((m.bay b).mode = 2) && (List.range 8).any (fun c => m.slotOnPort b c p))
def calRelied (m : Mach) (p : Nat) : List (Nat × Nat) :=
  (List.range 32).flatMap (fun b => if (m.bay b).mode = 1 then
    ((List.range 8).filter (fun c => m.slotOnPort b c p)).map (fun c => (b, c)) else [])

/-- A running calibration of port p goes on (R146): no bay has left TEST without a usable alternate, and every alternate relied on is usable. -/
def calHolds (m : Mach) (p : Nat) (k : CalRun) : Bool :=
  k.tests.all (fun b => decide ((m.bay b).mode = 2) || (List.range 8).all (fun c => !m.slotOnPort b c p || m.altUsable b c)) &&
  k.relied.all (fun x => decide ((m.bay x.1).mode ≠ 1) || !m.slotOnPort x.1 x.2 p || m.altUsable x.1 x.2)

/-- Every enabled bay slot on port p is in a TEST bay or has a usable alternate (R143). -/
def calAllowed (m : Mach) (p : Nat) : Bool :=
  (List.range 32).all (fun b => decide ((m.bay b).mode ≠ 1) || (List.range 8).all (fun c =>
    !m.slotOnPort b c p || m.altUsable b c))

/-- An enabled bay maps port p (R145). -/
def portMapped (m : Mach) (p : Nat) : Bool :=
  (List.range 32).any (fun b => decide ((m.bay b).mode ≠ 0) && (List.range 8).any (fun c =>
    m.slotOnPort b c p || (decide (m.fld (.slotAlt b c) F.slotAlt_KIND = 1) && decide (m.fld (.slotAlt b c) F.slotAlt_PORT = p))))

end Mach

end Sys2Proof.Machine
end

