-- ==== Sys2Proof/Machine/AcqEv.lean ====
section
/-! DEFINITION. Meanings of the acquisition events (03): PLL lock and loss, stuck ports, sampled values, calibration
measurements. -/

namespace Sys2Proof.Machine

/-- Bit i of a list of flags set. -/
def setFlag (l : List Bool) (i : Nat) (v : Bool) : List Bool := (List.range 2).map (fun k => if k = i then v else l.getD k false)

namespace Mach

/-- Enable, lock and relock fields of modulator clock x. -/
def mclkEn (m : Mach) (x : Nat) : Bool :=
  m.flag .acqCtrl (if x = 0 then F.acqCtrl_MCLK0_EN else F.acqCtrl_MCLK1_EN)
def mclkLockF (x : Nat) : Fld := if x = 0 then F.acqStat_MCLK0_LOCK else F.acqStat_MCLK1_LOCK
def mclkRelockF (x : Nat) : Fld := if x = 0 then F.acqStat_MCLK0_RELOCK else F.acqStat_MCLK1_RELOCK

/-- MCLKx runs while it is enabled and its PLL is locked; else it is held low (R806). -/
def mclkPins (m : Mach) : Mach :=
  let run (x : Nat) : Bool := m.mclkEn x && m.flag .acqStat (mclkLockF x)
  { m with pins := { m.pins with mclk0 := run 0, mclk1 := run 1 } }

/-- Enabled ports on clock x take a synchronising reset (R110, R806). -/
def clkReset (m : Mach) (x : Nat) : Mach :=
  forEach ((List.range 16).filter (fun p => m.portEn p && decide (m.fld (.modCfg p) F.modCfg_CLK_SEL = x) &&
    !m.fenced (52 + p))) m (fun m p => m.portReset p)

/-- The PLL of a clock locks (R30, R806): RELOCK only after a loss while enabled. -/
def mclkLock (m : Mach) (x : Nat) : Mach :=
  if !m.mclkEn x || m.flag .acqStat (mclkLockF x) then m
  else
    let m := m.setF .acqStat (mclkLockF x) 1
    let m := if m.acq.pllLost.getD x false then m.setF .acqStat (mclkRelockF x) 1 else m
    let m := { m with acq := { m.acq with pllEver := setFlag m.acq.pllEver x true, pllLost := setFlag m.acq.pllLost x false } }
    (m.mclkPins).clkReset x

/-- The PLL of a clock loses lock while enabled (R110, R806). -/
def mclkLoss (m : Mach) (x : Nat) : Mach :=
  if !m.mclkEn x || !m.flag .acqStat (mclkLockF x) then m
  else
    let m := m.setF .acqStat (mclkLockF x) 0
    let m := { m with acq := { m.acq with pllLost := setFlag m.acq.pllLost x true } }
    (m.mclkPins).clkReset x

/-- A port without transitions for STUCK_LIM periods (R96, R146). -/
def modStuck (m : Mach) (p : Nat) : Mach :=
  let x := m.port p
  if !m.portEn p || m.fenced (52 + p) || !m.clkLocked p || decide (x.st = .stuck ∨ x.st = .off) then m
  else
    let m := m.setF (.modStat p) F.modStat_STUCK_SEEN 1
    let m := (m.emit .modStuck p).calAbort p .stuck
    let m := m.updPort p (fun y => { y with st := .stuck, left := 0, resetPend := false })
    m.domErr (52 + p) .stuck

/-- Transitions are back for 64 periods (R97): the reset comes at the next trigger. -/
def modRecover (m : Mach) (p : Nat) : Mach :=
  if decide ((m.port p).st = .stuck) && m.portEn p && !m.fenced (52 + p) then
    m.updPort p (fun y => { y with left := 18, resetPend := true })
  else m

/-- The subscription that a destination and APPID name (R533, R535). -/
def subFor (m : Mach) (goose : Bool) (mac appid : Nat) : Option Nat :=
  m.net.table.findSome? (fun e =>
    if e.2.goose = goose ∧ e.2.mac = mac ∧ e.2.appid = appid then some e.2.idx else none)

/-- Received samples at the new end of a history whose counts follow each other. -/
def svRun (rate : Nat) : List SvSmp → Nat
  | [] => 0
  | [e] => if e.bridged then 0 else 1
  | e :: d :: l => if e.bridged then 0 else if decide (e.cnt = (d.cnt + 1) % rate) && !d.bridged then svRun rate (d :: l) + 1 else 1

/-- The bridged samples between two received ones, newest first (R125): none for a gap longer than `mb`. Values are rounded half to even, with
source quality 0 and no simulation bit (DESIGN CHOICE, log entry 58). `by_` is the sample that closes the gap. -/
def svFill (rate mb : Nat) (older newer by_ : SvSmp) : List SvSmp :=
  let miss := (newer.cnt + rate - older.cnt - 1) % rate
  if mb < miss then []
  else ((List.range miss).map (fun j =>
    let r : Rat := (((j + 1 : Nat)) : Rat) / (((miss + 1 : Nat)) : Rat)
    ({ cnt := (older.cnt + j + 1) % rate, t := older.t + r * (newer.t - older.t),
       vals := (newer.vals.zipIdx).map (fun p =>
         let v0 : Int := (older.vals.getD p.2 (0, 0)).1
         (ratRound ((v0 : Rat) + r * (((p.1.1 - v0 : Int)) : Rat)), 0)),
       sim := false, bridged := true, tq := by_.tq, arr := by_.arr } : SvSmp))).reverse

/-- One sample placed in a history of the last 32 (R115 to R117, R125): newest first, the gaps beside it bridged up to MISS_BRIDGE, missing
counts raised. A bridged sample counts as one of the 32, and as held under R117 (DESIGN CHOICE, log entry 58). -/
def svPlace (m : Mach) (s : Nat) (rate : Nat) (smp : SvSmp) : Mach :=
  let x := m.sub s
  if x.hist.any (fun e => decide (e.cnt = smp.cnt)) then m
  else
    let mb := m.fld (.svsCfg s) F.svsCfg_MISS_BRIDGE
    let newer := x.hist.filter (fun e => decide (smp.t < e.t))
    let older := x.hist.filter (fun e => !decide (smp.t < e.t))
    let fillN := match newer.getLast? with
      | some n => svFill rate mb smp n smp
      | none => []
    let fillO := match older.head? with
      | some o => svFill rate mb o smp smp
      | none => []
    let hist := newer ++ fillN ++ smp :: (fillO ++ older)
    let miss := match newer, older with
      | [], o :: _ => (smp.cnt + rate - o.cnt - 1) % rate
      | _, _ => 0
    let m := if miss = 0 then m else m.bump (.svsMissCnt s) F.svsMissCnt_MISSED miss
    m.updSub s (fun y =>
      { y with hist := hist.take 32,
               run := if newer ≠ [] then (if y.wasLost then y.run else svRun rate hist)
                      else if older = [] ∨ miss ≠ 0 then 1 else y.run + 1 })

/-- The arrival time-stamp of a frame of lane l that is at its PCS now, in ns of LTC (R489). -/
def svArrival (m : Mach) (l : Nat) : Rat := (((m.rxStamp l m.ltcPs : Int)) : Rat) / 1000

/-- The instant of sample smpCnt in an APDU with the arrival stamp `arr` (R115). -/
def svInstant (m : Mach) (s : Nat) (arr : Rat) (smpCnt : Nat) : Rat :=
  let f : Rat := ((svRate (m.fld (.svsCfg s) F.svsCfg_RATE) : Nat) : Rat)
  let dly : Rat := ((sgn32 (m.fld (.svsDlyCorr s) F.svsDlyCorr_DLY_CORR) : Int) : Rat)
  let part : Rat := ((smpCnt : Nat) : Rat) / f * 1000000000 - dly
  (((arr - part) / 1000000000).floor : Rat) * 1000000000 + part

/-- An ASDU's svID, confRev and number of values are those of subscription s (R114). -/
def svMatch (m : Mach) (s : Nat) (a : Asdu) : Bool :=
  decide (a.confRev = m.rd (.rxd s 2) ∧ a.idCrc = m.rd (.rxd s 3) ∧ a.vals.length = m.fld (.svsCfg s) F.svsCfg_NVAL + 1)

/-- One ASDU of an APDU accepted for subscription s, with its arrival stamp (R114 to R117, R124, R139). One without gmIdentity differs from no
grandmaster, and a smpCnt at or above the rate is taken as any other (DESIGN CHOICE, log entry 58). -/
def svAsdu (m : Mach) (s : Nat) (sim : Bool) (arr : Rat) (a : Asdu) : Mach :=
  let cfg := Reg.svsCfg s
  if !m.svMatch s a then
    ((m.updSub s (fun y => { y with mismatch := true })).setF (.svsStat s) F.svsStat_CFG_MISMATCH 1).emit .svCfgMismatch s
  else
    let rate := svRate (m.fld cfg F.svsCfg_RATE)
    let t := m.svInstant s arr a.smpCnt
    if 100000000 < arr - t then m.bump (.svsLateCnt s) F.svsLateCnt_LATE 1
    else if (m.sub s).hist.any (fun e => decide (e.cnt = a.smpCnt)) then m
    else
      let gmBad := m.flag cfg F.svsCfg_GM_CHECK && (match a.gm with
        | some g => decide (some g ≠ m.tb.gm.map (·.id))
        | none => false)
      let tq := decide (a.smpSynch ≤ 1) || gmBad || decide (m.tb.st ≠ .locked)
      let n := (m.sub s).arrN
      let smp : SvSmp := { cnt := a.smpCnt, t := t, vals := a.vals, sim := sim, bridged := false, tq := tq, arr := n }
      let m := (m.svPlace s rate smp).updSub s (fun y => { y with arrN := n + 1 })
      let m := m.setF (.svsStat s) F.svsStat_LAST_SMPCNT a.smpCnt
      let m := if sim || a.vals.any (fun v => v.2.getLsbD 11) then m.setF (.svsStat s) F.svsStat_TEST_SEEN 1 else m
      m.updSub s (fun y =>
        let st := if y.st = 3 then 1 else y.st
        let run := if y.st = 3 then 1 else y.run
        let ok := decide (st = 1 ∧ 8 ≤ run)
        { y with st := if ok then 2 else st, run := run, wasLost := y.wasLost && !ok, lastMon := m.mon,
                 mismatch := false, timeq := tq })

/-- An APDU received on lane l with destination and APPID (R113 to R117, R123, R535): its ASDUs in order, then its latency, rounded half to even
to ns, a negative one counting 0. A fenced subscription takes nothing (R44), and an APDU without an ASDU or with more than eight is dropped
whole (DESIGN CHOICE for both: log entry 58). -/
def svApdu (m : Mach) (l : Nat) (mac appid : Nat) (sim : Bool) (asdus : List Asdu) : Mach :=
  match m.subFor false mac appid with
  | none => m
  | some s =>
    if (m.sub s).st = 0 ∨ m.fenced (68 + s) ∨ asdus = [] ∨ 8 < asdus.length then m
    else
      let arr := m.svArrival l
      let lats := (asdus.filter (fun a => m.svMatch s a)).map (fun a =>
        (ratRound (arr - m.svInstant s arr a.smpCnt)).toNat)
      let m := forEach asdus m (fun m a => m.svAsdu s sim arr a)
      match lats with
      | [] => m
      | e :: r => m.updSub s (fun y => { y with latMax := max y.latMax (r.foldl min e) })

/-- The resampler's value for frame k (R118, R119). -/
def resampleDone (m : Mach) (s : Nat) (k : Word) : Mach :=
  let x := m.sub s
  if x.st = 0 ∨ m.fenced (68 + s) ∨ x.ents.any (fun e => decide (e.fseq = k)) then m
  else match m.resample s k with
    | none => m
    | some e =>
      let d : Int := sdiff32 m.fr.fseq (k + wd (m.fld .frmCfg F.frmCfg_D_ALIGN))
      if 0 < d ∨ (d = 0 ∧ m.fr.cutOff) then m.bump (.svsLateCnt s) F.svsLateCnt_LATE 1
      else m.updSub s (fun y => { y with ents := (e :: y.ents).take 64 })

/-- No sample for STREAM_TMO (R124). -/
def svTimeout (m : Mach) (s : Nat) : Mach :=
  if (m.sub s).st = 2 ∧ m.fld (.svsCfg s) F.svsCfg_STREAM_TMO * 100000 ≤ m.since (m.sub s).lastMon then
    let m := m.updSub s (fun y => { y with st := 3, wasLost := true, run := 0 })
    (m.emit .svLost s).domErr (68 + s) .svLost
  else m

/-- A calibration measurement is complete (R148). -/
def calDone (m : Mach) (p : Nat) : Mach :=
  match (m.port p).cal with
  | none => m
  | some k =>
    if k.n = 0 ∨ k.frames < k.n then m
    else
      let mean : Int := ratRound (((k.sum : Int) : Rat) / ((k.n : Nat) : Rat))
      let m := m.setF (.modCalMean p) F.modCalMean_CAL_MEAN (toBits 32 mean)
      let m := m.setF (.modCalRms p) F.modCalRms_CAL_RMS (sqrtRound k.sumSq k.n)
      let m := m.setF (.modStat p) F.modStat_CAL_DONE 1
      m.updPort p (fun x => { x with cal := some { k with n := m.fld .acqCtrl F.acqCtrl_CAL_FRAMES, sum := 0, sumSq := 0,
                                                            frames := 0 } })

/-- Stage-2 samples `xs` of a port, oldest first, end in N_ARC samples at or over the threshold of arc-flash zone k for slot c of bay b
(R304): |x| × SLOT_SCALE × GAIN / 2^22 against √2 × I_ARC × IN_RATED, compared as squares. -/
def arcOver (m : Mach) (k b c p : Nat) (xs : List Int) : Bool :=
  let n := (m.zcfg 0x54 k 6).toNat
  let g : Rat := f32Val (m.rd (.slotScale b c)) * (m.fld (.modGain p) F.modGain_GAIN : Rat) / (2 ^ 22 : Nat)
  let lim : Rat := ((m.zcfg 0x54 k 5 : Int) : Rat) / 10 * ((m.cfg b 0 0 1 : Int) : Rat)
  decide (n ≤ xs.length) && (xs.drop (xs.length - n)).all (fun x => decide (2 * lim * lim ≤ (((x : Int) : Rat) * g) * (((x : Int) : Rat) * g)))

/-- Fast over-current (R304): the consecutive stage-2 samples `xs` of port p, oldest first, set the flag of bay b when the last N_ARC are at or
over the threshold of an enabled arc-flash zone that has the bay in its OC_MASK (DEDUCED, log entry 13). The port is in RUN and on a phase
current of the bay. -/
def fastOc (m : Mach) (b p : Nat) (xs : List Int) : Mach :=
  if decide (b < 32) && decide ((m.port p).st = .run) && !m.fenced (52 + p) &&
      [0, 1, 2].any (fun c => m.slotOnPort b c p && (List.range 4).any (fun k =>
        decide (m.zcfg 0x54 k 0 = 1) && (maskOf (m.zcfg 0x54 k 3)).testBit b && m.arcOver k b c p xs)) then
    { m with zone := { m.zone with ocSet := m.zone.ocSet ||| 2 ^ b } }
  else m

end Mach

end Sys2Proof.Machine
end

