-- ==== Sys2Proof/Machine/Fio.lean ====
section
/-! DEFINITION. Field inputs and outputs (08): debounce, wire break, diagnostics of the outputs, the bands of the field supply, and
what a frame trigger does to the inputs. -/

namespace Sys2Proof.Machine

/-- A sample at given readings of the terminal (R373): in between it repeats the one before. -/
def Di.next (d : Di) (mv ua : Nat) : Bool :=
  if 11000 ≤ mv ∧ 2000 ≤ ua then true else if mv ≤ 5000 ∨ ua ≤ 1500 then false else d.smp

/-- The class of a current in nA, after the one before (R380). -/
def wireClass (old na : Nat) : Nat :=
  if na < 250000 then 0 else if na < 350000 then old else if na ≤ 1500000 then 1 else if na ≤ 2000000 then old else 2

/-- k classes alike, `us` each, and BREAK after them (R381). -/
def Di.classes (d : Di) (cls k us : Nat) : Di :=
  if k = 0 then d
  else
    let t := F.diCfg_WB_TIME.get d.cfg * 10000
    let d := { d with cls := cls, brkUs := if cls = 0 then d.brkUs + k * us else 0, okUs := if cls = 0 then 0 else d.okUs + k * us }
    { d with brk := if t ≤ d.brkUs then true else if t ≤ d.okUs then false else d.brk }

/-- The timing of WB_TIME starts anew (R382). -/
def Di.wbRestart (d : Di) : Di := { d with brkUs := 0, okUs := 0, winN := 0, winSum := 0 }

/-- n samples of a current classified (R380): each in pulsed mode, the mean of each 1000 in continuous mode. `us` is the strobe period. -/
def Di.wire (d : Di) (n ua us : Nat) : Di :=
  if d.pulsed then d.classes (wireClass d.cls (1000 * ua)) n us
  else if d.winN + n < 1000 then { d with winN := d.winN + n, winSum := d.winSum + n * ua }
  else
    let d' := d.classes (wireClass d.cls (d.winSum + (1000 - d.winN) * ua)) 1 1000
    let k := (d.winN + n - 1000) / 1000
    let r := (d.winN + n - 1000) % 1000
    { d'.classes (wireClass d'.cls (1000 * ua)) k 1000 with winN := r, winSum := r * ua }

/-- n samples of a sink current with the terminal at or above 11 V and the band NORMAL (`ok`), or not (R702). -/
def Di.sink (d : Di) (n ua : Nat) (ok : Bool) : Di :=
  let out := decide (ua < 2200 ∨ 3800 < ua)
  let d := { d with outRun := if ok && out then d.outRun + n else 0, inRun := if ok && !out then d.inRun + n else 0 }
  { d with sinkBad := if 10 ≤ d.outRun then true else if 10 ≤ d.inRun then false else d.sinkBad }

/-- n samples alike (R373, R377, R380, R702). `us` is the strobe period, `wb` that wire-break detection is enabled, `norm` that the band is NORMAL:
outside it BREAK is frozen (R382, R401). -/
def Di.samples (d : Di) (n mv ua us : Nat) (wb norm : Bool) : Di :=
  let v := d.next mv ua
  let deb := F.diCfg_DEB_US.get d.cfg
  let need := if d.pulsed ∧ us ≠ 0 then (deb + us - 1) / us else deb
  let d := { d with smp := v, run := if v = d.smp then d.run + n else n, cur := ua }
  let d := { d with deb := if need ≤ d.run then v else d.deb }
  let d := if !wb then { d.wbRestart with cls := 1 } else if norm then d.wire n ua us else d
  d.sink n ua (norm && decide (11000 ≤ mv))

/-- Strobe samples taken up to LTC t, with strobes of 24 µs at S + k × p in each LTC second S (R375). Times in ns. -/
def strobesBy (p t : Nat) : Nat :=
  if t < 24000 then 0 else (t - 24000) / 1000000000 * ((1000000000 + p - 1) / p) + (t - 24000) % 1000000000 / p + 1

/-- The sampling mode of an input (R374): a change of it starts the runs anew (DESIGN CHOICE, log entry 59). -/
def Di.mode (d : Di) (pulsed : Bool) : Di := if d.pulsed = pulsed then d else { d.wbRestart with pulsed := pulsed, run := 0 }

namespace Mach

-- Inputs

/-- An input changed. -/
def updDi (m : Mach) (x : Nat) (f : Di → Di) : Mach :=
  { m with fio := { m.fio with dis := SMap.put m.fio.dis x (f (m.di x)) } }

/-- Debounce of an input in µs (R377, R404): in pulsed mode whole strobes. -/
def debUs (m : Mach) (d : Di) : Nat :=
  let deb := F.diCfg_DEB_US.get d.cfg
  let p := 10 * m.fio.strobe
  if d.pulsed ∧ p ≠ 0 then (deb + p - 1) / p * p else deb

/-- Samples of an input up to `age` ns ago (R375): of the strobes in pulsed mode, else one each µs. -/
def sampled (m : Mach) (d : Di) (age : Nat) : Nat :=
  let p := 10000 * m.fio.strobe
  if d.pulsed ∧ p ≠ 0 then strobesBy p (m.ltc.toNat - age) else (m.mon.toNat - age) / 1000

/-- The sink of input x is enabled (R375). -/
def sinkOn (m : Mach) (x : Nat) : Bool :=
  let p := 10000 * m.fio.strobe
  !(m.di x).pulsed || decide (p = 0) || decide (m.ltc.toNat % 1000000000 % p < 24000)

/-- An input's new state: BREAK and an out-of-band sink are reported at their change, the ON of a light sensor sets its held flag (R305, R381,
R386, R702). -/
def diPut (m : Mach) (x : Nat) (d : Di) : Mach :=
  let old := m.di x
  let m := m.updDi x (fun _ => d)
  let m := if d.brk = old.brk then m else m.emit (if d.brk then .diBreak else .diBreakEnd) x
  let m := if d.sinkBad && !old.sinkBad then m.domErr (48 + x / 8) .sink else m
  if d.deb && !old.deb && m.diLight x && !m.diFenced x then { m with zone := { m.zone with lightSet := m.zone.lightSet ||| 2 ^ x } } else m

/-- The samples of input x up to `age` ns ago, the terminal reading `mv` and `ua`. -/
def diRun (m : Mach) (x mv ua age : Nat) : Mach :=
  let d := m.di x
  if m.since d.takenMon < age then m
  else
    let n := m.sampled d age - m.sampled d (m.since d.takenMon)
    let e := { d with mv := mv, ua := ua, takenMon := m.mon - tm age }
    m.diPut x (if n = 0 then e
      else e.samples n mv ua (10 * m.fio.strobe) (m.flag (.diOpt x) F.diOpt_WB_EN) (decide (m.fio.band = 0)))

/-- The samples of input x up to now, and of every input: the terminal reads what it read last. -/
def diSync (m : Mach) (x : Nat) : Mach := m.diRun x (m.di x).mv (m.di x).ua 0
def diSyncAll (m : Mach) : Mach := forEach (List.range 32) m diSync

/-- What the terminal of input x has read up to now, oldest first: mV, µA while the sink is enabled, and for how many µs. Before
the first it reads what it read last, and the last holds on. -/
def diTake (m : Mach) (x : Nat) : List (Nat × Nat × Nat) → Mach
  | [] => m
  | (mv, ua, us) :: l =>
    let rest := usNs (l.foldl (fun a (r : Nat × Nat × Nat) => a + r.2.2) 0)
    let m := m.diRun x (m.di x).mv (m.di x).ua (rest + usNs us)
    (m.diRun x mv ua rest).diTake x l

/-- Readings of the terminal of an input that exists. -/
def diReads (m : Mach) (x : Nat) (l : List (Nat × Nat × Nat)) : Mach := if 32 ≤ x then m else m.diTake x l

/-- One input at a trigger (R374, R378, R379, R404). -/
def diTrigger (m : Mach) (x : Nat) : Mach :=
  let w := m.rd (.diCfg x)
  let tn := F.diCfg_TN_MAX.get w
  let d := { m.di x with cfg := w }
  let t0 := min d.tension tn
  let t := if d.deb then min (t0 + 1) tn else t0 - 1
  let d := { d with
    tension := t,
    filt := if t = tn then true else if t = 0 then false else d.filt }
  let d := d.mode (m.flag (.diOpt x) F.diOpt_PULSE_REQ && decide (40 * m.fio.strobe ≤ F.diCfg_DEB_US.get w) && !m.diLight x)
  let clear := match m.fio.since15 with
    | some s =>
      decide (m.fio.band ≠ 3) && decide (msNs 1 + usNs (m.debUs d) + (tn * 625000 + 8) / 9 ≤
        (if m.since s ≤ m.since m.fio.lockEndMon then m.since s else m.since m.fio.lockEndMon))
    | none => false
  m.updDi x (fun _ => { d with fldLow := d.fldLow && !clear })

/-- The inputs at a frame trigger, then the input image (R376, R384, R386). `rb` are the readbacks RB0 to RB15. -/
def fioTrigger (m : Mach) (rb : Nat) : Mach :=
  let m := m.diSyncAll
  let m := if m.fr.fcnt = 0 then { m with fio := { m.fio with strobe := m.fld .fioCtrl F.fioCtrl_P_STROBE } } else m
  let m := forEach (List.range 32) m diTrigger
  let m := forEach (List.range 16) m (fun m y => m.updDo y (fun d => { d with rb := rb.testBit y }))
  { m with fio := { m.fio with
      imgFilt := bitsOf 32 (fun x => (m.di x).filt && !m.diFenced x), imgValid := bitsOf 32 m.diValid,
      imgLow := bitsOf 32 (fun x => (m.di x).fldLow), imgRb := rb % 65536, imgDeb := bitsOf 32 (fun x => (m.di x).deb),
      imgBrk := bitsOf 32 (fun x => (m.di x).brk) } }

-- Output diagnostics

/-- A fault class given (R398, R400): a change is logged with the class and n; into DRV_FAIL it counts an error. -/
def setClass (m : Mach) (y cls n : Nat) : Mach :=
  let d := m.doSt y
  if d.fault = cls ∧ d.sib = n then m
  else
    let m := m.updDo y (fun d => { d with fault := cls, sib := n })
    let m := if cls = 0 then m else m.setF (.doStat y) F.doStat_FAULT_SEEN 1
    let m := m.emitW .doFault y [wd (cls * 65536 + n)]
    if cls = 6 ∧ d.fault ≠ 6 then m.domErr (doDomain y) .drvFail else m

/-- The class of an output commanded off, from its record, newest observation first (R398). -/
def offClass (l : List Obs) (y : Nat) : Nat × Nat :=
  match l with
  | [] => (0, 0)
  | o :: _ =>
    let full := decide (8 ≤ l.length)
    let par := if full then (List.range 16).find? (fun n => candidate l y n && l.any (fun a => a.cmds.testBit n) &&
      l.any (fun a => !a.cmds.testBit n)) else none
    match par with
    | some n => (4, n)
    | none => if o.rb0 then (if full then (3, 0) else (5, 0)) else if o.rbp then (1, 0) else (0, 0)

/-- One observation of output y (R396, R397) and its class. -/
def observe (m : Mach) (rbp rb0 : Nat) (y : Nat) : Mach :=
  let o : Obs := { rbp := rbp.testBit y, rb0 := rb0.testBit y, cmds := m.cmdMask }
  let m := m.updDo y (fun d => { d with obs := (o :: d.obs).take 8, rb := o.rb0, openOn := false })
  let (c, n) := offClass (m.doSt y).obs y
  m.setClass y c n

/-- The on-state check of a conducting output with its readback (R398). -/
def onCheck (m : Mach) (y : Nat) (rb : Bool) : Mach :=
  let m := m.updDo y (fun d => { d with rb := rb })
  let low := decide ((m.doSt y).cur < 3)
  if !rb && low then m.setClass y 6 0
  else if rb && low && decide ((m.doSt y).fault = 1) then m
  else m.setClass y 0 0

/-- The currents of the stages as measured, in mA (DOy_CUR). -/
def curSet (m : Mach) (cur : List Nat) : Mach :=
  forEach (List.range 16) m (fun m y => m.updDo y (fun d => { d with cur := cur.getD y 0 }))

/-- The diagnostic scan, every 10 ms (R396, R398, R400): observations of the outputs commanded off, on-state checks of the conducting
ones. `rbp`, `rb0` are the readbacks with and without the pull, `rbOn` those of conducting outputs, `cur` the currents in mA. Frozen
outside NORMAL (R401). -/
def diagScan (m : Mach) (rbp rb0 rbOn : Nat) (cur : List Nat) : Mach :=
  let early : Bool := match m.fio.scanMon with
    | some t => decide (m.since t < msNs 10)
    | none => false
  if early then m
  else
  let m := ({ m with fio := { m.fio with scanMon := some m.mon } } : Mach).curSet cur
  if m.fio.band ≠ 0 then m
  else forEach (List.range 16) m (fun m y =>
    if !m.cmdOn y then m.observe rbp rb0 y
    else if !m.conducts y then m
    else m.onCheck y (rbOn.testBit y))

/-- The observation 1 ms after a change of output y (R396, R397): of every other output commanded off. -/
def changeObs (m : Mach) (y rbp rb0 : Nat) : Mach :=
  match m.fio.obsPend.find? (fun p => p.1 = y) with
  | none => m
  | some p =>
    if m.since p.2 < msNs 1 then m
    else
      let m := { m with fio := { m.fio with obsPend := m.fio.obsPend.erase p } }
      if m.fio.band ≠ 0 then m
      else forEach ((List.range 16).filter (fun z => z ≠ y)) m (fun m z => if m.cmdOn z then m else m.observe rbp rb0 z)

/-- Current limit active for 1 ms (R398, R399), at a current of `ma` for `us` µs: the stage goes off; the fourth time it stays off. -/
def shortToM (m : Mach) (y us ma : Nat) : Mach :=
  if 16 ≤ y ∨ us < 1000 ∨ !m.conducts y then m
  else (m.updDo y (fun d => { d with cur := ma, heldOff := true, dead := decide (3 ≤ d.retries), shortMon := m.mon })).setClass y 2 0

/-- A shorted stage retries (R399). -/
def shortRetry (m : Mach) (y : Nat) : Mach :=
  let d := m.doSt y
  if 16 ≤ y ∨ !d.heldOff ∨ d.dead ∨ !m.cmdOn y ∨ 3 ≤ d.retries ∨ m.since d.shortMon < msNs (if y < 12 then 100 else 10) then m
  else m.updDo y (fun d => { d with heldOff := false, retries := d.retries + 1 })

/-- A conducting output with readback high and under 3 mA for 10 ms (R398, R400): a current of `ma` for `us` µs. -/
def openLoadOn (m : Mach) (y us ma : Nat) : Mach :=
  if 16 ≤ y ∨ us < 10000 ∨ 3 ≤ ma ∨ !m.conducts y ∨ m.fio.band ≠ 0 then m
  else (m.setClass y 1 0).updDo y (fun d => { d with openOn := true, cur := ma, rb := true })

/-- Output y reports OPEN_LOAD in its off state (R221): a class that the off state gave, of an output commanded off. -/
def openOff (m : Mach) (y : Nat) : Bool := decide ((m.doSt y).fault = 1) && !(m.doSt y).openOn && !m.cmdOn y

/-- A conduction above 1.0 A that has lasted for the last `us` µs, with those of the last 10 s before it (R390): one that reaches back to the end of
the one before is the same. -/
def condAdd (now : Time) (us : Nat) (l : List (Time × Nat)) : List (Time × Nat) :=
  let len := usNs us
  let l := l.filter (fun c => (now - c.1).toNat - c.2 < msNs 10000)
  match l with
  | (s, n) :: r => if (now - s).toNat - n ≤ len then (s, (now - s).toNat) :: r else (now - tm len, len) :: l
  | [] => [(now - tm len, len)]

/-- The conduction above 1.0 A in the 10 s that end now, in ns. -/
def condSum (now : Time) (l : List (Time × Nat)) : Nat :=
  (l.map (fun c => min (now - c.1).toNat (msNs 10000) - ((now - c.1).toNat - c.2))).foldl (· + ·) 0

/-- A trip output has carried `ma` mA for the last `us` µs (R390): logged at the end of 250 ms of one conduction above 1.0 A, and when
conduction above 1.0 A exceeds 15 % of 10 s; nothing is switched off. -/
def tripDuty (m : Mach) (y us ma : Nat) : Mach :=
  if y < 12 ∨ 16 ≤ y ∨ !m.conducts y then m
  else
    let d := m.doSt y
    let l := if 1000 < ma then condAdd m.mon us d.cond else d.cond
    let new := decide (l.head?.map (·.1) ≠ d.cond.head?.map (·.1))
    let long := decide (1000 < ma) && l.head?.any (fun c => decide (msNs 250 < c.2))
    let much := decide (msNs 1500 < condSum m.mon l)
    let hit := (long && (new || !d.condLong)) || (much && !d.condMuch)
    let m := m.updDo y (fun d => { d with cur := ma, cond := l, condLong := long || (!new && d.condLong), condMuch := much })
    if hit then (m.setF (.doStat y) F.doStat_DUTY_WARN 1).emit .tripDuty y else m

-- Field supply

/-- FIO_FLP_MIN follows a measurement (R401). -/
def flpMin (m : Mach) : Mach :=
  if m.fio.flpMv < m.fld .fioFlpMin F.fioFlpMin_MIN_MV then m.setF .fioFlpMin F.fioFlpMin_MIN_MV m.fio.flpMv else m

/-- FL_P measured at `mv` mV, where it has been for the last `us` µs (R401): since when it is below 15 V, at 15 V or more, at 16 V or more. -/
def flpSet (m : Mach) (mv us : Nat) : Mach :=
  let mv := min mv 65535
  let t := m.mon - tm (min (usNs us) (m.since m.fio.flpMon))
  let keep (c : Bool) (x : Option Time) : Option Time := if c then some (x.getD t) else none
  let f := m.fio
  ({ m with fio := { f with flpMv := mv, flpMon := m.mon, low15 := keep (decide (mv < 15000)) f.low15,
                            since15 := keep (decide (15000 ≤ mv)) f.since15, hi16 := keep (decide (16000 ≤ mv)) f.hi16 } } : Mach).flpMin

/-- The band changes: the inputs are sampled up to now under the old one; back in NORMAL the timing of WB_TIME starts anew (R382, R401). -/
def setBand (m : Mach) (b : Nat) : Mach :=
  let m := m.diSyncAll
  let m := if b = 0 then forEach (List.range 32) m (fun m x => m.updDi x Di.wbRestart) else m
  { m with fio := { m.fio with band := b } }

/-- Entry into SAG (R401, R402). -/
def enterSag (m : Mach) : Mach := ((m.setBand 1).setF .fioStat F.fioStat_SAG_SEEN 1).emit .fldSag 0

/-- Q_FLD_LOW set on every input (R401, R404). -/
def allLow (m : Mach) : Mach := forEach (List.range 32) m (fun m x => m.updDi x (fun d => { d with fldLow := true }))

/-- Entry into LOW (R401). -/
def enterLow (m : Mach) : Mach := (((m.setBand 2).allLow).setF .fioStat F.fioStat_LOW_SEEN 1).emit .fldLow 0

/-- Entry into LOCKOUT (R401, R403): which outputs were commanded on is kept for its end. -/
def enterLockout (m : Mach) : Mach :=
  let m := (m.setBand 3).allLow
  let m := { m with fio := { m.fio with lockCmds := m.cmdMask, resetLock := false } }
  (m.setF .fioStat F.fioStat_LOCK_SEEN 1).emit .fldLockout 0

/-- LOCKOUT ends (R402, R403): a general output that was and is commanded on waits for a fresh command. -/
def endLockout (m : Mach) : Mach :=
  let m := forEach (List.range 12) m (fun m y =>
    if m.fio.lockCmds.testBit y && m.cmdOn y then m.updDo y (fun d => { d with wait := true }) else m)
  let m := { m with fio := { m.fio with lockEndMon := m.mon, lockCmds := 0, resetLock := false } }
  m.emit .fldRestore 0

/-- The band at the end of LOCKOUT (R402). -/
def lockoutOver (m : Mach) : Mach :=
  let m := m.endLockout
  if 19400 ≤ m.fio.flpMv then m.setBand 0 else m.enterSag

/-- The change of band that FL_P calls for (R401, R402). After a reset the 5 ms count from its release, if FL_P reached 16 V before. -/
def bandMove (m : Mach) : Option BandMove :=
  let f := m.fio
  let v := f.flpMv
  let past (x : Option Time) (n : Nat) : Bool := match x with
    | some t => decide (n ≤ m.since t)
    | none => false
  if f.band = 3 then
    if past f.hi16 (msNs 5) && (!f.resetLock || decide (msNs 5 ≤ m.since m.start.resetMon)) then some .restore else none
  else if v < 10000 then some .lockout
  else if f.band ≠ 2 && decide (v < 15000) && past f.low15 (msNs 1 + 1) then some .low
  else if f.band ≠ 0 && decide (19400 ≤ v) then some .normal
  else if (f.band = 0 && decide (v < 19200)) || (f.band = 2 && decide (15000 ≤ v)) then some .sag
  else none

/-- The band follows FL_P (R401, R402). -/
def bandStep (m : Mach) : Mach :=
  match m.bandMove with
  | some .sag => m.enterSag
  | some .low => m.enterLow
  | some .lockout => m.enterLockout
  | some .normal => m.setBand 0
  | some .restore => m.lockoutOver
  | none => m

/-- FL_P has been `mv` mV for the last `us` µs: measured, and the band follows it (R401, R402). -/
def flpTake (m : Mach) (mv us : Nat) : Mach := (m.flpSet mv us).bandStep

/-- FL_P is measured every 10 µs (R401). Nothing is measured before a command has told FL_P after a reset. -/
def flpDue (m : Mach) : Bool := decide (m.mon.toNat % 10000 = 0) && (m.fio.low15.isSome || m.fio.since15.isSome)

end Mach

end Sys2Proof.Machine
end

