-- ==== Sys2Proof/Machine/Binding.lean ====
section
/-! DEFINITION. The frame path after the cut-off (01 R21 to R47, 02 R62 to R88): release, completion and deadline of the bay
engines, the zone engine, the arc-flash reading, and the binding step with class P and class A stitches (07). -/

namespace Sys2Proof.Machine

/-- Demand d after a binding step: `raw` tells that something holds it on, `drive` that output actions are carried out, `tmin` is the
minimum time in ms (R339, R340, R344, R370). The second value tells whether it changed. -/
def Demand.next (d : Demand) (raw drive : Bool) (mon : Time) (tmin : Nat) : Demand × Bool :=
  if raw then
    if d.on then (if drive && !d.out then ({ d with out := true }, true) else (d, false))
    else ({ on := true, onMon := mon, out := drive, held := decide (tmin ≠ 0), tmin := tmin }, true)
  else if d.on && !d.held then ({ d with on := false }, true) else (d, false)

/-- No demand. -/
def Demand.init : Demand := ⟨false, 0, false, false, 0⟩

namespace Mach

/-- LTC time since the trigger of the present frame, in ns (R62). -/
def tau (m : Mach) : Nat := (m.ltc - m.fr.trigLtc).toNat

-- Release

/-- What signal references of bay b read in the present frame (R156, R384). -/
def sigImg (m : Mach) (b : Nat) : SigImg :=
  { filt := m.fio.imgFilt, valid := m.fio.imgValid, rb := m.fio.imgRb, pts := m.net.gprLatched, goose := m.net.gptsLatched,
    bf := (m.bay b).bf, openLoad := bitsOf 4 (fun k => m.openOff (12 + k)),
    test := decide ((m.bay b).mode = 2) }

/-- The bay engine's inputs for this frame with the slots given (R131, R225). -/
def bayIn (m : Mach) (b : Nat) (slots : List (Option Sample)) : BayIn :=
  let x := m.bay b
  { fseq := m.fr.fseq,
    slots := (slots.zipIdx).map (fun p => p.1.map (fun s =>
      (((s.val : Int) : Rat) * f32Val (m.rd (.slotScale b p.2)), s.q))),
    set := m.set, group := m.groupOf b, test := decide (x.mode = 2), img := m.sigImg b, mon := m.mon, demand := x.dBrk.on,
    clrMot := x.clrMotNow, clrEnergy := x.clrEnergyNow, own := x.ownPend }

/-- The VCORE loop starts at the first frame in which a bay is computed (R72). -/
def vcoreStart (m : Mach) : Mach :=
  if m.fr.vcoreOn then m else { m with fr := { m.fr with vcoreOn := true, vcoreCnt := 0, worst := none, lateInt := false } }

/-- A bay's engine is released for the frame (R79): at once, or after the frame it still computes. Without an engine the
frame is lost to the bay (R25, R27). -/
def release (m : Mach) (b : Nat) (slots : List (Option Sample)) : Mach :=
  let x := m.bay b
  let e := m.engOf b
  if x.unprot then m.updBay b (fun x => { x with lost := x.lost + 1 })
  else if m.fenced e then m.updBay b (fun x => { x with lost := x.lost + 1, late := true })
  else
    let i := m.bayIn b slots
    let m := m.vcoreStart
    let m := m.updBay b (fun x => { x with clrMotNow := 0, clrEnergyNow := false, ownPend := false })
    if x.comp.isSome then
      m.updBay b (fun x => { x with wait := some i })
    else
      m.updBay b (fun x => { x with comp := some i, lost := 0, d := { x.d with hist := pushLost x.d.hist x.lost } })

/-- The aligner cut-off, 6 µs after the trigger (R61, R62). No step of the frame begins in its guard interval (R64). -/
def alignerCut (m : Mach) : Mach :=
  if !m.fr.started || m.fr.guard || m.fr.cutOff || m.tau < 6000 then m
  else
    let m := { m with fr := { m.fr with cutOff := true } }
    m.cutOff

/-- The aligned set of the frame, and the release of the bay engines (R131 to R135, R79). -/
def alignedDo (m : Mach) : Mach :=
  if !m.fr.started || m.fr.guard || !m.fr.cutOff || m.fr.setDone then m
  else
    let m := { m with fr := { m.fr with setDone := true } }
    forEach ((List.range 32).filter (fun b => (m.bay b).mode ≠ 0)) m (fun m b =>
      let (m, slots) := m.baySlots b
      let m := { m with acq := { m.acq with views := SMap.put m.acq.views b (slots.map (fun (s : Option Sample) => s.getD ⟨0, 0⟩)) } }
      m.release b slots)

/-- The aligned set is complete, 6 µs to 8 µs after the trigger (R62). -/
def alignedSet (m : Mach) : Mach := if 8000 < m.tau then m else (m.alignerCut).alignedDo

/-- Past 8 µs the aligned set is complete (R62). -/
def setDue (m : Mach) : Mach := if m.tau ≤ 8000 then m else (m.alignerCut).alignedDo

-- Slack (R65 to R69)

/-- A unit's slack in a frame: its minimum of the second, the worst ratio of the VCORE interval, SLACK_WARN below 20 %. -/
def slackRec (m : Mach) (e : Nat) (slack : Int) (window : Nat) : Mach :=
  let late := decide (slack < 0)
  let r : Rat := ((slack : Int) : Rat) / ((window : Nat) : Rat)
  let m := m.updEng e (fun x =>
    { x with secMin := some (match x.secMin with
        | some v => min v slack
        | none => slack), secLate := x.secLate || late })
  let m := { m with fr := { m.fr with
    worst := some (match m.fr.worst with
      | some v => ratMin v r
      | none => r), lateInt := m.fr.lateInt || late } }
  if r < 1 / 5 then m.emit .slackWarn e else m

-- Zone engine

/-- What the zone engine reads in this frame (R46). -/
def zoneIn (m : Mach) : ZIn :=
  { fseq := m.fr.fseq, set := m.set,
    bays := (List.range 32).map (fun b =>
      let x := m.bay b
      { mode := x.mode, late := decide (x.mode ≠ 0) && !x.resOk, unprot := x.unprot, res := x.res, bf := x.bf,
        eff := if x.mode = 0 then decide (contactPos (m.sigImg b) (m.cfg b 0 0 7) (m.cfg b 0 0 8) = 2) else x.res.eff,
        bayType := m.cfg b 0 0 0 }),
    img := m.sigImg 32 }

/-- The zone engine starts its frame once released, unless it is fenced or still computes the frame before (R63, R79). The
result, a function of what it reads at its start, is kept until it completes. -/
def zeStart (m : Mach) : Mach :=
  if !m.fr.zeReleased || m.fr.guard || m.fr.zeDone || m.zeOut || m.zone.next.isSome || m.zone.after.isSome then m
  else
    let o := zoneCompute m.zoneIn m.zone.res m.zone.d
    { m with zone := { m.zone with next := some (o.d, o.res, o.noRoute) } }

/-- The zone engine is released once every enabled bay has completed or reached its deadline (R63). -/
def zeRelease (m : Mach) : Mach :=
  if m.fr.zeReleased || !m.fr.setDone then m
  else if m.fr.deadline || (List.range 32).all (fun b => decide ((m.bay b).mode = 0) || (m.bay b).resOk) then
    ({ m with fr := { m.fr with zeReleased := true } } : Mach).zeStart
  else m

-- Deadline and completion of a bay's frame

/-- One late frame of bay b on engine e (R75, R80). -/
def lateFrame (m : Mach) (b e : Nat) : Mach :=
  let m := m.updBay b (fun x => { x with late := true, lateCnt := x.lateCnt + 1 })
  let m := { m with fr := { m.fr with lateInt := true } }
  let m := (m.updEng e (fun x => { x with late := true, secLate := true })).bump .lateCnt F.lateCnt_LATE_FRAMES 1
  let m := (m.emit .lateFrame e).domErr e .late
  -- a lasting lateness: the bay's copy to a juggler engine is due (R84)
  if m.hlth.fencePend.any (fun p => p.1 = e) && !m.fr.moves.any (fun v => decide (v.bay = b ∧ v.why = .fence)) then
    m.leaveMove b e .fence
  else m

/-- What the 44 µs deadline does to each enabled bay (R75, R86, R63). -/
def bayDeadlineDo (m : Mach) : Mach :=
  let m := { m with fr := { m.fr with deadline := true } }
  let m := forEach ((List.range 32).filter (fun b => decide ((m.bay b).mode ≠ 0) && !(m.bay b).unprot)) m (fun m b =>
    let x := m.bay b
    let e := m.engOf b
    match x.comp with
    | some i =>
      if i.fseq = m.fr.fseq then m.lateFrame b e
      else (m.lateFrame b e).engStall e .late
    | none =>
      if x.resOk then m
      else if m.fenced e then m.lateFrame b e
      else m)
  m.zeRelease

/-- The 44 µs deadline. The aligned set has come first. -/
def bayDeadline (m : Mach) : Mach :=
  if !m.fr.started || m.fr.guard || m.fr.deadline || m.tau < 44000 then m else (m.setDue).bayDeadlineDo

/-- Engine e completes its bay's frame (R38, R39, R65, R75 to R79): its results stand in the bay's buffer FSEQ mod 2, and count unless the
frame is late. Past 44 µs the deadline has come first. -/
def bayComplete (m : Mach) (e : Nat) : Mach :=
  let m := m.setDue
  match m.bayOn e with
  | none => m
  | some b =>
    let m := if 44000 < m.tau then m.bayDeadline else m
    if m.fenced e then m
    else match (m.bay b).comp with
      | none => m
      | some i =>
        let cur := decide (i.fseq = m.fr.fseq)
        let slack : Int := 44000 - (((if cur then m.tau else m.tau + m.fr.prevSpan) : Nat) : Int)
        let x := m.bay b
        let o := bayCompute b i x.d
        let ok := cur && decide (0 ≤ slack) && !m.fr.deadline
        let odd := i.fseq.getLsbD 0
        let m := m.updBay b (fun x =>
          { x with d := o.d, comp := x.wait, wait := none, buf0 := if odd then x.buf0 else o.res, buf1 := if odd then o.res else x.buf1,
                   res := if ok then o.res else x.res, resOk := ok, late := if ok then false else x.late })
        let m := m.slackRec e slack 36000
        let m := if o.emerg then m.emit .emergStart b else m
        m.zeRelease

/-- The zone engine completes its frame (R46, R65, R81, R705): a frame that completes late gives its decisions from the next trigger on.
`mismatch` tells that the golden slice, run when more than half of its window is left, gave another result. -/
def zeCompleteDo (m : Mach) (mismatch : Bool) : Mach :=
  match m.zone.next with
  | none => m
  | some (d, r, nr) =>
    if m.fenced 34 then m
    else
      let cur := decide (r.fseq = m.fr.fseq)
      let slack : Int := 56000 - (((if cur then m.tau else m.tau + m.fr.prevSpan) : Nat) : Int)
      let m :=
        if cur && m.fr.zeLate then { m with zone := { m.zone with d := d, after := some r, next := none } }
        else { m with zone := { m.zone with d := d, res := r, next := none } }
      let m := if cur && !m.fr.zeLate then { m with fr := { m.fr with zeDone := true } } else m
      let m := m.slackRec 34 slack 12000
      let m := forEach (numsWhere 32 nr.testBit) m (fun m b => m.emit .btNoroute b)
      let m := if mismatch && decide (6000 < slack) then m.domErr 34 .golden else m
      if cur then m else m.zeStart

/-- The reading of the light and fast-OC flags and the arc-flash decision (R304 to R307). -/
def arcRead (m : Mach) : Mach :=
  if !m.fr.started || m.fr.guard || m.fr.arcRead || m.tau < 48000 then m
  else
    let m := m.diSyncAll
    let on := bitsOf 32 (fun x => ((m.di x).deb || m.zone.lightSet.testBit x) && m.diLight x && !m.diFenced x)
    let z := m.zone
    let (s, o) := arcDecide m.zcfg on z.lightNow z.ocSet z.ocNow
    { m with fr := { m.fr with arcRead := true },
             zone := { z with lightNow := on, ocNow := z.ocSet, lightSet := 0,
                              ocSet := 0, arcStart := s, arcOper := o } }

-- Closes (R356, R583)

/-- Checks of a close stitch (R356, R583). A remote close outside SINGLE needs a lower peer claim. -/
def closeOk (m : Mach) (s : Stitch) : Bool :=
  match s.bay with
  | some b =>
    !s.close || (m.closeIlk b &&
      (decide (m.pair.role = .single) || m.confirm || !s.acts.any Act.isRemote))
  | none => true

/-- The stitch acts on a bay in TEST (R344). -/
def stitchTest (m : Mach) (s : Stitch) : Bool :=
  match s.bay with
  | some b => decide ((m.bay b).mode = 2)
  | none => false

-- Binding

/-- Bays whose BF_BACKTRIP operates while routing is enabled (R299). -/
def failedBays (m : Mach) : List Nat :=
  if m.zcfg 0x53 0 0 = 1 then
    (List.range 32).filter (fun b => (m.bay b).res.oper.testBit 34 && decide ((m.bay b).mode ≠ 0))
  else []

/-- While the stitch unit routes backtrips itself, the onset of one whose failed bay is on no section is logged (R300, R314). -/
def routeLog (m : Mach) : Mach :=
  if !m.zeOut then m
  else
    let l := m.failedBays.filter (fun b => m.zone.res.secs.getD b 0 = 0)
    let m := forEach (l.filter (fun b => !m.zone.d.noRoute.testBit b)) m (fun m b => m.emit .btNoroute b)
    { m with zone := { m.zone with d := { m.zone.d with noRoute := bitsOf 32 l.contains } } }

/-- The orders of this frame's binding: those of the last completed zone frame and the arc-flash decision (R292, R299, R307,
R312); while the ZE is fenced, backtrips by the frozen route table and the arc-flash fallback (R314). -/
def frameOrders (m : Mach) (arcOper : Nat) : List ZOrd :=
  let arcs := ((List.range 4).filter (fun k => arcOper.testBit (16 + k))).map (fun k =>
    ({ sig := 16 + k, src := 32, bays := maskOf (m.zcfg 0x54 k 4), test := false } : ZOrd))
  if m.zeOut then
    (m.failedBays.filter (fun b => m.zone.res.route.getD b 0 ≠ 0)).map (fun b =>
      ({ sig := 28, src := b, bays := m.zone.res.route.getD b 0, test := decide ((m.bay b).mode = 2) } : ZOrd)) ++ arcs
  else m.zone.res.orders ++ arcs

/-- A stitch's outcome of R335 to R337 set: in its history entry, or while it is open. -/
def setRemote (m : Mach) (id code : Nat) : Mach :=
  { m with stu := { m.stu with
    hist := m.stu.hist.map (fun h => if h.id = id then { h with remote := code } else h),
    opens := m.stu.opens.map (fun s => if s.id = id then { s with remote := code } else s) } }

/-- A local-output action of a class P stitch sets outputs on (R319): outside LOCKOUT that is the fresh command of R403. -/
def freshCmd (m : Mach) (mask : Nat) : Mach :=
  if m.fio.band = 3 then m
  else forEach ((List.range 12).filter (fun y => mask.testBit y && (m.doSt y).wait)) m (fun m y => m.updDo y (fun d => { d with wait := false }))

/-- Accumulated GOOSE changes of a step: publication, member, value, test. -/
abbrev GChg := List (Nat × Nat × Bool × Bool)

/-- The class P stitch of bay b in this frame, if anything changes (R331 to R344). `ords` are this frame's orders, `tripped`
collects the bays whose BRK demand the step sets. -/
def bindBay (all : Bool) (ords : List ZOrd) (a : Mach × GChg × Nat × Nat) (b : Nat) : Mach × GChg × Nat × Nat :=
  let (m, gl, tripped, cnt) := a
  let x := m.bay b
  let ords := ords.filter (fun o => o.bays.testBit b)
  let hold := x.unprot || (decide (x.mode ≠ 0) && !x.resOk)
  let idle := hold || decide (x.mode = 0)
  let o := if idle then 0 else m.bayOper b
  let st := if idle then 0 else x.res.start
  let test := decide (x.mode = 2)
  let testOut := (m.rd .stuTestOut).getLsbD b
  let tmin := m.fld .stuCtrl F.stuCtrl_TRIP_MIN
  -- latches (R341)
  let set := m.latchSet b o ords
  let m := if set = 0 then m else m.orW (.bayLatch b) (wd set)
  let lat := m.rd (.bayLatch b)
  let newLatch := (List.range 64).foldl (fun k s =>
    if o.testBit s && (m.tmw b s).getLsbD 1 then k ||| (m.tmw b s).toNat / 65536 else k) 0
  let outLatch := x.outLatch ||| newLatch
  -- BRK
  let own := m.opWith b o (fun w => w.getLsbD 0)
  let real := !test && (own || ords.any (fun z => !z.test) || (lat.getLsbD 0 && !ords.any (fun z => z.test)))
  let (dB, cB) := x.dBrk.next (own || !ords.isEmpty || lat.getLsbD 0 || (hold && x.dBrk.on)) (real || testOut) m.mon tmin
  let cB := cB || (all && dB.on)
  -- an order of a function that did not order the bay in the last binding is a change of the demand, with its own trip action (R332)
  let newOrd := ords.any (fun o => !(SMap.getD m.zone.dOrd o.sig 0).testBit b)
  let cB := cB || (newOrd && dB.on)
  -- XFER and extra outputs
  let (dX, cX) := x.dXfer.next (m.opWith b o (fun w => w.getLsbD 3) || lat.getLsbD 1 || (hold && x.dXfer.on)) true m.mon tmin
  let cX := cX || (all && dX.on)
  let outs := (List.range 16).map (fun i =>
    let d := SMap.getD x.dOut i Demand.init
    (i, d.next (m.opWith b o (fun w => w.getLsbD (16 + i)) || (lat.getLsbD 2 && outLatch.testBit i) || (hold && d.on))
      (!test || testOut) m.mon tmin))
  let cO := outs.any (fun p => p.2.2 || (all && p.2.1.on))
  -- recorder triggers (R648): newly operating and newly started signals
  let newOp := if idle then 0 else o &&& (2 ^ 64 - 1 - x.prevOper % 2 ^ 64)
  let newSt := if idle then 0 else st &&& (2 ^ 64 - 1 - x.prevStart % 2 ^ 64)
  let recT := m.opWith b newOp (fun w => w.getLsbD 2) || m.opWith b newSt (fun w => w.getLsbD 5)
  let m := m.updBay b (fun y =>
    { y with outLatch := outLatch, dBrk := dB, dXfer := dX,
             dOut := outs.foldl (fun a p => SMap.putD a Demand.init p.1 p.2.1) y.dOut,
             prevOper := if hold then y.prevOper else o, prevStart := if hold then y.prevStart else st })
  if !(cB || cX || cO || recT) then (m, gl, tripped, cnt)
  else
    let (id, m) := m.takeId
    let rise := dB.on && !x.dBrk.on
    let trip := dB.on && cB
    let stTest := test || (!real && !ords.isEmpty)
    -- actions
    let m := if rise then m.bump (.bayTripcnt b) F.bayTripcnt_COUNT 1 else m
    let m := if trip then m.updBay b (fun y => { y with ownPend := true }) else m
    let loc := Reg.bayBrkLoc b
    let m := m.freshCmd ((if trip && dB.out then m.fld loc F.bayBrkLoc_DO_MASK else 0) |||
      bitsOf 16 (fun i => outs.any (fun p => decide (p.1 = i) && (p.2.2 || all) && p.2.1.drives)))
    let rem := Reg.bayBrkRem b
    let sendRem := cB && m.flag rem F.bayBrkRem_EN && (if dB.on then dB.out else x.dBrk.out)
    let m := if sendRem then m.remoteCmd id (m.fld rem F.bayBrkRem_DEVID) (m.fld rem F.bayBrkRem_POINT) (bit dB.on) stTest else m
    let gl := if cB && m.flag loc F.bayBrkLoc_GO_EN then
      gl ++ [(m.fld loc F.bayBrkLoc_GO_PUB, m.fld loc F.bayBrkLoc_GO_MEMB, dB.on, stTest)] else gl
    let gl := if cX && m.flag (.bayXfer b) F.bayXfer_EN then
      gl ++ [(m.fld (.bayXfer b) F.bayXfer_GO_PUB, m.fld (.bayXfer b) F.bayXfer_GO_MEMB, dX.on, stTest)] else gl
    let m := if recT then m.drTrig 1 id m.fr.fseq stTest else m
    let m := m.bump .stuCntBound F.stuCntBound_COUNT 1
    let m := m.histPut { id := id, clsA := false, dropped := false, reason := 0, remote := if sendRem then 2 else 0,
                         lateAbort := false, ltc := m.ltc }
    let m := if cB || cX then m.emitStitch id false 0 stTest else m
    -- a trip against a close bound and not yet at its T_C (R351)
    let m := if trip then m.dropWhere (fun s => s.close && decide (s.st = .bound ∧ s.bay = some b ∧ m.ltc < s.tc)) 7 else m
    (m, gl, if trip then tripped ||| 2 ^ b else tripped, cnt + 1)

/-- The zone's class P stitch: its own routed outputs and recorder triggers (R331). Zone outputs do not latch (log entry 15). -/
def bindZone (all : Bool) (start oper : Nat) (ords : List ZOrd) (m : Mach) : Mach × Nat :=
  let z := m.zone
  let isTest (s : Nat) : Bool := ords.any (fun o => decide (o.sig = s) && o.test)
  let sigs := List.range 32
  let tmin := m.fld .stuCtrl F.stuCtrl_TRIP_MIN
  let outs := (List.range 16).map (fun i =>
    let hit := sigs.filter (fun s => oper.testBit s && (m.ztm s).getLsbD (16 + i))
    let d := SMap.getD z.dOut i Demand.init
    (i, d.next (!hit.isEmpty) (hit.any (fun s => !isTest s)) m.mon tmin))
  let newOp := oper &&& (2 ^ 32 - 1 - z.prevOper % 2 ^ 32)
  let newSt := start &&& (2 ^ 32 - 1 - z.prevStart % 2 ^ 32)
  let recs := sigs.filter (fun s =>
    (newOp.testBit s && (m.ztm s).getLsbD 2) || (newSt.testBit s && (m.ztm s).getLsbD 5))
  let m := { m with zone := { m.zone with dOut := outs.foldl (fun a p => SMap.putD a Demand.init p.1 p.2.1) z.dOut,
                                          prevOper := oper, prevStart := start } }
  if !(outs.any (fun p => p.2.2 || (all && p.2.1.on)) || !recs.isEmpty) then (m, 0)
  else
    let (id, m) := m.takeId
    let test := !recs.isEmpty && recs.all isTest
    let m := m.freshCmd (bitsOf 16 (fun i => outs.any (fun p => decide (p.1 = i) && (p.2.2 || all) && p.2.1.drives)))
    let m := if recs.isEmpty then m else m.drTrig 1 id m.fr.fseq test
    let m := m.bump .stuCntBound F.stuCntBound_COUNT 1
    (m.histPut { id := id, clsA := false, dropped := false, reason := 0, remote := 0, lateAbort := false, ltc := m.ltc }, 1)

/-- A bound class A stitch ends (R323, R325, R330): its actions taken, its slot freed, its outcome kept. -/
def finishA (m : Mach) (s : Stitch) : Mach :=
  let m := { m with stu := { m.stu with opens := m.stu.opens.filter (fun x => x.id ≠ s.id) } }
  let m := m.histPut { id := s.id, clsA := true, dropped := false, reason := 0, remote := s.remote, lateAbort := false,
                       ltc := s.bindLtc }
  (m.releaseStage s).logicDone s 1 0

/-- What bind-off of a class A stitch does beside its actions: counted, logged for a host, its one COMPLETE sent (R330, R355). -/
def bindA (m : Mach) (s : Stitch) : Mach :=
  let m := m.bump .stuCntBound F.stuCntBound_COUNT 1
  match s.src with
  | .host _ =>
    ((m.emitStitch s.id true 0 (m.stitchTest s)).stitchComplete s 0 0).updStitch s.id (fun x => { x with opWaiter := none })
  | _ => m

/-- A staged class A stitch without remote participants is bound (R345, R351, R356, R228). `hostSel` are the bays whose active
group a host's stitch selects in this step. -/
def bindLocal (tripped : Nat) (hostSel : List Nat) (a : Mach × GChg) (id : Nat) : Mach × GChg :=
  let (m, gl) := a
  match m.stitch id with
  | none => (m, gl)
  | some s =>
    if !m.closeOk s then (m.stitchDrop id 2, gl)
    else if s.close && (match s.bay with
      | some b => tripped.testBit b
      | none => false) then (m.stitchDrop id 7, gl)
    else
      let test := m.stitchTest s
      let logic := match s.src with
        | .logic _ _ _ => true
        | _ => false
      let clash (x : Act) : Option Nat := match x with
        | .groupSel b _ => if logic && hostSel.contains b then some b else none
        | _ => none
      let m := forEach (s.acts.filterMap clash) m (fun m b => m.emit .grpConflict b)
      let (m, gl) := (s.acts.filter (fun x => (clash x).isNone)).foldl (doAct id test (m.stitchDrive s.bay)) (m, gl)
      let s := { s with bindLtc := m.ltc }
      ((m.bindA s).finishA s, gl)

/-- What an acting unit binds in a frame (R331 to R345): every bay's class P stitch, the zone's, the staged class A stitches. `arcS` and
`arcO` are the arc-flash signals of the frame. -/
def bindActs (m : Mach) (arcS arcO : Nat) : Mach :=
  let m := m.routeLog
  let ords := m.frameOrders arcO
  let all := m.fr.bindAll
  let m := { m with zone := { m.zone with ords := ords } }
  let (m, gl, tripped, n) := (List.range 32).foldl (bindBay all ords) (m, [], 0, 0)
  let own (w : Nat) : Nat := w &&& (2 ^ 32 - 1 - 15 * 65536)
  let (m, nz) := if m.zeOut then bindZone all (arcS ||| m.routed) arcO ords m
    else bindZone all (own m.zone.res.start ||| arcS) (own m.zone.res.oper ||| arcO) ords m
  let loc := m.stu.opens.filter (fun s => decide (s.st = .staged) && s.parts.isEmpty)
  let hostSel := (loc.filter (fun s => match s.src with
      | .host _ => true
      | _ => false)).flatMap (fun s => s.acts.filterMap (fun x => match x with
    | .groupSel b _ => some b
    | _ => none))
  let (m, gl) := (loc.map (·.id)).foldl (bindLocal tripped hostSel) (m, gl)
  let m := m.gooseFlush gl
  let m := { m with zone := { m.zone with dOrd := ords.foldl (fun a (o : ZOrd) => SMap.put a o.sig (SMap.getD a o.sig 0 ||| o.bays)) [] },
                    stu := { m.stu with pPeak := max m.stu.pPeak (n + nz) },
                    fr := { m.fr with bindAll := false } }
  m.doSync

/-- The zone engine at 56 µs: late unless it has completed the frame (R81); fenced if it has not completed the frame before (R86). -/
def zeJudge (m : Mach) : Mach :=
  if m.zeOut || m.fr.zeDone then { m with zone := { m.zone with late := false } }
  else
    let m := { m with fr := { m.fr with zeLate := true, lateInt := true },
                      zone := { m.zone with lateCnt := m.zone.lateCnt + 1, late := true } }
    let m := (m.updEng 34 (fun x => { x with late := true, secLate := true })).bump .lateCnt F.lateCnt_LATE_FRAMES 1
    let m := m.domErr 34 .late
    match m.zone.next with
    | some (_, r, _) => if r.fseq = m.fr.fseq then m else (m.fenceNow 34 .late)
    | none => m

/-- The binding step proper, with the arc-flash decision of the frame: the last completed one while a zone frame is late (R81, R314). A
standby binds nothing (R588). -/
def bindGo (m : Mach) : Mach :=
  let (arcS, arcO) := if m.fr.zeLate && !m.zeOut then m.zone.arcHeld else (m.zone.arcStart, m.zone.arcOper)
  let m := { m with fr := { m.fr with binding := true, bindHeld := false }, zone := { m.zone with arcHeld := (arcS, arcO) } }
  if m.passive then m else m.bindActs arcS arcO

/-- The binding step (R803, R81, R331 to R345), released at 56 µs. It waits for the binding of the frame before (R82). -/
def stitchBinding (m : Mach) : Mach :=
  if !m.fr.started || m.fr.guard || m.fr.binding || m.fr.bindHeld || m.tau < 56000 then m
  else
    let m := ((m.bayDeadline).arcRead).zeJudge
    if m.fr.bindPend then { m with fr := { m.fr with bindHeld := true } } else m.bindGo

/-- A binding that has waited begins (R82). -/
def bindHeldGo (m : Mach) : Mach := if m.fr.bindHeld then m.bindGo else m

/-- ZE_FRAME_COMPLETE: past 44 µs the bays' deadline, past 56 µs the release of the binding step has come first (R63, R803). -/
def zeComplete (m : Mach) (mismatch : Bool) : Mach :=
  let m := if 44000 < m.tau then m.bayDeadline else m
  (if 56000 < m.tau then m.stitchBinding else m).zeCompleteDo mismatch

/-- BIND_LATE, once in a frame (R82, R703). -/
def bindLate (m : Mach) : Mach :=
  if m.fr.lateLog then m
  else (({ m with fr := { m.fr with lateLog := true, lateInt := true } } : Mach).emit .bindLate 35).fabErr

/-- Results published (R39, R40), the zone's signals and flags and every late mark with them, and the zone's last backtrip recorded. -/
def publish (m : Mach) : Mach :=
  let m := forEach (List.range 32) m (fun m b => m.updBay b (fun x =>
    { x with pub := if x.resOk || decide (x.mode = 0) then x.res else x.pub, pubLate := x.late }))
  let (s, o) := m.zoneSigs
  let m := { m with zone := { m.zone with pub := m.zone.res, sigS := s, sigO := o, pubLight := m.zone.lightNow, pubOc := m.zone.ocNow,
                                          pubLate := m.zone.late } }
  match (m.zone.ords.filter (fun o => decide (o.sig = 28))).getLast? with
  | some o => (m.wr .znBtSrc (wd o.src)).wr .znBtMask (wd o.bays)
  | none => m

/-- The binding of this frame completes (R47, R65, R82). -/
def bindOwn (m : Mach) : Mach :=
  let t := m.tau
  let m := if 62000 < t then m.bindLate else m
  let m := m.slackRec 35 (62000 - ((t : Nat) : Int)) 6000
  ({ m with fr := { m.fr with bound := true } } : Mach).publish

/-- The binding of the frame before completes: what that frame computed is published (R47, R65, R82). -/
def bindPast (m : Mach) : Mach :=
  let m := m.slackRec 35 (62000 - ((m.tau + m.fr.prevSpan : Nat) : Int)) 6000
  let m := forEach (List.range 32) m (fun m b => match (m.bay b).pend with
    | some r => m.updBay b (fun x => { x with pub := r, pend := none })
    | none => m)
  let m := match m.zone.pend with
    | some r => { m with zone := { m.zone with pub := r, pend := none } }
    | none => m
  { m with fr := { m.fr with bindPend := false } }

/-- The guard interval begins (R64, R82). The steps whose instants it follows come first. -/
def guardStart (m : Mach) : Mach :=
  if !m.fr.started || m.fr.guard || m.tau < 62000 then m
  else
    let m := m.stitchBinding
    let m := { m with fr := { m.fr with guard := true } }
    if m.fr.bound then m else m.bindLate

/-- The copy of bay b's state to the receiving engine finishes (R23, R64): in the guard interval, after its engine has completed
the frame. -/
def copyDone (m : Mach) (b : Nat) : Mach :=
  let x := m.bay b
  if !m.fr.guard || x.comp.isSome || x.wait.isSome then m
  else { m with fr := { m.fr with moves := m.fr.moves.map (fun v => if v.bay = b then { v with copied := true } else v) } }

-- Remote class A stitches and repetitions

/-- PREPARE deadline B (R347, R348, R326): with every READY the stitch is bound off, else dropped. A standby's mirrored stitches stand as
they are (R352, R588). -/
def prepareDeadline (m : Mach) (id : Nat) : Mach :=
  match m.stitch id with
  | none => m
  | some s =>
    if m.passive ∨ s.parts.isEmpty ∨ !s.prepSent ∨ s.st = .bound ∨ m.ltc < s.b then m
    else if s.st = .prepared then
      if !m.closeOk s then m.stitchDrop id 2
      else
        let m := m.updStitch id (fun x => { x with st := .bound, bindLtc := m.ltc })
        m.bindA { s with st := .bound, bindLtc := m.ltc }
    else
      let miss := s.parts.filter (fun p => !p.2)
      let m := m.stitchDrop id 3
      forEach miss m (fun m p => match m.staOf p.1 with
        | some e => m.staErr e
        | none => m)

/-- Commit instant T_C of a bound class A stitch (R326, R347, R356), by a unit that acts (R352, R588). Participants carry out their own
actions; those of a trip of a bay in TEST are suppressed unless its bit in STU_TEST_OUT is set (R344). -/
def commitInstant (m : Mach) (id : Nat) : Mach :=
  match m.stitch id with
  | none => m
  | some s =>
    if m.passive ∨ s.st ≠ .bound ∨ m.ltc < s.tc then m
    else if !m.closeOk s then m.stitchDrop id 2
    else
      let test := m.stitchTest s
      let acts := s.acts.filter (fun a => !a.isRemote)
      let (m, gl) := acts.foldl (doAct id test (m.stitchDrive s.bay)) (m, [])
      ((m.gooseFlush gl).doSync).finishA s

/-- Bound stitches whose T_C has passed are carried out, if their commands have not come. -/
def commitPast (m : Mach) : Mach :=
  forEach ((m.stu.opens.filter (fun s => decide (s.st = .bound ∧ s.tc ≤ m.ltc))).map (·.id)) m (fun m id => m.commitInstant id)

/-- An ABORT is repeated until T_C (R348). -/
def abortRepeat (m : Mach) (id : Nat) : Mach :=
  match m.stu.aborts.find? (fun a => a.stitch = id) with
  | none => m
  | some a =>
    if a.tc ≤ m.ltc then { m with stu := { m.stu with aborts := m.stu.aborts.filter (fun x => x.stitch ≠ id) } }
    else if m.since a.lastMon < usNs 250 then m
    else
      let m := forEach a.parts m (fun m p => m.glxTo p.1 32 0x33 p.2 id [])
      { m with stu := { m.stu with
          aborts := m.stu.aborts.map (fun x => if x.stitch = id then { x with lastMon := m.mon } else x) } }

/-- A remote command is sent again, or left UNACKED after its 20th transmission (R335, R336). -/
def remoteRepeat (m : Mach) (devid point : Nat) : Mach :=
  match m.stu.cmds.find? (fun c => decide (c.devid = devid ∧ c.point = point)) with
  | none => m
  | some c =>
    if m.since c.lastMon < usNs 250 then m
    else if c.sent < 20 then
      let m := m.glxTo devid (32 + if c.test then 64 else 0) 0x20 c.seq c.stitch (glxCmds [(point, c.val)])
      { m with stu := { m.stu with cmds := m.stu.cmds.map (fun x =>
          if x.devid = devid ∧ x.point = point then { x with sent := x.sent + 1, lastMon := m.mon } else x) } }
    else
      let m := { m with stu := { m.stu with cmds := m.stu.cmds.filter (fun x => !(decide (x.devid = devid ∧ x.point = point))) } }
      let m := ((m.setRemote c.stitch 3).emit .remoteNoack devid).bump .stuCntNoack F.stuCntNoack_COUNT 1
      match m.staOf devid with
      | some e => m.staErr e
      | none => m

/-- A selection not operated within SEL_TMO (R354). -/
def selTimeout (m : Mach) (id : Nat) : Mach :=
  match m.stitch id with
  | none => m
  | some s =>
    if s.st = .opened ∧ s.obj.isSome ∧ s.selTmo * 1000000000 ≤ m.since s.castMon then m.stitchDrop id 8 else m

/-- A demand's minimum time is over (R340). -/
def Demand.expire (m : Mach) (d : Demand) : Demand :=
  if msNs d.tmin ≤ m.since d.onMon then { d with held := false } else d

/-- The minimum demand time of bay b's demands, or the zone's (32), that have lasted it ends (R340): a demand that nothing
holds goes off at the next binding. -/
def tripMinExpiry (m : Mach) (b : Nat) : Mach :=
  let f := Demand.expire m
  if b = 32 then { m with zone := { m.zone with dOut := m.zone.dOut.map (fun p => (p.1, f p.2)) } }
  else if 32 < b then m
  else m.updBay b (fun x =>
    { x with dBrk := f x.dBrk, dXfer := f x.dXfer, dOut := x.dOut.map (fun p => (p.1, f p.2)) })

end Mach

end Sys2Proof.Machine
end

