-- ==== Sys2Proof/Machine/LogicCode.lean ====
section
/-! DEFINITION. Program images of the logic tasks (09 R410, R411, R422, R425, R429, R430, R435, R437, R441; 15 R690): layout, the
loader's static check, write sets. -/

namespace Sys2Proof.Machine

/-- Words of an E-40 function block by type (R435). -/
def efbWords : Nat → Nat
  | 1 | 2 | 3 | 4 | 21 => 2
  | 5 | 6 | 7 | 11 => 8
  | 8 | 9 | 15 | 20 | 22 => 4
  | 10 | 17 | 19 => 5
  | 12 | 14 | 16 | 23 => 3
  | 13 => 10
  | 18 => 20
  | 24 => 24
  | _ => 0

/-- Parts of an instruction word (R425). -/
def iOp (w : Word) : Nat := w.toNat / 2 ^ 24
def iArea (w : Word) : Nat := w.toNat / 2 ^ 20 % 16
def iIdx (w : Word) : Nat := w.toNat % 2 ^ 20

/-- Operand kinds of the instruction table (R425). -/
inductive OpKind where
  | none_ | bit | wbit | mbit | qualBit | diBit | stPoint | word | wword | count | fword | timer | counter | jump | fb
  deriving DecidableEq, Repr

/-- The operand kind of an opcode; none for an unlisted opcode. -/
def opKind (op : Nat) : Option OpKind :=
  if op = 0x00 ∨ op = 0x0C ∨ op = 0x1A ∨ op = 0x3E ∨ op = 0x3F ∨ op = 0x7F then some .none_
  else if 0x01 ≤ op ∧ op ≤ 0x07 ∨ op = 0x18 ∨ op = 0x19 then some .bit
  else if 0x08 ≤ op ∧ op ≤ 0x0B then some .wbit
  else if op = 0x0D ∨ op = 0x0E then some .mbit
  else if op = 0x0F then some .qualBit
  else if op = 0x10 then some .diBit
  else if op = 0x11 then some .stPoint
  else if op = 0x20 ∨ 0x23 ≤ op ∧ op ≤ 0x2A ∨ 0x30 ≤ op ∧ op ≤ 0x35 then some .word
  else if op = 0x21 ∨ op = 0x22 then some .wword
  else if op = 0x2B ∨ op = 0x2C then some .count
  else if 0x38 ≤ op ∧ op ≤ 0x3D then some .fword
  else if 0x40 ≤ op ∧ op ≤ 0x42 then some .timer
  else if 0x44 ≤ op ∧ op ≤ 0x46 then some .counter
  else if 0x50 ≤ op ∧ op ≤ 0x52 then some .jump
  else if op = 0x58 then some .fb
  else none

/-- The area has bit operands, word operands (R422). -/
def areaBit (a : Nat) : Bool := [0, 1, 2, 3, 5, 6, 7, 8, 9, 10].contains a
def areaWord (a : Nat) : Bool := [0, 1, 2, 3, 4, 5, 6, 7, 8, 10, 15].contains a

/-- A bit index lies in its area (R410, R422). -/
def bitIdxOk (h : ProgHdr) (a i : Nat) : Bool :=
  match a with
  | 0 => decide (2 ^ 19 ≤ i ∨ i < 48)
  | 1 => decide (2 ^ 19 ≤ i ∨ i < 16)
  | 2 => decide (i < h.mBits)
  | 3 => decide (i < 33 * 128)
  | 5 => decide (i < h.nT)
  | 6 => decide (i < h.nC)
  | 7 => decide (i < 35 * 32)
  | 8 => decide (i < 4096)
  | 9 => decide (i < 4096 ∨ 0x80000 ≤ i ∧ i < 0x88000)
  | 10 => decide (i < 32 * h.nE)
  | _ => false

/-- A word index lies in its area. -/
def wordIdxOk (h : ProgHdr) (a i : Nat) : Bool :=
  match a with
  | 0 => decide (2 ^ 19 ≤ i ∨ i < 2)
  | 1 => decide (2 ^ 19 ≤ i ∨ i = 0)
  | 2 => decide (32 * i < h.mBits)
  | 3 => decide (0x10000 ≤ i ∧ i < 0x10800)
  | 4 => decide (i < h.nK)
  | 5 => decide (i < 4 * h.nT)
  | 6 => decide (i < h.nC)
  | 7 => decide (i < 35)
  | 8 => decide (i < 128)
  | 10 => decide (i < h.nE)
  | 15 => true
  | _ => false

/-- The program may write the bit, the word (R422: words 1 and 2 of a bay, publication members). -/
def bitWritable (a i : Nat) : Bool :=
  match a with
  | 1 | 2 | 10 => true
  | 8 => decide (i / 32 % 4 = 1 ∨ i / 32 % 4 = 2)
  | 9 => decide (0x80000 ≤ i)
  | _ => false
def wordWritable (a i : Nat) : Bool :=
  match a with
  | 1 | 2 | 10 => true
  | 8 => decide (i % 4 = 1 ∨ i % 4 = 2)
  | _ => false

/-- The loader's reason against one instruction (R429; codes of LEt_LOAD_ERR), 0 for none: area, operand kind, index, read-only,
jump, instance. -/
def instrBad (h : ProgHdr) (inst : List Nat) (e : List Word) (w : Word) : Nat :=
  let a := iArea w
  let i := iIdx w
  let chk (kind ok wr : Bool) : Nat := if !kind then 3 else if !ok then 4 else if !wr then 5 else 0
  match opKind (iOp w) with
  | none => 1
  | some k =>
    if 11 ≤ a ∧ a ≤ 14 then 2
    else match k with
      | .none_ => if a = 0 ∧ i = 0 then 0 else 3
      | .bit => chk (areaBit a) (bitIdxOk h a i) true
      | .wbit => chk (areaBit a) (bitIdxOk h a i) (bitWritable a i)
      | .mbit => chk (decide (a = 2)) (bitIdxOk h a i) true
      | .qualBit => chk (decide (a = 0 ∨ a = 9)) (bitIdxOk h a i) true
      | .diBit => chk (decide (a = 0 ∧ i < 2 ^ 19)) (bitIdxOk h a i) true
      | .stPoint => chk (decide (a = 0 ∧ 2 ^ 19 ≤ i)) (bitIdxOk h a i) true
      | .word => chk (areaWord a) (wordIdxOk h a i) true
      | .wword => chk (areaWord a) (wordIdxOk h a i) (wordWritable a i)
      | .count => chk (areaWord a && decide (a ≠ 15 ∨ i ≤ 31)) (wordIdxOk h a i) true
      | .fword => chk (areaWord a && decide (a ≠ 15)) (wordIdxOk h a i) true
      | .timer => chk (decide (a = 5)) (bitIdxOk h a i) true
      | .counter => chk (decide (a = 6)) (bitIdxOk h a i) true
      | .jump => if i < h.nCode then 0 else 6
      | .fb =>
        if a ≠ 10 then 3
        else
          let b := inst.getD i 0
          let n := efbWords ((e.getD b 0).toNat / 2 ^ 24)
          if i < h.nInst ∧ n ≠ 0 ∧ b + n ≤ h.nE then 0 else 7

-- Branch stack (R430)

/-- Instructions that may follow the one at an address, and the depth there. -/
def stackNext (pc depth : Nat) (w : Word) : List (Nat × Nat) :=
  let op := iOp w
  if op = 0x18 ∨ op = 0x19 then [(pc + 1, depth + 1)]
  else if op = 0x1A then [(pc + 1, depth - 1)]
  else if op = 0x50 then [(iIdx w, depth)]
  else if op = 0x51 ∨ op = 0x52 then [(pc + 1, depth), (iIdx w, depth)]
  else if op = 0x7F then []
  else [(pc + 1, depth)]

/-- An instruction at a depth is a stack fault by itself. -/
def stackBadAt (depth : Nat) (w : Word) : Bool :=
  decide (16 < depth) || (decide (iOp w = 0x1A) && decide (depth = 0)) || (decide (iOp w = 0x7F) && decide (depth ≠ 0))

/-- Depths along every path: the work list, the depth of each address reached, the faulty addresses. Each address is worked on
once. -/
def stackRun (code : Array Word) : Nat → List Nat → Array (Option Nat) → List Nat → List Nat
  | 0, _, _, bad => bad
  | _, [], _, bad => bad
  | fuel + 1, pc :: todo, d, bad =>
    match code[pc]?, (d[pc]?).join with
    | some w, some k =>
      if stackBadAt k w then stackRun code fuel todo d (pc :: bad)
      else
        let (todo, d, bad) := (stackNext pc k w).foldl (fun (s : List Nat × Array (Option Nat) × List Nat) n =>
          match (s.2.1[n.1]?).join with
          | none => (n.1 :: s.1, s.2.1.setIfInBounds n.1 (some n.2), s.2.2)
          | some k' => if k' = n.2 then s else (s.1, s.2.1, n.1 :: s.2.2)) (todo, d, bad)
        stackRun code fuel todo d bad
    | _, _ => stackRun code fuel todo d bad

/-- The first address with a stack fault (R430). -/
def stackBad (code : List Word) : Option Nat :=
  let n := code.length
  let d : Array (Option Nat) := (Array.replicate n none).setIfInBounds 0 (some 0)
  (stackRun code.toArray (n + 1) [0] d []).foldl (fun (a : Option Nat) x => match a with
    | some y => some (min x y)
    | none => some x) none

-- Images (R690)

/-- The header of an image (R690). -/
def progHdr (l : List Byte) : ProgHdr :=
  { format := beAt l 6 2, nCode := beAt l 8 4, nK := beAt l 12 4, mBits := beAt l 16 4, nT := beAt l 20 2, nC := beAt l 22 2,
    nE := beAt l 24 4, nInst := beAt l 28 2, eRet := beAt l 30 2, mRetLo := beAt l 32 4, mRetHi := beAt l 36 4,
    tRet := beAt l 40 2, cRet := beAt l 42 2 }

/-- STATE of R410: octets of a program's markers, timers, counters and instance words. -/
def ProgHdr.state (h : ProgHdr) : Nat := (h.mBits + 7) / 8 + 16 * h.nT + 8 * h.nC + 4 * h.nE

/-- The sizes are within the limits of R410. -/
def hdrOk (h : ProgHdr) : Bool :=
  decide (1 ≤ h.nCode ∧ h.nCode ≤ 32768 ∧ h.nK ≤ 16384 ∧ h.mBits ≤ 262144 ∧ h.mBits % 32 = 0 ∧ h.nT ≤ 4096 ∧ h.nC ≤ 4096 ∧
    h.nE ≤ 32768 ∧ h.nInst ≤ 4096 ∧
    4 * h.nCode + 4 * h.nK + 4 * h.nInst + 2 * h.state ≤ 245760) &&
  decide (h.mRetLo ≤ h.mRetHi → 32 * h.mRetHi < h.mBits) && decide (h.tRet ≤ h.nT ∧ h.cRet ≤ h.nC ∧ h.eRet ≤ h.nInst)

/-- Words of an image from a word position after its header. -/
def imgWords (l : List Byte) (off n : Nat) : List Word :=
  (List.range n).map (fun i => wd (beNat (((l.drop (64 + 4 * off)).drop (4 * i)).take 4)))

/-- A native image taken apart: none where MAGIC, VERSION, FORMAT, a size, the length or the CRC is wrong (reason 10; log entry
27). -/
def parseProg (l : List Byte) : Option Prog :=
  let h := progHdr l
  let n := h.nCode + h.nK + h.nInst + h.nE
  if beAt l 0 4 ≠ 0x474C5047 ∨ beAt l 4 2 ≠ 1 ∨ h.format ≠ 0 ∨ !hdrOk h ∨ l.length ≠ 64 + 4 * n + 4 ∨
      (l.drop 44).take 20 ≠ zeros 20 ∨ crc32c (l.take (64 + 4 * n)) ≠ wd (beNat (l.drop (64 + 4 * n))) then none
  else
    some { hdr := h, code := imgWords l 0 h.nCode, k := imgWords l h.nCode h.nK,
           inst := (imgWords l (h.nCode + h.nK) h.nInst).map (·.toNat), e := imgWords l (h.nCode + h.nK + h.nInst) h.nE,
           crc := crc32c (l.take (64 + 4 * n)), bytes := l }

-- Write sets (R411)

/-- Operands that a store instruction names, as area × 2^20 + bit or station-point index: Q outputs and points, publication
members, bay flags and commands. -/
def storeSet (w : Word) : List Nat :=
  let op := iOp w
  let a := iArea w
  let i := iIdx w
  if 0x08 ≤ op ∧ op ≤ 0x0B then (if a = 1 ∨ a = 8 ∨ a = 9 then [a * 2 ^ 20 + i] else [])
  else if op = 0x21 ∨ op = 0x22 then
    if a = 1 then (if i < 2 ^ 19 then (List.range 16).map (fun y => 2 ^ 20 + y) else [2 ^ 20 + i])
    else if a = 8 then (List.range 32).map (fun b => 8 * 2 ^ 20 + 32 * i + b)
    else []
  else []

/-- The write set of a program. -/
def Prog.writeSet (p : Prog) : List Nat := (p.code.flatMap storeSet).eraseDups

/-- Outputs DO0 to DO15 in the write set, and the station points it names as bits. -/
def Prog.outs (p : Prog) : List Nat := (List.range 16).filter (fun y => p.code.any (fun w => (storeSet w).contains (2 ^ 20 + y)))
def Prog.outPts (p : Prog) : List Nat :=
  ((p.code.filter (fun w => decide (0x08 ≤ iOp w ∧ iOp w ≤ 0x0B ∧ iArea w = 1 ∧ 2 ^ 19 ≤ iIdx w))).map (fun w =>
    iIdx w - 2 ^ 19)).eraseDups

/-- Octets of a task's section of the retentive image (R439, R441; element sizes: log entry 27). -/
def Prog.retSize (p : Prog) : Nat :=
  let h := p.hdr
  4 + 4 * h.nK + (if h.mRetLo ≤ h.mRetHi then 4 * (h.mRetHi + 1 - h.mRetLo) else 0) + 16 * h.tRet + 8 * h.cRet + 4 * h.nE

/-- What the loader's check finds at addresses of an image, with its reason (R429, R430): instructions, the last one, the branch stack. -/
def progFaults (p : Prog) : List (Nat × Nat) :=
  let last := iOp (p.code.getLast?.getD 0)
  (((p.code.zipIdx).find? (fun x => decide (instrBad p.hdr p.inst p.e x.1 ≠ 0))).map (fun x => (x.2, instrBad p.hdr p.inst p.e x.1))).toList ++
  (if last ≠ 0x7F ∧ last ≠ 0x50 then [(p.code.length - 1, 8)] else []) ++ ((stackBad p.code).map (fun a => (a, 9))).toList

/-- The first failing address of an image and its reason (R429). -/
def progBad (p : Prog) : Option (Nat × Nat) :=
  (progFaults p).foldl (fun (a : Option (Nat × Nat)) x => match a with
    | none => some x
    | some y => if x.1 < y.1 then some x else some y) none

end Sys2Proof.Machine
end

