-- ==== Sys2Proof/Machine/Efb.lean ====
section
/-! DEFINITION. binary32 arithmetic and timers of the logic tasks (09 R425, R431) and the E-40 function blocks (09 R435, R436): the functions that the spec states, over a
layout of their words that it does not state (log entry 8). -/

namespace Sys2Proof.Machine

/-- A word with a bit set or cleared. -/
def setBitW (w : Word) (b : Nat) (v : Bool) : Word := if v then w ||| wd (2 ^ b) else w &&& ~~~ (wd (2 ^ b))

/-! binary32 arithmetic (R425) -/

/-- Sign of a binary32 value. -/
def F32.neg : F32 → Bool
  | .nan => false
  | .inf n => n
  | .fin n _ => n

def F32.add (a b : F32) : Word :=
  match a, b with
  | .nan, _ | _, .nan => f32NaN
  | .inf x, .inf y => if x = y then f32Inf x else f32NaN
  | .inf x, _ => f32Inf x
  | _, .inf y => f32Inf y
  | .fin x p, .fin y q => f32Round (x && y) (p + q)

def F32.flip : F32 → F32
  | .nan => .nan
  | .inf n => .inf (!n)
  | .fin n q => .fin (!n) (-q)

def F32.mul (a b : F32) : Word :=
  let s := a.neg != b.neg
  match a, b with
  | .nan, _ | _, .nan => f32NaN
  | .inf _, .fin _ q | .fin _ q, .inf _ => if q = 0 then f32NaN else f32Inf s
  | .inf _, .inf _ => f32Inf s
  | .fin _ p, .fin _ q => f32Round s (p * q)

def F32.div (a b : F32) : Word :=
  let s := a.neg != b.neg
  match a, b with
  | .nan, _ | _, .nan => f32NaN
  | .inf _, .inf _ => f32NaN
  | .inf _, .fin _ _ => f32Inf s
  | .fin _ _, .inf _ => f32Round s 0
  | .fin _ p, .fin _ q => if q = 0 then (if p = 0 then f32NaN else f32Inf s) else f32Round s (p / q)

/-- a greater than b; false with a NaN (R426). -/
def F32.gt (a b : F32) : Bool :=
  match a, b with
  | .nan, _ | _, .nan => false
  | .inf x, .inf y => !x && y
  | .inf x, .fin _ _ => !x
  | .fin _ _, .inf y => y
  | .fin _ p, .fin _ q => decide (q < p)

/-! Timers (R431) -/

def Tmr.ton (v : Tmr) (mon : Time) (acc : Bool) (pt : Nat) : Tmr :=
  let v := { v with pt := pt }
  let v := if !acc then { v with run := false, q := false }
    else if !v.run && !v.q then { v with run := true, start := mon } else v
  let el := (mon - v.start).toNat
  let v := if v.run ∧ pt * 1000 ≤ el then { v with q := true, run := false, expiry := v.start + tm (pt * 1000) } else v
  { v with et := if v.q then pt else if v.run then el / 1000 else 0 }

def Tmr.tof (v : Tmr) (mon : Time) (acc : Bool) (pt : Nat) : Tmr :=
  let v := { v with pt := pt }
  let v := if acc then { v with run := false, q := true }
    else if v.q && !v.run then { v with run := true, start := mon } else v
  if v.run ∧ pt * 1000 ≤ (mon - v.start).toNat then
    { v with q := false, run := false, expiry := v.start + tm (pt * 1000) } else v

def Tmr.tp (v : Tmr) (mon : Time) (acc : Bool) (pt : Nat) : Tmr :=
  let v := { v with pt := pt }
  let v := if acc && !v.q && !v.lastIn then { v with q := true, start := mon } else v
  let v := if v.q ∧ pt * 1000 ≤ (mon - v.start).toNat then { v with q := false, expiry := v.start + tm (pt * 1000) } else v
  { v with lastIn := acc }

/-! E-40 function blocks -/

/-- Bits and words that the function of a type works on. -/
def efbShape : Nat → Nat × Nat
  | 1 | 2 => (3, 0)
  | 3 | 4 => (3, 0)
  | 5 | 6 | 7 => (4, 6)
  | 8 | 9 => (4, 2)
  | 10 => (8, 2)
  | 11 => (3, 4)
  | 12 => (4, 0)
  | 14 => (10, 0)
  | 17 => (1, 3)
  | 21 => (4, 0)
  | 22 => (4, 2)
  | 23 => (2, 1)
  | _ => (0, 0)

/-- A layout keeps every bit and word apart, within the instance, and off the type code. -/
def layoutOk (n : Nat) (bits words : List Nat) : Bool :=
  bits.all (fun b => decide (b < 32 * n ∧ (b < 24 ∨ 32 ≤ b)) && !words.contains (b / 32)) && words.all (fun w => decide (1 ≤ w ∧ w < n)) &&
  decide (bits.eraseDups = bits) && decide (words.eraseDups = words)

/-- Where a type keeps its bits and words: as Config has it; one after the other where that would let two of them overlap. -/
def efbLayout (typ : Nat) : List Nat × List Nat :=
  let s := efbShape typ
  let b := (Config.efbBits typ).take s.1
  let w := (Config.efbWordsAt typ).take s.2
  if b.length = s.1 ∧ w.length = s.2 ∧ layoutOk (efbWords typ) b w then (b, w) else (List.range s.1, (List.range s.2).map (· + 1))

/-- An instance at work: its words and its layout. -/
structure Efb where
  ws : List Word
  bits : List Nat
  words : List Nat

/-- Bit k, word k of an instance. -/
def Efb.b (x : Efb) (k : Nat) : Bool := let p := x.bits.getD k 0; (x.ws.getD (p / 32) 0).getLsbD (p % 32)
def Efb.w (x : Efb) (k : Nat) : Word := x.ws.getD (x.words.getD k 0) 0

/-- Bit k, word k of an instance set. -/
def Efb.setB (x : Efb) (k : Nat) (v : Bool) : Efb :=
  let p := x.bits.getD k 0
  { x with ws := setAt x.ws (p / 32) (setBitW (x.ws.getD (p / 32) 0) (p % 32) v) }
def Efb.setW (x : Efb) (k : Nat) (v : Word) : Efb := { x with ws := setAt x.ws (x.words.getD k 0) v }

/-- Two words as a time. -/
def Efb.time (x : Efb) (k : Nat) : Time := (x.w (k + 1)) ++ (x.w k)
def Efb.setTime (x : Efb) (k : Nat) (t : Time) : Efb := (x.setW k (t.setWidth 32)).setW (k + 1) ((t >>> 32).setWidth 32)

/-- A timer block (R436): bits IN, Q, running, last IN; words PT, ET, start, expiry. -/
def Efb.timer (x : Efb) (unit : Nat) (mon : Time) (f : Tmr → Time → Bool → Nat → Tmr) : Efb :=
  let u := if unit = 0 then 1 else unit
  let v : Tmr := { start := x.time 2, run := x.b 2, q := x.b 1, lastIn := x.b 3, pt := (x.w 0).toNat * u, et := (x.w 1).toNat * u, expiry := x.time 4 }
  let v := f v mon (x.b 0) ((x.w 0).toNat * u)
  (((((x.setB 1 v.q).setB 2 v.run).setB 3 v.lastIn).setW 1 (wd (v.et / u))).setTime 2 v.start).setTime 4 v.expiry

/-- A pulse train (R436): bits EN, Q, running; words on and off times, start. It is on first. -/
def Efb.pulse (x : Efb) (unit : Nat) (mon : Time) : Efb :=
  let u := if unit = 0 then 1 else unit
  if !x.b 0 then (x.setB 1 false).setB 2 false
  else
    let x := if x.b 2 then x else (x.setB 2 true).setTime 2 mon
    let on := (x.w 0).toNat * u
    x.setB 1 (decide ((mon - x.time 2).toNat / 1000 % (on + (x.w 1).toNat * u) < on))

/-- A count that rises or falls by one within the signed range. -/
def countBy (w : Word) (d : Int) : Word := BitVec.ofInt 32 (clampI (-2147483648) 2147483647 (w.toInt + d))

/-- A counter block with the input `i`, its edge memory `k` and its step (R433): words PV, CV. -/
def Efb.count (x : Efb) (i k : Nat) (d : Int) : Efb := (if x.b i && !x.b k then x.setW 1 (countBy (x.w 1) d) else x).setB k (x.b i)

/-- The function of a type on its instance (table after R435), on MON_S (R436). The bits and words of each: SR, RS set, reset, Q; RTRIG, FTRIG
in, Q, memory; CTU up, reset, Q, memory; CTD down, load, Q, memory; CTUD up, down, reset, load, QU, QD, memories; LOCKOUT trip, reset,
permissive, Q; ILK eight inputs, bypass, Q; HYST Q, and input, upper and lower threshold; VOTE three inputs, Q; OPCNT in, reset,
alarm, memory, and level, count; EVENT in, memory, and code. -/
def Efb.run (x : Efb) (typ : Nat) (mon : Time) : Efb :=
  let u := Config.efbUnit typ
  match typ with
  | 1 => x.setB 2 (x.b 0 || (x.b 2 && !x.b 1))
  | 2 => x.setB 2 (!x.b 1 && (x.b 0 || x.b 2))
  | 3 => (x.setB 1 (x.b 0 && !x.b 2)).setB 2 (x.b 0)
  | 4 => (x.setB 1 (!x.b 0 && x.b 2)).setB 2 (x.b 0)
  | 5 => x.timer 1000 mon Tmr.ton
  | 6 => x.timer u mon Tmr.tof
  | 7 => x.timer u mon Tmr.tp
  | 8 =>
    let x := if x.b 1 then (x.setW 1 0).setB 3 (x.b 0) else x.count 0 3 1
    x.setB 2 (decide ((x.w 0).toInt ≤ (x.w 1).toInt))
  | 9 =>
    let x := if x.b 1 then (x.setW 1 (x.w 0)).setB 3 (x.b 0) else x.count 0 3 (-1)
    x.setB 2 (decide ((x.w 1).toInt ≤ 0))
  | 10 =>
    let x := if x.b 2 then ((x.setW 1 0).setB 6 (x.b 0)).setB 7 (x.b 1)
      else if x.b 3 then ((x.setW 1 (x.w 0)).setB 6 (x.b 0)).setB 7 (x.b 1)
      else (x.count 0 6 1).count 1 7 (-1)
    (x.setB 4 (decide ((x.w 0).toInt ≤ (x.w 1).toInt))).setB 5 (decide ((x.w 1).toInt ≤ 0))
  | 11 => x.pulse u mon
  | 12 => x.setB 3 (x.b 0 || (x.b 3 && !(x.b 1 && x.b 2)))
  | 14 => x.setB 9 (x.b 8 || (List.range 8).all x.b)
  | 17 => x.setB 0 (if x.b 0 then !F32.gt (f32Of (x.w 2)) (f32Of (x.w 0)) else F32.gt (f32Of (x.w 0)) (f32Of (x.w 1)))
  | 21 => x.setB 3 ((x.b 0 && x.b 1) || (x.b 0 && x.b 2) || (x.b 1 && x.b 2))
  | 22 =>
    let x := if x.b 1 then (x.setW 1 0).setB 3 (x.b 0) else x.count 0 3 1
    x.setB 2 (decide ((x.w 0).toInt ≤ (x.w 1).toInt))
  | 23 => x.setB 1 (x.b 0)
  | _ => { x with ws := Config.efbRun typ x.ws (mon.toNat / 1000) }

/-- The code that EFB_EVENT logs, on a rising input alone (table after R435). -/
def Efb.event (x : Efb) (typ : Nat) : Option Nat := if typ = 23 ∧ x.b 0 ∧ !x.b 1 then some ((x.w 0).toNat % 65536) else none

/-- CALLFB on an instance's words: the words after it, and the code to log if any. -/
def efbStep (typ : Nat) (ws : List Word) (mon : Time) : List Word × Option Nat :=
  let x : Efb := { ws := ws, bits := (efbLayout typ).1, words := (efbLayout typ).2 }
  ((x.run typ mon).ws, x.event typ)

end Sys2Proof.Machine
end

