-- ==== Sys2Proof/Machine/Logic.lean ====
section
/-! DEFINITION. The cyclic control program (09): snapshot, operands, the effects of the instructions, staging and completion of a
cycle, overrun; and the staging of class A stitches with remote participants (07 R346). -/

namespace Sys2Proof.Machine

/-- The constants of a task with the changes bound and not yet taken (R447, R448). -/
def Task.kAll (x : Task) : List Word :=
  x.constPend.foldl (fun (k : List Word) c => c.2.zipIdx.foldl (fun k w => setAt k (c.1 + w.2) w.1) k) x.kNow

/-- An output bit of an output set: DO, or a station's point by its index with bit 19 set (R422). -/
def OutSet.bitAt (o : OutSet) (i : Nat) : Bool := if i < 2 ^ 19 then SMap.getD o.q i false else SMap.getD o.pts (i - 2 ^ 19) 0 != 0

namespace Mach

/-! Stitches of a group -/

/-- PREPARE sent to every participant (R346): B and T_C are set. While a step is due none is sent (R478). -/
def prepareSend (m : Mach) (id : Nat) : Mach :=
  match (if m.tb.firstDue || m.tb.stepDue then none else m.stitch id) with
  | none => m
  | some s =>
    let b := m.ltc + tm (s.prepDl * 50000)
    let tc := b + tm (s.commitDl * 100000)
    let m := m.updStitch id (fun x => { x with prepSent := true, b := b, tc := tc })
    let fl := if m.stitchTest s then 64 else 0
    forEach s.parts m (fun m p =>
      let acts := s.acts.filterMap (fun a => match a with
        | .remoteOut d pt v => if d = p.1 then some (pt, v) else none
        | _ => none)
      let (n, m) := m.glxSeq
      m.glxTo p.1 fl 0x30 n id (beBytes 8 tc.toNat ++ glxCmds acts))

/-- The participants of actions: the stations they name, each once. -/
def partsOf (acts : List Act) : List (Nat × Bool) :=
  (acts.foldl (fun (l : List Nat) a => match a with
    | .remoteOut d _ _ => if l.contains d then l else l ++ [d]
    | _ => l) []).map (fun d => (d, false))

/-- Staging of an open stitch closed with its actions (R319, R326): CHECK unless they are 1 to 32. Suppressed remote actions have no
participants (R344). -/
def stageStitch (m : Mach) (id : Nat) (acts : List Act) : Mach :=
  let m := m.updStitch id (fun x => { x with acts := acts, parts := if m.stitchDrive x.bay then partsOf acts else [] })
  if acts.isEmpty ∨ 32 < acts.length then m.stitchDrop id 1
  else m.updStitch id (fun x => { x with st := .staged })

/-- An action names a station whose entry is not LIVE (R557); a DEVID without an enabled entry counts as such. -/
def namesSilent (m : Mach) (acts : List Act) : Bool :=
  acts.any (fun a => match a with
    | .remoteOut d _ _ => (match m.staOf d with
      | some e => decide ((m.sta e).st ≠ .live)
      | none => true)
    | _ => false)

/-- Stations of group g of task t that have left LIVE since MON `snap` (R358, R553), their entry still enabled or not. -/
def groupLost (m : Mach) (t g : Nat) (snap : Time) : List Nat :=
  if g = 0 then []
  else (List.range 256).filter (fun e =>
    decide (m.fld (.staCfg e) F.staCfg_TASK = t) && decide (m.fld (.staCfg e) F.staCfg_GROUP = g) && (match (m.sta e).leftLive with
      | some l => decide (m.since l < m.since snap)
      | none => false))

/-- A staged stitch is dropped SILENT (R358, R359): the stations' inputs are stale for the next cycle of its task. -/
def silentDrop (m : Mach) (id t : Nat) (lost : List Nat) : Mach :=
  (m.stitchDrop id 11).updTask t (fun x => { x with stale := x.stale ++ lost })

/-- One logic group's stitch cast on and staged (R357, R358, R324). PREPARE is not yet sent (R413). -/
def castLogic (m : Mach) (t g : Nat) (acts : List Act) (snapMon : Time) : Mach × Option Nat :=
  match m.castOn (.logic t g snapMon) none none false with
  | none =>
    let (id, m) := m.takeId
    let m := (m.stuFull.emit .stitchFull t).bump .stuCntDrop F.stuCntDrop_COUNT 1
    let m := m.histPut { id := id, clsA := true, dropped := true, reason := 12, remote := 0, lateAbort := false, ltc := m.ltc }
    let m := m.emitStitch id true 12 false
    (m.updTask t (fun x => { x with grp := SMap.put x.grp g (id, 12) }), none)
  | some (id, m) =>
    let m := m.updTask t (fun x => { x with grp := SMap.put x.grp g (id, 0xFE) })
    let m := m.stageStitch id acts
    let lost := m.groupLost t g snapMon
    if lost.isEmpty then (m, some id) else (m.silentDrop id t lost, none)

/-- PREPARE for a stitch that has participants. -/
def prepareIf (m : Mach) (o : Option Nat) : Mach :=
  match o with
  | none => m
  | some id => match m.stitch id with
    | some s => if decide (s.st = .staged) && !s.parts.isEmpty then m.prepareSend id else m
    | none => m

/-- Actions of the local group: changed outputs, members, flags and the commands (R412, R422, R403). -/
def localActs (m : Mach) (x : Task) (wrote : List Nat) (o : OutSet) : List Act :=
  let q := o.q.filter (fun p => decide (SMap.getD x.out.q p.1 false ≠ p.2) ||
    (p.2 && wrote.contains p.1 && (m.doSt p.1).wait))
  let mask := q.foldl (fun a p => a + 2 ^ p.1) 0
  let val := q.foldl (fun a p => if p.2 then a + 2 ^ p.1 else a) 0
  (if q.isEmpty then [] else [.localOut mask val]) ++
  (o.memb.filter (fun p => decide (SMap.getD x.out.memb p.1 false ≠ p.2))).map (fun p =>
    .goose (p.1 / 256) (p.1 % 256) p.2) ++
  (o.bf.filter (fun p => decide (SMap.getD x.out.bf p.1 ((m.bay (p.1 / 32)).bf.testBit (p.1 % 32)) ≠ p.2))).map (fun p =>
    .flag (p.1 / 32) (p.1 % 32) p.2) ++
  o.cmd.flatMap (fun p =>
    (if p.2 % 8 = 0 then [] else [.latchReset p.1 (p.2 % 8)]) ++
    (if p.2.testBit 8 then [.groupSel p.1 (p.2 / 512 % 4)] else []))

/-- Actions of a station group: changed points of its stations. -/
def groupActs (m : Mach) (x : Task) (o : OutSet) (g : Nat) : List Act :=
  (o.pts.filter (fun p => decide (m.fld (.staCfg (p.1 / 2048)) F.staCfg_GROUP = g) &&
      decide (SMap.getD x.out.pts p.1 0 ≠ p.2))).map (fun p =>
    .remoteOut (m.fld (.staCfg (p.1 / 2048)) F.staCfg_DEVID) (p.1 % 2048) p.2.toNat)

/-- Actions of group g of task t: what an output set changes of the committed one. -/
def actsOf (m : Mach) (x : Task) (wrote : List Nat) (o : OutSet) (g : Nat) : List Act :=
  if g = 0 then m.localActs x wrote o else m.groupActs x o g

/-- Waiting group stitches whose previous stitch has finished are cast on, with what the newest cycle's values change of those
committed by then (R415). -/
def runDeferred (m : Mach) : Mach :=
  let l := m.stu.deferLogic
  if l.isEmpty then m
  else
    let m := { m with stu := { m.stu with deferLogic := [] } }
    forEach l m (fun m p => match m.tasks[p.1]? with
      | none => m
      | some x => match SMap.get? x.waiting p.2 with
        | none => m
        | some (o, wrote, mon) =>
          let m := m.updTask p.1 (fun x => { x with waiting := SMap.del x.waiting p.2 })
          let acts := m.actsOf x wrote o p.2
          if acts.isEmpty then m
          else
            let (m, id) := m.castLogic p.1 p.2 acts mon
            m.prepareIf id)

/-! Published images -/

/-- A station's input point as received, with the quality its entry's state gives (R554). -/
def staPoint (m : Mach) (e p : Nat) : PtVal :=
  let s := m.sta e
  let none' : PtVal := { val := 0, valid := false, stale := false, test := false, bin := false }
  match s.layout with
  | none => none'
  | some l =>
    if l.nInB + l.nInW ≤ p then none'
    else
      let v := SMap.getD s.vals p none'
      let v := { v with bin := decide (p < l.nInB) }
      if s.st = .live then v else { v with valid := false, stale := true }

/-- Word 0 of a bay in the B area (table after R424). -/
def bayWord0 (m : Mach) (b : Nat) : Word :=
  let x := m.bay b
  wd (bit x.pubLate + 2 * bit x.unprot + 4 * bit (m.onSpare b) + 8 * bit (m.onCarousel b) + 16 * x.mode + 64 * m.groupOf b +
    256 * x.pub.pos + 1024 * bit x.pub.eff + 2048 * bit (m.closeIlk b) + 4096 * ((m.rd (.bayLatch b)).toNat % 8))

/-- The unit holds the higher claim, or FEAT_PAIR has not been accepted (S bit ACTIVE). -/
def claimHeld (m : Mach) : Bool :=
  if !m.feat 3 then true
  else match m.peerClaim with
    | some c => claimHigher m.ownClaim c
    | none => true

/-- The input snapshot of task t (R412, R422), with the system words. -/
def snapshot (m : Mach) (t : Nat) (x : Task) (first : Nat) (forced : Bool) : Snap :=
  let ok (e : Nat) : Bool := decide ((m.sta e).st = .live) && !x.stale.contains e
  let sys : SMap Word :=
    [(0, wd (first + 8 * bit x.lastOverrun + 32 * bit forced + 64 * bit (decide (m.tb.st = .locked)) +
        128 * bit (decide (m.tb.st = .hold)) + 256 * bit m.claimHeld +
        512 * bit (m.flag .glbStat F.glbStat_PROT_READY))),
     (1, m.rd (.leCycLast t)), (2, if m.fr.bound then m.fr.fseq else if m.fr.bindPend then m.fr.fseq - 2 else m.fr.fseq - 1),
     (3, m.mon.setWidth 32), (4, (m.mon >>> 32).setWidth 32), (5, m.ltc.setWidth 32), (6, (m.ltc >>> 32).setWidth 32)] ++
    (List.range 8).map (fun k => (8 + k, wd (bitsOf 32 (fun b => ok (32 * k + b))))) ++
    (List.range 16).map (fun g => let p := SMap.getD x.grp g (0, 0xFF); (16 + g, wd (p.1 * 65536 + p.2))) ++
    [(32, wd (bitsOf 16 (fun y => (m.doSt y).wait))), (33, wd (bitsOf 16 m.conducts)), (34, wd m.fio.band)]
  { start := (List.range 32).map (fun b => (b, (m.bay b).pub.start)) ++ [(32, m.zoneStart)],
    oper := (List.range 32).map (fun b => (b, (m.bay b).pub.oper)) ++ [(32, m.zoneOper)],
    meas := (List.range 32).flatMap (fun b => (m.bay b).pub.meas.zipIdx.map (fun p => (64 * b + p.2, p.1))),
    filt := m.fio.imgFilt, valid := m.fio.imgValid, low := m.fio.imgLow, rb := m.fio.imgRb,
    pts := m.net.stas.flatMap (fun s => match s.2.layout with
      | some l => (List.range (l.nInB + l.nInW)).map (fun p =>
          let v := m.staPoint s.1 p
          (4096 * s.1 + p, if x.stale.contains s.1 then { v with stale := true } else v))
      | none => []),
    goose := m.net.gpts.map (fun g =>
      (g.1, { val := wd (bit g.2.val), valid := g.2.valid, stale := g.2.stale, test := g.2.test, bin := true })),
    sys := sys, bay0 := (List.range 32).map (fun b => (b, m.bayWord0 b)), bf := (List.range 32).map (fun b => (b, wd (m.bay b).bf)),
    fseq := m.fr.fseq }

/-! Task changes -/

/-- The start record in use: the valid copy with the greater SEQ, bank A when both are equal (R772, R442). -/
def startRecNow (m : Mach) : Option StartRec :=
  match m.nv.srA.valid, m.nv.srB.valid with
  | true, true => some (if sdiff32 (wd m.nv.srB.seq) (wd m.nv.srA.seq) ≤ 0 then m.nv.srA else m.nv.srB)
  | true, false => some m.nv.srA
  | false, true => some m.nv.srB
  | false, false => none

/-- Cold initialisation of a task's data (R445): the words of an instance from the image, every other word 0. -/
def coldData (p : Prog) : TData :=
  let at_ (i : Nat) : Word := p.e.getD i 0
  let put (a : SMap Word) (b : Nat) : SMap Word :=
    (List.range (efbWords ((at_ b).toNat / 2 ^ 24))).foldl (fun a k => SMap.putD a 0 (b + k) (at_ (b + k))) a
  { m := [], t := [], c := [], e := p.inst.foldl put [] }

/-- What the start of a cycle does: forces, constants, counter and marker updates and restored timers take effect, and the cycle holds its
snapshot with ACC, WACC, stack and address at 0 (R412, R434, R444, R447, R450, R454). -/
def beginCycle (m : Mach) (t : Nat) (x : Task) : Mach :=
  let ctrl := m.rd (.leCtrl t)
  -- forces and releases (R450, R454)
  let rel := x.forces.foldl (fun (a : SMap Bool) f =>
    if f.area = 1 && !x.forcesNext.any (fun n => decide (n.area = f.area ∧ n.idx = f.idx)) then SMap.put a f.idx f.pv else a)
    x.relPv
  let forces := x.forcesNext.map (fun n =>
    match x.forces.find? (fun f => decide (f.area = n.area ∧ f.idx = n.idx)) with
    | some f => { n with pv := f.pv }
    | none => { n with pv := x.out.bitAt n.idx })
  -- constants and counter updates (R447, R434), restored timers (R444)
  let cs := x.ctrPend.foldl (fun (c : SMap Ctr) p =>
    SMap.upd c p.1 { cv := 0, edge := false, q := false } (fun v =>
      { v with cv := BitVec.ofInt 32 (clampI (-2147483648) 2147483647 (v.cv.toInt + p.2)) })) x.data.c
  let ts := x.retAge.foldl (fun (a : SMap Tmr) p => match SMap.get? a p.1 with
    | some v => SMap.put a p.1 { v with start := m.mon - tm p.2 }
    | none => a) x.data.t
  let mk := x.mkPend.foldl (fun (a : SMap Word) p => SMap.upd a (p.1 / 32) 0 (fun w =>
    if p.2 then w ||| wd (2 ^ (p.1 % 32)) else w &&& ~~~ (wd (2 ^ (p.1 % 32))))) x.data.m
  let data := { x.data with m := mk, c := cs, t := ts }
  let x := { x with kNow := x.kAll, constPend := [], ctrPend := [], mkPend := [], retAge := [], forces := forces, relPv := rel, data := data,
                    ctrl := ctrl }
  let pv (l : List (Nat × Bool)) (o : OutSet) : OutSet := l.foldl (fun (o : OutSet) p =>
    if p.1 < 2 ^ 19 then { o with q := SMap.put o.q p.1 p.2 } else { o with pts := SMap.put o.pts (p.1 - 2 ^ 19) (wd (bit p.2)) }) o
  let out := pv ((forces.filter (fun f => f.area = 1)).map (fun f => (f.idx, f.pv))) (pv rel { q := [], pts := [], memb := [], bf := [], cmd := [] })
  let c : Cycle :=
    { monS := m.mon, snap := m.snapshot t x x.first (!forces.isEmpty), work := data,
      out := out, acc := false, wacc := 0, stack := [], pc := 0, arith := false, wrote := [] }
  m.updTask t (fun _ => { x with cyc := some c, lastSnap := m.mon, first := 0, lastOverrun := false, stale := [] })

/-- A cycle of task t begins (R412, R414, R419, R434, R444, R447, R450, R457, R771). -/
def logicSnapshot (m : Mach) (t : Nat) : Mach :=
  let m := match m.tasks[t]? with
    | some x =>
      if x.runAtReady && m.flag .glbStat F.glbStat_PROT_READY && decide (x.st = .loaded) then
        (m.updTask t (fun x => { x with runAtReady := false, startKind := if x.first = 2 then 2 else 1 })).setTask t .run
      else m
    | none => m
  match m.tasks[t]? with
  | none => m
  | some x =>
    if x.st ≠ .run ∨ x.cyc.isSome ∨ m.passive ∨ m.fenced (35 + t) ∨
        (!x.lastOverrun && decide (x.first = 0) && decide (m.since x.lastSnap < F.leCtrl_CYC_MIN.get (m.rd (.leCtrl t)) * 100000)) then m
    else m.beginCycle t x

end Mach

/-! Operands -/

/-- A bit operand as read: value and quality. -/
structure BitV where
  val : Bool
  valid : Bool
  low : Bool
  stale : Bool

/-- A bit without more: valid. -/
def BitV.of (b : Bool) : BitV := ⟨b, true, false, false⟩

/-- The timer, counter and word of a working copy. -/
def TData.tmr (d : TData) (n : Nat) : Tmr :=
  SMap.getD d.t n { start := 0, run := false, q := false, lastIn := false, pt := 0, et := 0, expiry := 0 }
def TData.ctr (d : TData) (n : Nat) : Ctr := SMap.getD d.c n { cv := 0, edge := false, q := false }
def TData.mw (d : TData) (n : Nat) : Word := SMap.getD d.m n 0
def TData.ew (d : TData) (n : Nat) : Word := SMap.getD d.e n 0

/-- What the operands of an instruction of task t reach: the state, the task, the cycle. -/
structure LCtx where
  m : Mach
  t : Nat
  x : Task
  c : Cycle

namespace LCtx

/-- The force on a bit, if any (R451). -/
def force (l : LCtx) (a i : Nat) : Option Bool :=
  (l.x.forces.find? (fun f => decide (f.area = a ∧ f.idx = i))).map (·.val)

/-- A word with its forced bits. -/
def forceW (l : LCtx) (a word : Nat) (w : Word) : Word :=
  l.x.forces.foldl (fun w f => if f.area = a ∧ f.idx < 2 ^ 19 ∧ f.idx / 32 = word then setBitW w (f.idx % 32) f.val else w) w

/-- Station entry and point of an I or Q index with bit 19 set. -/
def stPt (i : Nat) : Nat × Nat := ((i / 2048) % 256, i % 2048)

/-- The type of an output point at run time (R423): true binary, false word, none where the layout has none. -/
def outBin (l : LCtx) (e p : Nat) : Option Bool :=
  match (l.m.sta e).layout with
  | some y => if p < y.nOutB then some true else if p < y.nOutB + y.nOutW then some false else none
  | none => none

/-- A word of the B area. -/
def bWord (l : LCtx) (i : Nat) : Word :=
  let b := i / 4
  match i % 4 with
  | 0 => SMap.getD l.c.snap.bay0 b 0
  | 1 => l.c.out.bf.foldl (fun w p => if p.1 / 32 = b then setBitW w (p.1 % 32) p.2 else w) (SMap.getD l.c.snap.bf b 0)
  | _ => 0

/-- A system word; ARITH is that of the cycle so far. -/
def sWord (l : LCtx) (i : Nat) : Word :=
  let w := SMap.getD l.c.snap.sys i 0
  if i = 0 then setBitW w 4 l.c.arith else w

/-- A member of the output set as the program reads it: what the cycle wrote, else the last committed value (R424). -/
def outQ (l : LCtx) (y : Nat) : Bool := SMap.getD l.c.out.q y (SMap.getD l.x.out.q y false)
def outPt (l : LCtx) (k : Nat) : Word := SMap.getD l.c.out.pts k (SMap.getD l.x.out.pts k 0)
def outMemb (l : LCtx) (k : Nat) : Bool := SMap.getD l.c.out.memb k (SMap.getD l.x.out.memb k false)

/-- A bit operand (R422 to R424, R451). -/
def bit (l : LCtx) (a i : Nat) : BitV :=
  match l.force a i with
  | some v => BitV.of v
  | none =>
    match a with
    | 0 =>
      if i < 32 then ⟨l.c.snap.filt.testBit i, l.c.snap.valid.testBit i, l.c.snap.low.testBit i, false⟩
      else if i < 2 ^ 19 then BitV.of (l.c.snap.rb.testBit (i - 32))
      else
        let (e, p) := stPt i
        match SMap.get? l.c.snap.pts (4096 * e + p) with
        | some v => if v.bin then ⟨v.val != 0, v.valid, false, v.stale⟩ else ⟨false, false, false, v.stale⟩
        | none => ⟨false, false, false, false⟩
    | 1 =>
      if i < 2 ^ 19 then BitV.of (l.outQ i)
      else
        let (e, p) := stPt i
        if l.outBin e p = some true then BitV.of (l.outPt (2048 * e + p) != 0) else ⟨false, false, false, false⟩
    | 2 => BitV.of ((l.c.work.mw (i / 32)).getLsbD (i % 32))
    | 3 =>
      let b := i / 128
      let s := i % 64
      BitV.of ((SMap.getD (if i / 64 % 2 = 0 then l.c.snap.start else l.c.snap.oper) b 0).testBit s)
    | 5 => BitV.of (l.c.work.tmr i).q
    | 6 => BitV.of (l.c.work.ctr i).q
    | 7 => BitV.of ((l.sWord (i / 32)).getLsbD (i % 32))
    | 8 => BitV.of ((l.bWord (i / 32)).getLsbD (i % 32))
    | 9 =>
      if i < 2 ^ 19 then
        match SMap.get? l.c.snap.goose i with
        | some v => ⟨v.val != 0, v.valid, false, v.stale⟩
        | none => ⟨false, false, false, false⟩
      else BitV.of (l.outMemb (i - 2 ^ 19))
    | 10 => BitV.of ((l.c.work.ew (i / 32)).getLsbD (i % 32))
    | _ => BitV.of false

/-- A word operand (R422 to R424, R427). -/
def word (l : LCtx) (a i : Nat) : Word :=
  match a with
  | 0 =>
    if i < 2 ^ 19 then l.forceW 0 i (if i = 0 then wd l.c.snap.filt else wd l.c.snap.rb)
    else
      let (e, p) := stPt i
      match SMap.get? l.c.snap.pts (4096 * e + p) with
      | some v => if v.bin then 0 else v.val
      | none => 0
  | 1 =>
    if i < 2 ^ 19 then l.forceW 1 0 (wd (bitsOf 16 l.outQ))
    else
      let (e, p) := stPt i
      if l.outBin e p = some false then l.outPt (2048 * e + p) else 0
  | 2 => l.forceW 2 i (l.c.work.mw i)
  | 3 => SMap.getD l.c.snap.meas (i - 0x10000) 0
  | 4 => l.x.kNow.getD i 0
  | 5 =>
    let v := l.c.work.tmr (i / 4)
    match i % 4 with
    | 0 => wd v.et
    | 1 => wd v.pt
    | 2 => v.expiry.setWidth 32
    | _ => (v.expiry >>> 32).setWidth 32
  | 6 => (l.c.work.ctr i).cv
  | 7 => l.sWord i
  | 8 => l.bWord i
  | 10 => l.c.work.ew i
  | 15 => (BitVec.ofNat 20 i).signExtend 32
  | _ => 0

/-- The cycle replaced. -/
def put (l : LCtx) (c : Cycle) : LCtx := { l with c := c }

/-- A station point of the output set written, if the entry is the task's and the type matches (R423, R561). -/
def putPt (l : LCtx) (i : Nat) (bin : Bool) (w : Word) : LCtx :=
  let (e, p) := stPt i
  if l.outBin e p ≠ some bin then { l with m := l.m.emitW .logicPtType l.t [wd i] }
  else if l.m.fld (.staCfg e) F.staCfg_TASK ≠ l.t then { l with m := l.m.emitW .logicPtTask l.t [wd i] }
  else l.put { l.c with out := { l.c.out with pts := SMap.put l.c.out.pts (2048 * e + p) w } }

/-- A DO bit of the output set written. -/
def putQ (l : LCtx) (y : Nat) (v : Bool) : LCtx :=
  l.put { l.c with out := { l.c.out with q := SMap.put l.c.out.q y v }, wrote := y :: l.c.wrote }

/-- The command word of a bay written: bits 0 to 2 and 8 add, the group field is taken (B area, w = 2). -/
def putCmd (l : LCtx) (b : Nat) (w : Word) (mask : Nat) : LCtx :=
  let old := SMap.getD l.c.out.cmd b 0
  let n := (old ||| (w.toNat &&& mask &&& 0x107)) &&& (0x7FF - (mask &&& 0x600)) ||| (w.toNat &&& mask &&& 0x600)
  l.put { l.c with out := { l.c.out with cmd := SMap.put l.c.out.cmd b n } }

/-- A writable bit set to a value; on a forced bit this changes the program value only (R451). -/
def setBit (l : LCtx) (a i : Nat) (v : Bool) : LCtx :=
  match a with
  | 1 => if i < 2 ^ 19 then l.putQ i v else l.putPt i true (wd (if v then 1 else 0))
  | 2 => l.put { l.c with work := { l.c.work with
      m := SMap.putD l.c.work.m 0 (i / 32) (setBitW (l.c.work.mw (i / 32)) (i % 32) v) } }
  | 8 =>
    let w := i / 32
    if w % 4 = 1 then l.put { l.c with out := { l.c.out with bf := SMap.put l.c.out.bf (32 * (w / 4) + i % 32) v } }
    else if w % 4 = 2 then l.putCmd (w / 4) (if v then wd (2 ^ (i % 32)) else 0) (2 ^ (i % 32))
    else l
  | 9 => if i < 2 ^ 19 then l
    else l.put { l.c with out := { l.c.out with memb := SMap.put l.c.out.memb (i - 2 ^ 19) v } }
  | 10 => l.put { l.c with work := { l.c.work with
      e := SMap.putD l.c.work.e 0 (i / 32) (setBitW (l.c.work.ew (i / 32)) (i % 32) v) } }
  | _ => l

/-- A writable word set. -/
def setWord (l : LCtx) (a i : Nat) (w : Word) : LCtx :=
  match a with
  | 1 => if i < 2 ^ 19 then (List.range 16).foldl (fun l y => l.putQ y (w.getLsbD y)) l else l.putPt i false w
  | 2 => l.put { l.c with work := { l.c.work with m := SMap.putD l.c.work.m 0 i w } }
  | 8 =>
    if i % 4 = 1 then (List.range 32).foldl (fun l k =>
      l.put { l.c with out := { l.c.out with bf := SMap.put l.c.out.bf (32 * (i / 4) + k) (w.getLsbD k) } }) l
    else if i % 4 = 2 then l.putCmd (i / 4) w 0x7FF
    else l
  | 10 => l.put { l.c with work := { l.c.work with e := SMap.putD l.c.work.e 0 i w } }
  | _ => l

/-- ACC, WACC and ARITH set. -/
def acc (l : LCtx) (v : Bool) : LCtx := l.put { l.c with acc := v }
def wacc (l : LCtx) (w : Word) : LCtx := l.put { l.c with wacc := w }
def arith (l : LCtx) : LCtx := l.put { l.c with arith := true }

/-- WACC with saturation to the signed range, ARITH on a clamp (R426). -/
def waccSat (l : LCtx) (v : Int) : LCtx :=
  let y := clampI (-2147483648) 2147483647 v
  let l := if y = v then l else l.arith
  l.wacc (BitVec.ofInt 32 y)

/-- WACC takes a free value: the spec states no result (log entry 18). -/
def waccFree (l : LCtx) : LCtx :=
  let (v, m) := l.m.freeVal
  ({ l with m := m } : LCtx).wacc (wd v)

end LCtx

/-- An instruction word from its parts (R425). -/
def instrWord (op area idx : Nat) : Word := wd (op * 2 ^ 24 + area % 16 * 2 ^ 20 + idx % 2 ^ 20)

/-- One instruction of task t: executed when the task executes and the word at its address is this one (R412, R425). The
address moves on first, so that a jump may set it. -/
def Mach.runOp (m : Mach) (t op area idx : Nat) (f : LCtx → LCtx) : Mach :=
  match m.tasks[t]? with
  | none => m
  | some x =>
    if x.st ≠ .run ∨ m.passive ∨ m.fenced (35 + t) then m
    else match x.cyc, x.prog with
      | some c, some p =>
        if p.code[c.pc]? = some (instrWord op area idx) then
          let l := f { m := m, t := t, x := x, c := { c with pc := c.pc + 1 } }
          l.m.updTask t (fun y => { y with cyc := some l.c })
        else m
      | _, _ => m

namespace LCtx

/-- A timer instruction. -/
def timer (l : LCtx) (n : Nat) (f : Tmr → Time → Bool → Nat → Tmr) : LCtx :=
  let v := f (l.c.work.tmr n) l.c.monS l.c.acc l.c.wacc.toNat
  (l.put { l.c with work := { l.c.work with t := SMap.put l.c.work.t n v } }).acc v.q

/-- A counter instruction (R433). -/
def counter (l : LCtx) (n : Nat) (up : Bool) : LCtx :=
  let v := l.c.work.ctr n
  let cv := if l.c.acc && !v.edge then clampI (-2147483648) 2147483647 (v.cv.toInt + (if up then 1 else -1)) else v.cv.toInt
  let q := if up then decide (l.c.wacc.toInt ≤ cv) else decide (cv ≤ 0)
  let v : Ctr := { cv := BitVec.ofInt 32 cv, edge := l.c.acc, q := q }
  (l.put { l.c with work := { l.c.work with c := SMap.put l.c.work.c n v } }).acc q

/-- An edge instruction (RE, FE). -/
def edge (l : LCtx) (a i : Nat) (rise : Bool) : LCtx :=
  let v := l.c.acc
  let o := (l.bit a i).val
  (l.setBit a i v).acc (if rise then v && !o else o && !v)

/-- A comparison of WACC with a word, signed. -/
def cmp (l : LCtx) (a i : Nat) (f : Int → Int → Bool) : LCtx := l.acc (f l.c.wacc.toInt (l.word a i).toInt)

/-- A float operation on WACC. -/
def flop (l : LCtx) (a i : Nat) (f : F32 → F32 → Word) : LCtx := l.wacc (f (f32Of l.c.wacc) (f32Of (l.word a i)))

/-- FTOI (R425, R426). -/
def ftoi (l : LCtx) : LCtx :=
  match f32Of l.c.wacc with
  | .nan => l.arith.wacc 0
  | .inf n => l.arith.wacc (if n then 0x80000000#32 else 0x7FFFFFFF#32)
  | .fin _ q => l.waccSat (ratRound q)

/-- A shift whose count the spec does not give is a free value (log entry 18). -/
def shift (l : LCtx) (a i : Nat) (left : Bool) : LCtx :=
  let n := (l.word a i).toInt
  if n < 0 ∨ 31 < n then l.waccFree
  else if left then l.waccSat (l.c.wacc.toInt * (2 ^ n.toNat : Nat))
  else l.wacc (l.c.wacc.sshiftRight n.toNat)

/-- DIV, truncating toward zero (log entry 18); by 0 it gives 0 with ARITH (R426). -/
def div (l : LCtx) (a i : Nat) : LCtx :=
  let d := (l.word a i).toInt
  let q := Int.tdiv l.c.wacc.toInt d
  if d = 0 then l.arith.wacc 0 else if 2147483647 < q then l.waccFree else l.wacc (BitVec.ofInt 32 q)

/-- MOD, with the sign of WACC (log entry 18); by 0 it gives 0 with ARITH (R426). -/
def mod (l : LCtx) (a i : Nat) : LCtx :=
  let d := (l.word a i).toInt
  if d = 0 then l.arith.wacc 0 else l.wacc (BitVec.ofInt 32 (Int.tmod l.c.wacc.toInt d))

/-- CLOSE_PAREN: pops and combines; nothing is on the stack only in an image the loader refuses (R430). -/
def pop (l : LCtx) : LCtx :=
  match l.c.stack with
  | (v, isAnd) :: rest => (l.put { l.c with stack := rest }).acc (if isAnd then v && l.c.acc else v || l.c.acc)
  | [] => l

/-- AND( and OR(: ACC and the combination pushed. -/
def push (l : LCtx) (isAnd : Bool) : LCtx := l.put { l.c with stack := (l.c.acc, isAnd) :: l.c.stack }

/-- CV of a counter takes WACC (CLD). -/
def ctrLoad (l : LCtx) (n : Nat) : LCtx :=
  l.put { l.c with work := { l.c.work with c := SMap.put l.c.work.c n { l.c.work.ctr n with cv := l.c.wacc } } }

/-- A jump. -/
def jump (l : LCtx) (i : Nat) : LCtx := l.put { l.c with pc := i }

end LCtx

/-- Words of the E area that hold instances below E_RET. -/
def Prog.retE (p : Prog) (e : SMap Word) : SMap Word :=
  let rs := (p.inst.take p.hdr.eRet).map (fun b => (b, b + efbWords ((SMap.getD e b 0).toNat / 2 ^ 24)))
  e.filter (fun w => rs.any (fun r => decide (r.1 ≤ w.1 ∧ w.1 < r.2)))

/-- A task's retentive data from its committed copy (R439). A timer's start is stored as its elapsed time. -/
def retOfTask (mon : Time) (x : Task) : Option RetData :=
  x.prog.map (fun p =>
    { crc := p.crc, k := x.kAll,
      m := x.data.m.filter (fun w => decide (p.hdr.mRetLo ≤ w.1 ∧ w.1 ≤ p.hdr.mRetHi)),
      t := (x.data.t.filter (fun w => decide (w.1 < p.hdr.tRet))).map (fun w =>
        (w.1, { w.2 with start := mon - w.2.start, expiry := 0 })),
      c := x.data.c.filter (fun w => decide (w.1 < p.hdr.cRet)), e := p.retE x.data.e })

/-- Entries of `new` that differ from `old`; an entry gone from `new` is given as the default. -/
def smDelta {α : Type} [DecidableEq α] (d : α) (old new : SMap α) : SMap α :=
  (old ++ new).foldl (fun (a : SMap α) p =>
    let v := SMap.getD new p.1 d
    if v = SMap.getD old p.1 d then a else SMap.put a p.1 v) []

/-- A timer and a counter never used. -/
def Tmr.zero : Tmr := { start := 0, run := false, q := false, lastIn := false, pt := 0, et := 0, expiry := 0 }
def Ctr.zero : Ctr := { cv := 0, edge := false, q := false }

/-- The retentive words changed between two instants, and their effect on a held copy (R607). -/
def RetData.delta (o d : RetData) : RetData :=
  { d with m := smDelta 0 o.m d.m, t := smDelta Tmr.zero o.t d.t, c := smDelta Ctr.zero o.c d.c, e := smDelta 0 o.e d.e }
def RetData.merge (o x : RetData) : RetData :=
  let put {α : Type} (a b : SMap α) : SMap α := b.foldl (fun (s : SMap α) p => SMap.put s p.1 p.2) a
  { x with m := put o.m x.m, t := put o.t x.t, c := put o.c x.c, e := put o.e x.e }

/-- CALLFB (R435, R436): the instance's words become those its function block gives (log entry 8). -/
def LCtx.callFb (l : LCtx) (i : Nat) : LCtx :=
  match l.x.prog with
  | none => l
  | some p =>
    let base := p.inst.getD i 0
    let typ := (l.c.work.ew base).toNat / 2 ^ 24
    let n := efbWords typ
    let ws := (List.range n).map (fun k => l.c.work.ew (base + k))
    let (ws', ev) := efbStep typ ws l.c.monS
    let e := (List.range n).foldl (fun (a : SMap Word) k => SMap.putD a 0 (base + k) (ws'.getD k 0)) l.c.work.e
    let l := l.put { l.c with work := { l.c.work with e := e } }
    match ev with
    | some code => { l with m := l.m.emitW .logicEvent l.t [wd (code % 65536)] }
    | none => l

namespace Mach

/-! End of a cycle -/

/-- The output set with the forced Q bits (R451, R453). -/
def forcedOut (x : Task) (c : Cycle) : OutSet :=
  x.forces.foldl (fun (o : OutSet) f =>
    if f.area ≠ 1 then o
    else if f.idx < 2 ^ 19 then { o with q := SMap.put o.q f.idx f.val }
    else { o with pts := SMap.put o.pts (f.idx % 2 ^ 19) (wd (if f.val then 1 else 0)) }) c.out

/-- A group's changes staged; while its previous stitch is unfinished, the output set kept waiting in place of an older one (R357,
R415). -/
def stageGroup (t : Nat) (monS : Time) (o : OutSet) (wrote : List Nat) (a : Mach × List (Option Nat)) (p : Nat × List Act) :
    Mach × List (Option Nat) :=
  let (m, ids) := a
  let (g, acts) := p
  if m.stu.opens.any (fun s => match s.src with
      | .logic t' g' _ => decide (t' = t ∧ g' = g)
      | _ => false) then
    (m.updTask t (fun x => { x with waiting := SMap.put x.waiting g (o, wrote, monS) }), ids)
  else if acts.isEmpty then (m, ids)
  else
    let (m, o) := m.castLogic t g acts monS
    (m, ids ++ [o])

/-- With STOP_OFF a task that stops switches every output of its write set off, one class A stitch per group (R438). Word points
have no off state and keep their value (log entry 27). -/
def stopOff (m : Mach) (t : Nat) : Mach :=
  match m.tasks[t]? with
  | none => m
  | some x => match x.prog with
    | none => m
    | some p =>
      if F.leCtrl_STOP_OFF.get x.ctrl = 0 then m
      else
        let mask := p.outs.foldl (fun a y => a + 2 ^ y) 0
        let grp (i : Nat) : Nat := m.fld (.staCfg (i / 2048)) F.staCfg_GROUP
        let pts (g : Nat) : List Act := (p.outPts.filter (fun i => decide (grp i = g))).map (fun i =>
          .remoteOut (m.fld (.staCfg (i / 2048)) F.staCfg_DEVID) (i % 2048) 0)
        let groups : List (Nat × List Act) :=
          (0, if mask = 0 then [] else [.localOut mask 0]) :: (List.range 15).map (fun g => (g + 1, pts (g + 1)))
        let o : OutSet := { q := p.outs.map (fun y => (y, false)), pts := p.outPts.map (fun i => (i, 0)), memb := [], bf := [],
                            cmd := [] }
        let (m, ids) := groups.foldl (stageGroup t m.mon o []) (m, [])
        forEach ids m prepareIf

/-- A task stops on command once its cycle has ended (R438). -/
def stopNow (m : Mach) (t : Nat) (w : Waiter) : Mach :=
  let m := (m.updTask t (fun x => { x with stopWait := none })).setTask t .stopped
  (m.stopOff t).complete w 0 0 0 m.ltc 0

/-- The M1 data of task t sent at a completion (R607): the retentive words that differ from what was last sent. -/
def m1Send (m : Mach) (t : Nat) : Mach :=
  if m.pair.role ≠ .active then m
  else match (m.tasks[t]?).bind (retOfTask m.mon) with
    | none => m
    | some d =>
      let old := (m.pair.m1.getD t none)
      let x := match old with
        | some o => RetData.delta o d
        | none => d
      let m := { m with pair := { m.pair with m1 := setAt m.pair.m1 t (some d) } }
      m.pairSend m.tagNow (.m1 false false t x)

/-- What END does: the cycle's data are the task's, its outputs are staged per group, its time recorded, a waiting stop done. -/
def endCycle (m : Mach) (t : Nat) (x : Task) (c : Cycle) (mismatch : Bool) : Mach :=
  let o := forcedOut x c
  let groups := (List.range 16).map (fun g => (g, m.actsOf x c.wrote o g))
  let us := m.since c.monS / 1000
  let own (f : Force) : Force := if f.area ≠ 1 then f
    else if (if f.idx < 2 ^ 19 then (SMap.get? c.out.q f.idx).isSome else (SMap.get? c.out.pts (f.idx - 2 ^ 19)).isSome) then { f with pv := c.out.bitAt f.idx }
    else f
  let forces := x.forces.map own
  let next := x.forcesNext.map own
  let m := m.updTask t (fun x => { x with cyc := none, data := c.work, ovrRun := 0, forces := forces,
                                          forcesNext := next, relPv := [] })
  let m := m.setF (.leCycLast t) F.leCycLast_US us
  let m := if m.fld (.leCycPeak t) F.leCycPeak_US < us then m.setF (.leCycPeak t) F.leCycPeak_US us else m
  let m := m.wr (.leCycCnt t) (m.rd (.leCycCnt t) + 1)
  let (m, ids) := groups.foldl (stageGroup t c.monS o c.wrote) (m, [])
  let m := forEach ids m prepareIf
  let m := m.m1Send t
  let m := if mismatch then m.domErr (35 + t) .golden else m
  -- a PROG_STOP that waited for the cycle (R438)
  match x.stopWait with
  | some w => m.stopNow t w
  | none => m

/-- END of task t's cycle (R412, R413, R357, R705): staged, completed, released. `mismatch` is that of the golden slice. -/
def logicEnd (m : Mach) (t : Nat) (mismatch : Bool) : Mach :=
  match m.tasks[t]? with
  | none => m
  | some x =>
    if x.st ≠ .run ∨ m.passive ∨ m.fenced (35 + t) then m
    else match x.cyc, x.prog with
      | some c, some p =>
        if p.code[c.pc]? ≠ some (instrWord 0x7F 0 0) then m
        else m.endCycle t x c mismatch
      | _, _ => m

/-- A cycle not complete at snapshot + CYC_MAX is abandoned (R418 to R421). -/
def logicOverrun (m : Mach) (t : Nat) : Mach :=
  match m.tasks[t]? with
  | none => m
  | some x => match x.cyc with
    | none => m
    | some c =>
      if m.since c.monS < F.leCtrl_CYC_MAX.get x.ctrl * 100000 then m
      else
        let m := (m.emitW .logicOverrun t [wd c.pc]).bump (.leOvrCnt t) F.leOvrCnt_COUNT 1
        let n := x.ovrRun + 1
        let m := m.updTask t (fun x => { x with cyc := none, lastOverrun := true, ovrRun := n })
        let lim := F.leCtrl_OVR_STOP.get x.ctrl
        let m := if lim ≠ 0 ∧ lim ≤ n then (m.setTask t .stopped).emit .logicStopped t else m
        match x.stopWait with
        | some w => m.stopNow t w
        | none => m

end Mach

end Sys2Proof.Machine
end

