-- ==== Sys2Proof/Machine/Tb.lean ====
section
/-! DEFINITION. The time base (10): sources, servo, steps, time triggers, PTP, 1PPS and IRIG-B, re-route detection and HOLD. -/

namespace Sys2Proof.Machine

/-- Priority, lower first (R467). -/
def Src.prio : Src → Nat
  | .ptp => 0 | .irig => 1 | .pps => 2

/-- INC at a fractional rate y, in 2^-32 ns, within the range R459 holds it to (R805, log entry 19). -/
def incOf (y : Rat) : BitVec 40 :=
  let n := ratRound (34359738368 * (1 + y))
  BitVec.ofInt 40 (clampI 34325378630 34394098106 n)

/-- The mean of integers, as a rational; 0 for none. -/
def meanI (l : List Int) : Rat :=
  if l.isEmpty then 0 else (((l.foldl (· + ·) 0 : Int)) : Rat) / ((l.length : Nat) : Rat)

/-- Signed ns saturated to 32 bits. -/
def sat32w (x : Int) : Word := BitVec.ofInt 32 (clampI (-2147483648) 2147483647 x)

/-- A PTP port at rest. -/
def PtpPort.init : PtpPort :=
  { announceMon := none, syncMon := none, linkDelay := 0, path := [], held := none, pendSync := none, pdReq := none,
    pdResp := none, reqSeq := 0, reqMon := none, mSeq := 0, mSync := none, mAnn := none }

/-- The number n of the frame whose target of R51 is nearest to an instant in ns, the earlier of two equally near (R469),
frames counted from LTC 0. -/
def nearestFrame (x : Int) : Nat :=
  let x := x.toNat
  let n0 := x / 1000000000 * 14400 + x % 1000000000 * 9 / 625000
  let n := if x < targetNs n0 then n0 - 1 else if targetNs (n0 + 1) ≤ x then n0 + 1 else n0
  if x - targetNs n ≤ targetNs (n + 1) - x then n else n + 1

namespace Mach

-- Sources and state

/-- The enable bit of a source in TB_CTRL. -/
def srcEn (m : Mach) (s : Src) : Bool :=
  m.flag .tbCtrl (match s with
    | .ptp => F.tbCtrl_PTP_EN
    | .irig => F.tbCtrl_IRIG_EN
    | .pps => F.tbCtrl_PPS_EN)

def updTb (m : Mach) (f : Tb → Tb) : Mach := { m with tb := f m.tb }

/-- A source is qualified. -/
def srcQual (m : Mach) (s : Src) : Bool := m.tb.qual.contains s

/-- The highest-ranked source that is enabled and qualified (R467). -/
def bestSrc (m : Mach) : Option Src := [Src.ptp, .irig, .pps].find? (fun s => m.srcEn s && m.srcQual s)

/-- INC written; it is added from the next tick (R460). -/
def setInc (m : Mach) (i : BitVec 40) : Mach := m.updTb (fun t => { t with inc := i })

/-- Entry to ACQUIRE: the servo starts (R805). -/
def tbAcquire (m : Mach) : Mach :=
  m.updTb (fun t => { t with st := .acquire, lockCnt := 0, unlockCnt := 0, lastMeas := none, hold := none,
                             yF := ((t.inc.toNat : Nat) : Rat) / 34359738368 - 1 })

/-- The followed source is lost (first row of R466); the next offset is that of the source now ranking highest. -/
def tbLost (m : Mach) : Mach :=
  match m.tb.src with
  | none => m
  | some s =>
    let l := m.tb.incHist
    let m := if l.isEmpty then m
      else m.setInc (BitVec.ofInt 40 (ratRound (meanI (l.map (fun i => ((i.toNat : Nat) : Int))))))
    let m := m.updTb (fun t => { t with st := .free, lockCnt := 0, unlockCnt := 0, hold := none, lastMeas := none })
    let best := m.bestSrc
    (m.updTb (fun t => { t with src := best })).emit .timeSrcLost s.code

/-- The followed source changes; the first measurement after it uses the nominal interval (R466, R805). -/
def tbFollow (m : Mach) (s : Src) : Mach := (m.updTb (fun t => { t with src := some s })).tbAcquire

/-- A source has become qualified (R466, R467). -/
def srcGain (m : Mach) (s : Src) : Mach :=
  if m.srcQual s then m
  else
    let m := m.updTb (fun t => { t with qual := s :: t.qual })
    let m := if s = .irig then m.setF .tbIrig F.tbIrig_QUAL 1 else m
    if !m.srcEn s then m
    else match m.tb.src with
      | none => m.updTb (fun t => { t with src := some s })
      | some c =>
        if c.prio ≤ s.prio then m
        else match m.tb.st with
          | .free => m.updTb (fun t => { t with src := some s })
          | .acquire | .locked => m.tbFollow s
          | .hold => m

/-- A source is no longer qualified. -/
def srcLose (m : Mach) (s : Src) : Mach :=
  let m := m.updTb (fun t => { t with qual := t.qual.filter (fun x => x ≠ s) })
  let m := if s = .irig then m.setF .tbIrig F.tbIrig_QUAL 0 else m
  if m.tb.src = some s then m.tbLost else m

/-- TB_CTRL has been written (R466, R467): the followed source may have lost its enable, another may have gained it. -/
def tbCtrlWritten (m : Mach) : Mach :=
  let m := if m.srcEn .ptp then m
    else m.updTb (fun t =>
      { t with
        gm := none
        ports := t.ports.map (fun p =>
          { p with announceMon := none, syncMon := none, pendSync := none, pdReq := none, pdResp := none })
        qual := t.qual.filter (fun x => x ≠ .ptp) })
  match m.tb.src with
  | none => match m.bestSrc with
    | some b => m.updTb (fun t => { t with src := some b })
    | none => m
  | some s =>
    if m.srcEn s then
      match m.bestSrc with
      | some b =>
        if b.prio < s.prio then
          (match m.tb.st with
            | .free => m.updTb (fun t => { t with src := some b })
            | .acquire | .locked => m.tbFollow b
            | .hold => m)
        else m
      | none => m
    else match m.bestSrc with
      | some b =>
        if m.tb.st = .free then m.updTb (fun t => { t with src := some b })
        else (m.tbFollow b).emit .timeSrcChange b.code
      | none => m.tbLost

-- Servo

/-- One servo update (R468, R805). -/
def servo (m : Mach) (o : Int) (dt : Nat) : Mach :=
  if !m.flag .tbCtrl F.tbCtrl_SERVO_EN then m
  else
    let e : Rat := -((o : Int) : Rat) / ((max dt 1 : Nat) : Rat)
    let slew : Rat := ((m.fld .tbServo F.tbServo_SLEW_PPM : Nat) : Rat) / 100000
    let yF := ratClamp (-(1 / 1000)) (1 / 1000) (m.tb.yF + e / 8)
    let yP := ratClamp (-slew) slew (e / 2)
    let i := incOf (ratClamp (-(1 / 1000)) (1 / 1000) (yF + yP))
    m.updTb (fun t => { t with inc := i, yF := yF, incHist := (i :: t.incHist).take 16 })

/-- No port, subscription or bay is enabled (R471). -/
def nothingEnabled (m : Mach) : Bool :=
  !(List.range 16).any m.portEn && !(List.range 64).any (fun s => m.flag (.svsCfg s) F.svsCfg_EN) &&
  !(List.range 32).any (fun b => decide ((m.bay b).mode ≠ 0))

/-- An offset measurement of a source (R466, R468, R471, R472, R805); `nominal` is its interval in ns. With SERVO_EN 0 there is no servo update,
so that ACQUIRE and LOCKED stand. -/
def offsetMeas (m : Mach) (s : Src) (o : Int) (nominal : Nat) : Mach :=
  if m.tb.src ≠ some s ∨ !m.srcEn s ∨ !m.srcQual s then m
  else
    let dt := match m.tb.lastMeas with
      | some (s', t) => if s' = s then m.since t else nominal
      | none => nominal
    let m := (m.updTb (fun t => { t with lastMeas := some (s, m.mon), lastOfs := some (o, m.mon) })).wr .tbOffset (sat32w o)
    match m.tb.st with
    | .hold => m
    | .free =>
      if m.flag .tbStat F.tbStat_FIRST_DONE then
        let m := m.tbAcquire
        (m.updTb (fun t => { t with lastMeas := some (s, m.mon) })).servo o nominal
      else if m.nothingEnabled then m.updTb (fun t => { t with firstPend := if t.firstDue then t.firstPend else some (-o) })
      else m.setF .tbStat F.tbStat_STEP_WAIT 1
    | .acquire =>
      if !m.flag .tbCtrl F.tbCtrl_SERVO_EN then m else
      let m := m.servo o dt
      let n := if o.natAbs ≤ m.fld .tbServo F.tbServo_LOCK_THR then m.tb.lockCnt + 1 else 0
      if 4 ≤ n then
        (m.updTb (fun t => { t with st := .locked, lockCnt := 0, unlockCnt := 0, everLocked := true })).emit .timeLock s.code
      else m.updTb (fun t => { t with lockCnt := n })
    | .locked =>
      if !m.flag .tbCtrl F.tbCtrl_SERVO_EN then m else
      let m := m.servo o dt
      let n := if 10 * m.fld .tbServo F.tbServo_UNLOCK_THR < o.natAbs then m.tb.unlockCnt + 1 else 0
      if 2 ≤ n then
        (m.tbAcquire).emit .timeUnlock s.code
      else m.updTb (fun t => { t with unlockCnt := n })

-- Time triggers (R479 to R482)

/-- LTC[31:0] - TARGET is 0 or greater. -/
def trgReached (m : Mach) (n : Nat) : Bool := decide (0 ≤ ((m.ltc.setWidth 32) - m.rd (.trgTarget n)).toInt)

/-- PPS_OUT is the OR of the whole-second pulse and the trigger pulse (R501). -/
def ppsPin (m : Mach) : Mach :=
  { m with pins := { m.pins with ppsOut := m.tb.ppsWholeEnd.isSome || m.tb.ppsTrgEnd.isSome } }

/-- Trigger n fires (R481). -/
def trgFire (m : Mach) (n : Nat) : Mach :=
  let m := m.setF (.trgStat n) F.trgStat_FIRED 1
  let m := match m.fld (.trgCtrl n) F.trgCtrl_ACTION with
    | 0 => m.notifyAll (fun s => s.flags.testBit 0) 3 (beBytes 1 n ++ [0, 0, 0] ++ beBytes 8 m.ltc.toNat)
    | 1 => m.drTrig 2 n (m.fr.fseq + 1) false
    | 2 => (m.updTb (fun t => { t with ppsTrgEnd := some (m.ltc + tm (msNs (m.fld .tbPps F.tbPps_PPS_W))) })).ppsPin
    | _ => m
  let p := m.rd (.trgPeriod n)
  if p = 0 then m.setF (.trgCtrl n) F.trgCtrl_ARM 0 else m.wr (.trgTarget n) (m.rd (.trgTarget n) + p)

/-- An armed trigger reaches its target (R479). -/
def trgTick (m : Mach) (n : Nat) : Mach :=
  if 8 ≤ n ∨ !m.flag (.trgCtrl n) F.trgCtrl_ARM ∨ !m.trgReached n then m else m.trgFire n

/-- A trigger is armed: one whose target is reached already reports PAST (R480). -/
def trgArmed (m : Mach) (n : Nat) : Mach := if m.trgReached n then m.setF (.trgStat n) F.trgStat_PAST 1 else m

/-- The triggers at a step (R482). -/
def trgStep (m : Mach) (eff : Int) : Mach :=
  forEach ((List.range 8).filter (fun n => m.flag (.trgCtrl n) F.trgCtrl_ARM)) m (fun m n =>
    if eff.natAbs < 2 ^ 30 then
      if m.trgReached n then (m.setF (.trgStat n) F.trgStat_STEPPED 1).trgFire n else m
    else ((m.setF (.trgCtrl n) F.trgCtrl_ARM 0).setF (.trgStat n) F.trgStat_STEPPED 1).emit .trgDisarm n)

/-- PPS_OUT pulses whose width has passed end (R501). -/
def ppsOutEnd (m : Mach) : Mach :=
  let f := fun (x : Option Time) => match x with
    | some e => if (e - m.ltc).toInt ≤ 0 then none else some e
    | none => none
  (m.updTb (fun t => { t with ppsWholeEnd := f t.ppsWholeEnd, ppsTrgEnd := f t.ppsTrgEnd })).ppsPin

/-- The whole-second pulse (R501), at a trigger with FCNT_S 0. -/
def ppsWhole (m : Mach) : Mach :=
  if decide (m.tb.st = .locked ∨ m.tb.st = .hold) || m.flag .tbCtrl F.tbCtrl_PPS_OUT_FREE then
    (m.updTb (fun t => { t with ppsWholeEnd := some (m.ltc + tm (msNs (m.fld .tbPps F.tbPps_PPS_W))) })).ppsPin
  else m

-- Steps (R469 to R478)

/-- Stitches that hold a step back (R478). -/
def stepHeld (m : Mach) : Bool :=
  m.stu.opens.any (fun s => !s.parts.isEmpty && (decide (s.st = .prepared) ||
    (decide (s.st = .bound) && decide (m.ltc < s.tc)) || (decide (s.st = .staged) && s.prepSent)))

/-- What every step does (R469, R470, R472, R477), at the trigger of the present frame. -/
def stepDo (m : Mach) (delta : Int) : Mach × Int :=
  let n0 := m.fr.sec * 14400 + m.fr.fcnt
  let old := m.ltc
  let n1 := nearestFrame (((targetNs n0 : Nat) : Int) + delta)
  let eff : Int := ((targetNs n1 : Nat) : Int) - ((targetNs n0 : Nat) : Int)
  let m := m.updTb (fun t => { t with ltc := t.ltc + BitVec.ofInt 96 (eff * 4294967296) })
  let m := { m with fr := { m.fr with sec := n1 / 14400, fcnt := n1 % 14400, stepped := true } }
  let m := ((m.setF .tbStat F.tbStat_FIRST_DONE 1).setF .tbStat F.tbStat_STEP_WAIT 0).setF .tbStat F.tbStat_STEP_SEEN 1
  let e := BitVec.ofInt 64 eff
  let m := (m.wr .tbStepEffLo (e.setWidth 32)).wr .tbStepEffHi ((e >>> 32).setWidth 32)
  let m := forEach ((List.range 16).filter (fun p => m.portEn p && !m.fenced (52 + p))) m (fun m p => m.portReset p)
  let tStep : Rat := ((m.ltc.toNat : Nat) : Rat)
  let fs := m.fr.fseq
  let m := forEach ((m.acq.subs.map (·.1)).filter (fun s => (m.sub s).st ≠ 0)) m (fun m s =>
    m.updSub s (fun y => { y with hist := [], run := 0, ents := [], stepT := some (fs, tStep) }))
  -- open repeat entries and a record in progress (R632, R652)
  let run := m.recs.dr.run.map (fun (r : DrRun) =>
    { r with body := { r.body with step := true, stepFseq := fs, stepEff := e } })
  let rpt := m.recs.rpt.map (fun (r : RptEntry) => { r with lostStep := true })
  let m := { m with recs := { m.recs with rpt := rpt, deferred := m.recs.deferred.map (fun (r : EvRec) => { r with step := r.step || decide (r.ev = Ev.stitchRec) }),
                                          dr := { m.recs.dr with run := run } } }
  let m := m.emitW .timeStepped 0 [(old >>> 32).setWidth 32, old.setWidth 32, (e >>> 32).setWidth 32, e.setWidth 32]
  (m.trgStep eff, eff)

/-- Stitches staged while a step was due send their PREPARE (R478), but for those of a group that has lost a station meanwhile (R326, R358,
R557). -/
def stepReleased (m : Mach) : Mach :=
  forEach (m.stu.opens.filter (fun s => decide (s.st = .staged) && !s.parts.isEmpty && !s.prepSent)) m (fun m s =>
    match s.src with
    | .logic t g snap =>
      let lost := m.groupLost t g snap
      if lost.isEmpty then m.prepareSend s.id else m.silentDrop s.id t lost
    | _ => if m.namesSilent s.acts then m.stitchDrop s.id 11 else m.prepareSend s.id)

/-- The steps at a frame trigger (R471, R475 to R478); FSEQ, FCNT_S and LTC are those of the trigger. -/
def stepTrigger (m : Mach) : Mach :=
  let arm := m.flag .tbStepCtrl F.tbStepCtrl_ARM
  let mode := m.flag .tbStepCtrl F.tbStepCtrl_MODE
  let now := arm && !m.tb.stepDue && (if m.flag .tbStepCtrl F.tbStepCtrl_USE_FSEQ then decide (m.rd .tbStepFseq = m.fr.fseq)
    else decide (m.fr.fcnt = 0))
  let noOfs := !mode && (match m.tb.lastOfs with
    | some (_, t) => decide (2000000000 < m.since t)
    | none => true)
  let m :=
    if now && noOfs then
      let w := m.tb.stepWaiter
      ((((m.setF .tbStepCtrl F.tbStepCtrl_ARM 0).updTb (fun t => { t with stepWaiter := none })).emit .timeStepFail 0).completeO w
        0x0205 0 0 m.ltc 0)
    else if now then m.updTb (fun t => { t with stepDue := true })
    else m
  let m := m.updTb (fun t => { t with firstDue := t.firstPend.isSome })
  if !(m.tb.firstDue || m.tb.stepDue) || m.stepHeld then m
  else
    let take (m : Mach) : Mach :=
      match m.tb.firstPend with
      | some d =>
        let m := m.updTb (fun t => { t with firstPend := none, firstDue := false })
        if m.tb.st = .free ∧ m.nothingEnabled then ((m.stepDo d).1).tbAcquire
        else m.setF .tbStat F.tbStat_STEP_WAIT 1
      | none => m
    let m := take m
    let m :=
      if m.tb.stepDue then
        let amt := (m.rd .tbStepAmtHi).toNat * 2 ^ 32 + (m.rd .tbStepAmtLo).toNat
        let d : Int := if mode then (BitVec.ofNat 64 amt).toInt else match m.tb.lastOfs with
          | some (o, _) => -o
          | none => 0
        let w := m.tb.stepWaiter
        let (m, eff) := m.stepDo d
        let m := (m.setF .tbStepCtrl F.tbStepCtrl_ARM 0).updTb (fun t => { t with stepDue := false, stepWaiter := none })
        m.completeO w 0 0 0 m.ltc (BitVec.ofInt 64 eff).toNat
      else m
    m.stepReleased

/-- ARM written 0: a step not yet applied is disarmed (R474); its waiting COMPLETE reports the abort. -/
def stepDisarm (m : Mach) : Mach :=
  let w := m.tb.stepWaiter
  let m := m.updTb (fun t => { t with stepDue := false, stepWaiter := none })
  (m.completeO w 0x0205 0 0 m.ltc 0).stepReleased

-- Stamps (R489 to R493)

/-- An entry for the queue of a lane (R491): discarded and counted when 16 are held. -/
def tsqPut (m : Mach) (l id : Nat) (t : Time) : Mach :=
  let q := m.tb.tsq.getD l []
  if 16 ≤ q.length then m.bump (.lnTsqOvf l) F.lnTsqOvf_VALUE 1
  else m.updTb (fun x => { x with tsq := setAt x.tsq l (q ++ [(id, t)]) })

/-- A read of LNl_TSQ_ENT0 (R493). -/
def tsqRead (m : Mach) (l : Nat) : Mach :=
  match m.tsqHead l with
  | none => m.wr (.lnTsqEnt0 l) 0
  | some e =>
    let m := m.updTb (fun x => { x with tsq := setAt x.tsq l ((x.tsq.getD l []).erase e) })
    ((m.wr (.lnTsqEnt0 l) (wd (2 ^ 31 + e.1 % 65536))).wr (.lnTsqEnt1 l) (e.2.setWidth 32)).wr (.lnTsqEnt2 l)
      ((e.2 >>> 32).setWidth 32)

/-- A read of TB_LTC_LO latches the registers beside it (R464). -/
def ltcLatch (m : Mach) : Mach :=
  ((((m.wr .tbLtcLo (m.ltc.setWidth 32)).wr .tbLtcHi ((m.ltc >>> 32).setWidth 32)).wr .tbLtcFrac (m.tb.ltc.setWidth 32)).wr
    .tbMonLo (m.mon.setWidth 32)).wr .tbMonHi ((m.mon >>> 32).setWidth 32)

-- PTP

/-- A PTP port. -/
def ptp (m : Mach) (p : Nat) : PtpPort := m.tb.ports.getD p PtpPort.init
def updPtp (m : Mach) (p : Nat) (f : PtpPort → PtpPort) : Mach :=
  m.updTb (fun t => { t with ports := setAt t.ports p (f (t.ports.getD p PtpPort.init)) })

/-- The PTP port of lane p works: PTP enabled, or master permitted on a unit that acts (R587, R588), no HSR, the lane UP as
Ethernet (R483, R514). -/
def ptpOn (m : Mach) (p : Nat) : Bool :=
  decide (p < 2) && m.ethUp p && !m.flag .netCtrl F.netCtrl_HSR &&
  (m.flag .tbCtrl F.tbCtrl_PTP_EN || m.flag .tbCtrl F.tbCtrl_MASTER_EN && m.acts)

/-- The port the servo follows. -/
def ptpPort (m : Mach) : Nat := m.fld .tbStat F.tbStat_PTP_PORT

/-- Sync interval of the grandmaster in ns. -/
def syncNs (m : Mach) : Nat := match m.tb.gm with
  | some g => g.syncNs
  | none => 1000000000

/-- An Announce (R483, R484, R486): the best of both ports is the grandmaster. -/
def ptpAnnounce (m : Mach) (p : Nat) (a : Announce) : Mach :=
  if !m.ptpOn p || !m.srcEn .ptp || decide (a.domain ≠ m.fld .tbPtpCfg F.tbPtpCfg_DOMAIN) then m
  else
    let take := match m.tb.gm with
      | none => true
      | some g => decide (g.id ≠ a.gm) && decide (a.rank < g.rank)
    let m :=
      if take then
        let sync := m.syncNs
        let m := m.updTb (fun t =>
          { t with gm := some { id := a.gm, rank := a.rank, syncNs := sync },
                   ports := t.ports.map (fun x => { x with announceMon := none, syncMon := none, pendSync := none }) })
        let m := (m.wr .tbGmIdHi ((a.gm >>> 32).setWidth 32)).wr .tbGmIdLo (a.gm.setWidth 32)
        m.setF .tbStat F.tbStat_PTP_PORT p
      else m
    match m.tb.gm with
    | some g =>
      if g.id ≠ a.gm then m
      else
        let m := m.updTb (fun t => { t with gm := some { g with rank := a.rank } })
        let m := m.updPtp p (fun x => { x with announceMon := some m.mon })
        let m := match a.utc with
          | some u => m.setF .tbUtcOfs F.tbUtcOfs_UTC_OFS u
          | none => m
        m.srcGain .ptp
    | none => m

/-- No grandmaster any more: the PTP source is lost. -/
def ptpLose (m : Mach) : Mach :=
  (m.updTb (fun t => { t with gm := none, ports := t.ports.map (fun x =>
    { x with announceMon := none, syncMon := none, pendSync := none }) })).srcLose .ptp

/-- Announces of the grandmaster missed on both ports: three at 1 s (R486). -/
def ptpAnnTimeout (m : Mach) : Mach :=
  if m.srcQual .ptp && (List.range 2).all (fun p => match (m.ptp p).announceMon with
      | some t => decide (3000000000 ≤ m.since t)
      | none => true) then m.ptpLose
  else m

/-- Three Sync intervals without a Sync on port p (R484, R486). A port that never had one has missed them. -/
def ptpSyncMiss (m : Mach) (p : Nat) : Bool :=
  match (m.ptp p).syncMon with
  | some t => decide (3 * m.syncNs ≤ m.since t)
  | none => true

/-- The followed port has received no Sync for three intervals: the other port, or none left (R484, R486). -/
def ptpSyncTimeout (m : Mach) : Mach :=
  let p := m.ptpPort
  match m.tb.gm, (m.ptp p).syncMon, (m.ptp p).announceMon with
  | some _, s, a =>
    let ref := match s with
      | some t => some t
      | none => a
    (match ref with
    | some t =>
      if m.since t < 3 * m.syncNs then m
      else if !m.ptpSyncMiss (1 - p) then m.setF .tbStat F.tbStat_PTP_PORT (1 - p)
      else m.ptpLose
    | none => m)
  | none, _, _ => m

/-- Path values taken as the filtered path of port p (R494), in TB_PATH_l in ns. -/
def pathSet (m : Mach) (p : Nat) (l : List Int) : Mach :=
  let m := m.updPtp p (fun x => { x with path := l.take 8, held := none })
  m.wr (.tbPath p) (sat32w (ratRound (meanI (l.take 8) / 1000)))

/-- Two values deviate from a path in the same direction. -/
def sameSide (a b : Int) (path : Rat) : Bool := decide ((path < (a : Rat)) = (path < (b : Rat)))

/-- HOLD ends for ACQUIRE with the new path (R498). -/
def holdTake (m : Mach) (ev : Ev) : Mach :=
  match m.tb.hold with
  | none => m
  | some h => ((m.pathSet m.ptpPort h.news).tbAcquire).emit ev 1

/-- A path value v in ps and the offset o in ns computed with it, on the followed port in HOLD (R497, R498). -/
def holdPath (m : Mach) (h : HoldSt) (v o : Int) : Mach :=
  let thr : Rat := 1000 * ((m.fld .tbRrCfg F.tbRrCfg_PD_STEP_THR : Nat) : Rat)
  if ratAbs ((v : Rat) - h.oldPath) ≤ thr then
    if 1 ≤ h.backCnt then
      let m := m.updTb (fun t => { t with st := .locked, unlockCnt := 0, hold := none })
      let m := m.pathSet m.ptpPort (v :: (m.ptp m.ptpPort).path)
      ((m.setF .tbStat F.tbStat_RR_ASYM 0).emit .timeRrBack 1).offsetMeas .ptp o m.syncNs
    else m.updTb (fun t => { t with hold := some { h with backCnt := 1, dev := none } })
  else
    let new := meanI h.news
    if ratAbs ((v : Rat) - new) ≤ thr then
      let m := m.offsetMeas .ptp o m.syncNs
      m.updTb (fun t => { t with hold := some { h with backCnt := 0, dev := none, news := (v :: h.news).take 8,
                                                       offs := h.offs ++ [(m.mon, o)] } })
    else match h.dev with
      | some d =>
        if sameSide d v new then
          m.updTb (fun t => { t with hold := some { h with backCnt := 0, dev := none, news := [v, d], offs := [],
                                                           tStart := m.mon } })
        else m.updTb (fun t => { t with hold := some { h with backCnt := 0, dev := some v } })
      | none => m.updTb (fun t => { t with hold := some { h with backCnt := 0, dev := some v } })

/-- A path value of port p with its offset (R494 to R498). -/
def pathValue (m : Mach) (p : Nat) (v o : Int) : Mach :=
  let follow := decide (p = m.ptpPort)
  match (if follow then m.tb.hold else none) with
  | some h => m.holdPath h v o
  | none =>
    let x := m.ptp p
    let thr : Rat := 1000 * ((m.fld .tbRrCfg F.tbRrCfg_PD_STEP_THR : Nat) : Rat)
    let path := meanI x.path
    if x.path.isEmpty || decide (ratAbs ((v : Rat) - path) ≤ thr) then
      let m := if x.held.isSome then m.updTb (fun t => { t with outlier := t.outlier + 1 }) else m
      let m := m.pathSet p (v :: x.path)
      if follow then m.offsetMeas .ptp o m.syncNs else m
    else match x.held with
      | some d =>
        if !sameSide d v path then m.updPtp p (fun y => { y with held := some v })
        else if follow && decide (m.tb.st = .locked) then
          let m := m.updPtp p (fun y => { y with held := none })
          let h : HoldSt := { entered := m.mon, tStart := m.mon, oldPath := path, news := [v, d], offs := [], backCnt := 0,
                              dev := none }
          (m.updTb (fun t => { t with st := .hold, hold := some h, lockCnt := 0, unlockCnt := 0 })).emit .timeRr 1
        else
          let m := m.pathSet p [v, d]
          if follow then m.updTb (fun t => { t with lockCnt := 0 }) else m
      | none => m.updPtp p (fun y => { y with held := some v })

/-- A Sync measurement complete: origin, total correction and receive stamp in ps. -/
def syncDone (m : Mach) (p : Nat) (origin corr rx : Int) : Mach :=
  let v := (m.ptp p).linkDelay + corr
  m.pathValue p v (ratRound ((((rx - origin - v : Int)) : Rat) / 1000))

/-- A Sync from the chosen grandmaster (R484, R494). -/
def ptpSync (m : Mach) (p : Nat) (s : SyncMsg) : Mach :=
  match m.tb.gm with
  | none => m
  | some g =>
    if !m.ptpOn p || !m.srcEn .ptp || decide (s.domain ≠ m.fld .tbPtpCfg F.tbPtpCfg_DOMAIN ∨ s.src ≠ g.id) then m
    else
      let ns := (ratRound (1000000000 * pow2 (clampI (-8) 8 s.logInt))).toNat
      let m := m.updTb (fun t => { t with gm := some { g with syncNs := ns } })
      let m := m.updPtp p (fun x => { x with syncMon := some m.mon })
      let rx := m.rxStamp p s.rx
      if s.twoStep then m.updPtp p (fun x => { x with pendSync := some (s.seq, rx, s.corr) })
      else m.syncDone p s.origin s.corr rx

/-- A Follow_Up (R483). -/
def ptpFollowUp (m : Mach) (p : Nat) (s : SyncMsg) : Mach :=
  match m.tb.gm, (m.ptp p).pendSync with
  | some g, some (q, rx, corr) =>
    if !m.ptpOn p || decide (s.domain ≠ m.fld .tbPtpCfg F.tbPtpCfg_DOMAIN ∨ s.src ≠ g.id ∨ s.seq ≠ q) then m
    else (m.updPtp p (fun x => { x with pendSync := none })).syncDone p s.origin (corr + s.corr) rx
  | _, _ => m

/-- A Pdelay_Req is sent (R492): stamped when it leaves; one discarded before, or whose stamp a full queue discards, ends its exchange (R513). -/
def pdReqSend (m : Mach) (p : Nat) : Mach :=
  let due := match (m.ptp p).reqMon with
    | some t => decide (1000000000 ≤ m.since t)
    | none => true
  if !m.ptpOn p || !due then m
  else
    let seq := (m.ptp p).reqSeq
    let m := m.ptpOut 3 p seq [] (.pdReq seq)
    m.updPtp p (fun x => { x with reqSeq := (seq + 1) % 65536, reqMon := some m.mon, pdResp := none, pdReq := none })

/-- A Pdelay_Resp (R494): one-step completes the exchange. -/
def pdResp (m : Mach) (p : Nat) (r : PdResp) : Mach :=
  match (m.ptp p).pdReq with
  | some (seq, t1) =>
    if !m.ptpOn p || decide (seq ≠ r.seq) then m
    else
      let t4 := m.rxStamp p r.rx
      if r.twoStep then m.updPtp p (fun x => { x with pdResp := some (seq, t4 - t1 - r.corr, r.stamp) })
      else m.updPtp p (fun x => { x with linkDelay := (t4 - t1 - r.corr) / 2, pdReq := none, pdResp := none })
  | none => m

/-- A Pdelay_Resp_Follow_Up (R494). -/
def pdRespFu (m : Mach) (p : Nat) (r : PdResp) : Mach :=
  match (m.ptp p).pdResp with
  | some (seq, rt, t2) =>
    if !m.ptpOn p || decide (seq ≠ r.seq) then m
    else m.updPtp p (fun x => { x with linkDelay := (rt - (r.stamp - t2) - r.corr) / 2, pdReq := none, pdResp := none })
  | none => m

/-- A Pdelay_Req is answered (R490): one-step with the residence in the correctionField, else Pdelay_Resp and its
Follow_Up. `rx` is the time at the PCS. -/
def pdReqRecv (m : Mach) (p seq : Nat) (rx : Int) : Mach :=
  if !m.ptpOn p then m
  else
    let t2 := m.rxStamp p rx
    m.ptpOut 4 p seq [t2, 0] (.pdResp seq t2)

/-- clockClass announced as master (R485). -/
def clockClass (m : Mach) : Nat :=
  match m.tb.st with
  | .locked => if m.tb.src = some .ptp then 248 else 6
  | .hold => 7
  | .free => if m.tb.everLocked then 7 else 248
  | .acquire => 248

/-- Sync and Announce as master (R483, R485, R490). -/
def ptpMaster (m : Mach) (p : Nat) : Mach :=
  let log := m.fld .tbPtpCfg F.tbPtpCfg_LOG_SYNC
  let int := 1000000000 / 2 ^ ((16 - log) % 16)
  let due (t : Option Time) (n : Nat) : Bool := match t with
    | some x => decide (n ≤ m.since x)
    | none => true
  if !m.ptpOn p || !m.acts || !m.flag .tbCtrl F.tbCtrl_MASTER_EN || decide (m.tb.src = some .ptp) || !due (m.ptp p).mSync int then m
  else
    let seq := (m.ptp p).mSeq
    let m := m.ptpOut 0 p seq [0, 0] (.sync seq)
    let ann := due (m.ptp p).mAnn 1000000000
    let m := if ann then m.ptpOut 2 p seq [m.clockClass, m.fld .tbPtpCfg F.tbPtpCfg_PRIORITY1,
      m.fld .tbPtpCfg F.tbPtpCfg_PRIORITY2, m.fld .tbUtcOfs F.tbUtcOfs_UTC_OFS] .plain else m
    m.updPtp p (fun x => { x with mSeq := (seq + 1) % 65536, mSync := some m.mon, mAnn := if ann then some m.mon else x.mAnn })

-- 1PPS and IRIG-B

/-- A PPS_IN rising edge (R487). -/
def ppsEdge (m : Mach) : Mach :=
  let stamp : Int := ((m.ltc.toNat : Nat) : Int) - m.fld .tbPps F.tbPps_PPS_IN_DLY
  let good := match m.tb.ppsLast with
    | some t => let d := m.since t; decide (999990000 ≤ d ∧ d ≤ 1000010000)
    | none => false
  let m := m.updTb (fun t => { t with ppsLast := some m.mon })
  let m := if good then m.srcGain .pps else m
  let near : Int := (stamp + 500000000) / 1000000000
  let sec : Int := match m.srcQual .irig, m.tb.irigLast with
    | true, some (s, t) => (s : Int) + ((m.since t + 500000000) / 1000000000 : Nat)
    | _, _ => near
  m.offsetMeas .pps (stamp - sec * 1000000000) 1000000000

/-- 2 s without an edge (R487). -/
def ppsTimeout (m : Mach) : Mach :=
  match m.tb.ppsLast with
  | some t => if m.since t < 2000000000 then m else (m.updTb (fun x => { x with ppsLast := none })).srcLose .pps
  | none => m

/-- IRIG-B is lost. -/
def irigLose (m : Mach) : Mach := (m.updTb (fun t => { t with irigCnt := 0, irigLast := none, irigMiss := 0 })).srcLose .irig

/-- A missing or inconsistent frame (R488). -/
def irigMissed (m : Mach) : Mach :=
  let n := m.tb.irigMiss + 1
  if 2 ≤ n then m.irigLose else m.updTb (fun t => { t with irigMiss := n, irigCnt := 0 })

/-- An IRIG-B frame (R488). -/
def irigFrame (m : Mach) (f : IrigFrame) : Mach :=
  if !f.ok then m.irigMissed
  else
    let m := m.setF .tbIrig F.tbIrig_LOCAL (bit (decide (f.loc ≠ 0)))
    -- a leap second takes effect (R488)
    let m := if m.tb.leap ≠ 0 ∧ f.sec % 60 = 0 ∧ !f.s60 then
        let u : Int := m.fld .tbUtcOfs F.tbUtcOfs_UTC_OFS
        (m.setF .tbUtcOfs F.tbUtcOfs_UTC_OFS (toBits 16 (u + m.tb.leap))).updTb (fun t => { t with leap := 0 })
      else m
    let m := if f.leap ≠ 0 then m.updTb (fun t => { t with leap := clampI (-1) 1 f.leap }) else m
    let tai : Int := (f.sec : Int) - f.loc + m.fld .tbUtcOfs F.tbUtcOfs_UTC_OFS
    let fit := f.year && (match f.tq with
      | some q => decide (q ≤ m.fld .tbIrig F.tbIrig_TQ_MAX)
      | none => false)
    let next := match m.tb.irigLast with
      | some (s, _) => decide (tai = (s : Int) + 1)
      | none => true
    if !fit || (!next && m.srcQual .irig) then m.irigMissed
    else
      let n := if next then m.tb.irigCnt + 1 else 1
      let stamp := f.edge - m.fld .tbIrig F.tbIrig_IRIG_DLY
      let ago := (((m.ltc.toNat : Nat) : Int) - stamp).toNat
      let m := m.updTb (fun t => { t with irigCnt := n, irigMiss := 0, irigLast := some (tai.toNat, m.mon - tm ago) })
      let m := if 3 ≤ n then m.srcGain .irig else m
      m.offsetMeas .irig (stamp - tai * 1000000000) 1000000000

/-- An expected frame has not come (R488). -/
def irigTimeout (m : Mach) : Mach :=
  match m.tb.irigLast with
  | some (_, t) => if m.since t < 2000000000 then m else m.irigLose
  | none => m

-- HOLD

/-- The offsets measured in the second half of HOLD_T (R497). -/
def holdOffs (m : Mach) (h : HoldSt) : List Int :=
  (h.offs.filter (fun p => decide (m.fld .tbRrCfg F.tbRrCfg_HOLD_T * 1000000000 / 2 ≤ m.since h.tStart - m.since p.1))).map (·.2)

/-- The end of HOLD_T (R497, R498). -/
def holdTEnd (m : Mach) : Mach :=
  match m.tb.hold with
  | none => m
  | some h =>
    let len := m.fld .tbRrCfg F.tbRrCfg_HOLD_T * 1000000000
    if m.since h.tStart < len then m
    else
      let l := m.holdOffs h
      -- with no offset measured in the second half the spec gives O no value (log entry 20)
      let (fv, m) := if l.isEmpty then m.freeVal else (0, m)
      let o : Int := if l.isEmpty then sgn32 fv else ratRound (meanI l)
      let m := m.wr .tbRrOfs (sat32w o)
      if o.natAbs ≤ 10 * m.fld .tbRrCfg F.tbRrCfg_VERIFY_THR then
        (m.pathSet m.ptpPort h.news).updTb (fun t => { t with st := .locked, unlockCnt := 0, hold := none })
      else
        let m := (m.setF .tbStat F.tbStat_RR_ASYM 1).emitW .timeAsym 1 [sat32w o]
        m.updTb (fun t => { t with hold := some { h with tStart := m.mon, offs := [] } })

/-- HOLD_MAX in HOLD (R498). -/
def holdMax (m : Mach) : Mach :=
  match m.tb.hold with
  | none => m
  | some h => if m.since h.entered < m.fld .tbRrCtrl F.tbRrCtrl_HOLD_MAX * 1000000000 then m else m.holdTake .timeHoldMax

/-- ACCEPT (R498, R499); its status. -/
def rrAccept (m : Mach) : Mach := m.holdTake .timeAccept

end Mach

end Sys2Proof.Machine
end

