-- ==== Sys2Proof/Machine/Lane.lean ====
section
/-! DEFINITION. The serial lanes (11): states, loss of lock, equalisers, eye monitor, PRBS. -/

namespace Sys2Proof.Machine

/-- Eighths of a bit in one 125 MHz tick at a rate code (R502). -/
def bitsPerTick (rate : Nat) : Nat := [80, 165, 660].getD rate 0

/-- One adaptation move: from `a` towards `b` by at most n steps (R506). -/
def stepTo (n : Nat) (a b : Int) : Int := a + clampI (-n) n (b - a)

/-- Four signed codes in a word moved towards those of another, each by at most n (R506). -/
def tapsTo (n : Nat) (a b : Word) : Word :=
  let byte (w : Word) (i : Nat) : Int := ((w >>> (8 * i)).setWidth 8).toInt
  wd (((List.range 4).map (fun i => toBits 8 (stepTo n (byte a i) (byte b i)) * 2 ^ (8 * i))).foldl (· + ·) 0)

namespace Mach

/-- Lane l carries a pair link. -/
def pairRole (m : Mach) (l : Nat) : Bool := decide (m.fld (.lnCfg l) F.lnCfg_ROLE = 1)

/-- The equaliser words of a lane set, unless held by FREEZE (R508). -/
def eqSet (m : Mach) (l : Nat) (adapt dfe : Word) : Mach :=
  if m.flag (.lnAdapt l) F.lnAdapt_FREEZE then m
  else
    let m := m.setF (.lnAdapt l) F.lnAdapt_CTLE (F.lnAdapt_CTLE.get adapt)
    (m.setF (.lnAdapt l) F.lnAdapt_TAP1 (F.lnAdapt_TAP1.get adapt)).wr (.lnDfe l) dfe

/-- Adaptation under CDR lock towards the settings it has been told (R506, R508): since its last move at most one CTLE step for each 100 µs
and one code of a tap for each 1 µs. -/
def eqMove (m : Mach) (l : Nat) (adapt dfe : Word) : Mach :=
  let dt := m.since (m.lane l).eqMon
  let c := stepTo (dt / 100000) (m.fld (.lnAdapt l) F.lnAdapt_CTLE) (F.lnAdapt_CTLE.get adapt)
  let t := tapsTo (dt / 1000) (wd (m.fld (.lnAdapt l) F.lnAdapt_TAP1)) (wd (F.lnAdapt_TAP1.get adapt))
  (m.eqSet l (F.lnAdapt_TAP1.set (F.lnAdapt_CTLE.set adapt c.toNat) (t.toNat % 256)) (tapsTo (dt / 1000) (m.rd (.lnDfe l)) dfe)).updLane l
    (fun x => { x with eqMon := m.mon })

/-- Adaptation from the presets of the rate (R507). -/
def eqPresets (m : Mach) (l : Nat) : Mach :=
  let r := m.fld (.lnCfg l) F.lnCfg_RATE
  m.eqSet l (Config.eqPreset r 0) (Config.eqPreset r 1)

/-- Entry to TRAIN; warm adaptation takes the values last held in UP (R507). -/
def laneTrain (m : Mach) (l : Nat) (warm : Bool) : Mach :=
  let x := m.lane l
  let m := m.updLane l (fun x => { x with st := .train, trainMon := m.mon, eqMon := m.mon })
  if l = 4 then m else if warm && x.fromUp then m.eqSet l x.eqUp.1 x.eqUp.2 else m.eqPresets l

/-- The lane PRBS activity starts or ends on lane l (R509). -/
def laneTest (m : Mach) (l : Nat) : Mach :=
  if (m.lane l).st = .off ∨ (m.lane l).st = .fenced then m else m.updLane l (fun x => { x with st := .test })
def laneTestEnd (m : Mach) (l : Nat) : Mach := if (m.lane l).st = .test then (m.prbsOff l).laneTrain l true else m

/-- EN of a lane, or of SVC. -/
def laneOn (m : Mach) (l : Nat) : Bool := if l = 4 then m.flag .svcCfg F.svcCfg_EN else m.flag (.lnCfg l) F.lnCfg_EN

/-- Auto-negotiation takes part in reaching ALIGN (R502, R505, R509). -/
def laneAn (m : Mach) (l : Nat) : Bool :=
  if l = 4 then m.flag .svcCfg F.svcCfg_AN_EN else m.flag (.lnCfg l) F.lnCfg_AN_EN && decide (m.fld (.lnCfg l) F.lnCfg_RATE = 0)

/-- A loss-of-lock cause that a lane of this rate and role can have (R505, R510). -/
def laneCause (m : Mach) (l cause : Nat) : Bool :=
  let rate := if l = 4 then 0 else m.fld (.lnCfg l) F.lnCfg_RATE
  match cause with
  | 1 | 2 | 3 => true
  | 4 => decide (rate ≠ 0)
  | 5 => m.laneAn l
  | 6 => decide (rate = 2) && !m.pairRole l
  | _ => false

/-- What the transmitter of a lane sends (R509, R512). -/
def laneTx (m : Mach) (l : Nat) : LaneTx :=
  match (m.lane l).st with
  | .off | .fenced => .elecIdle
  | .test => if m.flag (.lnPrbsCtrl l) F.lnPrbsCtrl_GEN_EN then .prbs else .idle
  | .up => .frames
  | .train | .align | .down =>
    if m.laneAn l then .config
    else if l < 4 ∧ m.fld (.lnCfg l) F.lnCfg_RATE = 2 ∧ m.pairRole l = false then .localFault else .idle

/-- EN has been written (R509). -/
def laneEn (m : Mach) (l : Nat) : Mach :=
  let en := m.laneOn l
  match (m.lane l).st with
  | .fenced => m
  | .off => if en then m.laneTrain l false else m
  | st =>
    if en then m
    else
      let m := if st = .test then (m.prbsOff l).maintEndOf 3 l 0 else m
      m.updLane l (fun x => { x with st := .off, scan := false })

/-- A fenced lane returns (R509, R711). -/
def laneUnfence (m : Mach) (l : Nat) : Mach :=
  if m.flag (.lnCfg l) F.lnCfg_EN then m.laneTrain l false else m.updLane l (fun x => { x with st := .off })

/-- Synchronisation gained in TRAIN with a partner within ±200 ppm (R504, R509); `an` tells that auto-negotiation is complete, `adapt` and
`dfe` are what adaptation has found, `freq` the partner's offset. On SVC `freq` is the speed code negotiated, which only SGMII leaves open. -/
def laneSync (m : Mach) (l : Nat) (an : Bool) (adapt dfe : Word) (freq : Nat) : Mach :=
  if 5 ≤ l ∨ (m.lane l).st ≠ .train ∨ (m.laneAn l ∧ an = false) then m
  else if l = 4 then
    (m.updLane 4 (fun x => { x with st := .align, alignMon := m.mon })).setF .svcStat F.svcStat_SPEED
      (if m.flag .svcCfg F.svcCfg_MODE then min freq 2 else 2)
  else if 2000 < (BitVec.ofNat 16 freq).toInt.natAbs then m
  else
    let m := (m.eqMove l adapt dfe).updLane l (fun x => { x with st := .align, alignMon := m.mon })
    let m := (m.setF (.lnStat l) F.lnStat_FREQ_OFS freq).setF (.lnStat l) F.lnStat_SIG_DET 1
    m.setF (.lnStat l) F.lnStat_HIBER 0

/-- A loss-of-lock cause (R509 to R511); `bad` are the invalid code groups or headers received meanwhile. -/
def laneLoss (m : Mach) (l cause bad : Nat) : Mach :=
  if 5 ≤ l ∨ m.laneCause l cause = false then m
  else if l = 4 then (if (m.lane 4).st = .align ∨ (m.lane 4).st = .up then m.laneTrain 4 true else m)
  else
    let st := (m.lane l).st
    if st = .off ∨ st = .fenced then m
    else
      let m := if cause = 1 then m.setF (.lnStat l) F.lnStat_SIG_DET 0 else m
      let m := if cause = 4 then m.setF (.lnStat l) F.lnStat_HIBER 1 else m
      match st with
      | .align => m.laneTrain l true
      | .up =>
        let eq := ((m.rd (.lnAdapt l)), m.rd (.lnDfe l))
        let m := m.updLane l (fun x => { x with st := .down, eqUp := eq, fromUp := true, scan := false })
        let m := (m.setF (.lnStat l) F.lnStat_DOWN_CAUSE cause).setF (.lnStat l) F.lnStat_FLAP_SEEN 1
        let m := (m.bump (.lnCntDown l) F.lnCntDown_COUNT 1).bump (.lnCntCode l) F.lnCntCode_COUNT bad
        let m := m.emitW .laneDown l [wd cause]
        let m := if cause = 2 ∨ cause = 3 ∨ cause = 4 then m.domErr (39 + l) .laneDrop else m
        if (m.lane l).st = .down then m.laneTrain l true else m
      | _ => m

/-- UP_HOLD in ALIGN without a break (R509, R515); SVC has no UP_HOLD (log entry 61). A lane of the pair link has its 256 credits then (R564). -/
def laneUp (m : Mach) (l : Nat) : Mach :=
  if l = 4 then (if (m.lane 4).st = .align then m.updLane 4 (fun x => { x with st := .up }) else m)
  else if 4 ≤ l ∨ (m.lane l).st ≠ .align ∨ m.since (m.lane l).alignMon < msNs (m.fld (.lnCfg l) F.lnCfg_UP_HOLD) then m
  else
    let eq := ((m.rd (.lnAdapt l)), m.rd (.lnDfe l))
    let m := (m.updLane l (fun x => { x with st := .up, eqUp := eq, fromUp := true })).emit .laneUp l
    if m.pairRole l then { m with pair := { m.pair with credits := SMap.put m.pair.credits l 256, owed := m.pair.owed.filter (fun o => o.1 ≠ l) } } else m

/-- 5 ms in TRAIN without synchronisation (R507). -/
def adaptRestart (m : Mach) (l : Nat) : Mach :=
  if 4 ≤ l ∨ (m.lane l).st ≠ .train ∨ m.since (m.lane l).trainMon < msNs 5 then m
  else (m.eqPresets l).updLane l (fun x => { x with trainMon := m.mon })

/-- Line bits of lane l in ns of MON at its rate (R502). -/
def laneBits (m : Mach) (l ns : Nat) : Nat := ns * bitsPerTick (m.fld (.lnCfg l) F.lnCfg_RATE) / 64

/-- A scan point completes with its disagreements once it has compared its 2^(20 + DWELL) bits (R517). -/
def scanDone (m : Mach) (l errs : Nat) : Mach :=
  let n := 2 ^ (20 + m.fld (.lnScanCtrl l) F.lnScanCtrl_DWELL)
  if 4 ≤ l ∨ !(m.lane l).scan ∨ m.laneBits l (m.since (m.lane l).scanMon) < n then m
  else
    let errs := min errs n
    let m := m.updLane l (fun x => { x with scan := false })
    (m.setF (.lnScanCtrl l) F.lnScanCtrl_DONE 1).wr (.lnScanErr l) (wd (min errs (2 ^ 32 - 1)))

/-- The engine's own eye measurement, every 100 ms (R518). With it come the settings adaptation has found (R506) and the invalid code groups or
headers received since the last, counted in UP. -/
def eyeAuto (m : Mach) (l w h : Nat) (adapt dfe : Word) (bad : Nat) : Mach :=
  let x := m.lane l
  if 4 ≤ l ∨ x.scan ∨ x.st = .off ∨ x.st = .fenced ∨ m.since x.eyeMon < msNs 100 then m
  else
    let m := ((m.setF (.lnEye l) F.lnEye_EYE_W w).setF (.lnEye l) F.lnEye_EYE_H h).updLane l (fun y => { y with eyeMon := m.mon })
    let m := m.eqMove l adapt dfe
    if x.st = .up then m.bump (.lnCntCode l) F.lnCntCode_COUNT bad else m

/-- The checker of lane l runs. -/
def prbsChk (m : Mach) (l : Nat) : Bool :=
  decide (l < 4) && decide ((m.lane l).st = .test) && m.flag (.lnPrbsCtrl l) F.lnPrbsCtrl_CHK_EN

/-- `run` error-free bits in a row: 64 give SYNC (R521). -/
def prbsGain (m : Mach) (l run : Nat) : Mach := if m.prbsChk l && decide (64 ≤ run) then m.setF (.lnPrbsStat l) F.lnPrbsStat_SYNC 1 else m

/-- PRBS counters shown in their registers, saturating (R522). -/
def prbsShow (m : Mach) (l : Nat) : Mach :=
  let x := m.lane l
  (m.wr (.lnPrbsErr l) (wd (min x.errs (2 ^ 32 - 1)))).wr (.lnPrbsBits l) (wd (min (x.bits / 8 / 65536) (2 ^ 32 - 1)))

/-- Errors counted while the checker is in SYNC. -/
def prbsErrs (m : Mach) (l n : Nat) : Mach :=
  if m.prbsChk l && m.flag (.lnPrbsStat l) F.lnPrbsStat_SYNC then
    (m.updLane l (fun x => { x with errs := x.errs + n })).prbsShow l
  else m

/-- Bits in error (R521, R522): `errs` since the last such row, `win` the most in any 64 bits of them; 32 or more lose SYNC. -/
def prbsLoss (m : Mach) (l errs win : Nat) : Mach :=
  if !(m.prbsChk l && m.flag (.lnPrbsStat l) F.lnPrbsStat_SYNC) then m
  else if win < 32 then m.prbsErrs l errs
  else
    ((m.prbsErrs l errs).setF (.lnPrbsStat l) F.lnPrbsStat_SYNC 0).setF (.lnPrbsStat l) F.lnPrbsStat_LOST_SYNC 1

/-- CLR (R522). -/
def prbsClr (m : Mach) (l : Nat) : Mach := (m.updLane l (fun x => { x with bits := 0, errs := 0 })).prbsShow l

/-- INJ inverts one transmitted bit; looped back it is one error (R523). -/
def prbsInj (m : Mach) (l : Nat) : Mach :=
  if m.flag (.lnPrbsCtrl l) F.lnPrbsCtrl_GEN_EN && decide (m.fld (.lnPrbsCtrl l) F.lnPrbsCtrl_LOOP = 1) &&
      decide (m.fld (.lnPrbsCtrl l) F.lnPrbsCtrl_GEN_PAT = m.fld (.lnPrbsCtrl l) F.lnPrbsCtrl_CHK_PAT) then m.prbsErrs l 1
  else m

/-- The bits a tick adds to the checkers in SYNC (R521, R522). -/
def prbsTick (m : Mach) : Mach :=
  forEach (List.range 4) m (fun m l =>
    if m.prbsChk l && m.flag (.lnPrbsStat l) F.lnPrbsStat_SYNC then
      (m.updLane l (fun x => { x with bits := x.bits + bitsPerTick (m.fld (.lnCfg l) F.lnCfg_RATE) })).prbsShow l
    else m)

end Mach

end Sys2Proof.Machine
end

