-- ==== Sys2Proof/Machine/Net.lean ====
section
/-! DEFINITION. Network layers and partners (12): the receive path, PRP and HSR, the subscription table, GOOSE, GLX stations,
report coalescing, host frames; and the answers of participants to remote stitches (07). -/

namespace Sys2Proof.Machine

/-- Octets of an INPUT payload (R548): binary points and word validity padded to 4 octets. -/
def inputLen (nB nW : Nat) : Nat := (2 * nB + 31) / 32 * 4 + 4 * nW + (nW + 31) / 32 * 4

/-- A layout is valid (R552). -/
def Layout.ok (l : Layout) : Bool :=
  decide (l.nInB + l.nInW ≤ 4096 ∧ l.nOutB + l.nOutW ≤ 4096 ∧ inputLen l.nInB l.nInW ≤ 1480)

/-- The points of an INPUT payload: point p of the binary ones stands in bits 2p and 2p + 1 of the words counted from
bit 0, value then validity, and word validity in the same way (log entry 22). -/
def inputPoints (l : Layout) (p : List Byte) : SMap PtVal :=
  let w (off i : Nat) : Nat := beAt p (off + 4 * i) 4
  let offW := (2 * l.nInB + 31) / 32 * 4
  let offV := offW + 4 * l.nInW
  ((List.range l.nInB).map (fun k =>
    let x := w 0 (k / 16)
    (k, ({ val := wd (bit (x.testBit (2 * (k % 16)))), valid := x.testBit (2 * (k % 16) + 1), stale := false, test := false,
           bin := true } : PtVal)))) ++
  ((List.range l.nInW).map (fun k =>
    (l.nInB + k, ({ val := wd (w offW k), valid := (w offV (k / 32)).testBit (k % 32), stale := false, test := false,
                    bin := false } : PtVal))))

/-- One report counted in an entry. -/
def Coal.count1 (c : Coal) (e : Option Nat) : Coal :=
  match e with
  | some e => { c with count := c.count + 1, bitmap := if c.bitmap.contains e then c.bitmap else e :: c.bitmap }
  | none => { c with count := c.count + 1, nOther := c.nOther + 1 }

namespace Mach

def updNet (m : Mach) (f : Net → Net) : Mach := { m with net := f m.net }

-- Subscription table (R533, R534)

/-- Destination MAC and APPID of descriptor d. -/
def rxdMac (m : Mach) (d : Nat) : Nat := (m.rd (.rxd d 0)).toNat % 65536 * 2 ^ 32 + (m.rd (.rxd d 1)).toNat
def rxdAppid (m : Mach) (d : Nat) : Nat := (m.rd (.rxd d 0)).toNat / 65536

/-- The set of an address (R533). -/
def subSet (mac appid : Nat) : Nat := (crc32c (beBytes 6 mac ++ beBytes 2 appid)).toNat % 64

/-- A subscription would duplicate an enabled one, or finds its set full. -/
def subDup (m : Mach) (d : Nat) : Bool :=
  m.net.table.any (fun e => decide (e.2.mac = m.rxdMac d ∧ e.2.appid = m.rxdAppid d))
def subFull (m : Mach) (d : Nat) : Bool :=
  let s := subSet (m.rxdMac d) (m.rxdAppid d)
  decide (4 ≤ (m.net.table.filter (fun e => decide (e.2.set = s))).length)

/-- A subscription entered (descriptor d: SV below 64, GOOSE from 64), and removed. -/
def subAdd (m : Mach) (d : Nat) : Mach :=
  let mac := m.rxdMac d
  let ap := m.rxdAppid d
  let s := subSet mac ap
  match (List.range 4).find? (fun w => (SMap.get? m.net.table (4 * s + w)).isNone) with
  | some w =>
    let e : SubEnt := { set := s, goose := decide (64 ≤ d), idx := if d < 64 then d else d - 64, mac := mac, appid := ap }
    m.updNet (fun n => { n with table := SMap.put n.table (4 * s + w) e })
  | none => m
def subDel (m : Mach) (d : Nat) : Mach :=
  m.updNet (fun n => { n with table := n.table.filter (fun e =>
    !(e.2.goose == decide (64 ≤ d) && decide (e.2.idx = if d < 64 then d else d - 64))) })

-- GOOSE subscription (R536 to R540)

/-- A GOOSE subscription. -/
def gsub (m : Mach) (g : Nat) : Gsub := SMap.getD m.net.gsubs g { live := false, stNum := none, tal := 0, lastMon := 0 }
def updGsub (m : Mach) (g : Nat) (f : Gsub → Gsub) : Mach :=
  m.updNet (fun n => { n with gsubs := SMap.put n.gsubs g (f (m.gsub g)) })

/-- Points defined on subscription g. -/
def gptOf (m : Mach) (g : Nat) : List Nat :=
  (m.regs.filterMap (fun r => if 0x84000 ≤ r.1 ∧ r.1 < 0x88000 then some ((r.1 - 0x84000) / 4) else none)).filter (fun i =>
    m.flag (.gpt i) F.gpt_EN && decide (m.fld (.gpt i) F.gpt_SUB = g))

/-- One point from an accepted message (R537, R539). A member that is no BOOLEAN gives no stated value: a free one (log
entry 23). -/
def gptSet (m : Mach) (g : Nat) (msg : GooseMsg) (i : Nat) : Mach :=
  let (v, m) := match msg.data.getD (m.fld (.gpt i) F.gpt_MEMB) .other with
    | .bool b => (b, m)
    | _ => let (f, m) := m.freeVal; (decide (f % 2 = 1), m)
  let q := if m.flag (.gpt i) F.gpt_Q_EN then msg.data.getD (m.fld (.gpt i) F.gpt_QIDX) .other else .other
  let (valid, qt) := match q with
    | .qual y t => (decide (y % 4 ≠ 1 ∧ y % 4 ≠ 3), t)
    | _ => (true, false)
  let test := msg.sim || qt
  let m := m.updNet (fun n => { n with gpts := SMap.put n.gpts i { val := v, valid := valid, stale := false, test := test } })
  if test then m.setF (.gsubStat g) F.gsubStat_TEST_SEEN 1 else m

/-- A GOOSE message on a lane with destination and APPID (R535 to R537). -/
def gooseRecv (m : Mach) (lane mac appid : Nat) (msg : GooseMsg) : Mach :=
  match m.subFor true mac appid with
  | none => m
  | some g =>
    if !m.flag (.gsubCfg g) F.gsubCfg_EN || !(if m.dual then decide (lane < 2) else
        decide (m.fld (.gsubCfg g) F.gsubCfg_LANE = lane)) then m
    else if msg.idCrc ≠ m.rd (.rxd (64 + g) 3) ∨ msg.confRev ≠ m.rd (.rxd (64 + g) 2) ∨ msg.ndsCom ∨
        msg.data.length ≤ m.fld (.gsubCfg g) F.gsubCfg_NMEMB then
      (m.setF (.gsubStat g) F.gsubStat_CFG_MISMATCH 1).emit .gooseCfgMismatch g
    else if msg.sim && !m.flag (.gsubCfg g) F.gsubCfg_SIM_ACC then m
    else if (m.gsub g).stNum = some (msg.stNum, msg.sqNum) then m
    else
      let m := m.updGsub g (fun x => { x with live := true, stNum := some (msg.stNum, msg.sqNum), tal := msg.tal, lastMon := m.mon })
      let m := m.setF (.gsubStat g) F.gsubStat_LIVE 1
      forEach (m.gptOf g) m (fun m i => m.gptSet g msg i)

/-- The points of a subscription go stale (R538). -/
def gptStale (m : Mach) (g : Nat) : Mach :=
  let l := m.gptOf g
  let m := (m.updGsub g (fun x => { x with live := false })).setF (.gsubStat g) F.gsubStat_LIVE 0
  m.updNet (fun n => { n with gpts := n.gpts.map (fun p =>
    if l.contains p.1 then (p.1, { p.2 with valid := false, stale := true }) else p) })

/-- timeAllowedtoLive has passed (R538). -/
def gooseTal (m : Mach) (g : Nat) : Mach :=
  if 128 ≤ g ∨ !(m.gsub g).live ∨ m.since (m.gsub g).lastMon < msNs (m.gsub g).tal then m
  else (m.gptStale g).emit .gooseLost g

-- GOOSE publication (R541 to R543)

/-- The interval a publication repeats at next (R543). -/
def gooseRepeat (m : Mach) (p : Nat) : Mach :=
  let g := m.gpub p
  match g.nextMon with
  | some t =>
    if 128 ≤ p ∨ (t - m.mon).toInt > 0 ∨ !m.flag (.gpubCtrl p) F.gpubCtrl_EN ∨ !m.acts then m
    else
      let iv := min (2 * g.interval) (msNs (m.fld (.gpubCtrl p) F.gpubCtrl_T_MAX))
      (m.updGpub p (fun x => { x with sqNum := (x.sqNum + 1) % 2 ^ 32, interval := iv, nextMon := some (m.mon + tm iv) })).gooseSend p
  | none => m

/-- The offsets of a publication point at the tag and length of their fields (R541; the tags of IEC 61850-8-1: log
entry 24). -/
def gpubOk (m : Mach) (p : Nat) : Bool :=
  let t := (m.gpub p).tmpl
  let len := m.fld (.gpubCtrl p) F.gpubCtrl_LEN
  let at' (o tag n : Nat) : Bool := decide (beAt t o 1 = tag ∧ beAt t (o + 1) 1 = n ∧ o + 2 + n ≤ len)
  at' (m.fld (.gpubOfs0 p) F.gpubOfs0_OFS) 0x85 4 && at' (m.fld (.gpubOfs0 p) F.gpubOfs0_OFS0) 0x86 4 &&
  at' (m.fld (.gpubOfs1 p) F.gpubOfs1_OFS) 0x81 4 && at' (m.fld (.gpubOfs1 p) F.gpubOfs1_OFS0) 0x84 8

/-- The index moves on after an access (GPUB_WIN_DATA). -/
def gwNext (m : Mach) : Mach :=
  m.wr .gpubWinAddr (wd ((m.rd .gpubWinAddr).toNat / 2048 * 2048 + (m.gwIdx + 1) % 2048))

/-- A word written through GPUB_WIN_DATA: four template octets, or a member's offsets. Template words past 1500 octets are
not stored. -/
def gwPut (m : Mach) (w : Word) : Mach :=
  let i := m.gwIdx
  if m.gwMemb then m.updGpub m.gwPub (fun g => { g with offs := SMap.put g.offs i w })
  else if 375 ≤ i then m
  else m.updGpub m.gwPub (fun g =>
    let t := g.tmpl ++ zeros (4 * i + 4 - g.tmpl.length)
    { g with tmpl := t.take (4 * i) ++ beBytes 4 w.toNat ++ t.drop (4 * i + 4) })

-- GLX stations (R547 to R560)

/-- A station is received on this lane (R532). -/
def staLane (m : Mach) (e lane : Nat) : Bool :=
  if m.dual then decide (lane < 2) else decide (m.fld (.staCfg e) F.staCfg_LANE = lane)

/-- A station changes state; an instant at which it leaves LIVE is kept (R553), and class A stitches of a group or a host that
name it are judged at staging (R358, R557). -/
def staTo (m : Mach) (e : Nat) (st : StaSt) : Mach :=
  m.updSta e (fun s => { s with st := st, leftLive := if s.st = .live ∧ st ≠ .live then some m.mon else s.leftLive })

/-- LEN of a message type, none for a type outside the table and for INPUT of an unknown layout (R548). -/
def glxLen (m : Mach) (src typ : Nat) (p : List Byte) : Option Nat :=
  match typ with
  | 0x01 => some 30
  | 0x02 => some 8
  | 0x03 | 0x31 | 0x33 => some 0
  | 0x04 => some 12
  | 0x20 => some (4 + 8 * beAt p 0 1)
  | 0x30 => some (12 + 8 * beAt p 8 1)
  | 0x32 => some 4
  | 0x40 => some 8
  | 0x21 => some (4 + 4 * beAt p 0 1)
  | 0x10 => match m.staOf src with
    | some e => (m.sta e).layout.map (fun l => inputLen l.nInB l.nInW)
    | none => none
  | _ => none

/-- Reserved fields inside a message are 0. -/
def glxZero (typ : Nat) (p : List Byte) : Bool :=
  let cmds (o : Nat) : Bool := decide (beAt p (o + 1) 3 = 0) &&
    (List.range (beAt p o 1)).all (fun k => decide (beAt p (o + 6 + 8 * k) 2 = 0))
  match typ with
  | 0x02 | 0x21 | 0x32 => decide (beAt p 1 3 = 0)
  | 0x20 => cmds 0
  | 0x30 => cmds 8
  | _ => true

/-- The acceptance of a GLX frame (R548): VER, reserved fields, LEN, destination. -/
def glxOk (m : Mach) (h : GlxHdr) (typ : Nat) (p : List Byte) : Bool :=
  decide (h.ver = 1 ∧ h.resv = 0 ∧ h.flags % 32 = 0) && glxZero typ p &&
  (h.flags.testBit 7 || decide (h.dst = m.fld .netCtrl F.netCtrl_OWN_DEVID)) && decide (h.len = p.length) &&
  (match m.glxLen h.src typ p with
    | some n => decide (h.len = n)
    | none => decide (typ = 0x10))

/-- A GLX frame taken: GLX on, and accepted; else counted (R548). -/
def glxIn (m : Mach) (h : GlxHdr) (typ : Nat) (p : List Byte) (f : Mach → Mach) : Mach :=
  if !m.flag .netCtrl F.netCtrl_GLX_EN then m
  else if !m.glxOk h typ p then m.bump .netGlxBad F.netGlxBad_COUNT 1
  else f m

/-- The enabled entry of a frame's sender, on its lane; the frame's time is kept. -/
def glxFrom (m : Mach) (h : GlxHdr) : Option Nat :=
  match m.staOf h.src with
  | some e => if m.staLane e h.lane then some e else none
  | none => none
def staHeard (m : Mach) (e : Nat) : Mach := m.updSta e (fun s => { s with lastFrame := m.mon })

/-- ADMIT (R548, R549); a unit that does not act sends none (R588). -/
def admitSend (m : Mach) (e : Nat) : Mach :=
  let (n, m) := m.glxSeq
  m.glxTo (m.fld (.staCfg e) F.staCfg_DEVID) 0 2 n 0
    (beBytes 1 e ++ [0, 0, 0] ++ beBytes 4 (100 * m.fld (.staTime e) F.staTime_CYCLE))

/-- An ANNOUNCE taken: layout and MAC stored, ADMITTED, ADMIT sent (R551). The first INPUT after it is taken whatever its
SEQ (log entry 22). -/
def staAdmit (m : Mach) (e mac : Nat) (l : Layout) : Mach :=
  let m := m.staTo e .admitted
  (m.updSta e (fun s => { s with layout := some l, mac := mac, seq := none, lastInput := m.mon })).admitSend e

/-- ANNOUNCE (R551, R552, R555). -/
def glxAnnounce (m : Mach) (h : GlxHdr) (p : List Byte) : Mach :=
  m.glxIn h 0x01 p (fun m =>
    let l : Layout := { nInB := beAt p 2 2, nInW := beAt p 4 2, nOutB := beAt p 6 2, nOutW := beAt p 8 2 }
    match m.staOf h.src with
    | none =>
      ((m.bump .netGlxUnknown F.netGlxUnknown_COUNT 1).setF .netStat F.netStat_UNKNOWN_STA 1).emit .staUnknown h.src
    | some e =>
      if !m.staLane e h.lane then m
      else
        let s := m.sta e
        match s.st with
        | .disabled => m
        | .waiting => if l.ok then (m.staHeard e).staAdmit e h.mac l else (m.staHeard e).emit .staLayoutBad e
        | st =>
          if h.mac ≠ s.mac then (m.setF .netStat F.netStat_DUP_DEVID 1).emit .staDupDevid e
          else if st = .admitted then m.staHeard e
          else
            let m := (m.staHeard e).staAdmit e h.mac l
            if s.layout = some l then m else m.emit .staLayout e)

/-- INPUT (R550, R551, R554). -/
def glxInput (m : Mach) (h : GlxHdr) (p : List Byte) : Mach :=
  m.glxIn h 0x10 p (fun m =>
    match m.glxFrom h with
    | none => m
    | some e =>
      let m := m.staHeard e
      let s := m.sta e
      match s.layout with
      | none => m
      | some l =>
        if s.st = .disabled ∨ s.st = .waiting then m
        else if (match s.seq with
            | some q => decide (sdiff16 h.seq q ≤ 0)
            | none => false) then m
        else
          let m := m.updSta e (fun s => { s with seq := some h.seq, lastInput := m.mon, vals := inputPoints l p })
          match s.st with
          | .admitted => (m.staTo e .live).emit .staJoin e
          | .silent => (m.staTo e .live).emit .staBack e
          | _ => m)

/-- LEAVE (R551). -/
def glxLeave (m : Mach) (h : GlxHdr) (p : List Byte) : Mach :=
  m.glxIn h 0x03 p (fun m =>
    match m.glxFrom h with
    | none => m
    | some e =>
      let m := m.staHeard e
      if (m.sta e).st = .live ∨ (m.sta e).st = .silent then (m.staTo e .waiting).emit .staLeave e else m)

/-- ACK (R335, R559): each point's repetition ends; a result other than done is logged. -/
def glxAck (m : Mach) (h : GlxHdr) (p : List Byte) : Mach :=
  m.glxIn h 0x21 p (fun m =>
    match m.glxFrom h with
    | none => m
    | some e =>
      forEach (List.range (beAt p 0 1)) (m.staHeard e) (fun m k =>
        let pt := beAt p (4 + 4 * k) 2
        let res := beAt p (6 + 4 * k) 2
        match m.stu.cmds.find? (fun c => decide (c.devid = h.src ∧ c.point = pt ∧ c.stitch = h.stitch)) with
        | none => m
        | some c =>
          let m := { m with stu := { m.stu with cmds := m.stu.cmds.erase c } }
          let m := m.setRemote c.stitch 1
          if res = 0 then m else m.emitW .remoteRefused e [wd res]))

/-- READY (R347): the last one prepares the stitch. -/
def glxReady (m : Mach) (h : GlxHdr) (p : List Byte) : Mach :=
  m.glxIn h 0x31 p (fun m =>
    let m := match m.glxFrom h with
      | some e => m.staHeard e
      | none => m
    match m.stitch h.stitch with
    | none => m
    | some s =>
      if (m.glxFrom h).isNone || !s.prepSent || decide (s.st ≠ .staged) || decide (s.b ≤ m.ltc) then m
      else
        let parts := s.parts.map (fun x => if x.1 = h.src then (x.1, true) else x)
        m.updStitch h.stitch (fun x => { x with parts := parts, st := if parts.all (·.2) then .prepared else x.st }))

/-- REFUSE (R348): it drops a STAGED stitch, in another state it is ignored (R326). -/
def glxRefuse (m : Mach) (h : GlxHdr) (p : List Byte) : Mach :=
  m.glxIn h 0x32 p (fun m =>
    let m := match m.glxFrom h with
      | some e => m.staHeard e
      | none => m
    match m.stitch h.stitch with
    | none => m
    | some s =>
      if (m.glxFrom h).isSome && s.prepSent && decide (s.st = .staged) && s.parts.any (fun x => decide (x.1 = h.src)) then
        m.stitchDrop h.stitch 4
      else m)

/-- No INPUT for LIVE_TMO (R551, R558). -/
def staLiveTmo (m : Mach) (e : Nat) : Mach :=
  let s := m.sta e
  if 256 ≤ e ∨ m.since s.lastInput < 100000 * m.fld (.staTime e) F.staTime_LIVE_TMO then m
  else match s.st with
    | .admitted => m.staTo e .waiting
    | .live => ((m.staTo e .silent).emit .staSilent e).staErr e
    | _ => m

/-- No frame for AGE_T (R551). -/
def staAge (m : Mach) (e : Nat) : Mach :=
  let s := m.sta e
  if 256 ≤ e ∨ s.st ≠ .silent ∨ m.since s.lastFrame < 1000000000 * m.fld (.staTime e) F.staTime_AGE_T then m
  else (m.staTo e .waiting).emit .staAged e

/-- STA_e_CFG.EN has been written (R551). -/
def staWritten (m : Mach) (e : Nat) : Mach :=
  let en := m.flag (.staCfg e) F.staCfg_EN
  match (m.sta e).st with
  | .disabled => if en then m.staTo e .waiting else m
  | _ => if en then m else m.staTo e .disabled

-- Report coalescing (R568 to R571)

/-- An open entry of a key. -/
def coalOf (m : Mach) (code subj : Nat) : Option (Nat × Coal) :=
  m.net.coal.find? (fun p => decide (p.2.code = code ∧ p.2.subject = subj))

/-- Open entries in COAL_STAT. -/
def coalStat (m : Mach) : Mach := m.setF .coalStat F.coalStat_VALUE m.net.coal.length

/-- An entry closes (R570). -/
def coalClose (m : Mach) (k : Nat) (c : Coal) : Mach :=
  let m := (m.updNet (fun n => { n with coal := SMap.del n.coal k })).coalStat
  if c.count ≤ 1 then m
  else
    let d := c.lastLtc - c.firstLtc
    m.emitW .rptSummary c.subject [wd (min c.count (2 ^ 32 - 1)), wd c.bitmap.length, wd (min c.nOther (2 ^ 32 - 1)),
      (d >>> 32).setWidth 32, d.setWidth 32]

/-- HOLD_MS has passed since an entry's last report. -/
def coalDue (m : Mach) (c : Coal) : Bool := decide (msNs (m.fld .coalCfg F.coalCfg_VALUE) ≤ m.since c.lastMon)

/-- Every entry that is due closes (R570). -/
def coalCloseDue (m : Mach) : Mach := forEach (m.net.coal.filter (fun p => m.coalDue p.2)) m (fun m p => m.coalClose p.1 p.2)

/-- REPORT (R568 to R571). -/
def glxReport (m : Mach) (h : GlxHdr) (p : List Byte) : Mach :=
  m.glxIn h 0x40 p (fun m =>
    let m := match m.glxFrom h with
      | some e => m.staHeard e
      | none => m
    let code := beAt p 0 2
    let subj := beAt p 2 2
    let ent := m.staOf h.src
    let m := match m.coalOf code subj with
      | some (k, c) => if m.coalDue c then m.coalClose k c else m
      | none => m
    match m.coalOf code subj with
    | some (k, c) =>
      m.updNet (fun n => { n with coal := SMap.put n.coal k { c.count1 ent with lastLtc := m.ltc, lastMon := m.mon } })
    | none =>
      match (List.range 128).find? (fun k => (SMap.get? m.net.coal k).isNone) with
      | some k =>
        let c : Coal := { code := code, subject := subj, firstLtc := m.ltc, lastLtc := m.ltc, lastMon := m.mon,
                          count := 0, nOther := 0, bitmap := [], reporter := h.src }
        let m := (m.updNet (fun n => { n with coal := SMap.put n.coal k (c.count1 ent) })).coalStat
        m.emitW .staReport h.src [wd (code * 65536 + subj), wd h.src, wd (beAt p 4 4)]
      | none =>
        let m := (m.bump .coalOvf F.coalOvf_COUNT 1).setF .netStat F.netStat_COAL_FULL 1
        let first := match m.net.coalLog with
          | some t => decide (msNs (m.fld .coalCfg F.coalCfg_VALUE) ≤ m.since t)
          | none => true
        if first then (m.updNet (fun n => { n with coalLog := some m.mon })).emit .coalFull 0 else m)

-- Host frames, BEACON, supervision

/-- A frame that matches a host filter goes to the host (R572). -/
def hostMatch (m : Mach) (lane etype : Nat) : Bool :=
  (List.range 8).any (fun k => decide (m.fld (.hostf k) F.hostf_ETYPE = etype) &&
    (m.fld (.hostf k) F.hostf_LANE_MASK).testBit lane)
def hostFrame (m : Mach) (lane etype : Nat) (bytes : List Byte) : Mach :=
  if m.hostMatch lane etype then
    m.notifyAll (fun s => s.flags.testBit 1) 4 (beBytes 1 lane ++ [0] ++ beBytes 2 bytes.length ++ beBytes 8 m.ltc.toNat ++ bytes)
  else m

/-- Every 5 ms a BEACON (R560). -/
def beaconDue (m : Mach) : Mach :=
  let due := match m.net.beaconLast with
    | some t => decide (msNs 5 ≤ m.since t)
    | none => true
  if due then (m.updNet (fun n => { n with beaconLast := some m.mon })).beacon else m

/-- A supervision frame every LIFE_MS (table after R530). -/
def prpSupSend (m : Mach) : Mach :=
  if !m.dual || decide (m.since m.net.prpLast < msNs (m.fld .prpCfg F.prpCfg_LIFE_MS)) then m
  else
    let ls := [0, 1].filter m.ethUp
    let n := m.net.prpSeq
    let m := m.updNet (fun x => { x with prpLast := m.mon, prpSeq := (n + 1) % 65536 })
    forEach ls m (fun m l => m.txPut l (m.tagClass none) 70 (.prpSup n l) .plain)

/-- Nodes of the table shown in PRP_5. -/
def prpNodes (m : Mach) : Mach := m.wr (.prp 5) (wd m.net.nodes.length)

/-- A supervision frame of a node (table after R530); the table holds 512. -/
def prpSupRecv (m : Mach) (node : Nat) : Mach :=
  if !m.dual then m
  else
    let l := m.net.nodes
    let l := if l.any (fun p => p.1 = node) then l.map (fun p => if p.1 = node then (node, m.mon) else p)
      else if l.length < 512 then l ++ [(node, m.mon)] else l
    (m.updNet (fun n => { n with nodes := l })).prpNodes

/-- Nodes not heard within NODE_FORGET leave the table. -/
def prpForget (m : Mach) (node : Nat) : Mach :=
  (m.updNet (fun n => { n with nodes := n.nodes.filter (fun p => !(decide (p.1 = node) &&
    decide (1000000000 * m.fld .prpCfg F.prpCfg_NODE_FORGET ≤ m.since p.2))) })).prpNodes

-- Transmit queues (R529)

/-- A frame leaves lane l now (R489 to R492): counted, stamped where its departure is. The Follow_Up of a two-step message takes the stamp. -/
def txGo (m : Mach) (l : Nat) (f : TxFrame) : Mach :=
  let tx := m.txStamp l
  let m := m.bump (.mac l 1) F.mac_COUNT 1
  let tag := m.ptpTag
  match f.post with
  | .plain => m.send f.frame
  | .stamp id => (m.send f.frame).tsqPut l id (BitVec.ofInt 64 (tx / 1000))
  | .pdReq seq =>
    let m := m.send f.frame
    let full := decide (16 ≤ (m.tb.tsq.getD l []).length)
    let m := if full then m.bump (.lnTsqOvf l) F.lnTsqOvf_VALUE 1 else m
    m.updPtp l (fun x => { x with pdReq := if full then none else some (seq, tx) })
  | .sync seq => if m.feat 6 then m.send (.ptp 0 l seq [tx, 0] tag) else (m.send f.frame).ptpOut 1 l seq [tx, 0] .plain
  | .pdResp seq t2 => if m.feat 6 then m.send (.ptp 4 l seq [0, tx - t2] tag) else (m.send f.frame).ptpOut 5 l seq [tx, 0] .plain

/-- The time a frame takes on lane l with preamble and gap, in ns: 1 Gbit/s at RATE 0, 10 Gbit/s at RATE 2, on SVC by
its SPEED. -/
def txTime (m : Mach) (l octets : Nat) : Nat :=
  if l = 4 then [800, 80, 8].getD (m.fld .svcStat F.svcStat_SPEED) 8 * (octets + 20) else if m.fld (.lnCfg l) F.lnCfg_RATE = 0 then 8 * (octets + 20) else (8 * (octets + 20) + 9) / 10

/-- The frame that lane l sends next: class 3 first, class 0 last, in the order queued (R529). -/
def txNext (q : List TxFrame) (l : Nat) : Option TxFrame :=
  [3, 2, 1, 0].findSome? (fun c => q.find? (fun f => decide (f.lane = l ∧ f.cls = c)))

/-- Frames pass on a lane: UP in role ETH, or SVC UP; none on a fenced lane (R44, R512). -/
def rxUp (m : Mach) (l : Nat) : Bool := if l = 4 then m.svcUp else decide (l < 4) && m.ethUp l

/-- Lane l serves its queues once its present frame has ended (R529). A lane that is not UP discards what it has queued (R513). -/
def txLane (m : Mach) (l : Nat) : Mach :=
  if !m.rxUp l then { m with txq := m.txq.filter (fun f => f.lane ≠ l) }
  else match SMap.get? m.txEnd l, txNext m.txq l with
    | _, none => m
    | e, some f =>
      if e.any (fun t => decide (0 < (t - m.mon).toInt)) then m
      else
        let m := { m with txq := m.txq.erase f, txEnd := SMap.put m.txEnd l (m.mon + tm (m.txTime l f.octets)) }
        m.txGo l f

/-- The lanes serve their transmit queues. -/
def txServe (m : Mach) : Mach := if m.txq.isEmpty then m else forEach (List.range 5) m txLane

-- Pair-link credits (R564)

/-- Credits held on a lane, and those of a frame: 64 octets each. -/
def credits (m : Mach) (l : Nat) : Nat := SMap.getD m.pair.credits l 256
def creditsOf (len : Nat) : Nat := (len + 63) / 64

/-- The credits of frames sent come back once the peer has freed them, at most 10 µs later (R564, R565). -/
def creditsBack (m : Mach) : Mach :=
  let due := m.pair.owed.filter (fun o => decide (min Config.creditNs 10000 ≤ m.since o.2.2))
  forEach due m (fun m o => { m with pair := { m.pair with owed := m.pair.owed.erase o,
                                                           credits := SMap.put m.pair.credits o.1 (min 256 (m.credits o.1 + o.2.1)) } })

/-- The pair-link frame that is sent next: heartbeat, M0 and SYNC_REQ before the mirror data that take what M0 leaves (R607). -/
def pairNext (q : List PairTx) : Option PairTx :=
  match q.find? (fun f => match f.msg with
    | .m1 _ _ _ _ | .m2 _ _ _ => false
    | _ => true) with
  | some f => some f
  | none => q.head?

/-- One waiting pair-link frame is sent on the lane with most credits, if they are enough for the whole frame (R564). -/
def pairTx1 (m : Mach) : Mach :=
  match pairNext m.pair.txq with
  | none => m
  | some f =>
    let c := creditsOf f.len
    match m.pairUp.foldl (fun (a : Option Nat) l => match a with
      | some k => if m.credits k < m.credits l then some l else a
      | none => some l) none with
    | none => { m with pair := { m.pair with txq := [] } }
    | some l =>
      if m.credits l < c then m
      else
        let n := m.pair.txSeq
        let m := { m with pair := { m.pair with txq := m.pair.txq.erase f, txSeq := n + 1, owed := m.pair.owed ++ [(l, c, m.mon)],
                                                credits := SMap.put m.pair.credits l (m.credits l - c) } }
        m.send (.pair l n f.tag f.part f.parts f.len f.msg)

/-- Credits return, and waiting pair-link frames are sent as far as they go. -/
def pairServe (m : Mach) : Mach :=
  let m := m.creditsBack
  forEach m.pair.txq m (fun m _ => m.pairTx1)

/-- The lanes and the pair link at work. -/
def linkServe (m : Mach) : Mach := (m.txServe).pairServe

-- Receive path (R526)

/-- What a frame does that arrives on lane l. -/
def onLane (l : Nat) (f : Mach → Mach) (m : Mach) : Mach := if m.rxUp l then f m else m

/-- A counter of MAC l. -/
def macBump (m : Mach) (l x : Nat) : Mach := m.bump (.mac l x) F.mac_COUNT 1

/-- A lane's own address: under PRP L1 has that of L0. -/
def laneMac (m : Mach) (l : Nat) : Nat :=
  let l := if l = 1 ∧ m.flag .netCtrl F.netCtrl_PRP then 0 else l
  (m.rd (.macHi l)).toNat % 65536 * 2 ^ 32 + (m.rd (.macLo l)).toNat

/-- Step 4: a destination the engine takes. -/
def dstOk (m : Mach) (l dst : Nat) : Bool :=
  decide (dst = 2 ^ 48 - 1 ∨ dst = 0x011B19000000 ∨ dst = 0x0180C200000E ∨ dst = m.glxMac ∨ dst = m.laneMac l) ||
  m.net.table.any (fun e => e.2.mac = dst)

/-- One frame through the policer of class c on lane l (R567). -/
def police (m : Mach) (l c : Nat) : Mach × Bool :=
  let rate := m.fld (.pol c) (F.pol_RATE c)
  let cap := m.fld (.pol c) (F.pol_BURST c) * 1000000000
  let key := 4 * l + c
  let tok := match SMap.get? m.net.tokens key with
    | some (n, t) => min cap (n + rate * m.since t)
    | none => cap
  let put (m : Mach) (n : Nat) : Mach := m.updNet (fun x => { x with tokens := SMap.put x.tokens key (n, m.mon) })
  if 1000000000 ≤ tok then (put m (tok - 1000000000), true) else ((put m tok).macBump l (6 + c), false)

/-- A frame admitted to the ingress buffer of lane l (R563): to its class's reserve of 8 KiB, or else to the shared 32 KiB, if there is room. A
frame stays until it has been handled, which takes a time the spec leaves open (log entry 62). SVC has its 32 KiB alone (R562). -/
def ingressTake (m : Mach) (l c n : Nat) : Option Mach :=
  let held := m.net.ingress.filter (fun x => decide (m.since x.at' < Config.ingressNs))
  let sum (p : InFrame → Bool) : Nat := ((held.filter p).map InFrame.octets).foldl (· + ·) 0
  let put (sh : Bool) : Mach := m.updNet (fun x => { x with ingress := held ++ [{ lane := l, cls := c, shared := sh, octets := n, at' := m.mon }] })
  if l < 4 ∧ sum (fun x => decide (x.lane = l ∧ x.cls = c ∧ x.shared = false)) + n ≤ 8192 then some (put false)
  else if sum (fun x => decide (x.lane = l ∧ x.shared = true)) + n ≤ 32768 then some (put true)
  else none

/-- PRP and HSR at step 3: whether the frame goes on (R526, R530). -/
def redRecv (m : Mach) (f : MacFrame) : Mach × Bool :=
  if !m.dual || decide (2 ≤ f.lane) then (m, true)
  else match f.red with
    | none => (m, true)
    | some (lan, seq) =>
      let m := if m.flag .netCtrl F.netCtrl_PRP && decide (lan ≠ f.lane) then m.bump (.prp (3 + f.lane)) F.prp_COUNT 1 else m
      let seen := m.net.prpSeen.filter (fun s => decide (m.since s.2.2.2 ≤ msNs 400))
      let here := seen.any (fun s => decide (s.1 = f.src ∧ s.2.1 = seq ∧ s.2.2.1 = f.lane))
      let dup := seen.any (fun s => decide (s.1 = f.src ∧ s.2.1 = seq))
      let mine := (seen.filter (fun s => decide (s.1 = f.src))).length
      let seen := if here ∨ 1024 ≤ mine then seen else seen ++ [(f.src, seq, f.lane, m.mon)]
      let m := m.updNet (fun n => { n with prpSeen := seen })
      -- HSR mode H: store and forward between L0 and L1
      let m := if m.flag .netCtrl F.netCtrl_HSR && !here && decide (f.src ≠ m.laneMac f.lane) && decide (f.dst ≠ m.laneMac f.lane) &&
          m.ethUp (1 - f.lane) then m.txPut (1 - f.lane) (m.tagClass f.tag) f.len (.host (1 - f.lane) f.bytes) .plain else m
      if dup then (m.bump (.prp 2) F.prp_COUNT 1, false) else (m.bump (.prp f.lane) F.prp_COUNT 1, true)

/-- Frames handled in hardware at line rate (R563, R566). -/
def bodyHw (m : Mach) (f : MacFrame) : Bool :=
  match f.body with
  | .sv ap _ _ => (m.subFor false f.dst ap).isSome
  | .goose ap _ => (m.subFor true f.dst ap).isSome
  | .glx _ t _ => [0x10, 0x21, 0x31, 0x32, 0x40].contains t
  | _ => false

/-- A frame goes where its content says; ARP and ICMP echo are answered at CMD_IP on SVC alone (R666). -/
def bodyTake (m : Mach) (f : MacFrame) : Mach :=
  match f.body with
  | .sv ap sim l => m.svApdu f.lane f.dst ap sim l
  | .goose ap g => m.gooseRecv f.lane f.dst ap g
  | .glx h t p => match t with
    | 0x01 => m.glxAnnounce h p
    | 0x03 => m.glxLeave h p
    | 0x10 => m.glxInput h p
    | 0x21 => m.glxAck h p
    | 0x31 => m.glxReady h p
    | 0x32 => m.glxRefuse h p
    | 0x40 => m.glxReport h p
    | _ => m.glxIn h t p (fun m => m)
  | .announce a => m.ptpAnnounce f.lane a
  | .sync s => m.ptpSync f.lane s
  | .followUp s => m.ptpFollowUp f.lane s
  | .pdReq q rx => m.pdReqRecv f.lane q rx
  | .pdResp r => m.pdResp f.lane r
  | .pdRespFu r => m.pdRespFu f.lane r
  | .supervision n => m.prpSupRecv n
  | .arp ip => if f.lane = 4 ∧ ip = m.rd .cmdIp then m.send (.arp f.src ip) else m
  | .echo ip src l => if f.lane = 4 ∧ ip = m.rd .cmdIp then m.send (.echo f.src src l) else m
  | .other => m

/-- A received frame (R526, R527, R528, R563, R566, R567). Supervision frames are taken before step 4, which names no
address for them (log entry 25). -/
def macRecv (m : Mach) (f : MacFrame) : Mach :=
  let l := f.lane
  if !m.rxUp l then m
  else if f.cut then m.macBump l 3
  else
    let m := m.macBump l 0
    if !f.fcs then m.macBump l 2
    else if f.len < 64 ∨ 1528 < f.len then m.macBump l 5
    else if f.etype = 0x8808 then m
    else if f.double || (match f.tag with
        | some (v, _) => decide (v ≠ 0) && !(List.range 8).any (fun k =>
          m.flag (.netVid k) F.netVid_EN && decide (m.fld (.netVid k) F.netVid_VID = v))
        | none => false) then m.macBump l 4
    else
      let (m, go) := m.redRecv f
      let sup := match f.body with
        | .supervision _ => true
        | _ => false
      if !go || (!sup && !m.dstOk l f.dst) then m
      else
        let c := m.tagClass (f.tag.map (fun t => (t.1, t.2 % 8)))
        if m.bodyHw f then m.bodyTake f
        else match m.ingressTake l c f.len with
        | none => m.macBump l (10 + c)
        | some m =>
          let rmc := match f.body with
            | .announce _ | .sync _ | .followUp _ | .pdReq _ _ | .pdResp _ | .pdRespFu _ | .supervision _ => true
            | .glx _ t _ => decide (t = 0x01 ∨ t = 0x03)
            | _ => false
          let host := m.hostMatch l f.etype
          if rmc || host then
            let (m, ok) := m.police l c
            if !ok then m
            else
              let m := if rmc then m.bodyTake f else m
              if host then m.hostFrame l f.etype f.bytes else m
          else m.bodyTake f

end Mach

end Sys2Proof.Machine
end

