-- ==== Sys2Proof/Machine/Ret.lean ====
section
/-! DEFINITION. The retentive image (09 R439 to R445, 18 R760, R762, R772 to R774). -/

namespace Sys2Proof.Machine

/-- A task restored (R443, R444): its retentive data over cold data. -/
def restoreTask (x : Task) (p : Prog) (d : RetData) : Task :=
  let c := Mach.coldData p
  { x with
    kNow := d.k
    data := { m := d.m, t := d.t, c := d.c, e := d.e.foldl (fun (a : SMap Word) w => SMap.putD a 0 w.1 w.2) c.e }
    retAge := d.t.map (fun w => (w.1, w.2.start.toNat))
    first := 2 }

/-- Registers of R369 with latches, trip counters and bay modes, by address. -/
def protReg (a : Nat) : Bool :=
  match Reg.ofAddr a with
  | some (.bayBrkLoc _) | some (.bayBrkRem _) | some (.bayClsLoc _) | some (.bayClsRem _) | some (.bayXfer _)
  | some (.bayTm _ _) | some (.znTm _) | some (.bayLatch _) | some (.bayTripcnt _) | some (.bayCtrl _) => true
  | _ => false

namespace Mach

/-- The protection section (R369, R211, R223, R230, R264). -/
def protOf (m : Mach) : Prot :=
  { set := m.set, group := m.group, regs := m.regs.filter (fun r => protReg r.1),
    outLatch := m.bays.map (fun b => (b.1, b.2.outLatch)),
    theta := m.bays.map (fun b => (b.1, (b.2.d.theta, b.2.d.thSq))),
    mot := m.bays.map (fun b => (b.1, b.2.d.mot.age m.mon)),
    energy := m.bays.map (fun b => (b.1, b.2.d.energy)) }

/-- The image of this instant. -/
def retImage (m : Mach) : RetImg :=
  { seq := m.nv.nextSeq, ltc := m.ltc, locked := decide (m.tb.st = .locked), fseq := m.fr.fseq, prot := m.protOf,
    tasks := m.tasks.map (retOfTask m.mon) }

/-- A write of the image begins (R440, R43): every RET_PERIOD and at a hold-up event; none until the kind is set (R761,
R774). Banks under a fence are left out. -/
def retStart (m : Mach) (holdup : Bool) : Mach :=
  if m.start.kindEff = 0 ∨ m.nv.writing.isSome ∧ !holdup ∨
      (!holdup ∧ m.since m.nv.lastMon < msNs (m.fld .logRetCtrl F.logRetCtrl_RET_PERIOD)) then m
  else
    let img := m.retImage
    let banks := (if m.fenced 43 then [] else [0]) ++ (if m.fenced 44 then [] else [1])
    { m with nv := { m.nv with writing := some (img, banks, holdup), lastMon := m.mon, nextSeq := m.nv.nextSeq + 1 } }

/-- A copy complete in bank b (0 A, 1 B); a fenced bank takes no write (R44). -/
def retPut (m : Mach) (b : Nat) (img : RetImg) : Mach :=
  if m.fenced (43 + b) then m
  else { m with nv := { m.nv with retA := if b = 0 then some img else m.nv.retA, retB := if b = 0 then m.nv.retB else some img } }

/-- The image is written (R440); after a hold-up image the start record has HOLDUP_PREV (R772). -/
def retEnd (m : Mach) (img : RetImg) (holdup : Bool) : Mach :=
  let m := ({ m with nv := { m.nv with writing := none } } : Mach).wr .logRetSeq img.seq
  if holdup then m.startRec true else m

/-- The write completes in the bank it is in: in bank A first, then in bank B, with which the image is written (R43, R440). -/
def retDone (m : Mach) : Mach :=
  match m.nv.writing with
  | none => m
  | some (img, [], holdup) => m.retEnd img holdup
  | some (img, [b], holdup) => (m.retPut b img).retEnd img holdup
  | some (img, b :: rest, holdup) =>
    let m := m.retPut b img
    { m with nv := { m.nv with writing := some (img, rest, holdup) } }

/-- The copy in use: 0 none, 1 A, 2 B (R442). -/
def retPick (m : Mach) : Nat × Option RetImg :=
  match m.nv.retA, m.nv.retB with
  | none, none => (0, none)
  | some a, none => (1, some a)
  | none, some b => (2, some b)
  | some a, some b => if sdiff32 b.seq a.seq ≤ 0 then (1, some a) else (2, some b)

/-- The demands of bay b that its restored latches hold are on again (R339, R769): nothing changes from off to on. The output
actions of a bay restored into TEST stay suppressed (R344). -/
def restoreDemands (m : Mach) (b ol : Nat) : Mach :=
  let lat := m.rd (.bayLatch b)
  let d (on : Bool) : Demand := ⟨on, 0, on && decide (m.fld (.bayCtrl b) F.bayCtrl_MODE ≠ 2), false, 0⟩
  m.updBay b (fun x => { x with
    outLatch := ol, dBrk := d (lat.getLsbD 0), dXfer := d (lat.getLsbD 1),
    dOut := if lat.getLsbD 2 then (numsWhere 16 ol.testBit).map (fun i => (i, d true)) else [] })

/-- Warm restore from an image (R443, R762, R265). A task that the image has no section of starts cold, and runs if the start record
says so (R771; log entry 53). -/
def restoreWarm (m : Mach) (img : RetImg) : Mach :=
  let p := img.prot
  let m := { m with set := p.set, group := p.group }
  let m := forEach p.regs m (fun m r => match Reg.ofAddr r.1 with
    | some g => m.wr g r.2
    | none => m)
  let m := forEach (List.range 32) m (fun m b => m.restoreDemands b (SMap.getD p.outLatch b 0))
  let m := forEach (List.range 32) m (fun m b => m.updBay b (fun x =>
    let th := SMap.getD p.theta b (0, 0)
    let mot := SMap.getD p.mot b (Mot.cold 0)
    { x with d := BayD.init th.1 (SMap.getD p.energy b [0, 0, 0, 0]) { mot with restored := true, last := none } }))
  let m := forEach (List.range 32) m (fun m b => m.updBay b (fun x => { x with d := { x.d with thSq := (SMap.getD p.theta b (0, 0)).2 } }))
  let down := p.mot.map (fun x => (x.1, img.ltc))
  let m := { m with nv := { m.nv with downPend := down } }
  forEach (List.range 4) m (fun m t => match m.tasks[t]? with
    | none => m
    | some x => match x.prog with
      | none => m
      | some pr =>
        let run := (match m.startRecNow with
          | some r => r.taskRun.testBit t
          | none => false)
        match img.tasks.getD t none with
        | some d =>
          if d.crc = pr.crc then m.updTask t (fun x => { restoreTask x pr d with runAtReady := run })
          else
            let m := m.updTask t (fun x => { x with data := coldData pr, kNow := pr.k, first := 1, runAtReady := run })
            (m.setF .logRetStat F.logRetStat_PROG_MISMATCH 1).emit .retProgMismatch t
        | none => m.updTask t (fun x => { x with data := coldData pr, kNow := pr.k, first := 1, runAtReady := run }))

/-- Cold initialisation (R762, R267, R445): motor counters are kept when an image is valid. -/
def initCold (m : Mach) (img : Option RetImg) : Mach :=
  let m := forEach (List.range 32) m (fun m b =>
    let keep : Mot := match img with
      | some i => let k := SMap.getD i.prot.mot b (Mot.cold 0)
                  { Mot.cold 0 with runFrames := k.runFrames, nStarts := k.nStarts }
      | none => Mot.cold 0
    let thM : Rat := ((m.cfg b 0x40 0 10 : Int) : Rat) / 100
    let th : Rat := ((m.cfg b 0x30 0 6 : Int) : Rat) / 100
    m.updBay b (fun x => { x with d := BayD.init th [0, 0, 0, 0] { keep with theta := thM } }))
  forEach (List.range 4) m (fun m t => m.updTask t (fun x => match x.prog with
    | some p => { x with data := coldData p, kNow := p.k, first := 1, runAtReady := false }
    | none => x))

/-- The restart kind is set (R759, R760, R762): 1 cold, 2 warm. -/
def kindSet (m : Mach) (kind : Nat) : Mach :=
  let (src, img) := m.retPick
  let warm := decide (kind = 2) && img.isSome
  let m := { m with start := { m.start with kindEff := if warm then 2 else 1, phase := 2, phaseMon := m.mon } }
  let m := if img.isNone then m.emit .retInvalid 0 else m
  match warm, img with
  | true, some i => (m.setF .logRetStat F.logRetStat_SRC src).restoreWarm i
  | _, i => m.initCold i

/-- Cooling over the time spent down at a motor bay's first computed frame (R265). -/
def downCool (m : Mach) (b : Nat) : Mach :=
  match SMap.get? m.nv.downPend b with
  | none => m
  | some l =>
    let m := { m with nv := { m.nv with downPend := SMap.del m.nv.downPend b } }
    if m.cfg b 0 0 0 ≠ 1 ∨ m.cfg b 0x40 0 12 ≠ 1 then m
    else
      let d : Int := (m.ltc - l).toInt
      if m.tb.st ≠ .locked ∨ d < 0 ∨ 2592000000000000 < d then m.emit .motDownUnk b
      else
        let tau := motTau (bayCfg m.set b (m.groupOf b)) .stopped
        let k := Config.expQ (-(((d : Int) : Rat) / 1000000000 / tau))
        m.updBay b (fun x => { x with d := { x.d with mot := { x.d.mot with
          theta := x.d.mot.theta * k, starts := x.d.mot.starts.map (· + d.toNat) } } })

end Mach

end Sys2Proof.Machine
end

