-- ==== Sys2Proof/Machine/Rec.lean ====
section
/-! DEFINITION. The recorders (14): the log writer, media faults and the pocket, the reading window; the disturbance recorder. -/

namespace Sys2Proof.Machine

namespace Mach

/-- The disturbance recorder changed. -/
def updDr (m : Mach) (f : Dr → Dr) : Mach := { m with recs := { m.recs with dr := f m.recs.dr } }

-- Logs

/-- A record written to the skein in use, none being usable to the pocket (R624, R641). -/
def skeinPut (m : Mach) (e : EvRec) : Mach :=
  if m.recs.active = 2 then m.pocketPut e true
  else
    let e := { e with rseq := m.recs.nextRseq }
    m.updRecs (fun r => { r with
      skeinA := if r.active = 0 then ringPut skeinCap r.skeinA e else r.skeinA
      spare := if r.active = 0 then r.spare else ringPut spareCap r.spare e
      nextRseq := r.nextRseq + 1 })

/-- A fault of the bank of the skein in use (R640): skein fenced, error counted, logging moved. -/
def mediaFault (m : Mach) (src : ErrSrc) (off : Nat) : Mach :=
  let s := m.recs.active
  let m := (m.updRecs (fun r => if s = 0 then { r with fencedA := true } else { r with fencedSpare := true })).pickSkein
  let m := (m.setF .evrStat F.evrStat_MEDIA_FAULT 1).domErr (43 + s) src
  m.mediaLog s off true

/-- What clears the log (R638, R643): records before the clear's are gone, the repeat table is empty, a skein whose bank is in
service is usable again and logging returns to A where it can. -/
def logCleared (m : Mach) (uid : Nat) : Mach :=
  let keep := fun (l : EvLog) => l.filter (fun e => e.uid = uid)
  let m := m.updRecs (fun r => { r with skeinA := keep r.skeinA, spare := keep r.spare, rpt := [] })
  let was := m.recs.active
  let m := m.updRecs (fun r => { r with fencedA := m.fenced 43, fencedSpare := m.fenced 44 })
  let a := if !m.recs.fencedA then 0 else if !m.recs.fencedSpare then 1 else 2
  let m := m.updRecs (fun r => { r with active := a })
  -- the clear's own record goes on in the skein that now logs
  if a = was then m
  else m.updRecs (fun r =>
    let l := r.skeinA ++ r.spare
    { r with skeinA := if a = 0 then l else [], spare := if a = 1 then l else [] })

/-- EV_OVERFLOW enters once the FIFO holds 64 entries or fewer (R634). -/
def overflowOut (m : Mach) : Mach :=
  if m.recs.lostN = 0 ∨ 64 < m.recs.fifo.length then m
  else
    let t := m.recs.lostFirst
    let ws := [wd (min m.recs.lostN (2 ^ 32 - 1)), (t >>> 32).setWidth 32, t.setWidth 32]
    let e := m.newRec .evOverflow 0 ws false (decide (192 ≤ m.fifoGen))
    let m := (m.uidNext).fifoPut e
    m.updRecs (fun r => { r with lostN := 0, lostFirst := 0 })

/-- The log writer completes its record (R630, R640, R641, R809): `res` 0 verified, 1 a verify mismatch, 2 a controller error,
with the failing offset. -/
def recWritten (m : Mach) (res off : Nat) : Mach :=
  match m.recs.fifo with
  | [] => m
  | e :: rest =>
    let m := m.updRecs (fun r => { r with fifo := rest })
    let m := if res = 0 ∨ m.recs.active = 2 then m else m.mediaFault (if res = 1 then .mramVerify else .mramCtl) off
    let m := m.skeinPut e
    let m := match m.written e.uid with
      | some x => m.noteEv x
      | none => m
    let m := if e.ev = .evCleared then (m.logCleared e.uid).maintEndOf 8 0 0 else m
    m.overflowOut

/-- Repeat entries whose window has passed close (R632). -/
def rptCloseDue (m : Mach) : Mach :=
  let win := msNs (m.fld .evrCtrl F.evrCtrl_REPEAT_WIN)
  forEach (m.recs.rpt.filter (fun r => decide (win < m.since r.lastMon))) m (fun m r => m.rptClose r)

/-- Records with a changed entry are rewritten at most every 10 ms (R633). -/
def rptRewrite (m : Mach) : Mach :=
  forEach (m.recs.rpt.filter (fun r => r.changed && decide (msNs 10 ≤ m.since r.rewriteMon))) m (fun m r =>
    (m.recUpd r.uid (RptEntry.put r)).updRecs (fun x =>
      { x with rpt := x.rpt.map (fun y => if y.uid = r.uid then { y with changed := false, rewriteMon := m.mon } else y) }))

/-- EV_CLEARED enters, and is never lost (R638). -/
def clearEnter (m : Mach) (session : Nat) : Mach :=
  let resv := decide (192 ≤ m.fifoGen)
  let e := m.newRec .evCleared session [] false resv
  let m := m.uidNext
  if resv && decide (64 ≤ m.fifoRes) then m.updRecs (fun r => { r with deferred := r.deferred ++ [e] }) else m.fifoPut e

-- Reading

/-- A record with the values of its open entry (R633). -/
def recNow (m : Mach) (e : EvRec) : EvRec :=
  match m.recs.rpt.find? (fun r => r.uid = e.uid) with
  | some r => RptEntry.put r e
  | none => e

/-- The window latched for an RSEQ (R636, R637). -/
def evrLatch (m : Mach) (rseq : Word) : Mach :=
  let m := m.wr .evrCursor rseq
  let (l, fenced) := m.selLog (m.fld .evrSel F.evrSel_SRC)
  let (bytes, st) : List Byte × Nat :=
    if fenced then (zeros 64, 3)
    else match l.find? (fun e => e.rseq = rseq) with
      | some e => ((m.recNow e).bytes, 0)
      | none =>
        (zeros 64, if (match l.getLast? with
          | some n => decide (0 < sdiff32 rseq n.rseq)
          | none => true) then 2 else 1)
  (forEach (List.range 16) m (fun m w => m.wr (.evrWindow w) (wd (beAt bytes (4 * w) 4)))).setF .evrSel F.evrSel_CUR_STATE st

-- Disturbance recorder: blocks and arming (R651)

/-- Analogue channels in use, and the octets of a row (R647). -/
def drAn (m : Mach) : List Nat := (List.range 64).filter (fun c => m.flag (.drAn c) F.drAn_EN)
def drRowBytes (m : Mach) : Nat := 24 + 4 * m.drAn.length

/-- Rows before and from the trigger row. -/
def drPre (m : Mach) : Nat := m.fld .drCtrl F.drCtrl_PRE * 144
def drPost (m : Mach) : Nat := m.fld .drCtrl F.drCtrl_POST * 144

/-- Ports whose outputs the transient ring holds. -/
def trPorts (m : Mach) : List Nat := (List.range 16).filter (fun p => m.portEn p)

/-- Blocks of a record at its full length: with RETRIG up to row 36 000. -/
def drNeed (m : Mach) : Nat :=
  let rows := if m.flag .drCtrl F.drCtrl_RETRIG then 36000 else min 36000 (m.drPre + m.drPost)
  let tr := if m.flag .drCtrl F.drCtrl_TR_EN then m.trPorts.length * 7200 * 4 else 0
  (4096 + rows * m.drRowBytes + tr + 1048575) / 1048576

/-- The recorder arms if it can hold a record (R651): with OVERWRITE the oldest stored records go first. -/
def drArm (m : Mach) : Mach :=
  let rec go (fuel : Nat) (m : Mach) : Mach :=
    let need := m.drNeed
    let free := m.drFree
    if need ≤ free.length ∧ m.recs.dr.stored.length < 8 then
      m.updDr (fun d => { d with armed := true, ring := [], held := free.take need })
    else
      match fuel, m.recs.dr.stored with
      | k + 1, r :: rest =>
        if m.flag .drCtrl F.drCtrl_OVERWRITE then go k ((m.updDr (fun d => { d with stored := rest })).emit .drOverwrite r.recNo)
        else (m.setF .drStat F.drStat_FULL 1).emit .drFull 0
      | _, _ => (m.setF .drStat F.drStat_FULL 1).emit .drFull 0
  if !m.flag .drCtrl F.drCtrl_EN || m.recs.dr.armed || m.recs.dr.run.isSome then m else go 9 m

/-- A record that a running recording leaves: stored, its unused blocks given back. -/
def drStore (m : Mach) : Mach :=
  match m.recs.dr.run with
  | none => m
  | some r =>
    let tr := if r.body.tr.isEmpty then 0 else r.body.tr.length * 28800
    let n := (4096 + r.body.rows.length * m.drRowBytes + tr + 1048575) / 1048576
    let b := { r.body with blocks := r.body.blocks.take n }
    m.updDr (fun d => { d with run := none, held := [], stored := d.stored ++ [b] })

/-- The running record ends and the recorder arms again (R649 to R651). -/
def drFinish (m : Mach) : Mach := (m.drStore).drArm

/-- EN written (R651). Disarming ends a record in progress with the rows it has. -/
def drEnWritten (m : Mach) : Mach :=
  if m.flag .drCtrl F.drCtrl_EN then
    (m.updDr (fun d => { d with trRing := [], trStopped := false, trStopAt := none, trRec := none })).drArm
  else (m.drStore).updDr (fun d => { d with armed := false, ring := [], held := [], trigPend := [], trRing := [],
                                            trStopped := false, trStopAt := none, trRec := none })

/-- Every record deleted (R657). -/
def drClear (m : Mach) : Mach :=
  (m.updDr (fun d => { d with run := none, stored := [], armed := false, held := [], ring := [] })).drArm

-- Rows (R645 to R647)

/-- The value of an analogue channel in the present row. -/
def drAnVal (m : Mach) (c : Nat) : Int × Nat :=
  let w := m.rd (.drAn c)
  let b := F.drAn_BAY.get w
  if (m.bay b).mode = 0 then (0, 0)
  else
    let s := (SMap.getD m.acq.views b []).getD (F.drAn_SLOT.get w) ⟨0, 0⟩
    let q := s.q.toNat
    let has (k : Nat) : Bool := decide (q / k % 2 = 1)
    (clampI (-8388608) 8388607 (roundHalfEven s.val (F.drAn_SHIFT.get w)),
     bit (has qValid) + 2 * bit (has qSettle) + 4 * bit (has qStale || has qLate) + 8 * bit (has qInterp) +
       16 * bit (has qTimeq) + 32 * bit (has qTest) + 64 * bit (has qSubst) + 128 * bit (has qOvr))

/-- The state of a binary channel. -/
def drBinVal (m : Mach) (c : Nat) : Bool :=
  let w := m.rd (.drBin c)
  let i := F.drBin_INDEX.get w
  match F.drBin_KIND.get w with
  | 0 => false
  | 8 =>
    let sig := i % 64
    let b := i / 128
    let wd (x : Nat) : Bool := x.testBit sig
    if b = 32 then wd (if i / 64 % 2 = 0 then m.zoneStart else m.zoneOper)
    else wd (if i / 64 % 2 = 0 then (m.bay b).pub.start else (m.bay b).pub.oper)
  | 9 => m.cmdOn (i % 16)
  | k => sigRef (m.sigImg 32) ((k * 4096 + i % 4096 : Nat) : Int)

/-- Bays that recorded channels name. -/
def drBays (m : Mach) : List Nat := m.drAn.map (fun c => m.fld (.drAn c) F.drAn_BAY)

/-- The row of the present frame. -/
def drRow (m : Mach) (trig test : Bool) : DrRow :=
  let an := m.drAn.map m.drAnVal
  let bays := m.drBays
  let flags := bit trig + 2 * bit m.fr.stepped + 4 * bit (bays.any (fun b => decide ((m.bay b).mode ≠ 0) && (m.bay b).late)) +
    8 * bit m.fr.zeLate + 16 * bit (test || bays.any (fun b => decide ((m.bay b).mode = 2)))
  { fseq := m.fr.fseq, flags := flags, vals := an.map (·.1), quals := an.map (·.2), bins := (List.range 128).map m.drBinVal }

/-- A record with its header as at its first row (R653, R658). -/
def drOpen (m : Mach) (rows : List DrRow) (short linked : Bool) (prev : Nat) (t : Option DrTrig) (kind arg : Nat) : DrRec :=
  let first := (rows.head?.map (·.fseq)).getD m.fr.fseq
  let tm0 : Int := ratRound (m.tK (first - wd (m.fld .frmCfg F.frmCfg_D_ALIGN)))
  let stp := (rows.filter (fun r => r.flags.testBit 1)).getLast?
  { recNo := m.recs.dr.nextNo, test := (t.map (·.test)).getD false, linked := linked, trMissed := false, damaged := false,
    step := rows.any (fun r => r.flags.testBit 1), preShort := short, prevRec := prev, trigKind := kind, trigArg := arg,
    nTrig := if t.isSome then 1 else 0, trigLtc := (t.map (·.ltc)).getD 0, trigFseq := (t.map (·.fseq)).getD 0,
    firstFseq := first, nPre := if t.isSome then rows.length - 1 else 0, firstInstant := BitVec.ofInt 64 tm0,
    dAlign := m.fld .frmCfg F.frmCfg_D_ALIGN, stepFseq := (stp.map (·.fseq)).getD 0,
    stepEff := if stp.isSome then BitVec.ofNat 64 ((m.rd .tbStepEffHi).toNat * 2 ^ 32 + (m.rd .tbStepEffLo).toNat) else 0, trFirst := 0, trPorts := 0, rows := rows, tr := [],
    anTable := (List.range 64).map (fun c =>
      let w := m.rd (.drAn c)
      let b := F.drAn_BAY.get w
      let s := F.drAn_SLOT.get w
      (b, s, F.drAn_SHIFT.get w, m.rd (.slotScale b s), m.rd (.slotMap b s))),
    binTable := (List.range 128).map (fun c => m.rd (.drBin c)), blocks := m.recs.dr.held }

/-- A record starts with the present row as its trigger row (R649, R654). -/
def drStart (m : Mach) (row : DrRow) (t : DrTrig) : Mach :=
  let pre := m.recs.dr.ring.drop (m.recs.dr.ring.length - m.drPre)
  let short := decide (pre.length < m.drPre)
  let b := m.drOpen (pre ++ [row]) short false 0 (some t) t.kind t.arg
  let trEn := m.flag .drCtrl F.drCtrl_TR_EN
  let busy := m.recs.dr.trStopped || m.recs.dr.trStopAt.isSome
  -- the output current at a bind-off inside the frame
  let off : Nat := t.ltc.toNat - targetNs (m.fr.sec * 14400 + m.fr.fcnt)
  let k := if t.kind = 1 then min 10 (off * 144 / 1000000) else 0
  let m := if trEn && !busy then
      m.updDr (fun d => { d with trStopAt := some (m.fld .drTrCfg F.drTrCfg_VALUE + k), trRec := some b.recNo })
    else m
  let last := m.fr.fseq + wd m.drPost - 1
  let last := if 36000 ≤ sdiff32 last b.firstFseq then b.firstFseq + 35999 else last
  let run : DrRun := { body := { b with trMissed := trEn && busy }, endFseq := last, want := last,
                       done := decide (last = m.fr.fseq) }
  (m.updDr (fun d => { d with run := some run, armed := false, ring := [], nextNo := d.nextNo + 1 })).emit .drTrig b.recNo

/-- A continuation begins with the present row (R650), in which a trigger counts and, with RETRIG, moves the end. It names its predecessor's first
trigger (log entry 63). -/
def drContinue (m : Mach) (row : DrRow) (p : DrRun) (trig : Option DrTrig) : Mach :=
  let m := m.drFinish
  if !m.recs.dr.armed then m
  else
    let b := m.drOpen [row] false true p.body.recNo none p.body.trigKind p.body.trigArg
    let b := { b with nTrig := bit trig.isSome, test := trig.any (·.test), trigLtc := p.body.trigLtc, trigFseq := p.body.trigFseq }
    let want := if trig.isSome && m.flag .drCtrl F.drCtrl_RETRIG then m.fr.fseq + wd m.drPost - 1 else p.want
    let last := if 36000 ≤ sdiff32 want b.firstFseq then b.firstFseq + 35999 else want
    let run : DrRun := { body := b, endFseq := last, want := want, done := decide (last = m.fr.fseq) }
    (m.updDr (fun d => { d with run := some run, armed := false, ring := [], nextNo := d.nextNo + 1 })).emit .drTrig b.recNo

/-- The row of the frame that ends is stored, and triggers of that frame are taken (R647 to R651). Before LTC, FSEQ and the
images of the next frame. -/
def drRowStore (m : Mach) : Mach :=
  if !m.flag .drCtrl F.drCtrl_EN || !m.fr.started then m
  else
    let f := m.fr.fseq
    let mine := m.recs.dr.trigPend.filter (fun t => decide (sdiff32 t.fseq f ≤ 0))
    let m := m.updDr (fun d => { d with trigPend := d.trigPend.filter (fun t => !decide (sdiff32 t.fseq f ≤ 0)) })
    let trig := mine.head?.map (fun t => { t with fseq := f, test := mine.all (·.test) })
    let row := m.drRow trig.isSome (trig.any (·.test))
    match m.recs.dr.run with
    | some r =>
      if !r.done then
        let b := { r.body with rows := r.body.rows ++ [row], step := r.body.step || m.fr.stepped,
                               nTrig := r.body.nTrig + bit trig.isSome, test := r.body.test || trig.any (·.test) }
        let want := if trig.isSome && m.flag .drCtrl F.drCtrl_RETRIG then f + wd m.drPost - 1 else r.want
        let cap := b.firstFseq + 35999
        let last := if 0 < sdiff32 want cap then cap else want
        let r := { r with body := b, want := want, endFseq := last, done := decide (last = f) }
        m.updDr (fun d => { d with run := some r, ring := [] })
      else if 0 < sdiff32 r.want r.endFseq then m.drContinue row r trig
      else match trig with
        | some t =>
          let ring := m.recs.dr.ring
          let m := m.drFinish
          if m.recs.dr.armed then (m.updDr (fun d => { d with ring := ring })).drStart row t else m.bump .drMissed F.drMissed_VALUE 1
        | none => m.updDr (fun d => { d with ring := (d.ring ++ [row]).drop ((d.ring.length + 1) - 7200) })
    | none =>
      if m.recs.dr.armed then
        match trig with
        | some t => m.drStart row t
        | none => m.updDr (fun d => { d with ring := (d.ring ++ [row]).drop ((d.ring.length + 1) - 7200) })
      else if trig.isSome then m.bump .drMissed F.drMissed_VALUE 1
      else m

/-- The record has its last row (R649). -/
def drRecordEnd (m : Mach) : Mach :=
  match m.recs.dr.run with
  | none => m
  | some r =>
    if r.done && decide (sdiff32 r.want r.endFseq ≤ 0) && decide (m.recs.dr.trRec ≠ some r.body.recNo) then
      let ring := m.recs.dr.ring
      let m := m.drFinish
      if m.recs.dr.armed then m.updDr (fun d => { d with ring := ring }) else m
    else m

-- Transient capture (R149, R654)

/-- A frame's stage-2 outputs of the ports go into the ring. The trigger's own output is the last. -/
def trAppend (m : Mach) (outs : List (Nat × List Int)) : Mach :=
  let d := m.recs.dr
  if !m.flag .drCtrl F.drCtrl_EN || !m.flag .drCtrl F.drCtrl_TR_EN || d.trStopped || decide (d.trStopAt = some 0) then m
  else
    let n := match d.trStopAt with
      | some k => min 10 k
      | none => 10
    -- a port that gives no output in the frame has zeros in their places; one that is not enabled leaves once nothing else is left of it
    let add := fun (l : List (Nat × List Int)) (p : Nat × List Int) =>
      let old := SMap.getD l p.1 []
      let x := old ++ (if p.2.isEmpty then List.replicate n 0 else p.2.take n)
      let x := x.drop (x.length - 7200)
      if m.portEn p.1 || x.any (fun v => decide (v ≠ 0)) then SMap.put l p.1 x else SMap.del l p.1
    let now := targetNs (m.fr.sec * 14400 + m.fr.fcnt)
    m.updDr (fun d => { d with
      trRing := outs.foldl add d.trRing
      trStopAt := d.trStopAt.map (fun k => k - n)
      trLast := tm (now - (10 - n) * 625000 / 90) })

/-- The transient ring stops (R654). -/
def trStop (m : Mach) : Mach :=
  if m.recs.dr.trStopAt = some 0 then m.updDr (fun d => { d with trStopAt := none, trStopped := true }) else m

/-- The copy is done and the ring starts again (R149, R654): 7200 outputs of each port, zeros where the ring held fewer. -/
def trCopyDone (m : Mach) : Mach :=
  let d := m.recs.dr
  if !d.trStopped then m
  else match d.trRec with
    | none => m
    | some n =>
      let sec : TrSection := d.trRing.map (fun p => (p.1, List.replicate (7200 - p.2.length) 0 ++ p.2))
      let first : Int := (d.trLast.toNat : Int) - 7199 * 62500 / 9 - 57210
      let put (r : DrRec) : DrRec :=
        if r.recNo = n then
          { r with tr := sec, trFirst := BitVec.ofInt 64 first, trPorts := bitsOf 16 (fun p => sec.any (fun x => x.1 = p)) }
        else r
      m.updDr (fun d => { d with
        stored := d.stored.map put
        run := d.run.map (fun (r : DrRun) => { r with body := put r.body })
        trRing := [], trStopped := false, trRec := none })

end Mach

-- Octets of a record (R647, R656, R658)

/-- A signed number in n octets. -/
def sBytes (n : Nat) (x : Int) : List Byte := beBytes n (toBits (8 * n) x)

def DrRow.bytes (r : DrRow) : List Byte :=
  beBytes 4 r.fseq.toNat ++ beBytes 4 r.flags ++ r.vals.flatMap (sBytes 3) ++ r.quals.flatMap (beBytes 1) ++
    (List.range 16).flatMap (fun i => beBytes 1 (bitsOf 8 (fun k => r.bins.getD (8 * i + k) false)))

def DrRec.header (r : DrRec) : List Byte :=
  let flags := bit r.test + 2 * bit r.linked + 4 * bit r.trMissed + 8 * bit r.damaged + 16 * bit r.step + 32 * bit r.preShort
  let nAn := (r.rows.head?.map (·.vals.length)).getD 0
  let h := beBytes 4 0x474C4452 ++ beBytes 2 1 ++ beBytes 2 flags ++ beBytes 4 r.recNo ++ beBytes 4 r.prevRec ++
    beBytes 4 (r.trigKind * 2 ^ 24 + r.trigArg % 2 ^ 24) ++ beBytes 4 r.nTrig ++ beBytes 8 r.trigLtc.toNat ++
    beBytes 4 r.trigFseq.toNat ++ beBytes 4 r.firstFseq.toNat ++ beBytes 4 r.rows.length ++ beBytes 4 r.nPre ++
    beBytes 8 r.firstInstant.toNat ++ beBytes 1 r.dAlign ++ beBytes 1 nAn ++ beBytes 2 (24 + 4 * nAn) ++
    beBytes 4 r.stepFseq.toNat ++ beBytes 8 r.stepEff.toNat ++ beBytes 8 r.trFirst.toNat ++ beBytes 2 r.trPorts ++
    beBytes 2 (if r.tr.isEmpty then 0 else 7200) ++ zeros 44 ++
    r.anTable.flatMap (fun x => beBytes 1 x.1 ++ beBytes 1 x.2.1 ++ beBytes 1 x.2.2.1 ++ [0] ++ beBytes 4 x.2.2.2.1.toNat ++
      beBytes 4 x.2.2.2.2.toNat) ++
    r.binTable.flatMap (fun w => beBytes 4 w.toNat) ++
    (List.range 11).flatMap (fun i => beBytes 2 (r.blocks.getD i 0xFFFF)) ++ zeros 2662
  h ++ beBytes 4 (crc32c h).toNat

def DrRec.bytes (r : DrRec) : List Byte :=
  r.header ++ r.rows.flatMap DrRow.bytes ++ r.tr.flatMap (fun p => p.2.flatMap (sBytes 4))

end Sys2Proof.Machine
end

