-- ==== Sys2Proof/Machine/Health.lean ====
section
/-! DEFINITION. Health (16): SRAM errors, HEALTH and its deductions, the carousel, retests and unfencing; the VCORE loop (02 R71 to
R73) and the temperatures (19 R784). -/

namespace Sys2Proof.Machine

namespace Mach

/-- Health data changed. -/
def updHlth (m : Mach) (f : Hlth → Hlth) : Mach := { m with hlth := f m.hlth }
def updCar (m : Mach) (f : Car → Car) : Mach := m.updHlth (fun h => { h with car := f h.car })

/-- A maintenance activity of a kind runs on a target. -/
def maintOn (m : Mach) (act target : Nat) : Bool := m.cmd.maint.any (fun x => decide (x.act = act ∧ x.target = target))

-- SRAM errors (R33, R34, R701)

/-- The owner of an SRAM region (R34): the engine for its local, the writer of a shared region, which of a bay's result block is the engine
that the map names, the logic engine for its task's area; every other region is the RMC's. -/
def sramOwner (m : Mach) (r : SramRegion) : SramOwner :=
  match r with
  | .engineLocal e => .dom e
  | .bayResult b => .dom (m.engOf b)
  | .zoneLocal | .zoneResult => .dom 34
  | .logic t => .dom (35 + t)
  | .secPrivate => .sec
  | .alignRing | .svStaging | .signalImage | .stitchStaging | .mirrorAssembly | .transient | .analogueStaging | .binaryStaging
  | .packetBuffers | .rmcLocal | .pocket | .coalescing | .domainState | .systemTables => .rmc

/-- A corrected or uncorrectable SRAM error (R33, R34, R701). A corrected one changes no word. A read that meets an uncorrectable one returns
no data: it fences its owner at once, of a bay or juggler engine as a stall, so that nothing computed from it counts. -/
def sramError (m : Mach) (r : SramRegion) (uncorr : Bool) : Mach :=
  match m.sramOwner r with
  | .rmc => let m := m.rmcErr 1; if uncorr then m.updHlth (fun h => { h with rmcLasting := true }) else m
  | .sec => m.secErr 1
  | .dom d =>
    if 132 ≤ d then m
    else if !uncorr then m.domErr d .eccCorr
    else
      let x := m.dom d
      let m := m.setDom d { x with errs := m.inWindow x.errs ++ [m.mon], total := x.total + 1 }
      if d < 34 then m.engStall d .eccUncorr else m.fenceNow d .eccUncorr

/-- The RMC watchdog expires (R704). -/
def rmcWatchdog (m : Mach) : Mach := m.rmcErr (m.fld .hltWin F.hltWin_N)

-- HEALTH (R712 to R714)

/-- A zero condition of its own kind: a lasting RMC or SEC fault. -/
def zeroFault (m : Mach) : Bool := m.hlth.rmcLasting || m.hlth.secLasting

/-- PROTECTION_READY has been reached since the last start. -/
def protReady (m : Mach) : Bool := m.flag .glbStat F.glbStat_PROT_READY

/-- A feed at 16.8 V or more that is not PROVEN (R616, R620). -/
def Feed.unproven (f : Feed) : Bool :=
  match f.st with
  | .present | .proving => true
  | .failed => decide (16800 ≤ f.mv)
  | .absent | .proven => false

/-- The deductions that apply, by bit (table after R714). -/
def deductions (m : Mach) : List (Nat × Nat) :=
  let n (l : List Nat) : Nat := (l.filter m.fenced).length
  let from_ (a k : Nat) : List Nat := (List.range k).map (· + a)
  let pass := (m.pair.role = .standby ∨ m.pair.role = .orphan) ∧ m.pair.otest.passed < 16
  [(0, 2 * ((List.range 32).filter (fun b => m.fenced b && decide (32 ≤ m.engOf b) && !(m.bay b).unprot)).length),
   (1, 8 * ((List.range 32).filter (fun b => (m.bay b).unprot)).length),
   (2, bit (m.fenced 33 || m.carriesFenced 33)),
   (3, bit (m.fenced 32 || m.carriesFenced 32 || m.hlth.car.paused)),
   (4, 6 * n [34]), (5, 2 * n (from_ 35 4)), (6, 8 * n [47]), (7, 2 * n [45, 46]), (8, 2 * n (from_ 48 4)),
   (9, min 4 (n (from_ 52 16))), (10, min 4 (n (from_ 68 64))), (11, n (from_ 39 4)), (12, 2 * n [43, 44]),
   (13, 2 * bit (decide (m.recs.active = 2))),
   (14, 3 * bit (match m.hlth.atMaxShort with
     | some t => decide (m.since t ≤ 60000000000)
     | none => false)),
   (15, 4 * bit m.fabric),
   (16, bit (Feed.unproven m.power.feedA) + bit (Feed.unproven m.power.feedB)),
   (17, 2 * bit (decide (m.fld .pairOtest F.pairOtest_FAIL ≠ 0))),
   (18, bit (decide pass))]

/-- The sum D. -/
def deductSum (m : Mach) : Nat := m.deductions.foldl (fun a p => a + p.2) 0

/-- HEALTH disregarding PROTECTION_READY, as a claim in INIT carries it (R579). -/
def healthInit (m : Mach) : Nat := if m.zeroFault then 0 else max 1 (15 - m.deductSum)

/-- HEALTH set at a frame trigger (R712). -/
def healthUpdate (m : Mach) : Mach :=
  let zero := m.zeroFault || !m.protReady
  let l := m.deductions
  let d := l.foldl (fun a p => a + p.2) 0
  let src := l.foldl (fun a p => if p.2 = 0 then a else a + 2 ^ p.1) 0
  let m := m.setF .hltStat F.hltStat_HEALTH (if zero then 0 else max 1 (15 - d))
  let m := (m.setF .hltStat F.hltStat_ZERO (bit zero)).setF .hltStat F.hltStat_DEDUCT (min d 255)
  m.wr .hltDeductSrc (wd src)

/-- FAULT_N (R714). -/
def setFault (m : Mach) : Mach :=
  let f := m.zeroFault || m.start.bootFail || m.posConflict || (List.range 32).any (fun b => (m.bay b).unprot)
  { m with pins := { m.pins with faultN := !f } }

-- Carousel (R715 to R720)

/-- An engine in service begins its carousel test (R696). -/
def carTest (m : Mach) (e : Nat) : Mach :=
  if (m.dom e).st = 0 then m.setDom e { m.dom e with st := 3 } else m

/-- Engine e's test is given up without an error (R706, and a juggler engine that must take a bay). -/
def carAbandon (m : Mach) (e : Nat) : Mach :=
  if (m.dom e).st = 3 then m.setDom e { m.dom e with st := 0 } else m

/-- A juggler engine with no bay runs its test (R717). -/
def jugglerTest (m : Mach) (j : Nat) : Mach := if (m.bayOn j).isNone then m.carTest j else m

/-- A slot begins (R715 to R720), its subject e, whether the rotation moves on. -/
def carSlotOf (m : Mach) (e : Nat) : Mach :=
  let m := m.updCar (fun c => { c with slot := e, slotMon := m.mon, phase := 0 })
  let m := m.jugglerTest 33
  if 32 ≤ e ∨ m.fenced e then m.jugglerTest 32
  else if m.hlth.car.paused || m.fenced 32 || m.carriesFenced 32 then m.jugglerTest 32
  else if (m.bayOn 32).isSome || m.fr.moves.any (fun v => decide (v.dst = 32 ∨ v.bay = e)) then m
  else if (m.bay e).mode = 0 then ((m.carTest e).updCar (fun c => { c with phase := 2 })).jugglerTest 32
  else
    ((m.addMove { bay := e, dst := 32, why := .carousel, copied := false, notBefore := m.fr.fseq + 1 }).updCar
      (fun c => { c with phase := 1 }))

/-- A carousel slot is due (R715, R719, R720). -/
def carSlot (m : Mach) : Mach :=
  let c := m.hlth.car
  if !c.running || decide (m.since c.slotMon < m.fld .hltCarCtrl F.hltCarCtrl_PERIOD * 1000000000) then m
  else
    let paused := m.cmd.maint.any (fun x => decide (x.act = 4))
    match c.nextReq with
    | some e => (m.updCar (fun c => { c with paused := paused, nextReq := none })).carSlotOf e
    | none =>
      let e := c.rotEng
      let m := m.updCar (fun c => { c with paused := paused, rotEng := (e + 1) % 32 })
      let m := if e = 0 then m.setF .hltCarStat F.hltCarStat_ROT ((m.fld .hltCarStat F.hltCarStat_ROT + 1) % 256) else m
      m.carSlotOf e

/-- The carousel starts at PROTECTION_READY with the slot of BE0 (R715). -/
def carStart (m : Mach) : Mach :=
  let p := m.cmd.maint.any (fun x => decide (x.act = 4))
  (m.updCar (fun c => { c with running := true, rotEng := 1, nextReq := none, paused := p })).carSlotOf 0

/-- A failed carousel test (R718): the engine is fenced with the error counted. -/
def carFail (m : Mach) (e : Nat) : Mach :=
  let x := m.dom e
  let m := m.setDom e { x with st := 0, errs := m.inWindow x.errs ++ [m.mon], total := x.total + 1 }
  let m := (m.fenceNow e .carTest).emit .carFail e
  (m.bump .hltCarFails F.hltCarFails_COUNT 1).setF .hltCarStat F.hltCarStat_LAST_FAIL e

/-- The carousel test of engine e completes (R716 to R718, R707): a bay on JE0 goes back, or on to JE1. -/
def carTestDone (m : Mach) (e : Nat) (pass : Bool) : Mach :=
  if (m.dom e).st ≠ 3 then m
  else
    let away := decide (e < 32) && decide (m.engOf e = 32)
    if pass then
      let m := m.setDom e { m.dom e with st := 0 }
      if away then
        (m.addMove { bay := e, dst := e, why := .carReturn, copied := false, notBefore := m.fr.fseq + 1 }).updCar
          (fun c => { c with phase := 3 })
      else if e = m.hlth.car.slot then m.updCar (fun c => { c with phase := 0 }) else m
    else
      let m := m.carFail e
      let m := if e = m.hlth.car.slot then m.updCar (fun c => { c with phase := 0 }) else m
      if away && m.jugglerOk 33 && (m.bayOn 33).isNone then
        m.addMove { bay := e, dst := 33, why := .carFail, copied := false, notBefore := m.fr.fseq + 1 }
      else m

/-- NEXT_REQ (R719). -/
def carNext (m : Mach) : Mach := m.updCar (fun c => { c with nextReq := some (m.fld .hltCarCtrl F.hltCarCtrl_NEXT_ENG) })

-- Retest and unfencing (R709 to R711)

/-- An input group back in service starts with filtered OFF (R711). -/
def diGroupReset (m : Mach) (g : Nat) : Mach :=
  forEach ((List.range 8).map (· + 8 * g)) m (fun m x => m.updDi x (fun d => { d with tension := 0, filt := false }))

/-- A domain without retest returns to service (R711). -/
def unfenceUnit (m : Mach) (d : Nat) : Mach :=
  if d < 39 then m
  else if d < 43 then m.laneUnfence (d - 39)
  else if d < 45 then m
  else if d < 48 then
    let ys := if d = 45 then List.range 8 else if d = 46 then [8, 9, 10, 11] else []
    forEach (ys.filter m.cmdOn) m (fun m y => m.updDo y (fun x => { x with wait := true }))
  else if d < 52 then m.diGroupReset (d - 48)
  else if d < 68 then (if m.portEn (d - 52) then m.portReset (d - 52) else m)
  else
    m.updSub (d - 68) (fun x => if x.st = 0 then x else { x with st := 1, wasLost := false, hist := [], run := 0, ents := [] })

/-- An accepted unfence request (R709 to R711). -/
def unfence (m : Mach) (d : Nat) : Mach :=
  let x := { m.dom d with errs := [] }
  if d ≤ 38 then m.setDom d { x with st := 2 }
  else ((m.setDom d { x with st := 0 }).emit .domUnfenced d).unfenceUnit d

/-- What a passed retest gives back: a bay engine its bay at the next frame boundary, a task STOPPED, the zone engine a
fresh start of its timers and latches, from the next frame on and with no order of before the fence (R315, R438, R710). -/
def retestBack (m : Mach) (d : Nat) : Mach :=
  if d < 32 then
    (m.dropMoves d).addMove { bay := d, dst := d, why := .retest, copied := (m.bay d).unprot, notBefore := m.fr.fseq + 1 }
  else if d < 34 then m
  else if d = 34 then
    { m with zone := { m.zone with d := ZoneD.init, next := none, after := none, res := { m.zone.res with orders := [], zsiBlk := [] } },
             fr := { m.fr with zeBack := true } }
  else if (m.tasks[d - 35]?).map (·.st) = some .fenced then (m.setTask (d - 35) .stopped).emit .logicUnfenced (d - 35)
  else m

/-- The image that engine or task d runs has been verified (R17, R734): kind 3 of BE, JE and ZE, kind 2 of LE. -/
def domImage (m : Mach) (d : Nat) : Bool := m.start.booted.contains (if d < 35 then 3 else 2)

/-- A retest completes (R710). An engine that no verified image is there for is not released to run the test set and does not pass. -/
def retestDone (m : Mach) (d : Nat) (pass : Bool) : Mach :=
  let x := m.dom d
  if x.st ≠ 2 then m
  else if pass && m.domImage d then ((m.setDom d { x with st := 0 }).emit .domUnfenced d).retestBack d
  else
    let m := m.setDom d { x with st := 1, errs := m.inWindow x.errs ++ [m.mon], total := x.total + 1, fenceLtc := m.ltc }
    (m.emitW .domFenced d [wd ErrSrc.carTest.code]).emit .domRetestFail d

-- Scrub, temperatures, VCORE

/-- An MRAM scrub completes with n uncorrectable words (R725, R727). -/
def scrubDone (m : Mach) (b n : Nat) : Mach :=
  if m.maintOn 5 b then
    let m := (List.range n).foldl (fun (m : Mach) _ => m.domErr (43 + b) .mramCtl) m
    m.maintEndOf 5 b 0
  else m

/-- The temperatures read (R784): ASIC, lane island, field stages, power stage, in °C. -/
def tempRead (m : Mach) (t : List Int) : Mach :=
  let at_ (i : Nat) : Int := clampI (-128) 127 (t.getD i 0)
  let m := m.wr .hltTemp (wd (((List.range 4).foldl (fun (a : Nat) i => a * 256 + toBits 8 (at_ i)) 0)))
  let hi := (List.range 4).any (fun i => decide (115 ≤ at_ i))
  let cool := (List.range 4).all (fun i => decide (at_ i < 105))
  if !m.hlth.tempHigh && hi then (m.updHlth (fun h => { h with tempHigh := true })).emit .tempHigh 0
  else if m.hlth.tempHigh && cool then (m.updHlth (fun h => { h with tempHigh := false })).emit .tempOk 0
  else m

/-- The VCORE loop's tick (R71 to R73): 144 frames since the last. An interval without a slack holds. -/
def vcoreTick (m : Mach) : Mach :=
  if !m.fr.vcoreOn || decide (m.fr.vcoreCnt < 144) then m
  else
    let mv := m.fld .vcoreStat F.vcoreStat_VCORE_MV
    let low := match m.fr.worst with
      | some r => decide (r < 1 / 4)
      | none => false
    let high := match m.fr.worst with
      | some r => decide (35 / 100 ≤ r)
      | none => false
    let new := if m.fr.lateInt || low then min 900 (mv + 5) else if high then max 700 (mv - 5) else mv
    let m := { m with fr := { m.fr with vcoreCnt := 0, worst := none, lateInt := false } }
    let m :=
      if mv = 900 ∧ low then
        ((m.setF .vcoreStat F.vcoreStat_AT_MAX_SHORT 1).updHlth (fun h => { h with atMaxShort := some m.mon })).emit .vcoreLimit 0
      else m
    ((m.setF .vcoreStat F.vcoreStat_VCORE_MV new).setF .vcoreStat F.vcoreStat_AT_MAX (bit (decide (new = 900)))).setF .vcoreStat
      F.vcoreStat_AT_MIN (bit (decide (new = 700)))

end Mach

end Sys2Proof.Machine
end

