-- ==== Sys2Proof/Machine/Pair.lean ====
section
/-! DEFINITION. The pair (13): claims, roles, heartbeat, takeover, switchover, M0 and M1 data, the standby's output test, power
feeds. -/

namespace Sys2Proof.Machine

/-- EPOCH and HEALTH of a claim (R575). -/
def claimEpoch (c : Word) : BitVec 16 := c.extractLsb' 16 16
def claimHealth (c : Word) : Nat := (c.extractLsb' 12 4).toNat

/-- Frames from one TAG to another, within the span a TAG can name (R603). -/
def tagDiff (a b : Word) : Nat :=
  let no (w : Word) : Nat := w.toNat / 16384 * 14400 + w.toNat % 16384
  (no a + 2 ^ 18 * 14400 - no b) % (2 ^ 18 * 14400)

namespace Mach

/-- Pair data changed. -/
def updPair (m : Mach) (f : Pair → Pair) : Mach := { m with pair := f m.pair }

-- Roles

/-- The role changes; sessions with flag bit 2 are told (R586, R677). -/
def setRole (m : Mach) (r : Role) : Mach :=
  if m.pair.role = r then m
  else
    let old := m.pair.role
    let m := m.updPair (fun p => { p with role := r })
    m.notifyAll (fun s => s.flags.testBit 2) 6
      (beBytes 1 old.code ++ beBytes 1 r.code ++ [0, 0] ++ beBytes 4 m.ownClaim.toNat)

/-- SYNC_REQ sent; SYNC and what counts towards it are cleared (R609). -/
def syncReqSend (m : Mach) : Mach :=
  (m.updPair (fun p => { p with sync := false, full := false, fullM1 := false, m0Good := 0, syncReqPend := false })).pairSend
    m.tagNow .syncReq

/-- The own EPOCH follows a peer claim in STANDBY and ORPHAN (R579). -/
def epochFollow (m : Mach) (c : Word) : Mach := m.updPair (fun p => { p with epoch := claimEpoch c - 1 })

/-- At least one feed is PROVEN (R618). -/
def feedProven (m : Mach) : Bool := decide (m.power.feedA.st = .proven) || decide (m.power.feedB.st = .proven)

/-- Entry to INIT (R586, R587): listening begins. -/
def enterInit (m : Mach) : Mach :=
  if m.feat 3 && decide (m.pair.role = .single) && m.feedProven then
    (m.updPair (fun p => { p with epoch := 0, listenMon := if 4 ≤ m.start.phase then some m.mon else none,
                                  otest := { p.otest with run := none, passed := 0 }, everSync := false, hbAnyMon := none })).setRole
      .init
  else m

/-- INIT ends in ACTIVE with an EPOCH (R579, R586). A POS conflict forbids it (R578). -/
def toActive (m : Mach) (epoch : BitVec 16) : Mach :=
  if m.posConflict then m
  else ((m.updPair (fun p => { p with epoch := epoch, listenMon := none })).setRole .active).doSync

/-- Cycles in progress end and what an acting unit repeats stops (R588). -/
def standDown (m : Mach) : Mach :=
  let m := forEach (List.range 4) m (fun m t =>
    let w := (m.tasks[t]?).bind (·.stopWait)
    (m.updTask t (fun x => { x with cyc := none, waiting := [], stopWait := none })).completeO w (reasonStatus 6) 0 0 m.ltc 0)
  { m with stu := { m.stu with cmds := [], aborts := [], deferLogic := [] } }

/-- Demotion (R595): class A stitches past their T_C are carried out, the others dropped (R326, R328). -/
def demote (m : Mach) (c : Word) : Mach :=
  let m := ((m.commitPast).dropWhere (fun _ => true) 6).standDown
  let m := (m.updPair (fun p => { p with sync := false, everSync := false, syncReqPend := true, m0Last := none, m0Pend := none,
                                         m0Part := none, m0Good := 0, full := false, fullM1 := false, switchTag := none,
                                         refused := false, mirF := none })).epochFollow c
  ((m.setRole .standby).doSync).emit .pairDemoted 0

/-- A higher claim demotes an ACTIVE unit (R595). -/
def demoteIf (m : Mach) (c : Word) : Mach :=
  if m.pair.role = .active ∧ claimHigher c m.ownClaim then m.demote c else m

-- Claim line (R580 to R582)

/-- The next claim word is due: 64 µs after the last (R621). -/
def claimDue (m : Mach) : Bool := match m.pair.claimMon with
  | some t => decide (usNs 64 ≤ m.since t)
  | none => true

/-- One claim word sent every 64 µs in STANDBY, ORPHAN and ACTIVE (R580, R582), as the 64 bits in the order sent; SYNC is given by the six
bits after its code violation. -/
def claimSend (m : Mach) : Mach :=
  if !m.feat 3 || !(m.passive || decide (m.pair.role = .active)) || !m.claimDue then m
  else
    let c := m.ownClaim.toNat
    let s := m.pair.claimSeq
    let w := 0x31 * 2 ^ 56 + c * 2 ^ 24 + s * 2 ^ 16 + (crc8 (beBytes 4 c ++ beBytes 1 s)).toNat * 256 + 0xFF
    (m.updPair (fun p => { p with claimSeq := (s + 1) % 256, claimMon := some m.mon })).send (.claim w)

/-- A claim word received (R578 to R581, R595). `syncOk` tells that its SYNC is correct. -/
def claimRx (m : Mach) (syncOk : Bool) (c : Word) (seq crc : Nat) : Mach :=
  if !m.feat 3 then m
  else if !syncOk || decide (crc ≠ (crc8 (beBytes 4 c.toNat ++ beBytes 1 seq)).toNat) then
    m.bump .pairCntClmerr F.pairCntClmerr_COUNT 1
  else
    let m := m.updPair (fun p => { p with peer := some c, peerOn := true, peerMon := m.mon })
    let own := c.getLsbD 0 == m.pins.psA
    let n := if own then min 3 (m.pair.ownPos + 1) else 0
    let had := m.posConflict
    let m := m.updPair (fun p => { p with ownPos := n, posGone := if own then m.mon else p.posGone,
                                          posConf := (p.posConf && had) || decide (n = 3) })
    let m := if !had && decide (n = 3) then m.emit .pairPosConflict 0 else m
    let m := if m.passive then m.epochFollow c else m
    m.demoteIf c

/-- No valid word for CLM_TIMEOUT, 500 µs (R581). -/
def claimTimeout (m : Mach) : Mach :=
  if m.since m.pair.peerMon < usNs 500 then m else m.updPair (fun p => { p with peerOn := false })

-- Heartbeat

/-- The heartbeat of the frame (R587, R590, R596). -/
def hbSend (m : Mach) : Mach :=
  let r := m.pair.role
  if r = .single ∨ (r = .active ∧ m.health = 0) then m
  else
    let c := if r = .init then m.claimOf 0 m.healthInit else m.ownClaim
    let h : Hb := { role := r, sync := m.pair.sync, m2Pending := decide (r = .active) && (!m.pair.m2Defer.isEmpty || m.pair.passDue),
                    switchAnn := decide (r = .active) && m.pair.switchTag.isSome, claim := c,
                    switchTag := if r = .active then m.pair.switchTag.getD 0 else 0, tag := m.tagNow }
    m.pairSend m.tagNow (.hb h)

/-- A pair-link frame's sequence number taken. -/
def pairRx (m : Mach) (seq : Word) : Mach := m.updPair (fun p => { p with rxSeq := some seq })

/-- A heartbeat received (table of R586, R579, R595, R597, R612). -/
def hbRecv (m : Mach) (seq : Word) (h : Hb) : Mach :=
  if !m.feat 3 then m
  else
    let m := m.pairRx seq
    let last := m.pair.hbLast
    let had := m.pair.hbMon.isSome
    let lost := m.pair.hbLost
    let m := m.updPair (fun p => { p with hbAnyMon := some m.mon })
    let m := if h.role = .init then m
      else m.updPair (fun p => { p with hbMon := some m.mon, hbLost := false, hbLast := some h })
    match m.pair.role with
    | .single => m
    | .init =>
      if !m.feedProven then m
      else if h.role = .active then ((m.epochFollow h.claim).setRole .standby).syncReqSend
      else if h.role = .init then
        let own := m.claimOf 0 m.healthInit
        if claimHigher own h.claim then m.toActive 1
        else if claimHigher h.claim own then ((m.epochFollow h.claim).setRole .standby).syncReqSend
        else m
      else m
    | .standby =>
      if h.role = .init then m
      else
        let m := m.epochFollow h.claim
        let m := m.updPair (fun p => { p with m2Stale := decide (h.role = .active) && h.m2Pending,
                                              switchTag := if h.switchAnn then some h.switchTag else none })
        if m.pair.syncReqPend then m.syncReqSend else m
    | .orphan =>
      if h.role = .init then m
      else
        let m := m.epochFollow h.claim
        let next : Bool := match last with
          | some l => decide (l.role = .active) && decide (tagDiff h.tag l.tag = 1) && !lost
          | none => false
        let n := if h.role ≠ .active then 0 else if next then m.pair.hbRun + 1 else 1
        let m := m.updPair (fun p => { p with hbRun := n, m2Stale := decide (h.role = .active) && h.m2Pending })
        if 10 ≤ n then
          (((m.updPair (fun p => { p with hbRun := 0 })).setRole .standby).syncReqSend).emit .pairRejoin 0
        else m
    | .active =>
      if h.role = .init then m
      else
        let m := if lost && had then m.emit .pairLinkBack 0 else m
        m.demoteIf h.claim

/-- The takeover conditions of the heartbeat and the peer's claim (R591), with the cause: 1 claim absent, 2 its HEALTH lower. -/
def takeCause (m : Mach) : Nat :=
  if !m.pair.hbLost then 0
  else match m.peerClaim with
    | none => 1
    | some c => if claimHealth c < m.health then 2 else 0

/-- Health, SYNC and no POS conflict allow a takeover (R578, R591). -/
def takeAble (m : Mach) : Bool := decide (1 ≤ m.health) && m.pair.everSync && !m.posConflict

/-- No heartbeat of a peer past INIT for HB_TIMEOUT (R586, R590, R609). -/
def hbTimeout (m : Mach) : Mach :=
  if !m.feat 3 || m.pair.hbLost then m
  else match m.pair.hbMon with
    | none => m
    | some t =>
      if m.since t < usNs (100 * m.fld .pairCfg F.pairCfg_HB_TIMEOUT) then m
      else
        let m := (m.updPair (fun p => { p with hbLost := true, hbRun := 0 })).bump .pairCntHblost F.pairCntHblost_COUNT 1
        match m.pair.role with
        | .active => m.emit .pairLinkLost 0
        | .standby =>
          let m := m.updPair (fun p => { p with sync := false, m0Good := 0, full := false, fullM1 := false })
          if decide (m.takeCause ≠ 0) && m.takeAble then m else (m.setRole .orphan).emit .pairOrphan 0
        | .orphan => m.updPair (fun p => { p with sync := false })
        | _ => m

/-- LISTEN ends in INIT without a heartbeat (R586). -/
def listenOver (m : Mach) : Mach :=
  match m.pair.listenMon with
  | none => m
  | some t =>
    if m.pair.role ≠ .init ∨ m.since t < msNs (m.fld .pairCfg F.pairCfg_LISTEN) ∨ m.pair.hbAnyMon.isSome ∨ !m.feedProven then m
    else match m.peerClaim with
      | some c => ((m.epochFollow c).setRole .orphan).emit .pairOrphan 0
      | none => m.toActive 1

-- M0 (R599, R604, R605)

/-- The M0 set of the present frame. -/
def m0Of (m : Mach) : M0Set :=
  { tag := m.tagNow, mon := m.fr.trigMon,
    latch := (List.range 32).map (fun b => (b, m.rd (.bayLatch b))),
    bays := m.bays, zone := m.zone, cmds := m.cmdMask,
    opens := m.stu.opens.filter (fun s => decide (s.st = .prepared ∨ s.st = .bound) && decide (m.ltc < s.tc)),
    lastId := m.stu.lastId, tasks := m.tasks.map (·.st), outs := m.tasks.map (·.out) }

/-- An M0 set is sent after the binding of its frame by an ACTIVE unit; its length is a free value of at most 14 KiB, and with its headers at
most 16 KiB (R606). -/
def m0SendOf (m : Mach) (s : M0Set) : Mach :=
  if m.pair.role ≠ .active ∨ m.pairUp.isEmpty then m
  else
    let (n, m) := m.freeVal
    let n := n % 14337
    let m := m.updPair (fun p => { p with m0Sec := max p.m0Sec (n + 16 * max 1 ((n + 1903) / 1904)) })
    m.pairPut s.tag (.m0 s) n

/-- The M0 set of the present frame (R48). -/
def m0Send (m : Mach) : Mach := m.m0SendOf m.m0Of

/-- Binding completes: that of this frame, or the one still running from the frame before, which the binding of this frame may wait for
(R47, R82). The M0 set of the frame bound and the heartbeat follow (R48, R590). -/
def bindComplete (m : Mach) : Mach :=
  if m.fr.binding && !m.fr.bound then ((m.bindOwn).m0Send).hbSend
  else if m.fr.bindPend then
    let set := m.pair.m0Late
    let m := (m.bindPast).updPair (fun p => { p with m0Late := none })
    ((match set with
      | some s => m.m0SendOf s
      | none => m).hbSend).bindHeldGo
  else m

/-- An incomplete set counted (R604). -/
def m0Bad (m : Mach) : Mach :=
  (m.updPair (fun p => { p with m0Good := 0, m0Part := none })).bump .pairCntM0bad F.pairCntM0bad_COUNT 1

/-- A frame of an M0 set received (R604). A gap in SEQ before or inside the set leaves it incomplete. -/
def m0Frame (m : Mach) (seq tag : Word) (last : Bool) (s : M0Set) : Mach :=
  let gap0 := match m.pair.rxSeq with
    | some x => decide (seq ≠ x + 1)
    | none => false
  let part := m.pair.m0Part
  let m := m.pairRx seq
  if !m.feat 3 || !m.passive then m
  else
    let (m, ok) : Mach × Bool := match part with
      | some (t, q, ok) => if t = tag then (m, ok && decide (seq = q + 1)) else (m.m0Bad, !gap0)
      | none => (m, !gap0)
    if !last then m.updPair (fun p => { p with m0Part := some (tag, seq, ok) })
    else if ok then m.updPair (fun p => { p with m0Part := none, m0Pend := some s, m0Good := p.m0Good + 1 })
    else m.m0Bad

/-- SYNC once everything has been received (R609). -/
def syncCheck (m : Mach) : Mach :=
  let p := m.pair
  if decide (p.role = .standby) && p.full && p.fullM1 && decide (144 ≤ p.m0Good) && !p.sync then
    m.updPair (fun p => { p with sync := true, everSync := true })
  else m

/-- Times of another unit's MON moved to the own. -/
def Demand.shift (d : Demand) (o : Time) : Demand := { d with onMon := d.onMon + o }

/-- The mirrored fields of a bay (R588, R599). -/
def mirrorBay (x s : Bay) (o : Time) : Bay :=
  { x with
    bf := s.bf
    d := { x.d with els := s.d.els, theta := s.d.theta, thSq := s.d.thSq, thOper := s.d.thOper, bf := s.d.bf,
                    trans := s.d.trans, cbOpen := s.d.cbOpen.map (· + o), clpEnd := s.d.clpEnd.map (· + o),
                    effPrev := s.d.effPrev, mot := { s.d.mot with last := s.d.mot.last.map (· + o) } }
    res := { x.res with start := s.res.start, oper := s.res.oper, pos := s.res.pos, eff := s.res.eff }
    dBrk := Demand.shift s.dBrk o, dXfer := Demand.shift s.dXfer o, dOut := s.dOut.map (fun (p : Nat × Demand) => (p.1, Demand.shift p.2 o))
    outLatch := s.outLatch, prevOper := s.prevOper, prevStart := s.prevStart, ownPend := s.ownPend }

/-- A mirrored stitch no longer answers to the other unit's sessions. -/
def mirrorStitch (s : Stitch) (o : Time) : Stitch :=
  { s with castMon := s.castMon + o, opWaiter := none, src := match s.src with
      | .host _ => .host ⟨0, 0, 0⟩
      | .logic t g x => .logic t g (x + o)
      | .engine => .engine }

/-- The mirrored fields of the bays and of the zone are replaced by those of set s, its MON moved by o (R588). -/
def m0State (m : Mach) (s : M0Set) (o : Time) : Mach :=
  let m := forEach s.latch m (fun m l => m.wr (.bayLatch l.1) l.2)
  let m := forEach s.bays m (fun m b => m.updBay b.1 (fun x => mirrorBay x b.2 o))
  let z := s.zone
  { m with zone := { m.zone with
    d := z.d, res := { m.zone.res with start := z.res.start, oper := z.res.oper }, arcHeld := z.arcHeld,
    dOut := z.dOut.map (fun (p : Nat × Demand) => (p.1, Demand.shift p.2 o)), dOrd := z.dOrd, prevStart := z.prevStart, prevOper := z.prevOper } }

/-- At a frame boundary the bays and the zone take the mirrored fields of the newest complete M0 set, a new set or the one before (R262, R588,
R605, R352). -/
def m0Apply (m : Mach) : Mach :=
  if !m.passive then { m with pair := { m.pair with m0Pend := none } }
  else match m.pair.m0Pend with
    | none => match m.pair.m0Last with
      | some s => m.m0State s m.pair.m0Ofs
      | none => m
    | some s =>
      let n := tagDiff m.tagNow s.tag
      let own := if n = 1 then m.fr.prevMon else m.fr.trigMon - tm (n * 625000 / 9)
      let o := own - s.mon
      let m := m.updPair (fun p => { p with m0Pend := none, m0Last := some s, m0Ofs := o, mirF := some (m.fr.fseq - wd n) })
      let m := m.m0State s o
      let m := { m with stu := { m.stu with opens := s.opens.map (fun x => mirrorStitch x o), lastId := s.lastId } }
      let m := m.setF .stuLastId F.stuLastId_ID s.lastId
      let m := forEach (List.range 4) m (fun m t =>
        let m := m.updTask t (fun x => { x with out := s.outs.getD t x.out })
        match m.tasks[t]? with
        | some (x : Task) => if x.st = TaskSt.fenced then m else m.setTask t (s.tasks.getD t x.st)
        | none => m)
      (m.doSync).syncCheck

-- Takeover (R591 to R594)

/-- Motor and cable heat advanced over the frames missed, with THERM_EST set for them (R263, R592). -/
def heatOver (m : Mach) (b missed : Nat) : Mach :=
  let cfg := bayCfg m.set b (m.groupOf b)
  let iref : Rat := ((cfg 0x30 0 1 : Int) : Rat) / 100 * ((cfg 0 0 1 : Int) : Rat)
  let x2 := (m.bay b).d.thSq / (iref * iref)
  let tau : Rat := ((cfg 0x30 0 2 : Int) : Rat) / 10 * 60
  m.updBay b (fun x => { x with pub := { x.pub with thermEst := x.pub.thermEst || decide (0 < missed) }, d := { x.d with
    theta := missed.fold (fun _ _ th => thetaStep th x2 tau) x.d.theta
    mot := if cfg 0 0 0 = 1 then x.d.mot.catchUp cfg missed else x.d.mot } })

/-- The takeover itself at a frame trigger (R592 to R594, R352). -/
def takeover (m : Mach) (missed cause : Nat) : Mach :=
  let set := m.pair.m0Last
  let m := m.updPair (fun p => { p with epoch := p.epoch + 2, refused := false, switchTag := none, syncReqPend := false })
  let m := m.setRole .active
  let m := (m.bump .pairCntTake F.pairCntTake_COUNT 1).setF .pairTakeLast F.pairTakeLast_MISSED (min missed 65535)
  let m := m.setF .pairTakeLast F.pairTakeLast_CAUSE cause
  let m := { m.beacon with net := { m.beacon.net with beaconLast := some m.mon } }
  let m := forEach ((List.range 32).filter (fun b => (m.bay b).mode ≠ 0)) m (fun m b => m.heatOver b missed)
  let m := { m with fr := { m.fr with bindAll := true }, stu := { m.stu with lastId := (m.stu.lastId + 4094) % 65535 + 1 } }
  -- what the other unit's class A commands left (R342)
  let m := match set with
    | some s => forEach (List.range 16) m (fun m y => m.updDo y (fun d => { d with cmdA := s.cmds.testBit y && !m.demandOn y }))
    | none => m
  -- class A stitches whose T_C fell into the gap
  let gone := m.stu.opens.filter (fun s => decide (s.tc ≤ m.ltc))
  let m := forEach gone m (fun m s => m.emit .stitchUncertain s.id)
  let m := { m with stu := { m.stu with opens := m.stu.opens.filter (fun s => !decide (s.tc ≤ m.ltc)) } }
  -- tasks whose mirrored state was RUN start with FIRST_WARM
  let m := forEach (List.range 4) m (fun m t => match m.tasks[t]? with
    | some x => match x.prog with
      | some p =>
        if x.st ≠ .run then m
        else
          let x := { x with cyc := none, lastOverrun := false, ovrRun := 0, waiting := [], lastSnap := 0 }
          match m.pair.m1.getD t none with
          | some d => m.updTask t (fun _ => restoreTask x p d)
          | none => m.updTask t (fun _ => { x with data := coldData p, first := 2 })
      | none => m
    | none => m)
  let m := m.emitW .takeover 0 [wd missed, wd cause]
  let m := if m.pair.m2Stale then m.emit .takeoverStale 0 else m
  m.doSync

/-- Frames missed since the last mirrored one (R592). -/
def missedFrames (m : Mach) : Nat :=
  match m.pair.mirF with
  | some f => (m.fr.fseq - f - 1).toNat
  | none => 0

/-- The takeover decision at a frame trigger (R591). -/
def takeoverCheck (m : Mach) : Mach :=
  if !m.passive then m
  else
    let c := m.takeCause
    if c = 0 then m.updPair (fun p => { p with refused := false })
    else if m.takeAble then m.takeover m.missedFrames c
    else if m.pair.refused then m
    else (m.updPair (fun p => { p with refused := true })).emit .takeoverRefused 0

-- Planned switchover (R597, R598)

/-- The TAG sixteen frames ahead. -/
def switchTagOf (m : Mach) : Word :=
  let f := m.fr.fcnt + 16
  if f < 14400 then tagOf m.fr.sec f else tagOf (m.fr.sec + 1) (f - 14400)

/-- The conditions of a switchover beside the role key (R598). -/
def switchOk (m : Mach) : Bool :=
  decide (m.pair.role = .active) && !m.pair.hbLost &&
  (match m.pair.hbLast with
   | some h => h.sync && decide (1 ≤ claimHealth h.claim)
   | none => false)

def switchAnnounce (m : Mach) : Mach := m.updPair (fun p => { p with switchTag := some m.switchTagOf })

/-- The switch frame (R597). -/
def switchFrame (m : Mach) : Mach :=
  if m.pair.switchTag ≠ some m.tagNow then m
  else if m.pair.role = .standby then
    if m.posConflict then m.updPair (fun p => { p with switchTag := none }) else m.takeover 0 3
  else if m.pair.role = .active then
    let m := m.dropWhere (fun s => decide (s.st = .opened ∨ s.st = .staged)) 6
    let s := m.m0Of
    let m := (m.standDown).updPair (fun p =>
      { p with m0Last := some s, m0Ofs := 0, m0Pend := none, m0Part := none, mirF := some (m.fr.fseq - 1), sync := true, everSync := true,
               switchTag := none })
    let l := m.pair.switchWait
    let m := match m.pair.peer with
      | some c => m.epochFollow c
      | none => m
    let m := forEach l ((m.setRole .standby).doSync) (fun m w => m.complete w 0 0 0 m.ltc 0)
    m.updPair (fun p => { p with switchWait := [] })
  else m.updPair (fun p => { p with switchTag := none })

/-- RESYNC on a STANDBY (R609). -/
def resync (m : Mach) : Mach := if m.pair.role = .standby then m.syncReqSend else m

-- M1 (R607, R609)

/-- A full pass of M1 data. -/
def m1Pass (m : Mach) : Mach :=
  forEach (List.range 4) m (fun m t =>
    match (m.tasks[t]?).bind (retOfTask m.mon) with
    | some d => (m.updPair (fun p => { p with m1 := setAt p.m1 t (some d) })).pairSend m.tagNow (.m1 true (decide (t = 3)) t d)
    | none =>
      if t = 3 then
        m.pairSend m.tagNow (.m1 true true t { crc := 0, k := [], m := [], t := [], c := [], e := [] })
      else m)

/-- Each second an ACTIVE unit sends a full pass (R607). -/
def m1FullPass (m : Mach) : Mach :=
  if m.pair.role = .active ∧ 1000000000 ≤ m.since m.pair.m1Last then (m.m1Pass).updPair (fun p => { p with m1Last := m.mon }) else m

/-- M1 data received by a standby (R594, R607, R609). Words of a full pass replace what was held. -/
def m1Frame (m : Mach) (seq : Word) (full last : Bool) (t : Nat) (d : RetData) : Mach :=
  let m := m.pairRx seq
  if !m.feat 3 || !m.passive then m
  else
    let new : Option RetData := match full, m.pair.m1.getD t none with
      | false, some o => if o.crc = d.crc then some (RetData.merge o d) else some d
      | _, _ => some d
    (m.updPair (fun p => { p with m1 := setAt p.m1 t new, fullM1 := p.fullM1 || (full && last) })).syncCheck

-- The standby's output test (R613 to R615)

/-- The next output's test is due. An output whose gate passes, or under the maintenance output test, is passed over. -/
def otestStart (m : Mach) : Mach :=
  let o := m.pair.otest
  if m.pair.role ≠ .standby ∨ o.run.isSome ∨ m.since o.lastMon < m.fld .pairCfg F.pairCfg_OTEST_PERIOD * 1000000000 then m
  else
    let y := o.next
    let skip := m.gatePass y || m.cmd.maint.any (fun x => decide (x.act = 1))
    m.updPair (fun p => { p with otest :=
      { run := if skip then none else some (y, m.mon), next := (y + 1) % 16, lastMon := m.mon,
        passed := if skip then p.otest.passed + 1 else p.otest.passed } })

/-- A test in progress ends when the stage's gate passes, the maintenance output test runs, or the unit is no longer STANDBY (R613, R614). -/
def otestGate (m : Mach) : Mach :=
  match m.pair.otest.run with
  | none => m
  | some (y, _) =>
    if m.gatePass y || m.cmd.maint.any (fun x => decide (x.act = 1)) || decide (m.pair.role ≠ .standby) then
      m.updPair (fun p => { p with otest := { p.otest with run := none } })
    else m

/-- The stage test is judged after 500 µs (R613, R615) by the current through the test load in µA, whether the demagnetisation clamp worked at
switch-off, and whether the readback was on at any time. -/
def otestEnd (m : Mach) (ua : Nat) (clamp rb : Bool) : Mach :=
  let m := m.otestGate
  match m.pair.otest.run with
  | none => m
  | some (y, t) =>
    if m.since t < usNs 500 then m
    else
      let m := (m.updPair (fun p => { p with otest := { p.otest with run := none, passed := p.otest.passed + 1 } })).setF .pairOtest
        F.pairOtest_LAST y
      if decide (20000 ≤ ua ∧ ua ≤ 30000) && clamp && !rb then m
      else
        let m := m.orW .pairOtest (wd (2 ^ y))
        (m.emit .otestFail y).domErr (doDomain y) .otest

-- Power feeds (R616 to R620)

/-- Feed 0 VFA, 1 VFB. -/
def feed (m : Mach) (f : Nat) : Feed := if f = 0 then m.power.feedA else m.power.feedB
def updFeed (m : Mach) (f : Nat) (g : Feed → Feed) : Mach :=
  { m with power := if f = 0 then { m.power with feedA := g m.power.feedA } else { m.power with feedB := g m.power.feedB } }

/-- A feed's state once it may no longer count as proven. -/
def feedAsIs (x : Feed) (mon : Time) : Feed := if 16800 ≤ x.mv then { x with st := .present, since := mon } else { x with st := .absent }

/-- A feed at 16.8 V or more (R616, R619): off the store the module runs on, and the feeds are PRESENT or ABSENT. -/
def feedPresent (m : Mach) (f mv : Nat) : Mach :=
  if 2 ≤ f ∨ mv < 16800 then m
  else
    let up := decide (16800 ≤ (m.feed f).mv) && decide ((m.feed f).st ≠ .absent)
    let m := m.updFeed f (fun x => { x with mv := min mv 65535 })
    if m.power.onStore then
      let m := (m.updFeed f (fun x => feedAsIs x m.mon)).updFeed (1 - f) (fun x => feedAsIs x m.mon)
      { m with power := { m.power with onStore := false, autoProof := true } }
    else if up then m
    else m.updFeed f (fun x => feedAsIs x m.mon)

/-- A feed's proof fails: the other is unblocked, the activity ends (R616, R617). -/
def feedFail (m : Mach) (f : Nat) : Mach :=
  if (m.feed f).st ≠ .proving then m
  else (m.updFeed f (fun x => { x with st := .failed })).maintEndOf 7 f 0x0205

/-- A feed below 16.8 V (R616, R617). -/
def feedLoss (m : Mach) (f mv : Nat) : Mach :=
  if 2 ≤ f ∨ 16800 ≤ mv then m
  else
    let m := m.updFeed f (fun x => { x with mv := mv })
    if (m.feed f).st = .proving then m.feedFail f
    else m.updFeed f (fun x => if x.st = .failed then x else { x with st := .absent })

/-- A proof begins: the other feed is blocked (R616). -/
def feedProve (m : Mach) (f : Nat) : Mach := m.updFeed f (fun x => { x with st := .proving, proveMon := m.mon })

/-- FEED_T has passed alone on the feed (R616, R618). -/
def feedProofEnd (m : Mach) (f : Nat) : Mach :=
  let x := m.feed f
  if 2 ≤ f ∨ x.st ≠ .proving ∨ m.since x.proveMon < msNs (10 * m.fld .pwrCtrl F.pwrCtrl_FEED_T) then m
  else
    let m := (m.updFeed f (fun x => { x with st := .proven })).maintEndOf 7 f 0
    if m.power.feedA.st ≠ .present ∧ m.power.feedB.st ≠ .present then { m with power := { m.power with autoProof := false } } else m

/-- A feed present for 1 s after a survived hold-up is proved (R618), one at a time. -/
def autoFeedProof (m : Mach) (f : Nat) : Mach :=
  let x := m.feed f
  if f < 2 ∧ m.power.autoProof ∧ x.st = .present ∧ (m.feed (1 - f)).st ≠ .proving ∧ 1000000000 ≤ m.since x.since then m.feedProve f
  else m

/-- The store is drawn: proofs under way fail (R616, R619). -/
def storeDrawn (m : Mach) : Mach :=
  let m := (m.feedFail 0).feedFail 1
  { m with power := { m.power with onStore := true } }

/-- The combined input below 15.5 V for more than 50 µs (R619, R774): the store is drawn, the image is written from CONFIG on. -/
def holdupEvent (m : Mach) : Mach :=
  if m.power.onStore then m
  else
    let m := ((m.storeDrawn).setF .pwrStat F.pwrStat_HOLDUP_SEEN 1).emit .holdup 0
    if m.start.phase < 2 then m else m.retStart true

end Mach

end Sys2Proof.Machine
end

