-- ==== Sys2Proof/Machine/Sec.lean ====
section
/-! DEFINITION. The security engine (17): image verification, boot choice, staging, attestation, roles and keys. -/

namespace Sys2Proof.Machine

/-- Image kinds in the order of verification (R734): SEC 4, RMC 1, BE/JE/ZE 3, LE 2. -/
def bootOrder : List Nat := [4, 1, 3, 2]

/-- SVN of an image's header (R738). -/
def imgSvn (img : List Byte) : Nat := beAt img 7 1

/-- An image's header, body and signature block (R738). -/
def imgHeader (img : List Byte) : List Byte := img.take 128
def imgBodyLen (img : List Byte) : Nat := beAt img 8 4
def imgBody (img : List Byte) : List Byte := (img.drop 128).take (imgBodyLen img)
def imgSig (img : List Byte) : List Byte := img.drop (128 + imgBodyLen img)

/-- Verification of R739 with the result codes of SEC_IMG_k.RESULT: 0 pass, 1 format, 2 digest, 3 rollback, 4 ecdsa, 5 hss, 6 both. -/
def verifyImage (img : List Byte) (kind svnMin : Nat) : Nat :=
  let n := imgBodyLen img
  let sig := imgSig img
  let ePub := sig.take 96
  let hPub := (sig.drop 192).take 60
  let e := Config.ecdsaVerify ePub (Config.sha384 (imgHeader img)) ((sig.drop 96).take 96)
  let h := Config.hssVerify hPub (imgHeader img) ((sig.drop 252).take 1776)
  if beAt img 0 4 ≠ 0x474C4657 ∨ beAt img 4 2 ≠ 1 ∨ (img.drop 64).take 64 ≠ zeros 64 ∨ beAt img 6 1 ≠ kind ∨ n % 4 ≠ 0 ∨
      4194304 < n ∨ img.length ≠ 128 + n + 2028 then 1
  else if Config.sha384 (imgBody img) ≠ beAt img 16 48 then 2
  else if imgSvn img < svnMin then 3
  else if Config.sha384 ePub ≠ Config.fusedEcdsa ∨ Config.sha384 hPub ≠ Config.fusedHss then 1
  else if !e && !h then 6
  else if !e then 4
  else if !h then 5
  else 0

/-- PIDs of a bay or of the zone, ascending (R151). -/
def pidsOf (zone : Bool) : List Nat :=
  (List.range 0x60).flatMap (fun c => (List.range (elemStages c)).flatMap (fun s =>
    ((elemSets c s).map (fun d => pidOf c s d.1)).filter (fun p => (setDef zone p).isSome)))

namespace Mach

/-- Security data changed. -/
def updSec (m : Mach) (f : SecSt → SecSt) : Mach := { m with sec := f m.sec }

/-- An image kind. -/
def imgKind (m : Mach) (k : Nat) : ImgKind :=
  SMap.getD m.sec.kinds k { slots := [], active := 0, running := 0, runHdr := [], staged := none, svnMin := 0 }

/-- An image kind changed. -/
def updImg (m : Mach) (k : Nat) (f : ImgKind → ImgKind) : Mach :=
  m.updSec (fun s => { s with kinds := SMap.put s.kinds k (f (m.imgKind k)) })

/-- A slot of an image kind. -/
def ImgKind.slot (x : ImgKind) (i : Nat) : ImgSlot := x.slots.getD i { img := [], verified := false }

/-- The header of the running image of a kind: a later FW_STAGE may write over its slot. -/
def runImg (m : Mach) (k : Nat) : List Byte := (m.imgKind k).runHdr

/-- SEC_IMG_k follows the store (R756). -/
def secImgShow (m : Mach) (k : Nat) : Mach :=
  let x := m.imgKind k
  let m := m.setF (.secImg k) F.secImg_SVN_RUN (imgSvn (m.runImg k))
  (m.setF (.secImg k) F.secImg_SVN_MIN x.svnMin).setF (.secImg k) F.secImg_SLOT x.running

-- Boot (R734 to R737)

/-- A kind's image runs (R734, R735): the image of slot i. -/
def imgRun (m : Mach) (k i : Nat) : Mach :=
  let m := m.updImg k (fun x => { x with running := i, runHdr := imgHeader (ImgKind.slot x i).img })
  ({ m with start := { m.start with booted := m.start.booted ++ [k] } } : Mach).secImgShow k

/-- A kind boots: the active slot if it verifies, else the other (R735). `bad` are the slots whose flash does not read back as
written. The image that passed R739 when it was staged passes again unless SVN_MIN has risen. -/
def bootKind (m : Mach) (k : Nat) (bad : List (Nat × Nat)) : Mach :=
  let x := m.imgKind k
  let ok (i : Nat) : Bool := (ImgKind.slot x i).verified && decide (x.svnMin ≤ imgSvn (ImgKind.slot x i).img) && !bad.contains (k, i)
  let other := 1 - x.active
  if ok x.active then m.imgRun k x.active
  else if ok other then
    ((m.imgRun k other).setF .secStat F.secStat_FALLBACK 1).emit .fwFallback k
  else
    (({ m with start := { m.start with bootFail := true } } : Mach).updImg k (fun x => { x with runHdr := [] })).emit .bootFail k

/-- SVN_MIN rises to the SVN of the running image (R737). -/
def svnRaise (m : Mach) (k : Nat) : Mach :=
  (m.updImg k (fun x => { x with svnMin := max x.svnMin (imgSvn (m.runImg k)) })).secImgShow k

/-- The HSS index of a restart, and what SEC shows of it (R744, R745). R756 gives SEC_HSS_Q_LO the address of SEC_IMG_4, which
shows SEC_IMG_4 (log entry 26): the low word of q stands in SecSt alone. -/
def hssShow (m : Mach) : Mach :=
  let left := 4096 - m.sec.burned
  let m := m.wr .secHssQHi (wd (m.sec.q / 2 ^ 32))
  (m.wr .secHssBlk (wd left)).setF .secStat F.secStat_HSS_LOW (bit (decide (left < 64)))
def hssRestart (m : Mach) : Mach := (m.updSec (fun s => { s with q := 1024 * s.burned })).hssShow

/-- A kind's image has been verified and runs since this restart (R734). -/
def imgBooted (m : Mach) (k : Nat) : Bool := m.start.booted.contains k

/-- The SEC image boots and raises its minimum, then the other kinds in order, which the SEC verifies: without a verified SEC image none
does (R734 to R737). No RMC image: recovery (R736). -/
def boot (m : Mach) (bad : List (Nat × Nat)) : Mach :=
  let m := ({ m with start := { m.start with bootFail := false, recovery := false, booted := [] } } : Mach).bootKind 4 bad
  let m := if m.imgBooted 4 then forEach (bootOrder.drop 1) (m.svnRaise 4) (fun m k => m.bootKind k bad) else m
  if m.imgBooted 1 || !m.imgBooted 4 then m
  else ({ m with start := { m.start with recovery := true } } : Mach).setF .secStat F.secStat_RECOVERY 1

-- Staging (R735, R738, R740)

/-- Staging of a kind begins: the slot that is not active is written over. -/
def stageBegin (m : Mach) (k : Nat) : Mach :=
  let x := m.imgKind k
  let m := m.updImg k (fun x => { x with slots := setAt x.slots (1 - x.active) { img := [], verified := false }, staged := none })
  if m.fld (.secImg k) F.secImg_STAGED = 1 ∧ x.staged.isSome then m.setF (.secImg k) F.secImg_STAGED 0 else m

/-- The staged image is whole and verified (R740): the result code. -/
def stageEnd (m : Mach) (k : Nat) (img : List Byte) : Nat × Mach :=
  let x := m.imgKind k
  let r := verifyImage img k x.svnMin
  let i := 1 - x.active
  let m := m.updImg k (fun x => { x with slots := setAt x.slots i { img := img, verified := decide (r = 0) },
                                         staged := if r = 0 then some i else none })
  let m := m.setF (.secImg k) F.secImg_RESULT r
  (r, if r = 0 then m.setF (.secImg k) F.secImg_STAGED 1 else m)

/-- The slot staged last becomes active for the next restart (R740): none without a verified staged image. -/
def fwActivate (m : Mach) (k : Nat) : Option Mach :=
  match (m.imgKind k).staged with
  | some i =>
    if (ImgKind.slot (m.imgKind k) i).verified then some ((m.updImg k (fun x => { x with active := i })).setF (.secImg k) F.secImg_STAGED 2)
    else none
  | none => none

-- Attestation (R742 to R748)

/-- Octets that the settings digest covers (R748): PID (2), 0 (2), VALUE (4) as SET_READ gives them, then the active groups (log
entry 9). -/
def setOctets (m : Mach) : List Byte :=
  (List.range 33).flatMap (fun b => (List.range 4).flatMap (fun g => (pidsOf (decide (b = 32))).flatMap (fun p =>
    beBytes 2 p ++ [0, 0] ++ beBytes 4 (toBits 32 (setGet m.set b g p))))) ++
  (List.range 33).flatMap (fun b => beBytes 1 (m.groupOf b))

/-- Octets that the program digest covers (R748). -/
def progOctets (m : Mach) : List Byte :=
  (List.range 4).flatMap (fun t => match (m.tasks[t]?).bind (·.prog) with
    | some p => beBytes 4 p.bytes.length ++ p.bytes
    | none => zeros 4)

/-- A 128-bit feature bitmap as 16 octets, bit 0 the least significant of the last. -/
def featBytes (m : Mach) (r : Nat → Reg) : List Byte := [3, 2, 1, 0].flatMap (fun w => beBytes 4 (m.rd (r w)).toNat)

/-- Bytes 0 to 431 of a report with index q (R747). -/
def reportBody (m : Mach) (nonce : List Byte) (q : Nat) : List Byte :=
  let sealed := m.flag .secStat F.secStat_SEALED
  let flags := bit sealed + 2 * bit (m.flag .glbStat F.glbStat_PRODUCTION) + 4 * bit (m.flag .glbStat F.glbStat_FEAT_DONE) +
    8 * bit m.start.recovery
  beBytes 4 0x474C4154 ++ beBytes 2 1 ++ beBytes 2 flags ++ nonce.take 48 ++ beBytes 4 (m.rd .idSerialHi).toNat ++
    beBytes 4 (m.rd .idSerialLo).toNat ++ beBytes 8 m.ltc.toNat ++ beBytes 4 (m.peek .tbStat).toNat ++
    beBytes 4 m.fr.fseq.toNat ++ beBytes 4 (m.peek .glbStat).toNat ++ beBytes 4 m.ownClaim.toNat ++
    [1, 2, 3, 4].flatMap (fun k => beBytes 48 (Config.sha384 (imgHeader (m.runImg k)))) ++
    [1, 2, 3, 4].flatMap (fun k => beBytes 1 (imgSvn (m.runImg k)) ++ beBytes 1 (m.imgKind k).svnMin) ++
    beBytes 48 (Config.sha384 m.setOctets) ++ beBytes 48 (Config.sha384 m.progOctets) ++ m.featBytes .glbFeatOffer ++
    m.featBytes .glbFeatAcc ++ beBytes 8 q ++ zeros 8

/-- A report is built (R742 to R747): its index q is never used again, its block's fuse burned and the index that follows it kept in
banks A and B first. Both digests are taken at the instant of the request, which stands for the frame boundary of R748 (DESIGN
CHOICE, log entry 9). None when every block is spent (R745). -/
def attest (m : Mach) (nonce : List Byte) : Option (List Byte × Mach) :=
  let q := m.sec.q
  if 4096 * 1024 ≤ q then none
  else
    let m := m.updSec (fun s => { s with
      q := q + 1, burned := max s.burned (q / 1024 + 1),
      qA := if m.fenced 43 then s.qA else q + 1, qB := if m.fenced 44 then s.qB else q + 1 })
    let m := m.hssShow
    let body := m.reportBody nonce q
    let d := Config.sha384 body
    some (body ++ (List.range 96).map (Config.deviceSign d) ++ (List.range 3604).map (Config.hssSign body q), m)

-- Roles (R749 to R753)

/-- Words of maintenance key k as octets. -/
def mkey (m : Mach) (k : Nat) : List Byte := (List.range 24).flatMap (fun w => beBytes 4 (m.rd (.secMkey k w)).toNat)

/-- Key slot k is loaded and not revoked. -/
def mkeyOk (m : Mach) (k : Nat) : Bool :=
  decide (k < 4) && (m.fld .secMkeyCtrl F.secMkeyCtrl_LOADED).testBit k && !(m.fld .secMkeyCtrl F.secMkeyCtrl_REVOKED).testBit k

/-- ROLE_RESPONSEs are locked out (R752). -/
def roleLocked (m : Mach) : Bool :=
  match m.sec.lockEnd with
  | some t => decide (0 < (t - m.mon).toInt)
  | none => false

/-- Lockout ends once 60 s have passed (R752). -/
def roleLockEnd (m : Mach) : Mach :=
  if m.sec.lockEnd.isSome && !m.roleLocked then (m.updSec (fun s => { s with lockEnd := none })).setF .secStat F.secStat_LOCKOUT 0
  else m

/-- A nonce for a session (R749): 32 octets, a free value. -/
def roleChallenge (m : Mach) (num : Nat) : List Byte × Mach :=
  let (x, m) := m.freeVal
  let n := x % 2 ^ 256
  (beBytes 32 n, m.updSess num (fun s => { s with nonce := some (n, m.mon) }))

/-- A session's nonce is older than 60 s (R749). -/
def nonceOld (m : Mach) (t : Time) : Bool := decide (60000000000 < m.since t)

/-- Nonces older than 60 s expire. -/
def nonceExpire (m : Mach) : Mach :=
  forEach m.sessions m (fun m s => match s.nonce with
    | some (_, t) => if m.nonceOld t then m.updSess s.num (fun s => { s with nonce := none }) else m
    | none => m)

/-- A failed ROLE_RESPONSE (R752): the fifth in a row locks responses out for 60 s. -/
def roleFailed (m : Mach) (num : Nat) : Mach :=
  let m := (m.bump .secAuthFail F.secAuthFail_VALUE 1).emit .roleFail num
  let n := m.sec.fails + 1
  if 5 ≤ n then
    (m.updSec (fun s => { s with fails := 0, lockEnd := some (m.mon + 60000000000) })).setF .secStat F.secStat_LOCKOUT 1
  else m.updSec (fun s => { s with fails := n })

/-- A ROLE_RESPONSE (R749 to R752): whether the role is granted. A response uses up the session's nonce. -/
def roleRespond (m : Mach) (s : Session) (role key : Nat) (sig : List Byte) : Bool × Mach :=
  let nonce := match s.nonce with
    | some (n, t) => if m.nonceOld t then none else some n
    | none => none
  let m := m.updSess s.num (fun s => { s with nonce := none })
  let open_ := !m.flag .secStat F.secStat_SEALED && decide (m.fld .secMkeyCtrl F.secMkeyCtrl_LOADED = 0)
  let ok :=
    if key = 255 then open_ && sig.isEmpty
    else match nonce with
      | some n =>
        m.mkeyOk key && Config.ecdsaVerify (m.mkey key) (Config.sha384 (beBytes 4 0x474C4D52 ++ beBytes 32 n ++
          beBytes 4 (m.rd .idSerialHi).toNat ++ beBytes 4 (m.rd .idSerialLo).toNat ++ beBytes 2 s.num ++ beBytes 1 role)) sig
      | none => false
  if ok then
    (true, (m.updSec (fun x => { x with fails := 0 })).updSess s.num (fun s => { s with maint := true, roleKey := key }))
  else (false, m.roleFailed s.num)

/-- SEAL is possible (R754). -/
def sealable (m : Mach) : Bool :=
  decide (m.fld .secMkeyCtrl F.secMkeyCtrl_LOADED ≠ 0) && !m.flag .glbStat F.glbStat_PRODUCTION

/-- The seal fuse burns (R754). -/
def burnSeal (m : Mach) : Mach := (m.setF .secStat F.secStat_SEALED 1).setF .glbStat F.glbStat_SEALED 1

end Mach

end Sys2Proof.Machine
end

