-- ==== Sys2Proof/Machine/LogicLoad.lean ====
section
/-! DEFINITION. Commands to the logic tasks (09 R411, R429, R435, R437, R438, R441, R446, R449 to R455; 18 R770): loading, starting,
stopping, constants, forces. Each answers a status with ARG0, and the state. -/

namespace Sys2Proof.Machine

namespace Mach

/-- A class A stitch of the host, cast on and staged at once; none when no slot is free (R324). -/
def hostStitch (m : Mach) (w : Waiter) (bay : Option Nat) (acts : List Act) : Option (Nat × Mach) :=
  match m.castOn (.host w) none bay false with
  | none => none
  | some (id, m) => some (id, (m.updStitch id (fun s => { s with opWaiter := some w })).stageStitch id acts)

/-- Every force of a task cleared (R455). -/
def forceClear (m : Mach) (t : Nat) : Mach :=
  match m.tasks[t]? with
  | none => m
  | some x =>
    if x.forces.isEmpty && x.forcesNext.isEmpty then m
    else (m.updTask t (fun x => { x with forces := [], forcesNext := [], relPv := [] })).emit .forceClear t

/-- LEt_LOAD_ERR written: address and reason. -/
def loadErr (m : Mach) (t addr reason : Nat) : Mach := m.wr (.leLoadErr t) (wd (reason * 2 ^ 24 + addr % 65536))

/-- The image of a PROG_LOAD as a native program, or the reason against it: size 10, E-40 translation 13 (R437, R690). A FORMAT 1
image keeps its own octets and the CRC of them. -/
def progOf (m : Mach) (t format : Nat) (img : List Byte) : Except Nat Prog :=
  if format = 1 then
    if beAt img 0 4 ≠ 0x474C5047 ∨ beAt img 4 2 ≠ 1 ∨ beAt img 6 2 ≠ 1 ∨ (img.drop 8).take 56 ≠ zeros 56 then .error 10
    else match Config.e40Translate (m.rd (.leE40 t)) (img.drop 64) with
      | none => .error 13
      | some l => match parseProg l with
        | some p => .ok { p with bytes := img, crc := crc32c img }
        | none => .error 10
  else match parseProg img with
    | some p => .ok p
    | none => .error 10

/-- A program that no other task's write set overlaps: else the first address whose store does (R411). -/
def overlapAt (m : Mach) (t : Nat) (p : Prog) : Option Nat :=
  let others := (m.tasks.zipIdx).flatMap (fun x => if x.2 = t then [] else match x.1.prog with
    | some q => q.writeSet
    | none => [])
  ((p.code.zipIdx).find? (fun x => (storeSet x.1).any others.contains)).map (·.2)

/-- The retentive image would be too long (R441): the protection section at its greatest, header and trailer included. -/
def retTooLong (m : Mach) (t : Nat) (p : Prog) : Bool :=
  let others := (m.tasks.zipIdx).foldl (fun (a : Nat) x => if x.2 = t then a else a + (match x.1.prog with
    | some q => q.retSize
    | none => 0)) 0
  decide (2097152 < 64 + 524288 + others + p.retSize + 4)

/-- A program is a task's from now on: stored, cold, no forces (R438, R770). -/
def progPut (m : Mach) (t : Nat) (p : Prog) : Mach :=
  let m := m.forceClear t
  let m := m.updTask t (fun x => { x with
    st := .loaded, prog := some p, kNow := p.k, data := coldData p, cyc := none, first := 0, startKind := 0,
    lastOverrun := false, ovrRun := 0, waiting := [], constPend := [], ctrPend := [], mkPend := [], stale := [], runAtReady := false, retAge := [] })
  (m.loadErr t 0 0).wr (.leImgCrc t) p.crc

/-- PROG_LOAD's last segment (R429, R438): status and ARG0. -/
def progLoad (m : Mach) (t format : Nat) (img : List Byte) : Nat × Nat × Mach :=
  let bad (m : Mach) (status addr reason : Nat) : Nat × Nat × Mach :=
    let m := m.loadErr t addr reason
    (status, (m.rd (.leLoadErr t)).toNat, m)
  let st := (m.tasks[t]?).map (·.st)
  if format = 1 ∧ !m.feat 9 then (0x0203, 9, m)
  else match m.progOf t format img with
    | .error r => bad m 0x0102 0 r
    | .ok p =>
      if p.code.any (fun w => decide (iOp w = 0x58)) && !m.feat 9 then (0x0203, 9, m)
      else match progBad p with
        | some (a, r) => bad m 0x0102 a r
        | none =>
          if m.retTooLong t p then bad m 0x0102 0 12
          else match m.overlapAt t p with
            | some a => bad m 0x0208 a 11
            | none =>
              if st = some .run ∨ st = none then (0x0208, 0, m)
              else if st = some .fenced ∨ m.fenced (35 + t) then (0x0204, 35 + t, m)
              else
                let m := m.progPut t p
                (0, 0, m.updSec (fun s => { s with store := SMap.put s.store t img }))

/-- PROG_START (R438): kind 0 cold, 1 resume. -/
def progStart (m : Mach) (t kind : Nat) : Nat × Nat × Mach :=
  match m.tasks[t]? with
  | none => (0x0102, 0, m)
  | some x => match x.prog with
    | none => (0x0208, 0, m)
    | some p =>
      if x.st = .fenced then (0x0204, 35 + t, m)
      else if kind = 0 ∧ (x.st = .loaded ∨ x.st = .stopped) then
        let m := m.forceClear t
        let m := m.updTask t (fun x => { x with
          kNow := p.k, data := coldData p, cyc := none, first := 1, startKind := 1, lastOverrun := false, ovrRun := 0, grp := [],
          constPend := [], ctrPend := [], mkPend := [], stale := [], runAtReady := false, retAge := [] })
        (0, 0, m.setTask t .run)
      else if kind = 1 ∧ x.st = .stopped then
        let m := m.updTask t (fun x => { x with cyc := none, first := 4, startKind := 3, lastOverrun := false, ovrRun := 0, grp := [] })
        (0, 0, m.setTask t .run)
      else (0x0208, 0, m)

/-- PROG_STOP (R438): pending until the cycle in progress has ended. -/
def progStop (m : Mach) (t : Nat) (w : Waiter) : Nat × Nat × Mach :=
  match m.tasks[t]? with
  | none => (0x0102, 0, m)
  | some x =>
    if x.st ≠ .run ∨ x.stopWait.isSome then (0x0208, 0, m)
    else if x.cyc.isNone then (1, 0, m.stopNow t w)
    else (1, 0, m.updTask t (fun x => { x with stopWait := some w }))

/-- CONST_WRITE (R446): status, ARG0 or the stitch. -/
def constWrite (m : Mach) (t idx : Nat) (vals : List Word) (w : Waiter) : Nat × Nat × Mach :=
  match m.tasks[t]? with
  | none => (0x0102, 0, m)
  | some x => match x.prog with
    | none => (0x0208, 0, m)
    | some p =>
      if p.hdr.nK < idx + vals.length then (0x0102, 4, m)
      else if x.st = .fenced then (0x0204, 35 + t, m)
      else match m.hostStitch w none [.consts t idx vals] with
        | none => (0x0208, 12, m)
        | some (id, m) => (1, id, m)

/-- FORCE (R449, R450). -/
def forceBit (m : Mach) (t area idx : Nat) (v : Bool) : Nat × Nat × Mach :=
  match m.tasks[t]? with
  | none => (0x0102, 0, m)
  | some x =>
    if 2 < area then (0x0206, 0, m)
    else match x.prog with
      | none => (0x0208, 0, m)
      | some p =>
        if 2 ^ 20 ≤ idx ∨ !bitIdxOk p.hdr area idx then (0x0102, 4, m)
        else if x.st = .fenced then (0x0204, 35 + t, m)
        else
          let same (f : Force) : Bool := decide (f.area = area ∧ f.idx = idx)
          if !x.forcesNext.any same && decide (64 ≤ x.forcesNext.length) then (0x0208, 0, m)
          else
            let pv := ((x.forcesNext.find? same).map (·.pv)).getD false
            (0, 0, m.updTask t (fun x => { x with
              forcesNext := x.forcesNext.filter (fun f => !same f) ++ [{ area := area, idx := idx, val := v, pv := pv }] }))

/-- UNFORCE (R450, R454): one force, or all. -/
def unforce (m : Mach) (t area idx : Nat) (all : Bool) : Nat × Nat × Mach :=
  match m.tasks[t]? with
  | none => (0x0102, 0, m)
  | some _ =>
    if all then (0, 0, m.updTask t (fun x => { x with forcesNext := [] }))
    else if 2 < area then (0x0206, 0, m)
    else (0, 0, m.updTask t (fun x => { x with forcesNext := x.forcesNext.filter (fun f => !decide (f.area = area ∧ f.idx = idx)) }))

/-- A task's stored program at HARDWARE (R770): `bad` tells that its CRC fails. The image passed the loader when it was stored; a
program set is the one loaded then. -/
def progBoot (m : Mach) (t : Nat) (bad : Bool) : Mach :=
  match m.tasks[t]? with
  | none => m
  | some x => match x.prog with
    | none => m
    | some p =>
      if bad then
        ((m.updTask t (fun x => { x with st := .empty, prog := none })).wr (.leImgCrc t) 0).emit .progStoreBad t
      else (m.updTask t (fun x => { x with st := .loaded, prog := some p })).wr (.leImgCrc t) p.crc

end Mach

end Sys2Proof.Machine
end

