-- ==== Sys2Proof/Machine/Maint.lean ====
section
/-! DEFINITION. Maintenance activities (16 R691, R722 to R730; 03 R143 to R147; 11 R519): tokens, starts and ends; the end of a
session (15 R675). -/

namespace Sys2Proof.Machine

/-- Tokens of an activity on a target (table of R722): kind × 65536 + index, and whether exclusive. -/
def maintTokens (act target : Nat) : List (Nat × Bool) :=
  let tk (k i : Nat) : Nat := k * 65536 + i
  match act with
  | 1 => [(tk 1 target, true)]
  | 2 => [(tk 2 target, true)]
  | 3 => [(tk 3 target, true)]
  | 4 => [(tk 4 0, true)]
  | 5 => [(tk 5 target, true), (tk 6 0, false)]
  | 6 => [(tk 7 0, true), (tk 6 0, false)]
  | 7 => [(tk 8 0, true), (tk 6 0, true)]
  | 8 => [(tk 9 target, true), (tk 5 0, false), (tk 5 1, false), (tk 6 0, false)]
  | 9 => [(tk 10 target, true)]
  | _ => []

/-- Two activities conflict (R722). -/
def maintConflict (a b : Nat × Nat) : Bool :=
  (maintTokens a.1 a.2).any (fun x => (maintTokens b.1 b.2).any (fun y => decide (x.1 = y.1) && (x.2 || y.2)))

/-- Outputs of an output group (R695). -/
def groupOuts (g : Nat) : List Nat := if g = 0 then List.range 8 else if g = 1 then [8, 9, 10, 11] else [12, 13, 14, 15]

/-- A node that a bus may present (R730). -/
def atbNodeOk (n : Nat) : Bool := decide (n ≤ 11) || decide (16 ≤ n ∧ n ≤ 66)

namespace Mach

/-- The earliest-started running activity in conflict (R723). -/
def maintHolder (m : Mach) (act target : Nat) : Option Maint :=
  m.cmd.maint.find? (fun x => maintConflict (x.act, x.target) (act, target))

/-- The next handle (R724). -/
def nextHandle (m : Mach) : Nat :=
  (List.range 17).foldl (fun (n : Nat) _ =>
    if n = 0 ∨ m.cmd.maint.any (fun x => x.handle = n) then (if 65535 ≤ n then 1 else n + 1) else n)
    (if 65535 ≤ m.cmd.lastHandle then 1 else m.cmd.lastHandle + 1)

/-- Tokens taken (R691, R723, R724): the refusal with ARG0, or the handle and the state with MAINT_START logged. -/
def maintTake (m : Mach) (act target session : Nat) (w : Option Waiter) : Except (Nat × Nat) (Nat × Mach) :=
  match m.maintHolder act target with
  | some x => .error (0x0201, x.handle * 65536 + x.act)
  | none =>
    if 16 ≤ m.cmd.maint.length then .error (0x0208, 0)
    else
      let h := m.nextHandle
      let x : Maint := { handle := h, act := act, target := target, session := session, waiter := w }
      let m := { m with cmd := { m.cmd with maint := m.cmd.maint ++ [x], lastHandle := h } }
      .ok (h, m.emitW .maintStart h [wd (h * 65536 + act)])

/-- An output test of a group is refused (R726): a bay that is not OFF routes to it, or a task in RUN writes one of its outputs. -/
def outTestBusy (m : Mach) (g : Nat) : Bool :=
  let ys := groupOuts g
  let hit (mask : Nat) : Bool := ys.any mask.testBit
  (List.range 32).any (fun b => decide ((m.bay b).mode ≠ 0) &&
    (hit (m.fld (.bayBrkLoc b) F.bayBrkLoc_DO_MASK) || hit (m.fld (.bayClsLoc b) F.bayClsLoc_DO_MASK) ||
      (List.range 64).any (fun s => hit ((m.tmw b s).toNat / 65536)))) ||
  m.tasks.any (fun x => decide (x.st = .run) && (match x.prog with
    | some p => p.outs.any ys.contains
    | none => false))

/-- No PRP or HSR pair uses the ETH lane, or the other lane of the lane's pair link or PRP pair is UP (R519): an HSR lane has none. -/
def prbsAllowed (m : Mach) (l : Nat) : Bool :=
  if m.pairRole l then decide ((m.lane (if l = 2 then 3 else 2)).st = .up)
  else if m.flag .netCtrl F.netCtrl_HSR && decide (l < 2) then false
  else if m.dual && decide (l < 2) then decide ((m.lane (1 - l)).st = .up)
  else true

/-- The conditions of an activity of its own (R143, R519, R726, R730): status and ARG0 of the refusal. -/
def maintBar (m : Mach) (act target param : Nat) : Option (Nat × Nat) :=
  match act with
  | 1 => if 2 < target then some (0x0102, 2) else if m.outTestBusy target then some (0x0208, 0) else none
  | 2 =>
    if 15 < target then some (0x0102, 2)
    else if m.fenced (52 + target) then some (0x0204, 52 + target)
    else if ((m.port target).st ≠ .run ∧ (m.port target).st ≠ .cal) ∨ !m.calAllowed target then some (0x0208, 0)
    else none
  | 3 =>
    if 3 < target then some (0x0102, 2)
    else if (m.lane target).st = .off ∨ !m.prbsAllowed target then some (0x0208, 0)
    else if m.fenced (39 + target) then some (0x0204, 39 + target)
    else none
  | 4 => if target ≠ 0 then some (0x0102, 2) else none
  | 5 => if 1 < target then some (0x0102, 2) else none
  | 9 => if 1 < target then some (0x0102, 2) else if 255 < param ∨ !atbNodeOk param then some (0x0102, 4) else none
  | _ => some (0x0102, 0)

/-- What the start of an activity does to its target. -/
def maintBegin (m : Mach) (act target param session handle : Nat) : Mach :=
  match act with
  | 1 => m.updPair (fun p => { p with otest := { p.otest with run := none } })
  | 2 =>
    (m.updPort target (fun x => { x with
      st := .cal, calEndPend := false,
      cal := some { session := session, handle := handle, n := m.fld .acqCtrl F.acqCtrl_CAL_FRAMES, sum := 0, sumSq := 0, frames := 0,
                    tests := m.calTests target, relied := m.calRelied target } })).setF (.modStat target) F.modStat_CAL_DONE 0
  | 3 => m.laneTest target
  | 9 => (m.setF (.atbCtrl target) F.atbCtrl_MODE 1).setF (.atbCtrl target) F.atbCtrl_NODE param
  | _ => m

/-- MAINT_START (R691, R723). -/
def maintStart (m : Mach) (act target param session : Nat) : Except (Nat × Nat) (Nat × Mach) :=
  match m.maintBar act target param with
  | some e => .error e
  | none => match m.maintTake act target session none with
    | .error e => .error e
    | .ok (h, m) => .ok (h, m.maintBegin act target param session h)

/-- What the end of an activity by command does to its target (R147, R509, R728): outputs under test are restored, a feed proof
fails, a partial firmware image is given up. -/
def maintUndo (m : Mach) (x : Maint) : Mach :=
  match x.act with
  | 1 =>
    let m := { m with cmd := { m.cmd with outTests := m.cmd.outTests.filter (fun o => o.1 ≠ x.handle) } }
    (forEach (groupOuts x.target) m (fun m y => m.updDo y (fun d => { d with test := none }))).doSync
  | 2 => m.updPort x.target (fun p => { p with calEndPend := p.cal.isSome })
  | 3 => m.laneTestEnd x.target
  | 6 => m.updSess x.session (fun s => { s with xfers := s.xfers.filter (fun t => t.kind ≠ 2) })
  | 7 => if (m.feed x.target).st = .proving then m.updFeed x.target (fun f => { f with st := .failed }) else m
  | 9 => m.setF (.atbCtrl x.target) F.atbCtrl_MODE 0
  | _ => m

/-- MAINT_END, or the end of the activity's session (R725): a pending COMPLETE says aborted. -/
def maintStop (m : Mach) (x : Maint) : Mach := (m.maintUndo x).maintEnd x 0x0205

/-- An output test drives an output for a time (R726). -/
def outTest (m : Mach) (handle y : Nat) (v : Bool) (ms : Nat) : Mach :=
  let l := m.cmd.outTests.filter (fun o => o.2.1 ≠ y) ++ [(handle, y, v, m.mon + tm (msNs ms))]
  let m := { m with cmd := { m.cmd with outTests := l } }
  (m.updDo y (fun d => { d with test := some v })).doSync

/-- Output tests whose TIME has passed give the commanded state back (R726). -/
def outTestEnd (m : Mach) : Mach :=
  let due (o : Nat × Nat × Bool × Time) : Bool := decide ((o.2.2.2 - m.mon).toInt ≤ 0)
  let l := m.cmd.outTests.filter due
  if l.isEmpty then m
  else
    let m := { m with cmd := { m.cmd with outTests := m.cmd.outTests.filter (fun o => !due o) } }
    (forEach l m (fun m o => m.updDo o.2.1 (fun d => { d with test := none }))).doSync

/-- What a session that ends leaves (R675): staging buffers, selections, activities and NOTIFYs; its slot is free. -/
def sessEnd (m : Mach) (num : Nat) : Mach :=
  let m := { m with stage := m.stage.filter (fun b => b.2.1 ≠ num) }
  let m := m.dropWhere (fun s => decide (s.st = .opened) && (match s.src with
    | .host w => decide (w.session = num)
    | _ => false)) 5
  let m := forEach (m.cmd.maint.filter (fun x => x.session = num)) m (fun m x => m.maintStop x)
  ({ m with cmd := { m.cmd with
    slots := m.cmd.slots.map (fun x => match x with
      | some s => if s.num = num then none else some s
      | none => none),
    hpOut := m.cmd.hpOut.filter (fun p => !(p.notify && decide (p.session = num))),
    udpNotes := m.cmd.udpNotes.filter (fun p => p.session ≠ num) } } : Mach).setIrq

/-- Sessions without a request for SESS_TMO end (R674). -/
def sessTimeouts (m : Mach) : Mach :=
  forEach (m.sessions.filter (fun s => decide (m.fld .cmdCfg F.cmdCfg_SESS_TMO * 1000000000 ≤ m.since s.lastReq))) m (fun m s =>
    m.sessEnd s.num)

-- Roles and keys that end activities (R673, R753)

/-- The maintenance role of a session ends. -/
def roleDrop (m : Mach) (num : Nat) : Mach := m.updSess num (fun s => { s with maint := false, roleKey := 255 })

/-- A key slot revoked (R753): roles it granted end at once, with the activities of their sessions. -/
def mkeyRevoke (m : Mach) (k : Nat) : Mach :=
  let m := m.setF .secMkeyCtrl F.secMkeyCtrl_REVOKED (m.fld .secMkeyCtrl F.secMkeyCtrl_REVOKED ||| 2 ^ k)
  forEach (m.sessions.filter (fun s => s.maint && decide (s.roleKey = k))) m (fun m s =>
    let m := m.roleDrop s.num
    forEach (m.cmd.maint.filter (fun x => x.session = s.num)) m (fun m x => m.maintStop x))

end Mach

end Sys2Proof.Machine
end

