-- ==== Sys2Proof/Machine/Init.lean ====
section
/-! DEFINITION. The block right after reset, and what a restart keeps (18 R757 to R776). -/

namespace Sys2Proof.Machine

/-- The time base at reset (R458 to R467): LTC and MON 0, INC 8 ns, FREE. -/
def Tb.init : Tb :=
  { ltc := 0, inc := 0x0800000000#40, mon := 0, st := .free, src := none, incHist := [], yF := 0, lastMeas := none, lastOfs := none,
    lockCnt := 0, unlockCnt := 0, qual := [], ports := List.replicate 2 PtpPort.init, gm := none, ppsLast := none,
    irigCnt := 0, irigLast := none, irigMiss := 0, hold := none, outlier := 0, firstPend := none, firstDue := false,
    stepDue := false, stepWaiter := none, everLocked := false, tsq := List.replicate 5 [], ppsWholeEnd := none, ppsTrgEnd := none,
    leap := 0 }

/-- The frame at reset: no trigger has fired. -/
def Frame.init : Frame :=
  { started := false, sec := 0, fcnt := 0, fseq := 0, trigMon := 0, prevMon := 0, trigLtc := 0, prevSpan := 0, cutOff := false, setDone := false,
    deadline := false, zeReleased := false, zeDone := false, zeLate := false, zeBack := false, bindAll := false, arcRead := false, binding := false,
    bound := false, bindPend := false, bindHeld := false, lateLog := false, guard := false, stepped := false, engs := [], map := [], moves := [], worst := none,
    lateInt := false, vcoreOn := false, vcoreCnt := 0 }

/-- The stitch unit at reset. -/
def Stu.init : Stu :=
  { lastId := 0, opens := [], hist := [], cmds := [], aborts := [], pPeak := 0, pendCommits := [], pendGroups := [],
    deferLogic := [] }

/-- Field I/O at reset: LOCKOUT (R773), every output parked (R388). -/
def Fio.init : Fio :=
  { dis := [], dos := [], band := 3, flpMv := 0, flpMon := 0, low15 := none, since15 := none, hi16 := none, resetLock := true, strobe := F.fioCtrl_P_STROBE.reset, imgFilt := 0,
    imgValid := 0, imgLow := 0, imgRb := 0, imgDeb := 0, imgBrk := 0, lockCmds := 0, lockEndMon := 0, scanMon := none, obsPend := [] }

/-- A task without a program. -/
def Task.init : Task :=
  { st := .empty, prog := none, kNow := [], data := { m := [], t := [], c := [], e := [] },
    out := { q := [], pts := [], memb := [], bf := [], cmd := [] }, cyc := none, lastSnap := 0, first := 0,
    startKind := 0, lastOverrun := false, ovrRun := 0, forces := [], forcesNext := [], relPv := [], grp := [], waiting := [],
    constPend := [], ctrPend := [], mkPend := [], stale := [], runAtReady := false, stopWait := none, retAge := [], ctrl := 0 }

/-- The network at reset. -/
def Net.init : Net :=
  { table := [], gsubs := [], gpts := [], gptsLatched := [], gprLatched := [], gpubs := [], stas := [], glxSeq := 0, tokens := [], ingress := [],
    coal := [], coalLog := none, prpSeq := 0, prpSeen := [], nodes := [], prpLast := 0, beaconLast := none }

/-- The pair at reset: SINGLE (R586). -/
def Pair.init : Pair :=
  { role := .single, epoch := 0, peer := none, peerOn := false, peerMon := 0, ownPos := 0, posGone := 0, posConf := false, hbMon := none,
    hbLast := none, hbAnyMon := none, hbRun := 0, hbLost := false, refused := false, listenMon := none, m0Good := 0, m0Last := none, m0Ofs := 0,
    m0Pend := none, m0Late := none, m0Part := none, rxSeq := none, mirF := none, full := false, fullM1 := false, sync := false, everSync := false,
    syncReqPend := false, m2Defer := [], m2Stale := false, switchTag := none, switchWait := [], dAlignPend := none,
    otest := { run := none, next := 0, lastMon := 0, passed := 0 }, txSeq := 0, txq := [], credits := [], owed := [], claimSeq := 0, claimMon := none, passDue := false, degraded := false, drIndex := [],
    m1Last := 0, m0Sec := 0, m1 := List.replicate 4 none, mirPend := [] }

/-- The disturbance recorder with nothing stored. -/
def Dr.init : Dr :=
  { ring := [], run := none, trigPend := [], stored := [], nextNo := 1, armed := false, trStopped := false, trStopAt := none,
    trRing := [], trRec := none, trLast := 0, badBlocks := [], held := [] }

/-- The event recorder with empty logs: the first record of each carries RSEQ 1 (R624). -/
def Recs.init : Recs :=
  { fifo := [], rpt := [], lostN := 0, lostFirst := 0, deferred := [], nextUid := 0, skeinA := [], spare := [], pocketLog := [],
    onDie := [], active := 0, fencedA := false, fencedSpare := false, nextRseq := 1, nextPocketLog := 1, nextOnDie := 1,
    dr := Dr.init }

/-- The command interface without sessions. -/
def Cmd.init : Cmd :=
  { slots := List.replicate 4 none, lastNum := 0, rx := [], hpOut := [], udpNotes := [], maint := [],
    lastHandle := 0, outTests := [] }

/-- Health at reset. -/
def Hlth.init : Hlth :=
  { doms := [], rmcErrs := [], secErrs := [], fabErrs := [], rmcLasting := false, secLasting := false, atMaxShort := none,
    car := { running := false, slot := 0, rotEng := 0, phase := 0, slotMon := 0, nextReq := none, paused := false },
    fencePend := [], tempHigh := false }

/-- The firmware store as shipped: an image of each kind verified in slot 0, slot 1 empty. The images' octets are not in the spec
(log entry 3). -/
def ImgKind.shipped : ImgKind :=
  { slots := [{ img := [], verified := true }, { img := [], verified := false }], active := 0, running := 0, runHdr := [], staged := none, svnMin := 0 }

/-- The security engine as shipped. -/
def SecSt.init : SecSt :=
  { kinds := [(1, ImgKind.shipped), (2, ImgKind.shipped), (3, ImgKind.shipped), (4, ImgKind.shipped)], q := 0, qA := 0, qB := 0, burned := 0,
    fails := 0, lockEnd := none, store := [] }

/-- Start-up at reset: HARDWARE (R757). -/
def Start.init : Start :=
  { phase := 0, cause := 0, kindEff := 0, phaseMon := 0, resetMon := 0, goPend := false, restartKind := none,
    recovery := false, bootFail := false, booted := [], restartWait := none }

/-- Retentive areas never written. -/
def Nv.init : Nv :=
  { retA := none, retB := none, srA := { seq := 0, taskRun := 0, holdupPrev := false, valid := false },
    srB := { seq := 0, taskRun := 0, holdupPrev := false, valid := false }, writing := none, lastMon := 0, nextSeq := 1,
    downPend := [] }

/-- A feed that has been proven at 24 V (log entry 3). -/
def Feed.ok : Feed := { st := .proven, mv := 24000, since := 0, proveMon := 0, waiter := none }

/-- A lane at rest. -/
def Lane.off : Lane :=
  { st := .off, alignMon := 0, trainMon := 0, eqMon := 0, eyeMon := 0, scanMon := 0, scan := false, eqUp := (0, 0), fromUp := false,
    bits := 0, errs := 0 }

/-- The block right after the release of power-on reset, as shipped: in HARDWARE with both feeds proven (R757, R773; log entry 3). -/
def Mach.init : Mach :=
  { free := 0, inReset := false,
    pins := { psA := true, ready := false, faultN := true, hpIrqN := true, ppsOut := false, mvddOk := true, mclk0 := false,
              mclk1 := false },
    sent := [], txq := [], txEnd := [], regs := [], fresh1 := [], freshC := [], tb := Tb.init, fr := Frame.init,
    acq := { ports := [], subs := [], swgs := [], pllEver := [false, false], pllLost := [false, false], slots := [], views := [] },
    bays := [], set := [], group := [], stage := [], zone := Zone.init, stu := Stu.init, fio := Fio.init,
    tasks := List.replicate 4 Task.init, lanes := List.replicate 5 Lane.off, net := Net.init, pair := Pair.init,
    power := { feedA := Feed.ok, feedB := Feed.ok, onStore := false, autoProof := false },
    recs := Recs.init, cmd := Cmd.init, hlth := Hlth.init, sec := SecSt.init, start := Start.init, nv := Nv.init }

/-- Registers of the SEC that outlive a restart: maintenance keys with their marks (R753, R756), the seal (R754). -/
def keptReg (a : Nat) : Bool :=
  match Reg.ofAddr a with
  | some (.secMkey _ _) | some .secMkeyCtrl => true
  | _ => false

namespace Mach

/-- What a reset keeps (R776, R624, R639, R644, R770, R773): non-volatile areas, keys and fuses, logs, complete disturbance records,
programs, feeds, the PS_A level. Everything else is as after power-on. -/
def resetKeep (m : Mach) : Mach :=
  let i := Mach.init
  let sealed := m.flag .secStat F.secStat_SEALED
  let r := { i with
    free := m.free, sent := m.sent, regs := m.regs.filter (fun r => keptReg r.1),
    pins := { i.pins with psA := m.pins.psA, mvddOk := m.pins.mvddOk },
    tasks := m.tasks.map (fun x => { Task.init with prog := x.prog }),
    power := { m.power with onStore := false, autoProof := false,
                            feedA := { m.power.feedA with since := 0, proveMon := 0, waiter := none },
                            feedB := { m.power.feedB with since := 0, proveMon := 0, waiter := none } },
    recs := { i.recs with
      skeinA := m.recs.skeinA, spare := m.recs.spare, pocketLog := m.recs.pocketLog, active := m.recs.active,
      nextRseq := m.recs.nextRseq, nextPocketLog := m.recs.nextPocketLog, nextUid := m.recs.nextUid,
      dr := { i.recs.dr with stored := m.recs.dr.stored, nextNo := m.recs.dr.nextNo } },
    cmd := { i.cmd with lastNum := m.cmd.lastNum },
    hlth := { i.hlth with doms := m.hlth.doms.map (fun d => (d.1, { d.2 with st := 0, errs := [], fenceLtc := 0 })) },
    sec := { m.sec with fails := 0, lockEnd := none, kinds := m.sec.kinds.map (fun k => (k.1, { k.2 with staged := none })) },
    nv := { m.nv with writing := none, lastMon := 0, downPend := [] } }
  if sealed then r.burnSeal else r

/-- Tasks with forces in effect or accepted. -/
def forcedTasks (m : Mach) : List Nat := numsWhere 4 (fun t => match m.tasks[t]? with
  | some x => !x.forces.isEmpty || !x.forcesNext.isEmpty
  | none => false)

/-- A restart after RST_N (cause 1) or a RESTART command (cause 2 warm, 3 cold, with the kind it asks for: R757, R759). Forces in
effect are cleared and logged (R455). -/
def restart (m : Mach) (cause : Nat) (kind : Option Nat) : Mach :=
  let forced := m.forcedTasks
  let m := m.resetKeep
  let m := { m with start := { m.start with cause := cause, restartKind := kind } }
  forEach forced m (fun m t => m.emit .forceClear t)

/-- Power is applied (R757, R773, R791): the level of PS_A, the feeds' voltages in mV, and whether the proof of each present feed
holds (R618). ERR_TOTAL counts from here. -/
def powerOn (m : Mach) (psA : Bool) (mvA mvB : Nat) (okA okB : Bool) : Mach :=
  let fd (mv : Nat) (ok : Bool) : Feed :=
    { st := if mv < 16800 then .absent else if ok then .proven else .failed, mv := mv, since := 0, proveMon := 0, waiter := none }
  let m := m.restart 0 none
  { m with pins := { m.pins with psA := psA },
           power := { m.power with feedA := fd mvA okA, feedB := fd mvB okB },
           hlth := { m.hlth with doms := [] } }

/-- RST_N low for 10 µs (R792): the block stays in reset until its release. -/
def rstAssert (m : Mach) : Mach := { m.restart 1 none with inReset := true }

/-- The release of RST_N (R757, R791): PS_A is read, HARDWARE begins. -/
def rstRelease (m : Mach) (psA : Bool) : Mach :=
  if m.inReset then { m with inReset := false, pins := { m.pins with psA := psA } } else m

end Mach

end Sys2Proof.Machine
end

