-- ==== Sys2Proof/Machine/Start.lean ====
section
/-! DEFINITION. Start-up (18 R757 to R771): the end of HARDWARE, the restart kind, GO, and the phases at the frame triggers; the
conditions of enabling a bay (03 R132, 02 R60). -/

namespace Sys2Proof.Machine

namespace Mach

/-- The phase changes; its time counts from here. -/
def setPhase (m : Mach) (p : Nat) : Mach := { m with start := { m.start with phase := p, phaseMon := m.mon } }

-- Sources and slots

/-- A slot of a bay has a source; its source word and that of its alternate. -/
def slotSrc (m : Mach) (b c : Nat) : Bool := decide (m.slotKind b c = 1 ∨ m.slotKind b c = 2)

/-- A source word names a settled source (R767). -/
def srcSettled (m : Mach) (w : Word) : Bool :=
  let n := m.fld .frmCfg F.frmCfg_D_ALIGN + 18
  match F.slotMap_KIND.get w with
  | 1 =>
    let p := F.slotMap_PORT.get w
    m.portEn p && decide ((m.port p).st = .run) && !m.fenced (52 + p) && decide (n ≤ (m.port p).runFrames)
  | 2 =>
    let s := F.slotMap_SUB.get w
    decide ((m.sub s).st = 2) && !m.fenced (68 + s) && decide (n ≤ (m.sub s).okFrames)
  | _ => false

/-- Every slot of a bay is ready (R767). -/
def bayReady (m : Mach) (b : Nat) : Bool :=
  (List.range 8).all (fun c => !m.slotSrc b c || m.srcSettled (m.rd (.slotMap b c)) || m.srcSettled (m.rd (.slotAlt b c)))

/-- Why a bay cannot be enabled: BAD_PARAM under R132, STATE under R60 or while a mirrored D_ALIGN waits. A scale that is not a finite number
counts as 0 (DESIGN CHOICE, log entry 58). -/
def enableBar (m : Mach) (b : Nat) : Option Nat :=
  let words (c : Nat) : List Word := [m.rd (.slotMap b c), m.rd (.slotAlt b c)]
  let cs := List.range 8
  let scale0 := cs.any (fun c => m.slotSrc b c && decide (f32Val (m.rd (.slotScale b c)) = 0))
  let subWord (w : Word) : Bool := decide (F.slotMap_KIND.get w = 2)
  let valBad := cs.any (fun c => (words c).any (fun w =>
    subWord w && decide (m.fld (.svsCfg (F.slotMap_SUB.get w)) F.svsCfg_NVAL < F.slotMap_VAL.get w)))
  let cfgBad := (List.range 4).any (fun g =>
    let cfg := bayCfg m.set b g
    (stagesOf bayElems).any (fun p => stageEnabled cfg p.1 p.2 && !quantExists (m.slotSrc b) cfg p.1 p.2))
  if scale0 || valBad || cfgBad then some 0x0102
  else if decide (m.fld .frmCfg F.frmCfg_D_ALIGN = 0) && cs.any (fun c => (words c).any subWord) then some 0x0208
  else if m.pair.dAlignPend.isSome then some 0x0208
  else none

-- Modes (R158 to R161)

/-- Cooling of the cable over the time spent in OFF (R160). -/
def offCool (m : Mach) (b : Nat) : Rat :=
  let tau : Rat := ((m.cfg b 0x30 0 2 : Int) : Rat) / 10 * 60
  (m.bay b).d.theta * Config.expQ (-((((m.since (m.bay b).offMon : Nat)) : Rat) / 1000000000 / tau))

/-- A bay leaves OFF (R160, R265). -/
def bayOnNow (m : Mach) (b mode : Nat) : Mach :=
  let th := m.offCool b
  let ftr := fnOf (bayCfg m.set b (m.groupOf b))
  let m := m.updBay b (fun x => { x with
    mode := mode, comp := none, wait := none, res := BayRes.none, resOk := false, late := false, lost := 0, unprot := false,
    prevOper := 0, prevStart := 0, pub := { x.pub with energy := x.d.energy, meas := setAt BayRes.none.meas 30 (f32 th) }, d := { BayD.init th x.d.energy x.d.mot with thSq := x.d.thSq, ftr := ftr } })
  let m := m.downCool b
  if m.engOf b = b && m.fenced b then m.placeFenced b .fence else m

/-- A bay goes OFF (R159, R365): θ, energy and motor memory are kept. -/
def bayOffNow (m : Mach) (b : Nat) : Mach :=
  m.updBay b (fun x => { x with
    mode := 0, comp := none, wait := none, res := BayRes.none, resOk := false, late := false, lost := 0, unprot := false,
    bf := x.bf, offMon := m.mon, d := { BayD.init x.d.theta x.d.energy x.d.mot with thSq := x.d.thSq } })

/-- A bay takes a mode at a frame trigger. -/
def bayMode (m : Mach) (b mode : Nat) : Mach :=
  let old := (m.bay b).mode
  if old = mode then m
  else if mode = 0 then m.bayOffNow b
  else if old = 0 then m.bayOnNow b mode
  else m.updBay b (fun x => { x with mode := mode })

/-- The mode that BAYn_CTRL asks for. -/
def modeReq (m : Mach) (b : Nat) : Nat := m.fld (.bayCtrl b) F.bayCtrl_MODE

/-- From PROTECTION_READY a mode write takes effect at the first trigger after it (R158, R763). A bay that may not be enabled
at that trigger stays as it is. -/
def bayModes (m : Mach) : Mach :=
  if m.start.phase < 6 then
    forEach (List.range 32) m (fun m b => if m.modeReq b = 0 then m.bayMode b 0 else if (m.bay b).mode ≠ 0 then m.bayMode b (m.modeReq b) else m)
  else
    forEach (List.range 32) m (fun m b =>
      if (m.bay b).mode = 0 ∧ m.modeReq b ≠ 0 ∧ m.pair.dAlignPend.isSome then m else m.bayMode b (m.modeReq b))

-- HARDWARE and the restart kind

/-- The restart kind is set once, by the host or after RESTART by the engine (R759 to R762). -/
def kindFix (m : Mach) (kind : Nat) : Mach :=
  if m.start.phase = 1 ∧ m.start.kindEff = 0 ∧ (kind = 1 ∨ kind = 2) then
    (m.kindSet kind).setF .startCtrl F.startCtrl_KIND kind
  else m

/-- The MRAM check of HARDWARE (R442, R639, R772): copies and start records that are not valid are left out. -/
def mramCheck (m : Mach) (w : HwDone) : Mach :=
  let bad (r : StartRec) : StartRec := { r with valid := false }
  let m := { m with nv := { m.nv with
    retA := if w.badRet.contains 0 then none else m.nv.retA, retB := if w.badRet.contains 1 then none else m.nv.retB,
    srA := if w.badSr.contains 0 then bad m.nv.srA else m.nv.srA, srB := if w.badSr.contains 1 then bad m.nv.srB else m.nv.srB } }
  let m := (m.setF .logRetStat F.logRetStat_A_VALID (bit m.nv.retA.isSome)).setF .logRetStat F.logRetStat_B_VALID (bit m.nv.retB.isSome)
  let m := m.setF .startStat F.startStat_IMG_VALID (bit (m.nv.retA.isSome || m.nv.retB.isSome))
  m.setF .startStat F.startStat_HOLDUP_PREV (bit (match m.startRecNow with
    | some r => r.holdupPrev
    | none => false))

/-- Domains that fail their BIST (R758): those that the BIST names, and every engine without a verified image, which is not released. -/
def bistFails (m : Mach) (w : HwDone) : List Nat :=
  ((List.range 39).filter (fun d => !m.domImage d) ++ w.bist).filter (fun d => decide (d < 132))

/-- The kind that a RESTART asked for is set by the engine (R759). -/
def kindAsked (m : Mach) : Mach :=
  match m.start.restartKind with
  | some k => if m.start.recovery then m else m.kindFix (if k = 0 then 2 else 1)
  | none => m

/-- HARDWARE ends (R734 to R744, R757 to R759, R770): what verified runs, what failed its BIST is fenced. Without a verified SEC image
nothing runs, so that the part stays in HARDWARE (R17, R734; DEDUCED, log entry 54). -/
def hwDone (m : Mach) (w : HwDone) : Mach :=
  if m.start.phase ≠ 0 then m
  else
    let m := m.boot w.badImg
    if !m.imgBooted 4 then m
    else
      let m := (m.hssRestart).mramCheck w
      let m := forEach (List.range 4) m (fun m t => m.progBoot t (w.badProg.contains t))
      (((forEach (m.bistFails w) m (fun m d => m.fenceNow d .carTest)).laneEn 4).setPhase 1).kindAsked

/-- GO (R764): at the next trigger CONFIG ends. -/
def startGo (m : Mach) : Mach := { m with start := { m.start with goPend := true } }

-- TIME

/-- A requested motor bay has DOWN_COOL 1 in its active group (R765). -/
def coolAsked (m : Mach) : Bool :=
  (List.range 32).any (fun b => decide (m.modeReq b ≠ 0) && decide (m.cfg b 0 0 0 = 1) && decide (m.cfg b 0x40 0 12 = 1))

/-- TIME ends at this trigger (R765). -/
def timeOver (m : Mach) : Bool :=
  !([Src.ptp, Src.irig, Src.pps].any m.srcEn) || m.flag .startStat F.startStat_NO_TIME ||
  (if decide (m.start.kindEff = 2) && m.coolAsked then decide (m.tb.st = .locked) else m.flag .tbStat F.tbStat_FIRST_DONE)

/-- TIME_WAIT has passed (R765). -/
def timeWait (m : Mach) : Mach :=
  if m.start.phase ≠ 3 ∨ m.flag .startStat F.startStat_NO_TIME ∨
      m.since m.start.phaseMon < m.fld .startCtrl F.startCtrl_TIME_WAIT * 100000000 then m
  else (m.setF .startStat F.startStat_NO_TIME 1).emit .startNoTime 0

/-- At the trigger that ends TIME every requested port and subscription is enabled (R765, R110). -/
def enableRequested (m : Mach) : Mach :=
  let m := forEach ((List.range 16).filter (fun p => m.portEn p && !m.fenced (52 + p))) m (fun m p => m.portReset p)
  forEach ((List.range 64).filter (fun s => m.flag (.svsCfg s) F.svsCfg_EN)) m (fun m s =>
    m.updSub s (fun x => { x with st := 1, wasLost := false, hist := [], run := 0, ents := [] }))

-- ROLE

/-- ROLE ends (R766). -/
def roleOver (m : Mach) : Bool :=
  !m.feat 3 || decide (m.pair.role = .active) || (decide (m.pair.role = .standby) && m.pair.sync)

-- BAYS

/-- A bay given up at start (R768): it stays OFF until the host writes its MODE again. -/
def giveUp (m : Mach) (b : Nat) : Mach :=
  let m := m.wr .startBayfail (m.rd .startBayfail ||| wd (2 ^ b))
  ((m.setF .startStat F.startStat_BAY_FAIL 1).setF (.bayCtrl b) F.bayCtrl_MODE 0).emit .bayStartFail b

/-- The lowest requested bay that is ready is enabled, one at a trigger; one that fails its check is given up (R767, R768). None is
while a mirrored D_ALIGN waits (R601). -/
def startBay (m : Mach) : Mach :=
  ((List.range 32).foldl (fun (a : Mach × Bool) b =>
    let (m, done) := a
    if done || m.pair.dAlignPend.isSome || decide (m.modeReq b = 0) || decide ((m.bay b).mode ≠ 0) || !m.bayReady b then (m, done)
    else if (m.enableBar b).isSome then (m.giveUp b, done)
    else (m.bayMode b (m.modeReq b), true)) (m, false)).1

/-- BAY_WAIT has passed (R768): bays whose sources are not all settled are given up. -/
def bayWait (m : Mach) : Mach :=
  if m.start.phase ≠ 5 ∨ m.since m.start.phaseMon < m.fld .startCtrl F.startCtrl_BAY_WAIT * 100000000 then m
  else forEach ((List.range 32).filter (fun b => decide (m.modeReq b ≠ 0) && decide ((m.bay b).mode = 0) && !m.bayReady b)) m (fun m b => m.giveUp b)

/-- An enabled bay's IPH and VPH are valid, or it has no slot of the kind with a source (R769). -/
def bayUp (m : Mach) (b : Nat) : Bool :=
  let v := wd (m.bay b).pub.valid
  decide ((m.bay b).mode ≠ 0) &&
  (F.bayValid_IPH.get v = 1 || !([0, 1, 2].any (m.slotSrc b))) && (F.bayValid_VPH.get v = 1 || !([4, 5, 6].any (m.slotSrc b)))

/-- PROTECTION_READY (R769, R715, R737): outputs unpark, READY goes high, HEALTH counts, the carousel starts. -/
def protectionReady (m : Mach) : Mach :=
  let m := (m.setPhase 6).setF .glbStat F.glbStat_PROT_READY 1
  let m := { m with pins := { m.pins with ready := true } }
  let m := forEach (List.range 16) m (fun m y => m.updDo y (fun d => { d with parked := false }))
  let m := m.wr .startReadyMs (wd (m.since m.start.resetMon / 1000000))
  let m := ((m.svnRaise 1).svnRaise 2).svnRaise 3
  (m.carStart).doSync

/-- The phases at a frame trigger (R764 to R769). -/
def startTrigger (m : Mach) : Mach :=
  let m := if m.start.phase = 2 && m.start.goPend then ({ m with start := { m.start with goPend := false } } : Mach).setPhase 3 else m
  let m :=
    if m.start.phase = 3 && m.timeOver then
      let m := (m.setPhase 4).enableRequested
      if m.pair.role = .init then m.updPair (fun p => { p with listenMon := some m.mon }) else m
    else m
  let m := if m.start.phase = 4 && m.roleOver then m.setPhase 5 else m
  if m.start.phase ≠ 5 then m
  else
    let m := m.startBay
    if (List.range 32).all (fun b => decide (m.modeReq b = 0) || m.bayUp b) then m.protectionReady else m

end Mach

end Sys2Proof.Machine
end

