-- ==== Sys2Proof/Machine/Mirror.lean ====
section
/-! DEFINITION. M2 data (13 R599 to R602, R608, R610, R611): which registers the mirror covers, the items, sending what changed and
full passes. -/

namespace Sys2Proof.Machine

/-- The registers that the engine's mirror entries cover as M2 (R599, R600). -/
def Reg.mirrored : Reg → Bool
  | .modCfg _ | .modOvrLim _ | .acqCtrl | .svsCfg _ | .svsDlyCorr _ | .slotMap _ _ | .slotAlt _ _ | .slotScale _ _ => true
  | .bayCtrl _ | .bayBrkLoc _ | .bayClsLoc _ | .bayBrkRem _ | .bayClsRem _ | .bayXfer _ | .bayTm _ _ | .znTm _ => true
  | .fioCtrl | .diCfg _ | .diOpt _ | .doCfg _ => true
  | .leCtrl _ | .leE40 _ | .logRetCtrl => true
  | .netCtrl | .netVlan | .netPcpMap | .netVid _ | .netGlxMacHi | .netGlxMacLo | .pol _ | .hostf _ | .prpCfg | .rxd _ _
  | .gsubCfg _ | .gpt _ | .gpubCtrl _ | .gpubOfs0 _ | .gpubOfs1 _ | .staCfg _ | .staTime _ | .coalCfg | .gpr _ => true
  | .evrCtrl | .evrSnap _ _ | .drCtrl | .drTrCfg | .drAn _ | .drBin _ => true
  | .frmCfg => true
  | _ => false

/-- An address that is never mirrored (R600). -/
def neverMirrored (a : Nat) : Bool :=
  let b := a / 0x10000
  decide (b = 1 ∨ b = 7 ∨ b = 9 ∨ b = 11 ∨ b = 12 ∨ b = 13) || (match Reg.ofAddr a with
    | some (.modGain _) | some (.modOffset _) | some (.modCalMean _) | some (.modCalRms _) => true
    | _ => false)

/-- The entries of a store whose key lies in a block of 65536. -/
def blockOf (s : SMap Int) (k : Nat) : SMap Int := s.filter (fun p => decide (p.1 / 65536 = k))

/-- Keys at which two stores differ. -/
def smDiff {α : Type} [DecidableEq α] (a b : SMap α) : List Nat :=
  (((a ++ b).map (·.1)).eraseDups).filter (fun k => decide (SMap.get? a k ≠ SMap.get? b k))

namespace Mach

/-- Address and length of an integrator entry that is in use (R602). -/
def mirRange (m : Mach) (e : Nat) : Option (Nat × Nat) :=
  if e < 512 ∨ !m.flag (.mirCfg e) F.mirCfg_EN then none
  else some ((m.rd (.mirAddr e)).toNat, m.fld (.mirCfg e) F.mirCfg_LEN)

/-- The integrator entries in use. -/
def mirEntries (m : Mach) : List Nat := ((List.range 512).map (· + 512)).filter (fun e => (m.mirRange e).isSome)

/-- An integrator entry covers an address. -/
def mirHas (m : Mach) (e a : Nat) : Bool :=
  match m.mirRange e with
  | some (lo, n) => decide (lo ≤ a ∧ a < lo + n) && !neverMirrored a
  | none => false

/-- A register is covered by a mirror entry (R589, R599, R602). -/
def mirCovers (m : Mach) (r : Reg) : Bool := Reg.mirrored r || m.mirEntries.any (fun e => m.mirHas e r.addr)

/-- The current content of an M2 item: 0 register, 1 settings, 3 active group, 4 program, 5 constants, 6 publication,
7 coefficients of the active and the other bank, 8 recorder index, 9 integrator entry. -/
def m2Item (m : Mach) (k : Nat × Nat × Nat) : M2Item :=
  let (kind, a, b) := k
  match kind with
  | 0 => .regs (match Reg.ofAddr a with
    | some r => [(a, m.rd r)]
    | none => [])
  | 1 => .settings a b ((blockOf m.set (a * 4 + b)).map (fun p => (p.1 % 65536, p.2)))
  | 3 => .activeGroup a (m.groupOf a)
  | 4 => .prog a ((m.tasks[a]?).bind (·.prog))
  | 5 => .consts a (((m.tasks[a]?).map (·.kAll)).getD [])
  | 6 => .gpub a (m.gpub a).tmpl (m.gpub a).offs
  | 7 =>
    let pick (i : Nat) := if i = 0 then (m.swg a).bankA else (m.swg a).bankB
    .coefs a (pick (m.activeBank a)) (pick (1 - m.activeBank a))
  | 8 => .drIndex (m.recs.dr.stored.map (·.recNo))
  | _ => .entry a (m.fld (.mirCfg a) F.mirCfg_CLASS) (match m.mirRange a with
    | some (lo, n) => (List.range (n / 4)).filterMap (fun i => match Reg.ofAddr (lo + 4 * i) with
      | some r => if neverMirrored (lo + 4 * i) then none else some (lo + 4 * i, m.rd r)
      | none => none)
    | none => [])

/-- M2 for one item whose content changed (R608): deferred while a pair-link lane is not UP (R610). -/
def m2Put (m : Mach) (k : Nat × Nat × Nat) : Mach :=
  if 2 ≤ m.pairUp.length then m.pairSend m.tagNow (.m2 false false (m.m2Item k))
  else if m.pair.m2Defer.contains k then m
  else m.updPair (fun p => { p with m2Defer := p.m2Defer ++ [k] })

/-- A full pass of all M2 data (R608). Its register item lists every covered register that differs from its reset word, the others
being at it. -/
def m2Pass (m : Mach) : Mach :=
  let regs : M2Item := .regs (m.regs.filter (fun p => match Reg.ofAddr p.1 with
    | some r => Reg.mirrored r
    | none => false))
  let keys : List (Nat × Nat × Nat) :=
    ((List.range 33).flatMap (fun b => (List.range 4).map (fun g => (1, b, g)))) ++ (List.range 33).map (fun b => (3, b, 0)) ++
      (List.range 4).map (fun t => (4, t, 0)) ++ (List.range 4).map (fun t => (5, t, 0)) ++
      (List.range 128).map (fun p => (6, p, 0)) ++ (List.range 4).map (fun g => (7, g, 0)) ++
      m.mirEntries.map (fun e => (9, e, 0))
  let m := m.pairSend m.tagNow (.m2 true false regs)
  let m := forEach keys m (fun m k => m.pairSend m.tagNow (.m2 true false (m.m2Item k)))
  m.pairSend m.tagNow (.m2 true true (m.m2Item (8, 0, 0)))

/-- A full pass asked for by SYNC_REQ (R608): M2 waits while a pair-link lane is not UP (R610). -/
def m2PassAsk (m : Mach) : Mach :=
  if 2 ≤ m.pairUp.length then m.m2Pass else m.updPair (fun p => { p with passDue := true })

/-- Deferred items, or the pass that waits, sent once both lanes are UP (R611). -/
def m2Flush (m : Mach) : Mach :=
  let l := m.pair.m2Defer
  let due := m.pair.passDue
  let m := m.updPair (fun p => { p with m2Defer := [], passDue := false })
  if due then m.m2Pass else forEach l m (fun m k => m.m2Put k)

/-- The M2 items whose content differs from that of an earlier state, in the order registers, settings, groups, programs, constants,
publications, coefficients, recorder index, integrator entries. -/
def m2Changed (old m : Mach) : List (Nat × Nat × Nat) :=
  let regs := smDiff old.regs m.regs
  let cov := regs.filter (fun a => match Reg.ofAddr a with
    | some r => Reg.mirrored r
    | none => false)
  let blocks := ((smDiff old.set m.set).map (· / 65536)).eraseDups
  let task {α : Type} [DecidableEq α] (f : Task → α) : List Nat :=
    (List.range 4).filter (fun t => decide ((old.tasks[t]?).map f ≠ (m.tasks[t]?).map f))
  let item7 (x : Mach) (g : Nat) : M2Item := x.m2Item (7, g, 0)
  cov.map (fun a => (0, a, 0)) ++ blocks.map (fun k => (1, k / 4, k % 4)) ++
    (smDiff old.group m.group).map (fun b => (3, b, 0)) ++ (task (·.prog)).map (fun t => (4, t, 0)) ++
    (task (·.kAll)).map (fun t => (5, t, 0)) ++
    ((List.range 128).filter (fun p => decide ((old.gpub p).tmpl ≠ (m.gpub p).tmpl ∨ (old.gpub p).offs ≠ (m.gpub p).offs))).map
      (fun p => (6, p, 0)) ++
    ((List.range 4).filter (fun g => decide (item7 old g ≠ item7 m g))).map (fun g => (7, g, 0)) ++
    (if old.recs.dr.stored.map (·.recNo) = m.recs.dr.stored.map (·.recNo) then [] else [(8, 0, 0)]) ++
    (m.mirEntries.filter (fun e => regs.any (m.mirHas e))).map (fun e => (9, e, 0))

/-- What an ACTIVE unit sends as M2 after a step (R602, R608): what changed; a new or changed integrator entry waits for the next
frame boundary. -/
def m2Diff (old m : Mach) : Mach :=
  if m.pair.role ≠ .active then m
  else
    let news := ((List.range 512).map (· + 512)).filter (fun e =>
      decide (old.mirRange e ≠ m.mirRange e ∨ old.fld (.mirCfg e) F.mirCfg_CLASS ≠ m.fld (.mirCfg e) F.mirCfg_CLASS) &&
        (m.mirRange e).isSome)
    let m := m.updPair (fun p => { p with mirPend := (p.mirPend ++ news).eraseDups })
    forEach (m2Changed old m) m (fun m k => m.m2Put k)

/-- New and changed integrator entries at a frame boundary (R602). -/
def mirSend (m : Mach) : Mach :=
  let l := m.pair.mirPend
  if m.pair.role ≠ .active then m
  else forEach l (m.updPair (fun p => { p with mirPend := [] })) (fun m e => m.m2Put (9, e, 0))

end Mach

end Sys2Proof.Machine
end

