-- ==== Sys2Proof/Machine/Frame.lean ====
section
/-! DEFINITION. The frame trigger (02 R51 to R56 and what comes about at it): numbering, per-second loads, engine map, ports and
banks, bay modes and settings taking effect, pair and start-up steps. -/

namespace Sys2Proof.Machine

/-- Signed percentage of a slack in its window, saturating at -128 (R89). -/
def slackPct (slack : Int) (window : Nat) : Int := clampI (-128) 127 (ratRound (((slack : Int) : Rat) * 100 / ((window : Nat) : Rat)))

/-- Window of a unit in ns (slack windows table). -/
def slackWindow (e : Nat) : Nat := if e < 34 then 36000 else if e = 34 then 12000 else 6000

/-- The frame number n, counted from LTC 0, to which an LTC in ns has come: the largest whose target it has reached (R51). -/
def frameAt (ns : Nat) : Nat :=
  let n := (ns + 1) * 9 / 625000
  if targetNs n ≤ ns then n else n - 1

namespace Mach

-- Numbers (R51 to R54)

/-- Number of the frame that the next trigger starts. -/
def nextFrame (m : Mach) : Nat :=
  if m.fr.started then m.fr.sec * 14400 + m.fr.fcnt + 1 else frameAt m.ltc.toNat

/-- LTC has reached the next frame's target instant. -/
def frameDue (m : Mach) : Bool := decide (targetNs m.nextFrame ≤ m.ltc.toNat)

/-- The numbers and the fresh steps of the new frame. -/
def frameNumbers (m : Mach) : Mach :=
  let n := m.nextFrame
  let f := m.fr
  let m := { m with fr := { f with
    started := true, sec := n / 14400, fcnt := n % 14400, fseq := if f.started then f.fseq + 1 else 0, trigMon := m.mon,
    prevMon := f.trigMon, trigLtc := m.ltc, prevSpan := m.tau, lateLog := false, cutOff := false, setDone := false, deadline := false, zeReleased := false, zeDone := false, zeBack := false,
    zeLate := false, arcRead := false, binding := false, bound := false, guard := false, stepped := false,
    vcoreCnt := if f.vcoreOn then f.vcoreCnt + 1 else f.vcoreCnt } }
  -- a zone frame that completed late counts from here on (R81)
  let m := { m with zone := { m.zone with res := m.zone.after.getD m.zone.res, after := none } }
  { m with bays := m.bays.map (fun (p : Nat × Bay) => (p.1, { p.2 with resOk := false })) }

/-- A binding that still runs when the next frame begins goes on, and publishes what its own frame computed (R82); the M0 set of its
frame is that of this instant (R48). One that has waited since its frame's 56 µs is begun first (log entry 31). -/
def bindOver (m : Mach) : Mach :=
  let m := m.bindHeldGo
  if !m.fr.binding || m.fr.bound then m
  else
    let m := m.bindLate
    let m := { m with bays := m.bays.map (fun (p : Nat × Bay) =>
      (p.1, if p.2.resOk then { p.2 with pend := some p.2.res } else p.2)) }
    let m := m.updPair (fun p => { p with m0Late := some m.m0Of })
    { m with zone := { m.zone with pend := some m.zone.res }, fr := { m.fr with bindPend := true } }

/-- The steps of the frame whose instants have passed are taken, if their commands have not come (R62, R64, R803). -/
def frameEnd (m : Mach) : Mach := if m.start.phase = 0 then m else m.guardStart

-- Loads at a trigger with FCNT_S 0

/-- SLACK_MIN of a unit for the second just ended (R68, R89). -/
def slackLoad (m : Mach) (e : Nat) : Mach :=
  let x := m.eng e
  let win := slackWindow e
  let w : Word := match x.secMin with
    | some s =>
      let l := F.slackMin_VALID.set 0 1
      let l := F.slackMin_LATE.set l (bit x.secLate)
      let l := F.slackMin_WARN.set l (bit (decide (s * 5 < ((win : Nat) : Int))))
      let l := F.slackMin_SLACK_PCT.set l (toBits 8 (slackPct s win))
      F.slackMin_SLACK_NS.set l (toBits 21 (clampI (-1048576) 1048575 s))
    | none => 0
  (m.wr (.slackMin e) w).updEng e (fun x => { x with secMin := none, secLate := false })

/-- What is loaded at each whole second of LTC (R68, R123, R232, R318, R370, R622). -/
def secondLoads (m : Mach) : Mach :=
  if m.fr.fcnt ≠ 0 then m
  else
    let m := forEach (List.range 36) m (fun m e => m.slackLoad e)
    let m := forEach (m.acq.subs.map (·.1)) m (fun m s =>
      (m.wr (.svsLatMax s) (wd (min (m.sub s).latMax (2 ^ 32 - 1)))).updSub s (fun x => { x with latMax := 0 }))
    let m := { m with bays := m.bays.map (fun (p : Nat × Bay) => (p.1, { p.2 with lateSec := p.2.lateCnt, lateCnt := 0 })) }
    let m := { m with zone := { m.zone with lateSec := m.zone.lateCnt, lateCnt := 0 } }
    let m := m.setF .stuStat F.stuStat_P_PEAK (min m.stu.pPeak 255)
    let m := { m with stu := { m.stu with pPeak := 0 } }
    let m := m.setF .pairM0Peak F.pairM0Peak_BYTES m.pair.m0Sec
    (m.updPair (fun p => { p with m0Sec := 0 })).ppsWhole

-- Engine map (R20 to R28, R83 to R88)

/-- A bay's frame is under way on its engine. -/
def bayBusy (m : Mach) (b : Nat) : Bool := (m.bay b).comp.isSome || (m.bay b).wait.isSome

/-- A fence that waited for the frame boundary (R84, R25): an idle engine at once; an engine with an enabled bay once its last frame
is complete and copied. -/
def fenceStep (m : Mach) (x : Nat × ErrSrc) : Mach :=
  let (d, src) := x
  let done (m : Mach) : Mach :=
    { m with hlth := { m.hlth with fencePend := m.hlth.fencePend.filter (fun p => p.1 ≠ d) } }
  if m.fenced d then done m
  else if 34 ≤ d then (if d = 34 ∧ m.zone.next.isSome then m else done (m.fenceNow d src))
  else match m.bayOn d with
    | none => done (m.fenceNow d src)
    | some b =>
      if (m.bay b).mode = 0 then (done (m.fenceNow d src)).dropMoves b
      else
        let ready := !m.bayBusy b && m.fr.moves.any (fun v => decide (v.bay = b ∧ v.why = .fence) && v.copied)
        if ready then
          let m := ((done (m.fenceNow d src)).dropMoves b)
          if d = 32 ∧ !m.fenced b then (m.setEng b b).carAbandon b else m.placeFenced b .fence
        else if m.fr.moves.any (fun v => decide (v.bay = b ∧ v.why = .fence)) then m
        else m.leaveMove b d .fence

/-- The slot's phase after its handover. -/
def carPhase (m : Mach) (k : Nat) : Mach := m.updCar (fun c => { c with phase := k })

/-- A pending move carried out (R20, R25, R83, R88, R707, R710, R716). -/
def moveDo (m : Mach) (v : Move) : Mach :=
  match v.why with
  | .carousel =>
    if (m.bayOn 32).isSome || m.fenced 32 || m.fenced v.bay then m.carPhase 0
    else ((m.setEng v.bay 32).carTest v.bay).carPhase 2
  | .carReturn => if m.fenced v.bay then m.carPhase 0 else ((m.setEng v.bay v.bay).carPhase 0).jugglerTest 32
  | .carEnd => if m.fenced v.bay then m.carPhase 0 else (m.setEng v.bay v.bay).carPhase 0
  | .carFail => if m.jugglerOk 33 && (m.bayOn 33).isNone then m.setEng v.bay 33 else m
  | .retest => if m.fenced v.bay then m else (m.updBay v.bay (fun x => { x with unprot := false })).setEng v.bay v.bay
  | .unprot =>
    if m.jugglerOk v.dst && (m.bayOn v.dst).isNone then (m.updBay v.bay (fun x => { x with unprot := false })).setEng v.bay v.dst
    else m
  | .fence => m.placeFenced v.bay .fence
  | .stall =>
    let m := if m.fenced v.bay then m.placeFenced v.bay .stall else m.setEng v.bay v.bay
    if (m.bay v.bay).unprot || m.fr.moves.any (fun x => x.bay = v.bay) then m else m.emit .stallTakeover v.bay

/-- A pending move at a frame boundary: carried out, or left for a later one. A carousel handover is postponed when the outgoing or
the incoming engine was late (R83); the copy is then made again. -/
def moveStep (m : Mach) (v : Move) : Mach :=
  let again (v : Move) : Mach := { m with fr := { m.fr with moves := m.fr.moves ++ [v] } }
  let car := decide (v.why = .carousel ∨ v.why = .carReturn)
  let late := (m.eng (m.engOf v.bay)).late || (m.eng v.dst).late
  let off := decide ((m.bay v.bay).mode = 0)
  if v.why = .fence ∧ !m.fenced (m.engOf v.bay) then again v
  else if sdiff32 m.fr.fseq v.notBefore < 0 then again v
  else if car && late then again { v with copied := false, notBefore := m.fr.fseq + 1 }
  else if !(v.copied || off) || m.bayBusy v.bay then again v
  else m.moveDo v

/-- An enabled bay on a fenced engine, or an unprotected one once a juggler engine is free (R20, R24), is to move at the next boundary,
unless it is on the way. -/
def mapRepair (m : Mach) (b : Nat) : Mach :=
  let x := m.bay b
  if decide (x.mode = 0) || m.fr.moves.any (fun v => v.bay = b) then m
  else if x.unprot then
    match [33, 32].find? (fun j => m.jugglerOk j && (m.bayOn j).isNone && !m.fr.moves.any (fun v => v.dst = j)) with
    | some j => m.addMove { bay := b, dst := j, why := .unprot, copied := false, notBefore := m.fr.fseq + 1 }
    | none => m
  else if m.fenced (m.engOf b) then m.leaveMove b (m.engOf b) .fence
  else m

/-- The engine map at a frame boundary. A carousel bay that returns because JE0 is needed does so last, so that JE0 takes the fenced bay one
boundary later (R25). -/
def mapStep (m : Mach) : Mach :=
  let m := forEach m.hlth.fencePend m (fun m x => m.fenceStep x)
  let l := m.fr.moves.filter (fun (v : Move) => v.why ≠ MoveWhy.carEnd) ++ m.fr.moves.filter (fun (v : Move) => v.why = MoveWhy.carEnd)
  let m := forEach l { m with fr := { m.fr with moves := [] } } (fun m v => m.moveStep v)
  let m := { m with fr := { m.fr with moves := m.fr.moves.filter (fun (v : Move) => decide (v.why ≠ MoveWhy.carEnd) || decide (m.engOf v.bay = 32)) } }
  let m := forEach (List.range 32) m (fun m b => m.mapRepair b)
  let m := forEach [32, 33] m (fun m j => if (m.bayOn j).isSome then m.carAbandon j else m)
  let m := if m.fenced m.hlth.car.slot then m.carPhase 0 else m
  { m with fr := { m.fr with engs := m.fr.engs.map (fun (p : Nat × Eng) => (p.1, { p.2 with late := false })) } }

-- Ports

/-- A calibration whose end was commanded, or whose conditions no longer hold, ends at the trigger, its port in RUN (R146, R147). -/
def calStep (m : Mach) (p : Nat) : Mach :=
  let x := m.port p
  match x.cal with
  | none => m
  | some k =>
    if x.calEndPend then m.updPort p (fun y => { y with st := .run, cal := none, calEndPend := false })
    else if m.calHolds p k then m.updPort p (fun y => { y with cal := some { k with tests := m.calTests p } })
    else m.calAbort p .run

/-- An armed swap at its trigger (R106). -/
def swapStep (m : Mach) (g : Nat) : Mach :=
  match (m.swg g).swapAt with
  | some f =>
    if sdiff32 m.fr.fseq f < 0 then m
    else
      let m := (m.setF (.swgCtrl g) F.swgCtrl_ACTIVE (1 - m.activeBank g)).setF (.swgCtrl g) F.swgCtrl_ARM 0
      { m with acq := { m.acq with swgs := SMap.put m.acq.swgs g { m.swg g with swapAt := none } } }
  | none => m

/-- The ports at the trigger (R91, R106 to R112), and their stage-2 outputs to the transient tap (R149). -/
def portsStep (m : Mach) (bits : List (List Bool)) (late : List Bool) : Mach :=
  let m := forEach (List.range 16) m (fun m p => m.calStep p)
  let olds : List (List Int) := (List.range 4).map (fun g => (m.bank g (m.activeBank g)).1)
  let m := forEach (List.range 4) m (fun m g => m.swapStep g)
  let (m, outs) := (List.range 16).foldl (fun (a : Mach × List (Nat × List Int)) p =>
    let g := a.1.fld (.modCfg p) F.modCfg_SWG
    let (m, o) := a.1.portFrame p (bits.getD p []) (late.getD p false) (olds.getD g [])
    (m, a.2 ++ [(p, o)])) (m, [])
  let m := m.trAppend outs
  { m with acq := { m.acq with subs := m.acq.subs.map (fun (p : Nat × Sub) =>
      (p.1, { p.2 with okFrames := if p.2.st = 2 then p.2.okFrames + 1 else 0 })) } }

-- What takes effect at a frame boundary

/-- An engine that has its enabled bay again, or gets one, is in no carousel test (R21, R25). -/
def carTidy (m : Mach) : Mach :=
  forEach (List.range 32) m (fun m b =>
    if (m.bay b).mode ≠ 0 ∧ m.engOf b = b ∧ (m.dom b).st = 3 then
      let m := m.carAbandon b
      if m.hlth.car.slot = b then m.carPhase 0 else m
    else m)

/-- Points latched for signal references (R540). -/
def pointsLatch (m : Mach) : Mach :=
  let gpr := (List.range 4096).filterMap (fun i =>
    if m.flag (.gpr i) F.gpr_EN then some (i, m.staPoint (m.fld (.gpr i) F.gpr_ENTRY) (m.fld (.gpr i) F.gpr_POINT)) else none)
  { m with net := { m.net with gptsLatched := m.net.gpts, gprLatched := gpr } }

/-- Commits and group changes bound in the frame before take effect (R225, R228). -/
def settingsEffect (m : Mach) : Mach :=
  let cs := m.stu.pendCommits
  let gs := m.stu.pendGroups
  let m := { m with stu := { m.stu with pendCommits := [], pendGroups := [] } }
  let mark (m : Mach) (b : Nat) : Mach := if b < 32 then m.wr (.bayCommit b) m.fr.fseq else m
  let m := forEach cs m (fun m (c : Nat × Nat × List (Nat × Int)) =>
    mark { m with set := c.2.2.foldl (fun s p => setPut s c.1 c.2.1 p.1 p.2) m.set } c.1)
  forEach gs m (fun m (c : Nat × Nat) => mark { m with group := SMap.putD m.group 0 c.1 c.2 } c.1)

/-- Clears asked for since the last trigger are taken: with the frame that an engine computes, at once in a bay that no engine computes
(R223, R268, R269). -/
def Bay.clears (x : Bay) : Bay :=
  let k := x.clrMotNow ||| x.clrMot
  let e := x.clrEnergyNow || x.clrEnergy
  let x := { x with clrMot := 0, clrEnergy := false }
  if x.mode ≠ 0 ∧ !x.unprot then { x with clrMotNow := k, clrEnergyNow := e }
  else
    let x := { x with clrMotNow := 0, clrEnergyNow := false, d := { x.d with mot := x.d.mot.clear k } }
    if e then { x with d := { x.d with energy := [0, 0, 0, 0] }, pub := { x.pub with energy := [0, 0, 0, 0] } } else x

/-- The clears of every bay; a trip bound in a frame counts for the breaker failure of the next frame alone, so that a bay that is OFF in it
drops it (R217). -/
def clearsTake (m : Mach) : Mach :=
  { m with bays := m.bays.map (fun (p : Nat × Bay) =>
      let x := Bay.clears p.2
      (p.1, if x.mode = 0 then { x with ownPend := false } else x)) }

/-- A mirrored D_ALIGN is applied when no bay is enabled (R601). -/
def dAlignTake (m : Mach) : Mach :=
  match m.pair.dAlignPend with
  | some v =>
    if (List.range 32).any (fun b => decide ((m.bay b).mode ≠ 0)) then m
    else (m.setF .frmCfg F.frmCfg_D_ALIGN v).updPair (fun p => { p with dAlignPend := none })
  | none => m

/-- The steps of the frame boundary that follow the numbering, part one: time steps, second loads (with the FCNT_S
after a step: R470), inputs, map, ports. -/
def triggerA (m : Mach) (bits : List (List Bool)) (rb : Nat) (late : List Bool) : Mach :=
  let m := m.stepTrigger
  let m := ({ m with fr := { m.fr with trigLtc := m.ltc } } : Mach).secondLoads
  let m := (m.fioTrigger rb).pointsLatch
  (m.mapStep).portsStep bits late

/-- Part two: modes, settings, pair, start-up and health: HEALTH counts from the trigger that reaches PROTECTION_READY (R769). -/
def triggerB (m : Mach) : Mach :=
  let m := (((m.settingsEffect).bayModes).carTidy).clearsTake
  let m := (m.dAlignTake).mirSend
  let m := ((m.m0Apply).takeoverCheck).switchFrame
  (m.startTrigger).healthUpdate

/-- FRAME_TRIGGER (R51): the trigger of the next frame. `bits` are the 1280 values each port captured in the frame just ended, oldest
first; `rb` the readbacks RB0 to RB15; `late` tells whose ring entry is not written in time. -/
def frameTrigger (m : Mach) (bits : List (List Bool)) (rb : Nat) (late : List Bool) : Mach :=
  if !m.frameDue then m
  else
    let m := ((m.frameEnd).drRowStore).bindOver
    ((m.frameNumbers).triggerA bits rb late).triggerB

end Mach

end Sys2Proof.Machine
end

