-- ==== Sys2Proof/Machine/Write.lean ====
section
/-! DEFINITION. Register access (00 R11 to R16; 15 R685 to R687 and the write rules each register's chapter states): what a write is
refused for, what it does, and what a read changes. -/

namespace Sys2Proof.Machine

/-- Who writes a register: the session's number, and whether it holds the maintenance role. -/
structure Who where
  session : Nat
  maint : Bool
  deriving DecidableEq, Repr

/-- A broken rule: its status and ARG0. -/
abbrev Broken := List (Nat × Nat)

/-- A rule broken under a condition. -/
def ck (c : Bool) (status : Nat) (arg : Nat := 0) : Broken := if c then [(status, arg)] else []

/-- Status codes that a register write can be refused with (R676). -/
def stParam : Nat := 0x0102
def stBusy : Nat := 0x0201
def stDenied : Nat := 0x0202
def stFeature : Nat := 0x0203
def stFenced : Nat := 0x0204
def stAuth : Nat := 0x0207
def stState : Nat := 0x0208

/-- The first status of R685's order among the rules broken. -/
def firstBroken (l : Broken) : Option (Nat × Nat) :=
  [stFeature, stAuth, stParam, stState, stFenced, stBusy, stDenied].findSome? (fun s => l.find? (fun x => x.1 = s))

/-- The word a register holds once a word is written to it (R11, R12): RW fields are taken, RW1C bits cleared, the rest kept. -/
def Reg.merge (r : Reg) (old w : Word) : Word :=
  let ro : Bool := match r with
    | .mirAddr e | .mirCfg e => decide (e < 512)
    | _ => false
  if ro then old
  else
    let x := r.fields.foldl (fun (x : Word) f => match f.acc with
      | .rw | .rwl => f.set x (f.get w)
      | .rw1c => f.set x (f.get x &&& (2 ^ (f.hi + 1 - f.lo) - 1 - f.get w))
      | _ => x) old
    match r with
    | .znTm _ => F.znTm_XFER.set x 0
    | .doCfg y => if 12 ≤ y then F.doCfg_CLAIM.set x 0 else x
    | _ => x

/-- The word a register holds once a word is written to it: an RW1C bit that the engine sets at the same instant stays set (R13). -/
def Mach.merged (m : Mach) (r : Reg) (w : Word) : Word := r.merge (m.rd r) w ||| m.fresh1Of r

/-- A word with the RC fields of a register taken from another. -/
def Reg.rcFrom (r : Reg) (w x : Word) : Word :=
  r.fields.foldl (fun (w : Word) f => if f.acc = .rc then f.set w (f.get x) else w) w

/-- A register has a field that reading clears (R14). -/
def Reg.hasRc (r : Reg) : Bool := r.fields.any (fun f => decide (f.acc = .rc))

/-- A field that a write would set outside its stated range. LEN of a template or of a mirror entry and a VID may stand at their
reset value 0 while EN is 0. -/
def Reg.outOfRange (r : Reg) (w : Word) : Bool :=
  let idle : Bool := match r with
    | .netVid _ => !w.getLsbD 12 && decide (F.netVid_VID.get w = 0)
    | .gpubCtrl _ => !w.getLsbD 0 && decide (F.gpubCtrl_LEN.get w = 0)
    | .mirCfg _ => !w.getLsbD 31 && decide (F.mirCfg_LEN.get w = 0)
    | _ => false
  r.fields.any (fun f => decide (f.acc = .rw) && (match f.range with
    | some (lo, hi) => (decide (f.get w < lo ∨ hi < f.get w)) &&
        !(idle && (f == F.netVid_VID || f == F.gpubCtrl_LEN || f == F.mirCfg_LEN))
    | none => false))

/-- The registers of R369. -/
def Reg.route : Reg → Bool
  | .bayBrkLoc _ | .bayBrkRem _ | .bayClsLoc _ | .bayClsRem _ | .bayXfer _ | .bayTm _ _ | .znTm _ => true
  | _ => false

/-- A word with all but one field equal to that of another. -/
def sameBut (f : Fld) (a b : Word) : Bool := decide (a &&& ~~~ f.mask = b &&& ~~~ f.mask)

namespace Mach

/-- A frame is past, or more than 2^31 frames ahead (R107, R474): exactly 2^31 ahead it is neither. -/
def fseqPast (m : Mach) (f : Word) : Bool :=
  let d := sdiff32 f (if m.fr.started then m.fr.fseq else 0)
  decide (d ≠ -2147483648) && (if m.fr.started then decide (d ≤ 0) else decide (d < 0))

/-- The frame of the second trigger from now (R106). -/
def secondTrigger (m : Mach) : Word := if m.fr.started then m.fr.fseq + 2 else 1

/-- The feature bit f is needed and not accepted. -/
def needFeat (m : Mach) (f : Nat) (c : Bool) : Broken := ck (c && !m.feat f) stFeature f

/-- Starting a maintenance activity is refused (R723, R724). -/
def maintBroken (m : Mach) (act target : Nat) : Broken :=
  match m.maintHolder act target with
  | some x => [(stBusy, x.handle * 65536 + x.act)]
  | none => ck (decide (16 ≤ m.cmd.maint.length)) stState

/-- A bay is enabled, or an accepted MODE enables it at the next trigger, so that what enabling it was checked for stands (R59, R60, R132;
log entry 58). -/
def bayEnabled (m : Mach) (b : Nat) : Bool :=
  decide ((m.bay b).mode ≠ 0) || (decide (m.start.phase = 6) && decide (m.modeReq b ≠ 0))

/-- Some bay is enabled. -/
def anyBayOn (m : Mach) : Bool := (List.range 32).any m.bayEnabled

/-- Rules of the acquisition block (R104 to R107, R113, R132, R145, R150, R534). RATE 1 without its feature is refused when it is enabled, not
while EN is 0 (DESIGN CHOICE, log entry 58). -/
def brokenAcq (m : Mach) (r : Reg) (old new : Word) : Broken :=
  match r with
  | .modCfg _ => ck (F.modCfg_EN.get old = 1 && F.modCfg_SWG.get old != F.modCfg_SWG.get new) stState
  | .modGain p | .modOffset p => ck (decide ((m.port p).st ≠ .cal) && m.portMapped p) stState
  | .swgCtrl g => ck (F.swgCtrl_ARM.get new = 1 &&
      (!m.swapOk g || (F.swgCtrl_USE_FSEQ.get new = 1 && m.fseqPast (m.rd (.swgFseq g))))) stParam
  | .coefAddr => ck (F.coefAddr_STAGE.get new = 0 && decide (63 < F.coefAddr_TAP.get new) || decide (159 < F.coefAddr_TAP.get new)) stParam
  | .coefData =>
    let a := m.rd .coefAddr
    ck (F.coefAddr_BANK.get a = m.activeBank (F.coefAddr_GROUP.get a)) stState
  | .svsCfg s =>
    let on := decide (F.svsCfg_EN.get old = 0 ∧ F.svsCfg_EN.get new = 1)
    ck (F.svsCfg_EN.get old = 1 && !sameBut F.svsCfg_EN old new) stState ++
    ck (F.svsCfg_EN.get new = 1 && F.svsCfg_RATE.get new = 1 && !m.feat 0) stParam ++
    ck (on && m.subDup s) stParam ++ ck (on && m.subFull s) stState
  | .slotMap b _ | .slotScale b _ => ck (m.bayEnabled b) stState
  | .slotAlt b _ => ck (m.bayEnabled b) stState ++ ck (F.slotAlt_KIND.get new = 3) stParam
  | .frmCfg => ck (F.frmCfg_D_ALIGN.get old != F.frmCfg_D_ALIGN.get new && m.anyBayOn) stState
  | _ => []

/-- Rules of the bay, zone, stitch and field I/O blocks (R132, R223, R268, R269, R344, R369, R408, R409, R761). -/
def brokenBay (m : Mach) (who : Who) (r : Reg) (w new : Word) : Broken :=
  let unset := decide (m.start.kindEff = 0)
  match r with
  | .bayCtrl n =>
    ck unset stState ++ ck (F.bayCtrl_CLR_ENERGY.get w = 1 && !who.maint) stAuth ++
    (if F.bayCtrl_MODE.get new ≠ 0 ∧ (m.bay n).mode = 0 ∧ m.start.phase = 6 then
      (match m.enableBar n with
        | some s => [(s, 0)]
        | none => [])
    else [])
  | .bayLatch _ => ck unset stState
  | .bayMotCtrl n => ck (w &&& 7 != 0 && !who.maint) stAuth ++ ck (decide (m.cfg n 0 0 0 ≠ 1)) stState
  | .bayBrkLoc n | .bayBrkRem n | .bayClsRem n | .bayXfer n | .bayTm n _ => ck (unset || m.bayEnabled n) stState
  | .bayClsLoc n =>
    let mask := F.bayClsLoc_DO_MASK.get new
    ck (unset || m.bayEnabled n) stState ++
    ck ((List.range 16).any (fun y => mask.testBit y && (decide (12 ≤ y) || !m.flag (.doCfg y) F.doCfg_CLAIM))) stParam
  | .znTm _ => ck (unset || m.anyBayOn) stState
  | .stuTestOut => ck (!who.maint) stAuth
  | .doCfg y =>
    ck (m.cmdOn y) stState ++
    ck (F.doCfg_CLOSE.get new = 1 && (decide (12 ≤ y) || F.doCfg_CLAIM.get new = 0)) stParam ++
    ck (decide (y < 12) && F.doCfg_CLAIM.get new = 0 && (List.range 32).any (fun b => (m.fld (.bayClsLoc b) F.bayClsLoc_DO_MASK).testBit y)) stParam
  | .leCtrl _ => ck (decide (F.leCtrl_CYC_MAX.get new < F.leCtrl_CYC_MIN.get new)) stParam
  | .leE40 t => ck (match m.tasks[t]? with
      | some x => decide (x.st = .run)
      | none => false) stState
  | _ => []

/-- INC as the pair of registers gives it, outside 7.992 ns to 8.008 ns (R459). -/
def incBad (inc : Nat) : Bool := decide (inc * 1000 < 7992 * 2 ^ 32 ∨ 8008 * 2 ^ 32 < inc * 1000)

/-- Rules of the time block (R460, R474, R483, R489, R499, R501). -/
def brokenTime (m : Mach) (who : Who) (r : Reg) (old w new : Word) : Broken :=
  let host := decide (m.fld .tbCtrl F.tbCtrl_SERVO_EN = 0 ∧ m.tb.st = .free)
  match r with
  | .tbCtrl => ck ((F.tbCtrl_PTP_EN.get new = 1 || F.tbCtrl_MASTER_EN.get new = 1) && m.flag .netCtrl F.netCtrl_HSR) stParam
  | .tbIncInt => ck (!host) stState
  | .tbIncFrac => ck (!host) stState ++ ck (incBad ((m.rd .tbIncInt).toNat % 256 * 2 ^ 32 + w.toNat)) stParam
  | .tbServo => ck (decide (10 * F.tbServo_UNLOCK_THR.get new ≤ F.tbServo_LOCK_THR.get new)) stParam
  | .tbStepCtrl =>
    if F.tbStepCtrl_ARM.get new = 1 then
      ck (!who.maint) stAuth ++ ck (F.tbStepCtrl_ARM.get old = 1) stState ++
      ck (F.tbStepCtrl_USE_FSEQ.get new = 1 && m.fseqPast (m.rd .tbStepFseq)) stParam
    else []
  | .tbRrCtrl => if F.tbRrCtrl_ACCEPT.get w = 1 then ck (!who.maint) stAuth ++ ck (decide (m.tb.st ≠ .hold)) stState else []
  | .tbPtpCfg => ck (decide (1 ≤ F.tbPtpCfg_LOG_SYNC.get new ∧ F.tbPtpCfg_LOG_SYNC.get new ≤ 11)) stParam
  | .lnAsymTx _ | .lnAsymRx _ => ck (decide (100000000 < (sgn32 new.toNat).natAbs)) stParam
  | .trgPeriod _ => ck (decide (new.toNat ≠ 0 ∧ new.toNat < 1000)) stParam
  | _ => []

/-- Rules of the lane block (R502, R503, R505, R508, R516, R517, R520, R525). -/
def brokenLane (m m' : Mach) (who : Who) (r : Reg) (old w new : Word) : Broken :=
  match r with
  | .lnCfg l =>
    let en := decide (F.lnCfg_EN.get old = 1)
    let mate := if l = 2 then 3 else 2
    let pair (x : Nat) : Bool := decide (m'.fld (.lnCfg x) F.lnCfg_ROLE = 1)
    let roleBad := decide (m'.fld (.lnCfg l) F.lnCfg_RATE = if pair l then 0 else 1) || if l < 2 then pair l
      else decide (pair l ≠ pair mate) || (pair l && (!m.feat 3 ||
        m'.fld (.lnCfg l) F.lnCfg_RATE != m'.fld (.lnCfg mate) F.lnCfg_RATE))
    ck (en && (F.lnCfg_RATE.get old != F.lnCfg_RATE.get new || F.lnCfg_ROLE.get old != F.lnCfg_ROLE.get new ||
      F.lnCfg_AN_EN.get old != F.lnCfg_AN_EN.get new)) stState ++
    ck (!en && F.lnCfg_EN.get new = 1 && roleBad) stParam
  | .lnAdapt _ => ck (!who.maint) stAuth
  | .lnScanCtrl l =>
    let st := (m.lane l).st
    ck (F.lnScanCtrl_V_OFS.get new = 128 || decide (32 ≤ F.lnScanCtrl_H_OFS.get new ∧ F.lnScanCtrl_H_OFS.get new < 224)) stParam ++
    ck (F.lnScanCtrl_START.get w = 1 && decide (st ≠ .up ∧ st ≠ .test)) stState ++ ck (m.lane l).scan stBusy
  | .lnPrbsCtrl l =>
    ck ((F.lnPrbsCtrl_GEN_EN.get new = 1 || F.lnPrbsCtrl_CHK_EN.get new = 1 || F.lnPrbsCtrl_LOOP.get new != 0) &&
      decide ((m.lane l).st ≠ .test)) stState
  | .svcCfg => ck (F.svcCfg_EN.get old = 1 && F.svcCfg_MODE.get old != F.svcCfg_MODE.get new) stState
  | _ => []

/-- A station entry's DEVID is the engine's or that of another enabled entry (R547). -/
def devidTaken (m : Mach) (e d : Nat) : Bool :=
  decide (d = m.fld .netCtrl F.netCtrl_OWN_DEVID) ||
  (List.range 256).any (fun k => decide (k ≠ e) && m.flag (.staCfg k) F.staCfg_EN && decide (m.fld (.staCfg k) F.staCfg_DEVID = d))

/-- Rules of the network block (R483, R530, R534, R541, R547, R574). `m'` is the state with the word stored. -/
def brokenNet (m m' : Mach) (r : Reg) (old new : Word) : Broken :=
  match r with
  | .netCtrl =>
    let rise (f : Fld) : Bool := decide (f.get old = 0 ∧ f.get new = 1)
    let prp := decide (F.netCtrl_PRP.get new = 1)
    let hsr := decide (F.netCtrl_HSR.get new = 1)
    let up := rise F.netCtrl_PRP || rise F.netCtrl_HSR
    let laneEn (l : Nat) : Bool := m.flag (.lnCfg l) F.lnCfg_EN
    m.needFeat 1 prp ++ m.needFeat 8 (F.netCtrl_GLX_EN.get new = 1) ++ ck (hsr && !m.feat 2) stParam ++ ck (prp && hsr) stParam ++
    ck (up && m.fld (.lnCfg 0) F.lnCfg_RATE != m.fld (.lnCfg 1) F.lnCfg_RATE) stParam ++
    ck (hsr && (m.flag .tbCtrl F.tbCtrl_PTP_EN || m.flag .tbCtrl F.tbCtrl_MASTER_EN)) stParam ++
    ck (up && (laneEn 0 || laneEn 1)) stState ++
    ck (F.netCtrl_OWN_DEVID.get old != F.netCtrl_OWN_DEVID.get new && (List.range 256).any (fun e => decide ((m.sta e).st ≠ .disabled))) stState
  | .netGlxMacHi => ck (!new.getLsbD 8) stParam
  | .hostf _ => ck (!([0x88B5, 0x88BA, 0x88B8, 0x88F7].all (fun (x : Nat) => decide (F.hostf_ETYPE.get new ≠ x)))) stParam
  | .rxd d _ => ck (if d < 64 then m.flag (.svsCfg d) F.svsCfg_EN else m.flag (.gsubCfg (d - 64)) F.gsubCfg_EN) stState
  | .gsubCfg g =>
    let on := decide (F.gsubCfg_EN.get old = 0 ∧ F.gsubCfg_EN.get new = 1)
    ck (F.gsubCfg_EN.get old = 1 && !sameBut F.gsubCfg_EN old new) stState ++
    ck (on && m.subDup (64 + g)) stParam ++ ck (on && m.subFull (64 + g)) stState
  | .gpubCtrl p => ck (F.gpubCtrl_EN.get old = 0 && F.gpubCtrl_EN.get new = 1 && !m'.gpubOk p) stParam
  | .staCfg e =>
    ck (F.staCfg_EN.get old = 1 && !sameBut F.staCfg_EN old new) stState ++
    ck (F.staCfg_EN.get old = 0 && F.staCfg_EN.get new = 1 && m.devidTaken e (F.staCfg_DEVID.get new)) stParam
  | _ => []

/-- Total length of the integrator entries in use (R602). -/
def mirTotal (m : Mach) : Nat :=
  (m.mirEntries.map (fun k => ((m.mirRange k).map (·.2)).getD 0)).foldl (fun a b => a + b) 0

/-- An integrator entry names what R602 does not allow: an address that no block maps or not a multiple of 4, class M0, more than
64 KiB in all. -/
def mirBad (m : Mach) (e : Nat) : Bool :=
  match m.mirRange e with
  | none => false
  | some (lo, n) =>
    lo % 4 != 0 || n % 4 != 0 || Nat.blt 0xE0000 (lo + n) || m.fld (.mirCfg e) F.mirCfg_CLASS == 0 || Nat.blt 65536 m.mirTotal

/-- Rules of the pair, recorder, health, security, test and start registers (R59, R598, R602, R618, R638, R652, R657, R709, R729 to
R733, R753, R756, R760, R764). -/
def brokenSys (m m' : Mach) (who : Who) (r : Reg) (old w new : Word) : Broken :=
  match r with
  | .pairCtrl => if F.pairCtrl_SWITCH.get w = 1 then ck (!who.maint) stAuth ++ ck (!m.switchOk) stState else []
  | .mirAddr e => ck (decide (512 ≤ e) && (decide (new.toNat % 4 ≠ 0) || m'.mirBad e)) stParam
  | .mirCfg e => ck (decide (512 ≤ e) && m'.mirBad e) stParam
  | .pwrCtrl =>
    let able (f : Nat) : Bool := decide ((m.feed f).st = .present ∨ (m.feed f).st = .proven)
    let a := decide (F.pwrCtrl_PROVE_A.get w = 1)
    let b := decide (F.pwrCtrl_PROVE_B.get w = 1)
    ck (a && !able 1) stState ++ ck (b && !able 0) stState ++ ck (a && b) stState ++
    (if a then m.maintBroken 7 0 else []) ++ (if b then m.maintBroken 7 1 else [])
  | .evrCtrl => if F.evrCtrl_CLEAR.get w = 1 then ck (!who.maint) stAuth ++ m.maintBroken 8 0 else []
  | .drCtrl =>
    ck (F.drCtrl_EN.get old = 1 && (F.drCtrl_PRE.get old != F.drCtrl_PRE.get new || F.drCtrl_POST.get old != F.drCtrl_POST.get new ||
      F.drCtrl_TR_EN.get old != F.drCtrl_TR_EN.get new)) stState ++
    (if F.drCtrl_CLEAR.get w = 1 then ck (!who.maint) stAuth ++ m.maintBroken 8 1 else [])
  | .drAn _ | .drTrCfg => ck (m.flag .drCtrl F.drCtrl_EN) stState
  | .drBin _ =>
    let k := F.drBin_KIND.get new
    let i := F.drBin_INDEX.get new
    let top := match k with
      | 1 => 47
      | 2 | 3 => 4095
      | 8 => 33 * 128 - 1
      | 9 => 15
      | _ => 8191
    ck (m.flag .drCtrl F.drCtrl_EN) stState ++ ck (decide (3 < k ∧ k ≠ 8 ∧ k ≠ 9) || decide (top < i)) stParam
  | .hltUnfence =>
    let d := F.hltUnfence_DOMAIN.get w
    if F.hltUnfence_REQ.get w = 1 then
      ck (!who.maint) stAuth ++ ck (decide (132 ≤ d)) stParam ++ ck (decide ((m.dom d).st ≠ 1)) stState
    else []
  | .atbCtrl n =>
    let k := F.atbCtrl_MODE.get new
    ck (!m.cmd.maint.any (fun x => decide (x.act = 9 ∧ x.target = n ∧ x.session = who.session))) stState ++
    ck (!atbNodeOk (F.atbCtrl_NODE.get new)) stParam ++ ck (decide (k = 2) && !m.flag .glbStat F.glbStat_PRODUCTION) stDenied
  | .secMkeyCtrl =>
    let rev := F.secMkeyCtrl_REVOKE.get w
    let left := (List.range 4).any (fun k => m.mkeyOk k && !rev.testBit k)
    if rev ≠ 0 then ck (!who.maint) stAuth ++ ck (!left) stState else []
  | .secMkey k x =>
    ck (m.flag .secStat F.secStat_SEALED) stDenied ++
    ck (decide (x = 23) && !Config.onCurve ((List.range 24).map (fun i => m'.rd (.secMkey k i)))) stParam
  | .startCtrl =>
    let k := F.startCtrl_KIND.get old
    ck (decide (k ≠ 0) && F.startCtrl_KIND.get new != k) stState ++
    ck (F.startCtrl_GO.get w = 1 && decide (m.start.phase ≠ 2)) stState
  | _ => []

/-- Every rule that a write breaks: of its register, its field ranges, R589 and R761. -/
def broken (m : Mach) (who : Who) (r : Reg) (w : Word) : Broken :=
  let old := m.rd r
  let new := m.merged r w
  let m' := m.wr r new
  ck (r.outOfRange new) stParam ++ ck (m.passive && m.mirCovers r) stState ++
  m.brokenAcq r old new ++ m.brokenBay who r w new ++ m.brokenTime who r old w new ++ m.brokenLane m' who r old w new ++
  m.brokenNet m' r old new ++ m.brokenSys m' who r old w new

/-- The refusal of a write, in R685's order. -/
def regCheck (m : Mach) (who : Who) (r : Reg) (w : Word) : Option (Nat × Nat) := firstBroken (m.broken who r w)

-- What an accepted write does beside storing its word

/-- A coefficient written through COEF_DATA, and the tap advanced (R104). -/
def coefNext (m : Mach) : Mach :=
  let last := if m.fld .coefAddr F.coefAddr_STAGE = 0 then 63 else 159
  let t := m.fld .coefAddr F.coefAddr_TAP
  m.setF .coefAddr F.coefAddr_TAP (if last ≤ t then 0 else t + 1)

def coefPut (m : Mach) (w : Word) : Mach :=
  let a := m.rd .coefAddr
  let g := F.coefAddr_GROUP.get a
  let b := F.coefAddr_BANK.get a
  let v : Int := (w.setWidth 24).toInt
  let c := m.bank g b
  let t := F.coefAddr_TAP.get a
  let c' := if F.coefAddr_STAGE.get a = 0 then (setAt c.1 t v, c.2) else (c.1, setAt c.2 t v)
  let x := m.swg g
  let x' := if b = 0 then { x with bankA := some c' } else { x with bankB := some c' }
  ({ m with acq := { m.acq with swgs := SMap.put m.acq.swgs g x' } } : Mach).coefNext

/-- Modulator clocks enabled or disabled (R806). -/
def mclkWritten (m : Mach) (old new : Word) : Mach :=
  forEach [0, 1] m (fun m x =>
    let f := if x = 0 then F.acqCtrl_MCLK0_EN else F.acqCtrl_MCLK1_EN
    if f.get old = f.get new then m
    else
      let m := m.setF .acqStat (mclkLockF x) 0
      let m := { m with acq := { m.acq with pllLost := setFlag m.acq.pllLost x false } }
      (m.mclkPins).clkReset x)

/-- A port enabled or disabled (R110, R763), or put on a clock that is not locked (R806). -/
def portWritten (m : Mach) (p : Nat) (old new : Word) : Mach :=
  let a := F.modCfg_EN.get old
  let b := F.modCfg_EN.get new
  let run := decide (4 ≤ m.start.phase) && !m.fenced (52 + p)
  if a = b then
    (if b = 1 ∧ F.modCfg_CLK_SEL.get old ≠ F.modCfg_CLK_SEL.get new ∧ run ∧ !m.clkLocked p then m.portReset p else m)
  else if b = 1 then (if run then m.portReset p else m)
  else (m.calAbort p .off).updPort p (fun x => { x with st := .off, left := 0, resetPend := false, runFrames := 0 })

/-- A subscription of sampled values enabled or disabled (R122, R534, R763). -/
def svsWritten (m : Mach) (s : Nat) (old new : Word) : Mach :=
  let a := F.svsCfg_EN.get old
  let b := F.svsCfg_EN.get new
  if a = b then m
  else if b = 1 then
    let m := m.subAdd s
    if m.start.phase < 4 then m
    else m.updSub s (fun x => { x with st := 1, wasLost := false, hist := [], run := 0, ents := [] })
  else (m.subDel s).updSub s (fun x => { x with st := 0, hist := [], run := 0, ents := [], okFrames := 0 })

/-- A GOOSE subscription enabled or disabled. -/
def gsubWritten (m : Mach) (g : Nat) (old new : Word) : Mach :=
  let a := F.gsubCfg_EN.get old
  let b := F.gsubCfg_EN.get new
  if a = b then m
  else if b = 1 then m.subAdd (64 + g)
  else ((m.subDel (64 + g)).gptStale g).updGsub g (fun x => { x with stNum := none })

/-- A publication disabled sends nothing more. -/
def gpubWritten (m : Mach) (p : Nat) : Mach :=
  if m.flag (.gpubCtrl p) F.gpubCtrl_EN then m else m.updGpub p (fun x => { x with nextMon := none })

/-- A swap armed or disarmed (R105 to R107). SWGg_FSEQ counts as it stands at the arming write (DESIGN CHOICE, log entry 58). -/
def swapWritten (m : Mach) (g : Nat) (new : Word) : Mach :=
  let at' : Option Word :=
    if F.swgCtrl_ARM.get new = 0 then none
    else if F.swgCtrl_USE_FSEQ.get new = 1 then some (m.rd (.swgFseq g)) else some m.secondTrigger
  { m with acq := { m.acq with swgs := SMap.put m.acq.swgs g { m.swg g with swapAt := at' } } }

/-- BAYn_CTRL.CLR_ENERGY (R223): at the next trigger. -/
def clrEnergyWritten (m : Mach) (n : Nat) (w : Word) : Mach :=
  if F.bayCtrl_CLR_ENERGY.get w = 0 then m else m.updBay n (fun x => { x with clrEnergy := true })

/-- BAYn_MOT_CTRL (R251, R268, R269): at the next trigger. -/
def motWritten (m : Mach) (n : Nat) (w : Word) : Mach :=
  let k := w.toNat % 8
  (if k.testBit 0 then m.emit .thetaReset n else m).updBay n (fun x => { x with clrMot := x.clrMot ||| k })

/-- DR_CTRL (R648, R651, R657). The trigger row of MANUAL is that of the first trigger after it. -/
def drClearRun (m : Mach) (session : Nat) (wt : Option Waiter) : Mach :=
  match m.maintTake 8 1 session wt with
  | .ok (_, m) => (m.drClear).maintEndOf 8 1 0
  | .error _ => m

/-- A host's trigger (R648): its record starts at the next frame trigger, with the session as its source (R658). -/
def drManual (m : Mach) (session : Nat) : Mach := m.drTrig 3 session (if m.fr.started then m.fr.fseq + 1 else 0) false

def drWritten (m : Mach) (who : Who) (old w new : Word) : Mach :=
  let m := if F.drCtrl_EN.get old ≠ F.drCtrl_EN.get new then m.drEnWritten
    else if F.drCtrl_OVERWRITE.get old = F.drCtrl_OVERWRITE.get new then m else m.drArm
  let m := if F.drCtrl_MANUAL.get w = 1 then m.drManual who.session else m
  if F.drCtrl_CLEAR.get w = 1 then m.drClearRun who.session none else m

/-- The clear of the event log begins (R638). -/
def evrClear (m : Mach) (session : Nat) (wt : Option Waiter) : Mach :=
  match m.maintTake 8 0 session wt with
  | .ok (_, m) => m.clearEnter session
  | .error _ => m

/-- A feed proof begins by command (R618). -/
def proveBegin (m : Mach) (f session : Nat) (wt : Option Waiter) : Mach :=
  match m.maintTake 7 f session wt with
  | .ok (_, m) => m.feedProve f
  | .error _ => m

/-- TB_STEP_CTRL (R473, R474). -/
def stepWritten (m : Mach) (old new : Word) : Mach :=
  if F.tbStepCtrl_ARM.get old = 1 ∧ F.tbStepCtrl_ARM.get new = 0 then m.stepDisarm else m

/-- LNl_PRBS_CTRL (R519 to R523). -/
def prbsWritten (m : Mach) (l : Nat) (old w new : Word) : Mach :=
  let m := if F.lnPrbsCtrl_CHK_EN.get old = F.lnPrbsCtrl_CHK_EN.get new then m else m.setF (.lnPrbsStat l) F.lnPrbsStat_SYNC 0
  let m := if F.lnPrbsCtrl_CLR.get w = 1 then m.prbsClr l else m
  if F.lnPrbsCtrl_INJ.get w = 1 then m.prbsInj l else m

/-- A word of a maintenance key written; word 23 loads the slot (R756). -/
def mkeyWritten (m : Mach) (k x : Nat) : Mach :=
  if x = 23 then m.setF .secMkeyCtrl F.secMkeyCtrl_LOADED (m.fld .secMkeyCtrl F.secMkeyCtrl_LOADED ||| 2 ^ k) else m

/-- What follows a write in acquisition, bays and field I/O. -/
def afterBay (m : Mach) (r : Reg) (old w new : Word) : Mach :=
  match r with
  | .acqCtrl => m.mclkWritten old new
  | .modCfg p => m.portWritten p old new
  | .svsCfg s => m.svsWritten s old new
  | .swgCtrl g => m.swapWritten g new
  | .bayCtrl n => m.clrEnergyWritten n w
  | .bayMotCtrl n => m.motWritten n w
  | _ => m

/-- What follows a write in time, lanes and network. -/
def afterNet (m : Mach) (r : Reg) (old w new : Word) : Mach :=
  match r with
  | .tbCtrl => m.tbCtrlWritten
  | .tbIncFrac => m.updTb (fun t => { t with inc := BitVec.ofNat 40 ((m.rd .tbIncInt).toNat % 256 * 2 ^ 32 + new.toNat) })
  | .tbStepCtrl => m.stepWritten old new
  | .tbRrCtrl => if F.tbRrCtrl_ACCEPT.get w = 1 then m.rrAccept else m
  | .trgCtrl n => if F.trgCtrl_ARM.get new = 1 then m.trgArmed n else m
  | .lnCfg l => m.laneEn l
  | .svcCfg => m.laneEn 4
  | .lnScanCtrl l =>
    if F.lnScanCtrl_START.get w = 1 then (m.updLane l (fun x => { x with scan := true, scanMon := m.mon })).setF (.lnScanCtrl l) F.lnScanCtrl_DONE 0 else m
  | .lnPrbsCtrl l => m.prbsWritten l old w new
  | .gsubCfg g => m.gsubWritten g old new
  | .gpubCtrl p => m.gpubWritten p
  | .staCfg e => m.staWritten e
  | _ => m

/-- What follows a write in pair, recorders, health, security and start-up. -/
def afterSys (m : Mach) (who : Who) (r : Reg) (old w new : Word) : Mach :=
  match r with
  | .pairCtrl =>
    let m := if F.pairCtrl_RESYNC.get w = 1 then m.resync else m
    if F.pairCtrl_SWITCH.get w = 1 then m.switchAnnounce else m
  | .pwrCtrl =>
    let m := if F.pwrCtrl_PROVE_A.get w = 1 then m.proveBegin 0 who.session none else m
    if F.pwrCtrl_PROVE_B.get w = 1 then m.proveBegin 1 who.session none else m
  | .evrCtrl => if F.evrCtrl_CLEAR.get w = 1 then m.evrClear who.session none else m
  | .evrCursor => m.evrLatch new
  | .drCtrl => m.drWritten who old w new
  | .hltUnfence => if F.hltUnfence_REQ.get w = 1 then m.unfence (F.hltUnfence_DOMAIN.get w) else m
  | .hltCarCtrl => if F.hltCarCtrl_NEXT_REQ.get w = 1 then m.carNext else m
  | .secMkeyCtrl => forEach ((List.range 4).filter (F.secMkeyCtrl_REVOKE.get w).testBit) m (fun m k => m.mkeyRevoke k)
  | .secMkey k x => m.mkeyWritten k x
  | .startCtrl =>
    let m := m.kindFix (F.startCtrl_KIND.get new)
    if F.startCtrl_GO.get w = 1 then m.startGo else m
  | _ => m

/-- An accepted write: the word stored, and what follows. BAYn_LATCH, COEF_DATA and GPUB_WIN_DATA store nothing of their own; START_CTRL
keeps the KIND that fixing it gives. -/
def regPut (m : Mach) (who : Who) (r : Reg) (w : Word) : Mach :=
  let old := m.rd r
  let new := m.merged r w
  match r with
  | .bayLatch n => m.clearLatches n ((w &&& ~~~ m.fresh1Of r).toNat % 8)
  | .coefData => m.coefPut w
  | .gpubWinData => (m.gwPut w).gwNext
  | .diOpt x => (m.diSync x).wr r new
  | .startCtrl => (m.wr r (F.startCtrl_KIND.set new (F.startCtrl_KIND.get old))).afterSys who r old w new
  | _ => (((m.wr r new).afterBay r old w new).afterNet r old w new).afterSys who r old w new

/-- The full set of a subscription's address is reported (R534). -/
def setFullMark (m : Mach) (r : Reg) (w : Word) : Mach :=
  let en (d : Nat) : Bool := w.getLsbD 0 && m.subFull d
  let hit : Bool := match r with
    | .svsCfg s => !m.flag r F.svsCfg_EN && en s
    | .gsubCfg g => !m.flag r F.gsubCfg_EN && en (64 + g)
    | _ => false
  if hit then m.setF .netStat F.netStat_SUB_SET_FULL 1 else m

/-- A write to a register (R685): its refusal with ARG0, or nothing, and the state. -/
def regWriteAt (m : Mach) (who : Who) (r : Reg) (w : Word) : Option (Nat × Nat) × Mach :=
  match m.regCheck who r w with
  | some e => (some e, if e.1 = stState then m.setFullMark r w else m)
  | none => (none, m.regPut who r w)

/-- A write to an address (R685, R687, R731). An address that its block does not list ignores the write; the test block above
0x000D_0100 refuses it. -/
def regWrite (m : Mach) (who : Who) (a : Nat) (w : Word) : Option (Nat × Nat) × Mach :=
  if a % 4 ≠ 0 ∨ 0xE0000 ≤ a then (some (stParam, a), m)
  else match Reg.ofAddr a with
    | some r => m.regWriteAt who r w
    | none => (if 0xD0100 ≤ a ∧ !m.flag .glbStat F.glbStat_PRODUCTION then some (stDenied, 0) else none, m)

-- Reads

/-- What a read of a register returns: of a counter that reading clears, the value before the increments of this instant (R14). -/
def rcShow (m : Mach) (r : Reg) : Word :=
  match SMap.get? m.freshC r.addr with
  | some e => r.rcFrom (m.peek r) e.1
  | none => m.peek r

/-- RC fields after a read (R11, R14): zero, FIO_FLP_MIN its 0xFFFF; the increments of this instant are counted after the clear. -/
def rcClear (m : Mach) (r : Reg) : Mach :=
  if r.hasRc then
    let z := r.fields.foldl (fun (w : Word) f => if f.acc = .rc then f.set w f.reset else w) (m.rd r)
    match SMap.get? m.freshC r.addr with
    | some e => { (m.wr r (r.rcFrom z e.2)) with freshC := SMap.put m.freshC r.addr (z, e.2) }
    | none => m.wr r z
  else m

/-- A read of a register: its value and what the read changes (R11, R50, R104, R232, R464, R493, R636). -/
def regReadAt (m : Mach) (r : Reg) : Word × Mach :=
  match r with
  | .lnTsqEnt0 l =>
    let m := m.tsqRead l
    (m.rd (.lnTsqEnt0 l), m)
  | .tbLtcLo =>
    let m := m.ltcLatch
    (m.rd .tbLtcLo, m)
  | .frmCount => (m.peek r, m.wr .frmSeqLatch m.fr.fseq)
  | .bayEnergy n x =>
    let b := m.bay n
    let e := if b.mode = 0 then b.d.energy else b.pub.energy
    (m.peek r, if x % 2 = 0 then m.wr (.bayEnergy n (x + 1)) (wd (e.getD (x / 2) 0 / 2 ^ 64)) else m)
  | .evrWindow w => (m.peek r, if w = 15 then m.evrLatch (m.rd .evrCursor + 1) else m)
  | .gpubWinData => (m.peek r, m.gwNext)
  | .coefData => (m.peek r, m.coefNext)
  | _ => (m.rcShow r, m.rcClear r)

/-- A read of an address: unlisted addresses read 0 (R687). -/
def regRead (m : Mach) (a : Nat) : Word × Mach :=
  match Reg.ofAddr a with
  | some r => m.regReadAt r
  | none => (0, m)

end Mach

end Sys2Proof.Machine
end

