-- ==== Sys2Proof/Machine/MirrorRx.lean ====
section
/-! DEFINITION. Receiving M2 data on a standby (13 R599 to R602, R609) and answering SYNC_REQ (R608). -/

namespace Sys2Proof.Machine

namespace Mach

/-- Mirrored registers take their words: all of them first, then what follows each change. D_ALIGN waits for its trigger (R601). -/
def mirRegs (m : Mach) (l : List (Nat × Word)) : Mach :=
  let ch : List (Reg × Word × Word) := l.filterMap (fun (p : Nat × Word) => match Reg.ofAddr p.1 with
    | some r => if m.rd r = p.2 then none else some (r, m.rd r, p.2)
    | none => none)
  let who : Who := { session := 0, maint := false }
  let m := forEach ch m (fun m (x : Reg × Word × Word) => match x.1 with
    | .frmCfg => m.updPair (fun p => { p with dAlignPend := some (F.frmCfg_D_ALIGN.get x.2.2) })
    | r => m.wr r x.2.2)
  forEach ch m (fun m (x : Reg × Word × Word) =>
    ((m.afterBay x.1 x.2.1 x.2.2 x.2.2).afterNet x.1 x.2.1 x.2.2 x.2.2).afterSys who x.1 x.2.1 x.2.2 x.2.2)

/-- The register item of a full pass: covered registers that it does not list stand at their reset words. -/
def mirRegsFull (m : Mach) (l : List (Nat × Word)) : Mach :=
  let rest : List (Nat × Word) := m.regs.filterMap (fun (p : Nat × Word) => match Reg.ofAddr p.1 with
    | some r => if Reg.mirrored r && !l.any (fun (x : Nat × Word) => decide (x.1 = p.1)) then some (p.1, r.init) else none
    | none => none)
  m.mirRegs (rest ++ l)

/-- One M2 item applied. -/
def m2Item1 (m : Mach) (full : Bool) (x : M2Item) : Mach :=
  match x with
  | .regs l => if full then m.mirRegsFull l else m.mirRegs l
  | .settings b g l =>
    let k := b * 4 + g
    let keep : SMap Int := m.set.filter (fun p => decide (p.1 / 65536 ≠ k))
    { m with set := l.foldl (fun s p => SMap.put s (k * 65536 + p.1 % 65536) p.2) keep }
  | .activeGroup b g => { m with group := SMap.putD m.group 0 b g }
  | .prog t none => ((m.forceClear t).updTask t (fun x => { x with st := if x.st = .fenced then .fenced else .empty, prog := none })).wr (.leImgCrc t) 0
  | .prog t (some p) =>
    if ((m.tasks[t]?).bind (·.prog)) = some p then m
    else
      let m := m.progPut t p
      let m := if m.fenced (35 + t) then m.updTask t (fun x => { x with st := .fenced }) else m
      m.updSec (fun s => { s with store := SMap.put s.store t p.bytes })
  | .consts t k => m.updTask t (fun x => { x with kNow := k, constPend := [] })
  | .gpub p tmpl offs => m.updGpub p (fun g => { g with tmpl := tmpl, offs := offs })
  | .coefs g a b =>
    let x := m.swg g
    let x' := if m.activeBank g = 0 then { x with bankA := a, bankB := b } else { x with bankA := b, bankB := a }
    { m with acq := { m.acq with swgs := SMap.put m.acq.swgs g x' } }
  | .drIndex l =>
    let top := l.foldl max 0
    (m.updPair (fun p => { p with drIndex := l })).updDr (fun d => { d with nextNo := max d.nextNo (top + 1) })
  | .entry _ _ l => m.mirRegs l

/-- M2 data received (R601, R609): a standby applies it. -/
def m2Frame (m : Mach) (seq : Word) (full last : Bool) (x : M2Item) : Mach :=
  let m := m.pairRx seq
  if !m.feat 3 || !m.passive then m
  else
    let m := m.m2Item1 full x
    (if full && last then m.updPair (fun p => { p with full := true }) else m).syncCheck

/-- SYNC_REQ received by an ACTIVE unit (R608): a full pass of M1 and M2. -/
def syncReqRecv (m : Mach) (seq : Word) : Mach :=
  let m := m.pairRx seq
  if !m.feat 3 || decide (m.pair.role ≠ .active) then m else (m.m1Pass).m2PassAsk

end Mach

end Sys2Proof.Machine
end

