-- ==== Sys2Proof/Machine/Cmds.lean ====
section
/-! DEFINITION. The opcodes of a session (15 R672 to R691): what each request does and what its reply carries. Acceptance up to the
session's role stands in Requests.lean. -/

namespace Sys2Proof.Machine

/-- What a request is answered: status, payload, and what follows the reply: 0 nothing, 1 the session ends (R674), 2 every UDP
session ends (R674). -/
structure Ans where
  status : Nat
  payload : List Byte
  after : Nat
  deriving DecidableEq, Repr

/-- Every event name, for EVT_CODES (R802). -/
def Ev.all : List Ev :=
  [.fwFallback, .bootFail, .roleFail, .hssExhausted, .progStoreBad, .retInvalid, .retProgMismatch, .startNoTime, .bayStartFail,
   .lateFrame, .slackWarn, .vcoreLimit, .bindLate, .stallTakeover, .domError, .domFenced, .domUnfenced, .domRetestFail, .carFail,
   .tempHigh, .tempOk, .modStuck, .svCfgMismatch, .svLost, .calAbort] ++
  [.emergStart, .thetaReset, .btNoroute, .motDownUnk, .grpConflict, .stitchRec, .stitchFull, .stitchUncertain, .remoteNoack,
   .remoteRefused, .diBreak, .diBreakEnd, .tripDuty, .doFault, .fldSag, .fldLow, .fldLockout, .fldRestore, .holdup, .mvddFault,
   .logicStopped, .logicOverrun, .logicUnfenced, .logicPtTask, .logicPtType, .logicEvent, .forceClear] ++
  [.timeSrcLost, .timeSrcChange, .timeLock, .timeUnlock, .timeRr, .timeRrBack, .timeAsym, .timeAccept, .timeHoldMax, .timeStepFail,
   .timeStepped, .trgDisarm, .laneUp, .laneDown, .staJoin, .staBack, .staLeave, .staLayout, .staLayoutBad, .staAged, .staSilent,
   .staDupDevid, .staUnknown, .staSuspect, .staReport, .gooseLost, .gooseCfgMismatch, .gooseTestUnmarked, .coalFull, .rptSummary] ++
  [.takeover, .takeoverRefused, .takeoverStale, .pairDemoted, .pairPosConflict, .pairDegraded, .pairRestored, .pairOrphan,
   .pairRejoin, .pairLinkLost, .pairLinkBack, .otestFail, .evOverflow, .logMediaFault, .evCleared, .drTrig, .drOverwrite, .drFull,
   .drDamaged, .maintStart, .maintEnd]

/-- Events in ascending order of CODE. -/
def evSorted (l : List Ev) : List Ev :=
  l.foldr (fun e a => a.takeWhile (fun x => decide (x.code < e.code)) ++ e :: a.dropWhile (fun x => decide (x.code < e.code))) []

/-- Ranges of the objects that SELECT names (R684): bays, bays, outputs, station entries. -/
def selRange (kind : Nat) : Nat := if kind < 2 then 32 else if kind = 2 then 16 else 256

/-- Fields of a request's payload (R10). -/
def RawReq.b (q : RawReq) (off : Nat) : Nat := beAt q.payload off 1
def RawReq.h (q : RawReq) (off : Nat) : Nat := beAt q.payload off 2
def RawReq.d (q : RawReq) (off : Nat) : Nat := beAt q.payload off 4
def RawReq.len (q : RawReq) : Nat := q.payload.length

/-- Who waits for the outcome of a request. -/
def RawReq.waiter (q : RawReq) : Waiter := { session := q.session, seq := q.seq, op := q.op }

/-- The key of the staging buffer that a PID of bay b and group g goes to (R807): the parameter buffer for element 0x00. -/
def stageKey (b g pid : Nat) : Nat := if pidCode pid = 0 then b * 8 + 4 else b * 8 + g

/-- The ATTEST and CERT_READ transfers keep the next OFFSET in `format`. -/
def outXfer (kind total next : Nat) : Xfer := { kind := kind, target := 0, format := next, total := total, data := [] }

/-- Codes of a stitch's state in STITCH_STATUS. -/
def StSt.code : StSt → Nat
  | .opened => 0 | .staged => 1 | .prepared => 2 | .bound => 3

namespace Mach

/-- Replies. A status other than ST_OK and ST_PENDING carries ARG0 and ARG1 (R676). -/
def ok (m : Mach) (payload : List Byte) : Mach × Ans := (m, ⟨0, payload, 0⟩)
def pending (m : Mach) (payload : List Byte) : Mach × Ans := (m, ⟨1, payload, 0⟩)
def err (m : Mach) (status : Nat) (arg0 : Nat := 0) (arg1 : Nat := 0) : Mach × Ans :=
  (m, ⟨status, beBytes 4 arg0 ++ beBytes 4 arg1, 0⟩)

/-- A field outside its range at a payload offset (R676). -/
def bad (m : Mach) (off : Nat) : Mach × Ans := m.err stParam off

/-- A payload longer or shorter than its opcode defines (R684). The length is no field: ARG0 is a free value. -/
def badLen (m : Mach) : Mach × Ans :=
  let (x, m) := m.freeVal
  m.err stParam (x % 2 ^ 32)

/-- A request of fixed length. -/
def ofLen (m : Mach) (q : RawReq) (n : Nat) (f : Mach × Ans) : Mach × Ans := if q.len = n then f else m.badLen

/-- The pending reply of a stitch (R684). -/
def stitchReply (m : Mach) (id : Nat) : Mach × Ans := m.pending (beBytes 2 id ++ [0, 0])

/-- No class A slot is free (R324). -/
def noSlot (m : Mach) : Mach × Ans := (m.stuFull).err stState 12

/-- The restart kind is not set (R761). -/
def unset (m : Mach) : Bool := decide (m.start.kindEff = 0)

-- Sessions and features (0x00xx)

/-- The number of the next session (R672): a free value among those allowed. -/
def helloNum (m : Mach) (f : Nat) : Nat :=
  (List.range 6).foldl (fun (n : Nat) _ => if decide (n = m.cmd.lastNum) || (m.sess n).isSome then n % 65535 + 1 else n) (f % 65535 + 1)

/-- HELLO (R672, R673). -/
def cmdHello (m : Mach) (q : RawReq) : Mach × Ans :=
  m.ofLen q 20 (
    if q.h 0 ≠ 1 then m.bad 0
    else match m.cmd.slots.findIdx? (·.isNone) with
      | none => m.err stState
      | some i =>
        let (f, m) := m.freeVal
        let n := m.helloNum f
        let s : Session :=
          { num := n, udp := q.udp, ip := q.ip, port := q.port, nip := q.ip, nport := q.port, lastSeq := q.seq, nseq := 0,
            nseqAck := 0, maint := false, roleKey := 255, evtMask := 0, flags := 0, nonce := none, reply := none, lastReq := m.mon,
            lost := 0, xfers := [], report := none }
        let m := { m with cmd := { m.cmd with slots := setAt m.cmd.slots i (some s), lastNum := n } }
        m.ok (beBytes 2 n ++ beBytes 2 1 ++ beBytes 1 (bit (m.flag .glbStat F.glbStat_FEAT_DONE)) ++ beBytes 1 m.pair.role.code ++
          beBytes 2 4096))

def cmdFeatOffer (m : Mach) (q : RawReq) : Mach × Ans :=
  m.ofLen q 0 (m.ok (m.featBytes .glbFeatOffer ++ m.featBytes .glbFeatAcc))

/-- A feature bitmap of the registers as a number. -/
def featNum (m : Mach) (r : Nat → Reg) : Nat := beNat (m.featBytes r)

/-- FEAT_ACCEPT (R682, R683). -/
def cmdFeatAccept (m : Mach) (q : RawReq) : Mach × Ans :=
  m.ofLen q 16 (
    let set := beNat q.payload
    match (List.range 128).find? (fun i => set.testBit i && !(m.featNum .glbFeatOffer).testBit i) with
    | some i => m.err stFeature i
    | none =>
      if m.flag .glbStat F.glbStat_FEAT_DONE then
        if set = m.featNum .glbFeatAcc then m.ok (m.featBytes .glbFeatAcc) else m.err stState
      else
        let m := forEach (List.range 4) m (fun m w => m.wr (.glbFeatAcc w) (wd (set / 2 ^ (32 * w))))
        let m := m.setF .glbStat F.glbStat_FEAT_DONE 1
        m.ok (m.featBytes .glbFeatAcc))

def cmdPing (m : Mach) (q : RawReq) : Mach × Ans :=
  if 64 < q.len then m.badLen else m.ok (q.payload ++ beBytes 8 m.ltc.toNat)

def cmdBye (m : Mach) (q : RawReq) : Mach × Ans := m.ofLen q 0 (m, ⟨0, [], 1⟩)

/-- NOTIFY_ACK (R679): on HP it has no effect. -/
def cmdNotifyAck (m : Mach) (s : Session) (q : RawReq) : Mach × Ans :=
  m.ofLen q 4 (
    if !s.udp then m.ok []
    else
      let n := q.h 0
      let l := m.cmd.udpNotes.filter (fun p => !(decide (p.session = s.num) && decide (sdiff16 p.seq n ≤ 0)))
      (({ m with cmd := { m.cmd with udpNotes := l } } : Mach).updSess s.num (fun x => { x with nseqAck := n })).ok [])

def cmdNotifyCfg (m : Mach) (s : Session) (q : RawReq) : Mach × Ans :=
  m.ofLen q 4 ((m.updSess s.num (fun x => { x with evtMask := q.h 0, flags := q.h 2 % 8 })).ok [])

-- Registers (0x01xx)

/-- A range of registers that step 10 refuses (R687). -/
def badRange (a n : Nat) : Bool := decide (a % 4 ≠ 0) || Nat.blt 0xE0000 (a + 4 * n)

/-- Registers whose accepted write ends the UDP sessions (R674). -/
def endsUdp (a : Nat) : Bool := decide (0x200 ≤ a ∧ a ≤ 0x20C)

def cmdRegRead (m : Mach) (q : RawReq) : Mach × Ans :=
  m.ofLen q 8 (
    let a := q.d 0
    let n := q.h 4
    if n < 1 ∨ 1024 < n then m.bad 4
    else if badRange a n then m.bad a
    else
      let r := (List.range n).foldl (fun (x : Mach × List Byte) i =>
        let y := x.1.regRead (a + 4 * i)
        (y.2, x.2 ++ beBytes 4 y.1.toNat)) (m, [])
      r.1.ok r.2)

/-- REG_WRITE's words, one at a time to the first refusal (R685): words written, and whether one ends the UDP sessions. -/
def regWrites (m : Mach) (who : Who) (a done : Nat) (udp : Bool) : List Word → Mach × Nat × Bool × Option Nat
  | [] => (m, done, udp, none)
  | w :: l => match m.regWrite who a w with
    | (some e, m) => (m, done, udp, some e.1)
    | (none, m) => m.regWrites who (a + 4) (done + 1) (udp || endsUdp a) l

def cmdRegWrite (m : Mach) (s : Session) (q : RawReq) : Mach × Ans :=
  let a := q.d 0
  let n := q.h 4
  if q.len < 8 then m.badLen
  else if n < 1 ∨ 1022 < n then m.bad 4
  else m.ofLen q (8 + 4 * n) (
    if badRange a n then m.bad a
    else match m.regWrites { session := s.num, maint := s.maint } a 0 false ((List.range n).map (fun i => wd (q.d (8 + 4 * i)))) with
      | (m, done, udp, none) => (m, ⟨0, beBytes 2 done ++ [0, 0], if udp then 2 else 0⟩)
      | (m, done, udp, some st) => (m, ⟨st, beBytes 4 (a + 4 * done) ++ beBytes 4 done, if udp then 2 else 0⟩))

/-- The word that REG_MODIFY writes (R686): WO and RW1C fields outside MASK are 0. -/
def modifyWord (r : Reg) (old mask v : Word) : Word :=
  let keep := r.fields.foldl (fun (x : Word) f => match f.acc with
    | .rw1c | .wo => x &&& ~~~ f.mask
    | _ => x) (old &&& ~~~ mask)
  keep ||| (v &&& mask)

def cmdRegModify (m : Mach) (s : Session) (q : RawReq) : Mach × Ans :=
  m.ofLen q 12 (
    let a := q.d 0
    if badRange a 1 then m.bad a
    else
      let old := m.peekAddr a
      let mask := wd (q.d 4)
      let v := wd (q.d 8)
      let w := match Reg.ofAddr a with
        | some r => modifyWord r old mask v
        | none => (old &&& ~~~ mask) ||| (v &&& mask)
      match m.regWrite { session := s.num, maint := s.maint } a w with
      | (some e, m) => m.err e.1 (if e.1 = stParam then a else e.2)
      | (none, m) => (m, ⟨0, beBytes 4 old.toNat ++ beBytes 4 (m.peekAddr a).toNat, if endsUdp a then 2 else 0⟩))

-- Settings (0x02xx)

/-- Bay and group of a settings request: BAY 0 to 32, GROUP 0 to 3, 0 for the zone. The payload offset at fault. -/
def badBayGroup (off b g : Nat) : Option Nat :=
  if 32 < b then some off else if 3 < g ∨ (b = 32 ∧ g ≠ 0) then some (off + 1) else none

/-- A staging buffer: owner (0 none) and staged values. -/
def stageBuf (m : Mach) (k : Nat) : Nat × SMap Int := SMap.getD m.stage k (0, [])

/-- A buffer of another session (R688). -/
def stageTaken (m : Mach) (k session : Nat) : Bool := decide ((m.stageBuf k).1 ≠ 0 ∧ (m.stageBuf k).1 ≠ session)

/-- SET_STAGE (R152, R153, R589, R688, R807): all or none of the packet. -/
def cmdSetStage (m : Mach) (s : Session) (q : RawReq) : Mach × Ans :=
  let b := q.b 0
  let g := q.b 1
  let n := q.h 2
  if q.len < 4 then m.badLen
  else match badBayGroup 0 b g with
    | some o => m.bad o
    | none =>
      if n < 1 ∨ 511 < n then m.bad 2
      else m.ofLen q (4 + 8 * n) (
        let l : List (Nat × Int) := (List.range n).map (fun i => (q.h (4 + 8 * i), sgn32 (q.d (8 + 8 * i))))
        match l.find? (fun (p : Nat × Int) => match setDef (decide (b = 32)) p.1 with
          | some d => !d.ok p.2
          | none => true) with
        | some p => m.bad p.1
        | none =>
          if m.passive then m.err stState
          else if l.any (fun p => m.stageTaken (stageKey b g p.1) s.num) then m.err stState
          else
            let st := l.foldl (fun (a : SMap (Nat × SMap Int)) p =>
              SMap.upd a (stageKey b g p.1) (0, []) (fun x => (s.num, SMap.put x.2 p.1 p.2))) m.stage
            ({ m with stage := st } : Mach).ok (beBytes 2 n ++ [0, 0]))

/-- Staged values of a buffer that differ from the committed ones. -/
def stageDiff (m : Mach) (b g k : Nat) : List (Nat × Int) := (m.stageBuf k).2.filter (fun p => decide (setGet m.set b g p.1 ≠ p.2))

/-- The parameters that a commit of bay b takes along (R807). -/
def stageParams (m : Mach) (b : Nat) : List (Nat × Int) := if b = 32 then [] else m.stageDiff b 0 (b * 8 + 4)

/-- The committed values once a commit of these buffers is bound. -/
def commitSet (m : Mach) (l : List (Nat × Nat)) : SMap Int :=
  l.foldl (fun (a : SMap Int) p => ((m.stageBuf (p.1 * 8 + p.2)).2 ++ m.stageParams p.1).foldl (fun a v =>
    setPut a p.1 p.2 v.1 v.2) a) m.set

/-- The first check that a commit of bay b, group g fails: status and PID (R154, R155, R171, R178, R188, R272 to R274, R283). -/
def commitBad (m : Mach) (new : SMap Int) (b g : Nat) : Option (Nat × Nat) :=
  let bt (s : SMap Int) (x : Nat) : Int := setGet s x 0 (pidOf 0 0 0)
  let zc (c st i : Nat) : Int := setGet new 32 0 (pidOf c st i)
  let topo := topoBad (bt new) zc
  if b = 32 then
    let notLocal (x : Nat) : Bool := !([0, 1, 2].all (fun c => decide (m.slotKind x c = 1)))
    if (m.stageBuf (32 * 8)).2.any (fun p => decide (pidCode p.1 = 0x50)) && !topo.isEmpty then
      some (stParam, pidOf 0x50 0 (topo.headD 0))
    else zoneBad stFeature stParam (m.feat 4) (m.feat 7) notLocal (fun x => hasV3 (m.slotSrc x)) zc
  else
    match m.stageParams b with
    | p :: _ =>
      if (m.bay b).mode ≠ 0 then some (stState, p.1)
      else if decide ((bt m.set b = 3) ≠ (bt new b = 3)) && topo.contains b then some (stParam, pidOf 0 0 0)
      else groupBad stFeature stParam (m.feat 5) (m.slotSrc b) (bayCfg new b g)
    | [] => groupBad stFeature stParam (m.feat 5) (m.slotSrc b) (bayCfg new b g)

/-- A SET_COMMIT names a buffer of another session (R688, R807). -/
def commitTaken (m : Mach) (session b g : Nat) : Bool :=
  m.stageTaken (b * 8 + g) session || (m.stageTaken (b * 8 + 4) session && !(m.stageParams b).isEmpty)

/-- The actions of a commit: one for each bay and group named, the parameters with the first of a bay. -/
def commitActs (m : Mach) (l : List (Nat × Nat)) : List Act :=
  (l.foldl (fun (a : List Act × List Nat) p =>
    let ps := if a.2.contains p.1 then [] else m.stageParams p.1
    (a.1 ++ [.commit p.1 p.2 ((m.stageBuf (p.1 * 8 + p.2)).2 ++ ps)], p.1 :: a.2)) ([], [])).1

/-- SET_COMMIT (R224 to R227, R271, R274, R589, R761, R807). -/
def cmdSetCommit (m : Mach) (s : Session) (q : RawReq) : Mach × Ans :=
  let n := q.b 0
  if q.len < 4 then m.badLen
  else if n < 1 ∨ 32 < n then m.bad 0
  else m.ofLen q (4 + 4 * n) (
    let l : List (Nat × Nat) := (List.range n).map (fun i => (q.b (4 + 4 * i), q.b (5 + 4 * i)))
    match (List.range n).findSome? (fun i => badBayGroup (4 + 4 * i) (q.b (4 + 4 * i)) (q.b (5 + 4 * i))) with
    | some o => m.bad o
    | none =>
      if m.passive || m.unset || l.any (fun p => m.commitTaken s.num p.1 p.2) then m.err stState
      else
        let new := m.commitSet l
        match l.findSome? (fun p => (m.commitBad new p.1 p.2).map (fun e => (e.1, p.1 * 65536 + e.2))) with
        | some e => m.err e.1 e.2
        | none => match m.hostStitch q.waiter none (m.commitActs l.eraseDups) with
          | none => m.noSlot
          | some (id, m) => m.stitchReply id)

/-- GROUP_SELECT (R228). -/
def cmdGroupSelect (m : Mach) (q : RawReq) : Mach × Ans :=
  m.ofLen q 4 (
    let b := q.b 0
    let g := q.b 1
    if 31 < b then m.bad 0
    else if 3 < g then m.bad 1
    else if m.passive || m.unset then m.err stState
    else match m.hostStitch q.waiter none [.groupSel b g] with
      | none => m.noSlot
      | some (id, m) => m.stitchReply id)

/-- SET_READ: the committed values, or the staged ones over them (R807). -/
def cmdSetRead (m : Mach) (q : RawReq) : Mach × Ans :=
  m.ofLen q 8 (
    let b := q.b 0
    let g := q.b 1
    let src := q.b 2
    match badBayGroup 0 b g with
    | some o => m.bad o
    | none =>
      if 1 < src then m.bad 2
      else if q.h 6 < 1 ∨ 500 < q.h 6 then m.bad 6
      else
        let l := ((pidsOf (decide (b = 32))).filter (fun p => decide (q.h 4 ≤ p))).take (q.h 6)
        let val (p : Nat) : Int :=
          let c := setGet m.set b g p
          if src = 0 then c else SMap.getD (m.stageBuf (stageKey b g p)).2 p c
        m.ok (beBytes 2 l.length ++ [0, 0] ++ l.flatMap (fun p => beBytes 2 p ++ [0, 0] ++ beBytes 4 (toBits 32 (val p)))))

/-- SET_DISCARD (R688, R807). -/
def cmdSetDiscard (m : Mach) (s : Session) (q : RawReq) : Mach × Ans :=
  m.ofLen q 4 (
    let b := q.b 0
    let g := q.b 1
    match badBayGroup 0 b g with
    | some o => m.bad o
    | none =>
      if m.stageTaken (b * 8 + g) s.num then m.err stState
      else
        let st := SMap.del m.stage (b * 8 + g)
        let st := if m.stageTaken (b * 8 + 4) s.num then st else SMap.del st (b * 8 + 4)
        ({ m with stage := st } : Mach).ok [])

-- Segmented transfers (R689)

/-- The partial transfer of a kind. -/
def xferOf (s : Session) (kind : Nat) : Option Xfer := s.xfers.find? (fun x => x.kind = kind)

/-- A session's transfer of a kind replaced or discarded. -/
def xferSet (m : Mach) (num kind : Nat) (x : Option Xfer) : Mach :=
  m.updSess num (fun s => { s with xfers := s.xfers.filter (fun y => y.kind ≠ kind) ++ x.toList })

/-- The data held once a segment is taken, or the payload offset of the field at fault: TOTAL or OFFSET. -/
def segTake (s : Session) (kind target format total off : Nat) (data : List Byte) (offTotal offOff : Nat) : Except Nat Xfer :=
  let new : Xfer := { kind := kind, target := target, format := format, total := total, data := data }
  if off = 0 then (if data.length ≤ total then .ok new else .error offTotal)
  else match xferOf s kind with
    | none => .error offOff
    | some x =>
      if x.total ≠ total then .error offTotal
      else if x.target ≠ target ∨ x.format ≠ format ∨ off ≠ x.data.length then .error offOff
      else if total < off + data.length then .error offTotal
      else .ok { new with data := x.data ++ data }

-- Logic (0x03xx)

/-- A status with ARG0 as the reply of a logic command: ST_OK and ST_PENDING carry the payload given. -/
def logicReply (r : Nat × Nat × Mach) (payload : List Byte) : Mach × Ans :=
  if r.1 = 0 ∨ r.1 = 1 then (r.2.2, ⟨r.1, payload, 0⟩)
  else (if r.1 = stState ∧ r.2.1 = 12 then r.2.2.stuFull else r.2.2).err r.1 r.2.1

/-- PROG_LOAD (R429, R438, R689, R690). -/
def cmdProgLoad (m : Mach) (s : Session) (q : RawReq) : Mach × Ans :=
  if q.len < 12 then m.badLen
  else
    let t := q.b 0
    let fmt := q.b 1
    let total := q.d 4
    if 3 < t then m.bad 0
    else if 1 < fmt then m.bad 1
    else if Nat.blt total 64 || Nat.blt 262144 total then m.bad 4
    else match segTake s 1 t fmt total (q.d 8) (q.payload.drop 12) 4 8 with
      | .error o => (m.xferSet s.num 1 none).bad o
      | .ok x =>
        if m.passive || m.unset then m.err stState
        else if x.data.length < total then (m.xferSet s.num 1 (some x)).ok (beBytes 4 x.data.length)
        else logicReply ((m.xferSet s.num 1 none).progLoad t fmt x.data) (beBytes 4 total)

def cmdProgStart (m : Mach) (q : RawReq) : Mach × Ans :=
  m.ofLen q 4 (
    if 3 < q.b 0 then m.bad 0
    else if 1 < q.b 1 then m.bad 1
    else if m.passive || m.unset then m.err stState
    else logicReply (m.progStart (q.b 0) (q.b 1)) [])

def cmdProgStop (m : Mach) (q : RawReq) : Mach × Ans :=
  m.ofLen q 4 (
    if 3 < q.b 0 then m.bad 0
    else if m.passive then m.err stState
    else logicReply (m.progStop (q.b 0) q.waiter) [])

def cmdConstWrite (m : Mach) (q : RawReq) : Mach × Ans :=
  let n := q.h 2
  if q.len < 8 then m.badLen
  else if 3 < q.b 0 then m.bad 0
  else if n < 1 ∨ 256 < n then m.bad 2
  else m.ofLen q (8 + 4 * n) (
    if m.passive || m.unset then m.err stState
    else
      let r := m.constWrite (q.b 0) (q.d 4) ((List.range n).map (fun i => wd (q.d (8 + 4 * i)))) q.waiter
      logicReply r (beBytes 2 r.2.1 ++ [0, 0]))

def cmdForce (m : Mach) (q : RawReq) : Mach × Ans :=
  m.ofLen q 8 (
    if 3 < q.b 0 then m.bad 0
    else if 1 < q.b 2 then m.bad 2
    else if m.passive || m.unset then m.err stState
    else logicReply (m.forceBit (q.b 0) (q.b 1) (q.d 4) (decide (q.b 2 = 1))) [])

def cmdUnforce (m : Mach) (q : RawReq) : Mach × Ans :=
  m.ofLen q 8 (
    if 3 < q.b 0 then m.bad 0
    else if 1 < q.b 2 then m.bad 2
    else if m.passive then m.err stState
    else logicReply (m.unforce (q.b 0) (q.b 1) (q.d 4) (decide (q.b 2 = 1))) [])

def cmdForceList (m : Mach) (q : RawReq) : Mach × Ans :=
  m.ofLen q 4 (
    if 3 < q.b 0 then m.bad 0
    else
      let l := ((m.tasks[q.b 0]?).map (·.forcesNext)).getD []
      m.ok (beBytes 2 l.length ++ [0, 0] ++
        l.flatMap (fun f => beBytes 1 f.area ++ beBytes 1 (bit f.val) ++ [0, 0] ++ beBytes 4 f.idx)))

-- Control (0x04xx)

/-- SELECT (R353, R354). -/
def cmdSelect (m : Mach) (q : RawReq) : Mach × Ans :=
  m.ofLen q 8 (
    let k := q.b 0
    let o : CtlObj := { kind := k, obj := q.h 2, point := if k = 3 then q.h 4 else 0 }
    if 3 < k then m.bad 0
    else if selRange k ≤ o.obj then m.bad 2
    else if 4095 < o.point then m.bad 4
    else if m.passive || m.unset || m.stu.opens.any (fun s => decide (s.obj = some o)) then m.err stState
    else match m.castOn (.host q.waiter) (some o) (if k < 2 then some o.obj else none) (decide (k = 0)) with
      | none => m.noSlot
      | some (id, m) => m.ok (beBytes 2 id ++ [0, 0]))

/-- The actions of an operated route of a bay: its outputs, its GOOSE member, its remote point. -/
def routeActs (m : Mach) (loc rem : Reg) : List Act :=
  let l := m.rd loc
  let r := m.rd rem
  let mask := F.bayBrkLoc_DO_MASK.get l
  (if mask = 0 then [] else [.localOut mask mask]) ++
  (if F.bayBrkLoc_GO_EN.get l = 1 then [.goose (F.bayBrkLoc_GO_PUB.get l) (F.bayBrkLoc_GO_MEMB.get l) true] else []) ++
  (if F.bayBrkRem_EN.get r = 1 then [.remoteOut (F.bayBrkRem_DEVID.get r) (F.bayBrkRem_POINT.get r) 1] else [])

/-- The actions of an operated control object. -/
def objActs (m : Mach) (o : CtlObj) (v : Nat) : List Act :=
  match o.kind with
  | 0 => m.routeActs (.bayClsLoc o.obj) (.bayClsRem o.obj)
  | 1 => m.routeActs (.bayBrkLoc o.obj) (.bayBrkRem o.obj)
  | 2 => [.localOut (2 ^ o.obj) (if v = 1 then 2 ^ o.obj else 0)]
  | _ => [.remoteOut (m.fld (.staCfg o.obj) F.staCfg_DEVID) o.point v]

/-- A value that a control object does not take (R684). -/
def objValBad (o : CtlObj) (v : Nat) : Bool := if o.kind < 2 then decide (v ≠ 1) else decide (o.kind = 2 ∧ 1 < v)

/-- A finished stitch (R325). -/
def finOf (m : Mach) (id : Nat) : Option FinStitch := m.stu.hist.reverse.find? (fun h => h.id = id)

/-- A selection of the session, still open. -/
def selMine (s : Stitch) (num : Nat) : Bool :=
  decide (s.st = .opened) && (match s.src with
    | .host w => decide (w.session = num)
    | _ => false)

/-- OPERATE (R355, R356). -/
def cmdOperate (m : Mach) (s : Session) (q : RawReq) : Mach × Ans :=
  m.ofLen q 8 (
    let id := q.h 0
    let v := q.d 4
    match m.stitch id with
    | none => if (m.finOf id).isSome then m.err stState else m.bad 0
    | some x => match x.obj with
      | none => m.err stState
      | some o =>
        if objValBad o v then m.bad 4
        else if m.passive || !selMine x s.num then m.err stState
        else
          let acts := m.objActs o v
          let m := m.updStitch id (fun y => { y with opWaiter := some q.waiter })
          let m := m.stageStitch id acts
          let m := match m.stitch id with
            | some y =>
              if !m.closeOk y then m.stitchDrop id 2
              else if m.namesSilent acts then m.stitchDrop id 11
              else m.prepareIf (some id)
            | none => m
          m.pending [])

/-- CANCEL (R355). -/
def cmdCancel (m : Mach) (q : RawReq) : Mach × Ans :=
  m.ofLen q 4 (
    let id := q.h 0
    match m.stitch id with
    | some x => if x.st = .bound then m.err stState else (m.stitchDrop id 5).ok []
    | none => if (m.finOf id).isSome then m.err stState else m.bad 0)

/-- STITCH_STATUS (R325). The LTC of a stitch not yet bound is a free value. -/
def cmdStitchStatus (m : Mach) (q : RawReq) : Mach × Ans :=
  m.ofLen q 4 (
    let id := q.h 0
    match m.stitch id with
    | some x =>
      let (f, m) := if x.st = .bound then (x.bindLtc.toNat, m) else m.freeVal
      m.ok (beBytes 1 x.st.code ++ [1, 0] ++ beBytes 1 x.remote ++ beBytes 8 f)
    | none => match m.finOf id with
      | some h => m.ok (beBytes 1 (if h.dropped then 4 else 3) ++ beBytes 1 (bit h.clsA) ++ beBytes 1 h.reason ++ beBytes 1 h.remote ++
          beBytes 8 h.ltc.toNat)
      | none => m.bad 0)

end Mach

end Sys2Proof.Machine
end

