-- ==== Sys2Proof/Machine/CmdsB.lean ====
section
/-! DEFINITION. The opcodes of recorders, time, pair, maintenance, security and diagnostics (15 R684 to R691, R802, R804). -/

namespace Sys2Proof.Machine

namespace Mach

-- Recorders (0x05xx)

/-- EVR_READ (R636, R804). -/
def cmdEvrRead (m : Mach) (q : RawReq) : Mach × Ans :=
  m.ofLen q 8 (
    let src := q.b 0
    let n := q.b 1
    let from' := wd (q.d 4)
    if 2 < src then m.bad 0
    else if n < 1 ∨ 63 < n then m.bad 1
    else
      let (l, fenced) := m.selLog src
      if fenced then m.err stFenced (if src = 2 then 44 else 43)
      else
        let newer := l.isEmpty || decide (0 < sdiff32 from' (oldestOf l) ∧ 0 < sdiff32 from' (newestOf l))
        if newer then m.ok (beBytes 4 from'.toNat ++ [0, 0, 0, 0])
        else
          let old := decide (sdiff32 from' (oldestOf l) < 0)
          let start := if old then oldestOf l else from'
          let r := (l.filter (fun e => decide (0 ≤ sdiff32 e.rseq start))).take n
          m.ok (beBytes 4 start.toNat ++ beBytes 1 r.length ++ beBytes 1 (bit old) ++ [0, 0] ++ r.flatMap (fun e => (m.recNow e).bytes)))

/-- EVR_CLEAR (R638): pending until EV_CLEARED is written. -/
def cmdEvrClear (m : Mach) (s : Session) (q : RawReq) : Mach × Ans :=
  m.ofLen q 0 (match m.maintBroken 8 0 with
    | e :: _ => m.err e.1 e.2
    | [] => (m.evrClear s.num (some q.waiter)).pending [])

/-- EVT_CODES (R802): the codes of a class from FIRST upwards. -/
def cmdEvtCodes (m : Mach) (q : RawReq) : Mach × Ans :=
  m.ofLen q 4 (
    if 15 < q.b 0 then m.bad 0
    else
      let l := ((evSorted (Ev.all.filter (fun e => decide (e.cls = q.b 0)))).filter (fun e => decide (q.h 2 ≤ e.code))).take 127
      m.ok (beBytes 2 l.length ++ [0, 0] ++ l.flatMap (fun e =>
        beBytes 2 e.code ++ beBytes 2 (Config.evSrcKind e).toNat ++ (Config.evName e ++ zeros 28).take 28)))

/-- DR_LIST: the index words. -/
def cmdDrList (m : Mach) (q : RawReq) : Mach × Ans :=
  m.ofLen q 0 (m.ok ((List.range 8).flatMap (fun r => (List.range 4).flatMap (fun w => beBytes 4 (m.peek (.drIdx r w)).toNat))))

/-- DR_READ (R655, R656). -/
def cmdDrRead (m : Mach) (q : RawReq) : Mach × Ans :=
  m.ofLen q 12 (
    let no := q.d 0
    let off := q.d 4
    let n := q.h 8
    if n < 1 ∨ 4096 < n then m.bad 8
    else if m.recs.dr.run.any (fun r => decide (r.body.recNo = no)) then m.err stState
    else match m.recs.dr.stored.find? (fun r => r.recNo = no) with
      | none => m.bad 0
      | some r =>
        let gone (k : Nat) : Bool := m.recs.dr.badBlocks.contains k || m.fenced (if k < 40 then 43 else 44)
        if r.damaged || r.blocks.any gone then
          m.err stFenced (if ((r.blocks.find? gone).getD 0) < 40 then 43 else 44)
        else
          let l := r.bytes
          if l.length < off + n then m.bad 4 else m.ok ((l.drop off).take n))

/-- DR_TRIGGER (R648). -/
def cmdDrTrigger (m : Mach) (s : Session) (q : RawReq) : Mach × Ans :=
  m.ofLen q 0 (
    if !m.flag .drCtrl F.drCtrl_EN then m.err stState
    else (m.drManual s.num).ok (beBytes 4 (if m.fr.started then m.fr.fseq + 1 else 0).toNat))

/-- DR_CLEAR (R657). -/
def cmdDrClear (m : Mach) (s : Session) (q : RawReq) : Mach × Ans :=
  m.ofLen q 0 (match m.maintBroken 8 1 with
    | e :: _ => m.err e.1 e.2
    | [] => (m.drClearRun s.num (some q.waiter)).pending [])

-- Time (0x06xx)

def cmdTimeGet (m : Mach) (q : RawReq) : Mach × Ans :=
  m.ofLen q 0 (m.ok (beBytes 8 m.ltc.toNat ++ beBytes 4 (m.tb.ltc.toNat % 2 ^ 32) ++ beBytes 8 m.mon.toNat ++
    beBytes 4 (m.peek .tbStat).toNat ++ beBytes 4 (m.peek .tbOffset).toNat))

/-- TIME_STEP (R473, R474). -/
def cmdTimeStep (m : Mach) (q : RawReq) : Mach × Ans :=
  m.ofLen q 16 (
    let mode := q.b 0
    let use := q.b 1
    if 1 < mode then m.bad 0
    else if 1 < use then m.bad 1
    else if decide (use = 1) && m.fseqPast (wd (q.d 12)) then m.bad 12
    else if m.flag .tbStepCtrl F.tbStepCtrl_ARM then m.err stState
    else
      let m := ((m.wr .tbStepAmtHi (wd (q.d 4))).wr .tbStepAmtLo (wd (q.d 8))).wr .tbStepFseq (wd (q.d 12))
      let m := ((m.setF .tbStepCtrl F.tbStepCtrl_MODE mode).setF .tbStepCtrl F.tbStepCtrl_USE_FSEQ use).setF .tbStepCtrl
        F.tbStepCtrl_ARM 1
      (m.updTb (fun t => { t with stepWaiter := some q.waiter })).pending [])

/-- TIME_ACCEPT (R499). -/
def cmdTimeAccept (m : Mach) (q : RawReq) : Mach × Ans :=
  m.ofLen q 0 (if m.tb.st ≠ .hold then m.err stState else (m.rrAccept).ok [])

-- Pair (0x07xx)

def cmdPairStatus (m : Mach) (q : RawReq) : Mach × Ans :=
  m.ofLen q 0 (m.ok ([Reg.pairStat, Reg.pairClaimOwn, Reg.pairClaimPeer, Reg.pairMirF, Reg.pwrStat].flatMap (fun r =>
    beBytes 4 (m.peek r).toNat)))

/-- PAIR_SWITCH (R597, R598). -/
def cmdPairSwitch (m : Mach) (q : RawReq) : Mach × Ans :=
  m.ofLen q 0 (
    if !m.switchOk then m.err stState
    else ((m.switchAnnounce).updPair (fun p => { p with switchWait := p.switchWait ++ [q.waiter] })).pending [])

/-- PAIR_RESYNC (R609). -/
def cmdPairResync (m : Mach) (q : RawReq) : Mach × Ans :=
  m.ofLen q 0 (if m.pair.role ≠ .standby then m.err stState else (m.resync).ok [])

/-- FEED_PROVE (R618). -/
def cmdFeedProve (m : Mach) (s : Session) (q : RawReq) : Mach × Ans :=
  m.ofLen q 4 (
    let f := q.b 0
    if 1 < f then m.bad 0
    else if decide ((m.feed (1 - f)).st ≠ .present ∧ (m.feed (1 - f)).st ≠ .proven) then m.err stState
    else match m.maintBroken 7 f with
      | e :: _ => m.err e.1 e.2
      | [] => (m.proveBegin f s.num (some q.waiter)).pending [])

-- Maintenance (0x08xx)

/-- MAINT_START (R691). -/
def cmdMaintStart (m : Mach) (s : Session) (q : RawReq) : Mach × Ans :=
  m.ofLen q 8 (
    let a := q.b 0
    if !(decide (1 ≤ a ∧ a ≤ 5) || decide (a = 9)) then m.bad 0
    else match m.maintStart a (q.h 2) (q.d 4) s.num with
      | .error e => m.err e.1 e.2
      | .ok (h, m) => m.ok (beBytes 2 h ++ [0, 0]))

/-- The running activity of a handle. -/
def maintOf (m : Mach) (h : Nat) : Option Maint := m.cmd.maint.find? (fun x => x.handle = h)

/-- MAINT_END (R725). -/
def cmdMaintEnd (m : Mach) (q : RawReq) : Mach × Ans :=
  m.ofLen q 4 (match m.maintOf (q.h 0) with
    | none => m.bad 0
    | some x => (m.maintStop x).ok [])

def cmdMaintList (m : Mach) (q : RawReq) : Mach × Ans :=
  m.ofLen q 0 (m.ok (beBytes 2 m.cmd.maint.length ++ [0, 0] ++ m.cmd.maint.flatMap (fun x =>
    beBytes 2 x.handle ++ beBytes 1 x.act ++ [0] ++ beBytes 2 x.target ++ beBytes 2 x.session)))

/-- OUT_TEST (R726): the handle is that of an output test of the output's group. -/
def cmdOutTest (m : Mach) (q : RawReq) : Mach × Ans :=
  m.ofLen q 8 (
    let y := q.b 2
    if 15 < y then m.bad 2
    else if 1 < q.b 3 then m.bad 3
    else if q.h 4 < 1 ∨ 5000 < q.h 4 then m.bad 4
    else if (m.maintOf (q.h 0)).any (fun x => decide (x.act = 1) && (groupOuts x.target).contains y) then
      (m.outTest (q.h 0) y (decide (q.b 3 = 1)) (q.h 4)).ok []
    else m.bad 0)

/-- RESTART (R759): carried out once the reply is delivered. -/
def cmdRestart (m : Mach) (q : RawReq) : Mach × Ans :=
  m.ofLen q 4 (if 1 < q.b 0 then m.bad 0 else ({ m with start := { m.start with restartWait := some (q.b 0) } } : Mach).ok [])

-- Security (0x09xx)

def cmdRoleChallenge (m : Mach) (s : Session) (q : RawReq) : Mach × Ans :=
  m.ofLen q 0 (
    let r := m.roleChallenge s.num
    r.2.ok r.1)

/-- ROLE_RESPONSE (R749 to R752). -/
def cmdRoleResponse (m : Mach) (s : Session) (q : RawReq) : Mach × Ans :=
  if q.len ≠ 104 ∧ !(decide (q.len = 8) && decide (q.b 4 = 255)) then m.badLen
  else if q.b 0 ≠ 1 then m.bad 0
  else if m.roleLocked then m.err stAuth
  else match m.roleRespond s 1 (q.b 4) (q.payload.drop 8) with
    | (true, m) => m.ok [1, 0, 0, 0]
    | (false, m) => m.err stAuth

def cmdRoleDrop (m : Mach) (s : Session) (q : RawReq) : Mach × Ans := m.ofLen q 0 ((m.roleDrop s.num).ok [])

/-- The firmware staging of a session ends (R689, R725). -/
def fwStageEnd (m : Mach) (num status : Nat) : Mach :=
  forEach (m.cmd.maint.filter (fun x => decide (x.act = 6 ∧ x.session = num))) (m.xferSet num 2 none) (fun m x => m.maintEnd x status)

/-- FW_STAGE (R689, R691, R740). -/
def cmdFwStage (m : Mach) (s : Session) (q : RawReq) : Mach × Ans :=
  if q.len < 12 then m.badLen
  else
    let k := q.b 0
    let total := q.d 4
    let data := q.payload.drop 12
    if k < 1 ∨ 4 < k then m.bad 0
    else match segTake s 2 k 0 total (q.d 8) data 4 8 with
      | .error o => (m.fwStageEnd s.num 0x0205).bad o
      | .ok x =>
        let start : Except (Nat × Nat) Mach :=
          if q.d 8 ≠ 0 then .ok m
          else match (m.fwStageEnd s.num 0x0205).maintTake 6 k s.num none with
            | .error e => .error e
            | .ok (_, m) => .ok (m.stageBegin k)
        match start with
        | .error e => (m.fwStageEnd s.num 0x0205).err e.1 e.2
        | .ok m =>
          if x.data.length < total then (m.xferSet s.num 2 (some x)).ok (beBytes 4 x.data.length)
          else match (m.stageEnd k x.data) with
            | (r, m) =>
              let m := m.fwStageEnd s.num (if r = 0 then 0 else 0x0202)
              if r = 0 then m.ok (beBytes 4 total) else m.err stDenied r

/-- FW_ACTIVATE (R735, R740). -/
def cmdFwActivate (m : Mach) (q : RawReq) : Mach × Ans :=
  m.ofLen q 4 (
    if q.b 0 < 1 ∨ 4 < q.b 0 then m.bad 0
    else match m.fwActivate (q.b 0) with
      | none => m.err stState
      | some m => m.ok [])

/-- A segment of n octets read from an offset, the transfer's next OFFSET kept; a gap discards the transfer (R689). -/
def readSeg (m : Mach) (s : Session) (kind off n : Nat) (l : List Byte) : Mach × Option (List Byte) :=
  let next := off + min n (l.length - off)
  let go : Mach × Option (List Byte) :=
    (m.xferSet s.num kind (if next < l.length then some (outXfer kind l.length next) else none), some ((l.drop off).take n))
  if off = 0 then go
  else match xferOf s kind with
    | some x => if x.format = off then go else (m.xferSet s.num kind none, none)
    | none => (m, none)

/-- ATTEST (R745, R746). -/
def cmdAttest (m : Mach) (s : Session) (q : RawReq) : Mach × Ans :=
  let off := q.d 0
  if q.len ≠ 8 ∧ q.len ≠ 56 then m.badLen
  else if off ≠ 0 then
    m.ofLen q 8 (
      let l := s.report.getD []
      match m.readSeg s 3 off 4088 l with
      | (m, some d) => m.ok (beBytes 4 l.length ++ [0, 0, 0, 0] ++ d)
      | (m, none) => m.bad 0)
  else m.ofLen q 56 (match m.attest (q.payload.drop 8) with
    | none => (m.emit .hssExhausted 0).err stState
    | some (l, m) =>
      let m := m.updSess s.num (fun s => { s with report := some l })
      match m.readSeg s 3 0 4088 l with
      | (m, some d) => m.ok (beBytes 4 l.length ++ [0, 0, 0, 0] ++ d)
      | (m, none) => m.bad 0)

/-- CERT_READ (R741). -/
def cmdCertRead (m : Mach) (s : Session) (q : RawReq) : Mach × Ans :=
  m.ofLen q 4 (
    let l := Config.certBundle
    match m.readSeg s 4 (q.d 0) 4092 l with
    | (m, some d) => m.ok (beBytes 4 l.length ++ d)
    | (m, none) => m.bad 0)

/-- SEAL (R754). -/
def cmdSeal (m : Mach) (q : RawReq) : Mach × Ans :=
  m.ofLen q 4 (
    if q.d 0 ≠ 0x5345414C then m.bad 0
    else if m.flag .secStat F.secStat_SEALED then m.err stDenied
    else if !m.sealable then m.err stState
    else (m.burnSeal).ok [])

-- Diagnostics (0x0Axx)

def cmdDiagSummary (m : Mach) (q : RawReq) : Mach × Ans :=
  m.ofLen q 0 (m.ok (beBytes 1 m.health ++ beBytes 1 (bit (!m.pins.faultN)) ++ [0, 0] ++ beBytes 32 (bitsOf 132 m.fenced)))

def cmdDomainStatus (m : Mach) (q : RawReq) : Mach × Ans :=
  m.ofLen q 4 (
    let d := q.b 0
    if 132 ≤ d then m.ok ([4, 0, 0, 0] ++ zeros 8)
    else m.ok (beBytes 1 (m.dom d).st ++ beBytes 1 (min (m.domErrs d) 255) ++ [0, 0] ++ beBytes 8 (m.dom d).fenceLtc.toNat))

/-- FRAME_SEND (R491, R572): the frame leaves in class 0 on the lanes named (bit 4 SVC) that are UP, each with its stamp when ID asks for one. -/
def cmdFrameSend (m : Mach) (q : RawReq) : Mach × Ans :=
  let n := q.h 4
  let id := q.h 2
  if q.len < 8 then m.badLen
  else if 31 < q.b 0 then m.bad 0
  else if id ≠ 0 ∧ id < 32768 then m.bad 2
  else if n < 60 ∨ 1518 < n then m.bad 4
  else m.ofLen q (8 + n) (
    let bytes := q.payload.drop 8
    let ls := ((List.range 5).filter (q.b 0).testBit).filter m.rxUp
    let m := forEach ls m (fun m l =>
      m.txPut l 0 (n + 4) (.host l bytes) (if id = 0 then .plain else .stamp id))
    m.ok [])

end Mach

end Sys2Proof.Machine
end

