-- ==== Sys2Proof/Machine/Requests.lean ====
section
/-! DEFINITION. The command interface (15): transports, the receive queue, the acceptance of a request, replies, delivery. -/

namespace Sys2Proof.Machine

/-- A packet's length is 20 + LEN, its SYNC right and LEN at most 4096 (step 1 of R669). -/
def pktOk (l : List Byte) : Bool := decide (20 ≤ l.length) && decide (beAt l 0 1 = 0xC3 ∧ beAt l 8 2 ≤ 4096 ∧ l.length = 20 + beAt l 8 2)

/-- A packet as a request (R668): steps 2 and 3 of R669 as marks. -/
def rawOf (udp : Bool) (ip : Word) (port : Nat) (l : List Byte) : RawReq :=
  let n := beAt l 8 2
  { udp := udp, ip := ip, port := port, session := beAt l 10 2, seq := beAt l 4 2, op := beAt l 6 2,
    payload := (l.drop 16).take n, badCrc := decide ((crc32c (l.take (16 + n))).toNat ≠ beAt l (16 + n) 4),
    badHead := decide (beAt l 1 1 ≠ 1 ∨ beAt l 2 2 ≠ 0 ∨ beAt l 12 4 ≠ 0) }

/-- The request that a command of the block carries: well-formed, on its transport (R668). -/
def reqOf (h : Hdr) (op : Nat) (p : List Byte) : RawReq :=
  { udp := h.udp, ip := if h.udp then h.ip else 0, port := if h.udp then h.port else 0, session := h.session % 65536,
    seq := h.seq % 65536, op := op, payload := p, badCrc := false, badHead := false }

/-- Opcodes listed in R684. -/
def opListed (op : Nat) : Bool :=
  let hi := op / 256
  let lo := op % 256
  decide (1 ≤ lo) && decide (lo ≤ (match hi with
    | 0 => 7 | 1 => 3 | 2 => 5 | 3 => 7 | 4 => 4 | 5 => 7 | 6 => 3 | 7 => 4 | 8 => 5 | 9 => 8 | 10 => 3 | _ => 0))

/-- Opcodes that need the maintenance role (the M of R684). -/
def opMaint (op : Nat) : Bool :=
  [0x0305, 0x0306, 0x0502, 0x0507, 0x0602, 0x0603, 0x0702, 0x0801, 0x0802, 0x0804, 0x0805, 0x0904, 0x0905, 0x0908].contains op

/-- Opcodes accepted before a FEAT_ACCEPT (R680). -/
def opBefore (op : Nat) : Bool :=
  decide (op / 256 = 0) || decide (op = 0x0101 ∨ op = 0x0601 ∨ op = 0x0A01 ∨ op = 0x0A02) ||
  (decide (op / 256 = 9) && decide (op ≠ 0x0904 ∧ op ≠ 0x0905))

/-- Opcodes of recovery (R736). -/
def opRecovery (op : Nat) : Bool :=
  [0x0001, 0x0004, 0x0005, 0x0901, 0x0902, 0x0907, 0x0904, 0x0905, 0x0805].contains op

namespace Mach

/-- Opcodes of groups 0x00 to 0x04. -/
def runLow (m : Mach) (s : Session) (q : RawReq) : Mach × Ans :=
  match q.op with
  | 0x0001 => m.cmdHello q
  | 0x0002 => m.cmdFeatOffer q
  | 0x0003 => m.cmdFeatAccept q
  | 0x0004 => m.cmdPing q
  | 0x0005 => m.cmdBye q
  | 0x0006 => m.cmdNotifyAck s q
  | 0x0007 => m.cmdNotifyCfg s q
  | 0x0101 => m.cmdRegRead q
  | 0x0102 => m.cmdRegWrite s q
  | 0x0103 => m.cmdRegModify s q
  | 0x0201 => m.cmdSetStage s q
  | 0x0202 => m.cmdSetCommit s q
  | 0x0203 => m.cmdGroupSelect q
  | 0x0204 => m.cmdSetRead q
  | 0x0205 => m.cmdSetDiscard s q
  | 0x0301 => m.cmdProgLoad s q
  | 0x0302 => m.cmdProgStart q
  | 0x0303 => m.cmdProgStop q
  | 0x0304 => m.cmdConstWrite q
  | 0x0305 => m.cmdForce q
  | 0x0306 => m.cmdUnforce q
  | 0x0307 => m.cmdForceList q
  | 0x0401 => m.cmdSelect q
  | 0x0402 => m.cmdOperate s q
  | 0x0403 => m.cmdCancel q
  | _ => m.cmdStitchStatus q

/-- Opcodes of groups 0x05 to 0x0A. -/
def runHigh (m : Mach) (s : Session) (q : RawReq) : Mach × Ans :=
  match q.op with
  | 0x0501 => m.cmdEvrRead q
  | 0x0502 => m.cmdEvrClear s q
  | 0x0503 => m.cmdEvtCodes q
  | 0x0504 => m.cmdDrList q
  | 0x0505 => m.cmdDrRead q
  | 0x0506 => m.cmdDrTrigger s q
  | 0x0507 => m.cmdDrClear s q
  | 0x0601 => m.cmdTimeGet q
  | 0x0602 => m.cmdTimeStep q
  | 0x0603 => m.cmdTimeAccept q
  | 0x0701 => m.cmdPairStatus q
  | 0x0702 => m.cmdPairSwitch q
  | 0x0703 => m.cmdPairResync q
  | 0x0704 => m.cmdFeedProve s q
  | 0x0801 => m.cmdMaintStart s q
  | 0x0802 => m.cmdMaintEnd q
  | 0x0803 => m.cmdMaintList q
  | 0x0804 => m.cmdOutTest q
  | 0x0805 => m.cmdRestart q
  | 0x0901 => m.cmdRoleChallenge s q
  | 0x0902 => m.cmdRoleResponse s q
  | 0x0903 => m.cmdRoleDrop s q
  | 0x0904 => m.cmdFwStage s q
  | 0x0905 => m.cmdFwActivate q
  | 0x0906 => m.cmdAttest s q
  | 0x0907 => m.cmdCertRead s q
  | 0x0908 => m.cmdSeal q
  | 0x0A01 => m.cmdDiagSummary q
  | 0x0A02 => m.cmdDomainStatus q
  | _ => m.cmdFrameSend q

/-- Steps 6 to 11 of R669. -/
def runOpcode (m : Mach) (s : Session) (q : RawReq) : Mach × Ans :=
  if !opListed q.op then m.err 0x0101
  else if (if m.start.recovery then !opRecovery q.op else !m.flag .glbStat F.glbStat_FEAT_DONE && !opBefore q.op) then m.err stState
  else if q.op / 256 = 7 ∧ !m.feat 3 then m.err stFeature 3
  else if opMaint q.op && !s.maint then m.err stAuth
  else if q.op < 0x0500 then m.runLow s q
  else m.runHigh s q

-- Replies

/-- The reply packet of a request (R668): it echoes SEQ and SESSION, and goes where the request came from (R667). -/
def replyPkt (m : Mach) (q : RawReq) (a : Ans) : OutPkt :=
  { session := q.session, udp := q.udp, ip := q.ip, port := q.port, notify := false, complete := false, seq := q.seq, op := q.op,
    status := a.status, payload := a.payload, sentMon := m.mon }

/-- A packet leaves: an HP one waits to be read, a UDP one is sent. -/
def sendReply (m : Mach) (p : OutPkt) : Mach :=
  if p.udp then m.send (.udp p) else { m with cmd := { m.cmd with hpOut := m.cmd.hpOut ++ [p] } }

/-- What follows a reply (R674). -/
def afterReply (m : Mach) (num after : Nat) : Mach :=
  match after with
  | 1 => m.sessEnd num
  | 2 => forEach (m.sessions.filter (·.udp)) m (fun m s => m.sessEnd s.num)
  | _ => m

/-- The session of a request, if it is open on its transport (step 4 of R669). -/
def reqSess (m : Mach) (q : RawReq) : Option Session :=
  match m.sess q.session with
  | some s => if s.udp = q.udp then some s else none
  | none => none

/-- A request without a session: a HELLO's reply is kept with the session it opened. -/
def sess0 (q : RawReq) : Session :=
  { num := 0, udp := q.udp, ip := q.ip, port := q.port, nip := q.ip, nport := q.port, lastSeq := 0, nseq := 0, nseqAck := 0,
    maint := false, roleKey := 255, evtMask := 0, flags := 0, nonce := none, reply := none, lastReq := 0, lost := 0, xfers := [],
    report := none }

/-- A session as its next request begins: where its packets go, and the time of the request (R667, R674). -/
def taken (m : Mach) (s : Session) (q : RawReq) : Mach :=
  m.updSess s.num (fun x => { x with nip := q.ip, nport := q.port, lastReq := m.mon })

/-- A request answered: its reply is kept with its SEQ and sent, and what follows it done (R670, R674). A HELLO's reply is kept with
the session that it opened, too. -/
def served (m : Mach) (s : Session) (q : RawReq) (a : Ans) : Mach :=
  let p := m.replyPkt q a
  let m := if q.op = 1 ∧ a.status = 0 then m.updSess m.cmd.lastNum (fun x => { x with reply := some p }) else m
  ((m.updSess s.num (fun x => { x with lastSeq := q.seq, reply := some p })).sendReply p).afterReply s.num a.after

/-- A request is executed (R669, R670): from step 2 on. -/
def execReq (m : Mach) (q : RawReq) : Mach :=
  let say (m : Mach) (status arg0 : Nat) : Mach := m.sendReply (m.replyPkt q ⟨status, beBytes 4 arg0 ++ zeros 4, 0⟩)
  if q.badCrc then say (m.bump .cmdCntCrc F.cmdCntCrc_COUNT 1) 0x0103 0
  else if q.badHead then say m 0x0102 0
  else match m.reqSess q with
    | none =>
      if q.session ≠ 0 ∨ q.op ≠ 1 then say m 0x0208 0
      else
        let (m, a) := m.runOpcode (sess0 q) q
        let p := m.replyPkt q a
        let m := if a.status = 0 then m.updSess m.cmd.lastNum (fun x => { x with reply := some p }) else m
        m.sendReply p
    | some s =>
      if q.seq = s.lastSeq then
        let m := m.updSess s.num (fun x => { x with nip := q.ip, nport := q.port })
        match s.reply with
        | some p => m.sendReply { p with ip := q.ip, port := q.port }
        | none => m
      else if q.seq ≠ (s.lastSeq + 1) % 65536 then
        say (m.updSess s.num (fun x => { x with nip := q.ip, nport := q.port })) 0x0104 ((s.lastSeq + 1) % 65536)
      else
        let r := (m.taken s q).runOpcode s q
        r.1.served s q r.2

/-- A request waits for the delivery of its session's previous reply (R671). -/
def reqHeld (m : Mach) (q : RawReq) : Bool :=
  !q.udp && (m.reqSess q).isSome && m.cmd.hpOut.any (fun p => !p.notify && decide (p.session = q.session))

/-- Requests that may run are taken from the receive queue in the order of arrival (R671). -/
def rxRun : Nat → Mach → Mach
  | 0, m => m
  | n + 1, m =>
    match m.cmd.rx.findIdx? (fun q => !m.reqHeld q) with
    | none => m
    | some i =>
      match m.cmd.rx[i]? with
      | none => m
      | some q => rxRun n (({ m with cmd := { m.cmd with rx := m.cmd.rx.eraseIdx i } } : Mach).execReq q)

-- Transports

/-- The HP status word (R662); nothing is ready in HARDWARE (R758). -/
def hpStatus (m : Mach) : Word :=
  if m.start.phase = 0 then 0
  else
    wd (bit (decide (m.cmd.rx.length < 3)) * 2 ^ 31 + bit (!m.cmd.hpOut.isEmpty) * 2 ^ 30 +
      bit (m.cmd.hpOut.any (fun p => p.notify)) * 2 ^ 29 + ((m.cmd.hpOut.head?.map OutPkt.len).getD 0) % 8192)

/-- A packet discarded and counted (R663, R666, R669). -/
def pktDisc (m : Mach) : Mach := m.bump .cmdCntDisc F.cmdCntDisc_COUNT 1

/-- A request enters the receive queue; what may run is run (R671). -/
def rxPut (m : Mach) (q : RawReq) : Mach := rxRun (m.cmd.rx.length + 1) { m with cmd := { m.cmd with rx := m.cmd.rx ++ [q] } }

/-- An HP transaction that only reads the status word (R662). -/
def hpStatusCmd (m : Mach) : Mach := m.send (.hp m.hpStatus [])

/-- An HP WRITE (R662, R663, R669, R758). -/
def hpWrite (m : Mach) (l : List Byte) : Mach :=
  let ready := m.hpStatus.getLsbD 31
  let m := m.send (.hp m.hpStatus [])
  if ready && pktOk l then m.rxPut (rawOf false 0 0 l) else m.pktDisc

/-- The next outgoing packet was clocked out to its last byte: it is delivered, and a NOTIFY acknowledged (R664, R665, R679). -/
def hpDelivered (m : Mach) (p : OutPkt) : Mach :=
  let m := ({ m with cmd := { m.cmd with hpOut := m.cmd.hpOut.tail } } : Mach).setIrq
  if p.notify then m.updSess p.session (fun s => { s with nseqAck := p.seq }) else m

/-- An HP READ of n bytes after the code bytes (R664). -/
def hpRead (m : Mach) (n : Nat) : Mach :=
  let st := m.hpStatus
  match (if m.start.phase = 0 then none else m.cmd.hpOut.head?) with
  | none => m.send (.hp st (zeros n))
  | some p =>
    let m := m.send (.hp st ((p.bytes ++ zeros n).take n))
    if p.len ≤ n then m.hpDelivered p else m

/-- A UDP datagram on SVC (R666, R736, R758): destination address and port, source, whether a fragment, payload. -/
def udpRecv (m : Mach) (dst : Word) (dport : Nat) (src : Word) (sport : Nat) (frag : Bool) (l : List Byte) : Mach :=
  if decide (m.start.phase = 0) || m.start.recovery || !m.flag .cmdCfg F.cmdCfg_UDP_EN || !m.svcUp ||
      decide (dst ≠ m.rd .cmdIp ∨ dport ≠ m.fld .cmdCfg F.cmdCfg_UDP_PORT) then m
  else if frag || decide (3 ≤ m.cmd.rx.length) || !pktOk l then m.pktDisc
  else m.rxPut (rawOf true src sport l)

/-- A request as a command of the block carries it: well-formed, on its transport (R668). -/
def packet (m : Mach) (op : Nat) (h : Hdr) (p : List Byte) : Mach :=
  let q := reqOf h op p
  if h.udp && (decide (m.start.phase = 0) || m.start.recovery || !m.flag .cmdCfg F.cmdCfg_UDP_EN || !m.svcUp) then m
  else if 4096 < p.length ∨ 3 ≤ m.cmd.rx.length ∨ m.start.phase = 0 then m.pktDisc
  else m.rxPut q

/-- Unacknowledged NOTIFYs of UDP sessions are sent again every 100 ms (R679), to where their session's last request came from (R667). -/
def noteResend (m : Mach) : Mach :=
  let due (p : OutPkt) : Bool := decide (100000000 ≤ m.since p.sentMon)
  let now := m.mon
  let l := m.cmd.udpNotes.filter due
  let m := { m with cmd := { m.cmd with udpNotes := m.cmd.udpNotes.map (fun p => if due p then { p with sentMon := now } else p) } }
  forEach l m (fun m p => m.send (.udp (match m.sess p.session with
    | some s => { p with ip := s.nip, port := s.nport }
    | none => p)))

end Mach

end Sys2Proof.Machine
end

