-- ==== Sys2Proof/Machine/Settle.lean ====
section
/-! DEFINITION. What follows every command at once: waiting requests, deferred records, NOTIFYs, pins, roles, M2 data, a restart that is
due; and one tick of the clock. -/

namespace Sys2Proof.Machine

namespace Mach

/-- PAIR_SWITCH requests whose switchover was given up (R595, R598). -/
def switchAborts (m : Mach) : Mach :=
  if m.pair.switchTag.isSome || m.pair.switchWait.isEmpty then m
  else
    let l := m.pair.switchWait
    forEach l (m.updPair (fun p => { p with switchWait := [] })) (fun m w => m.complete w 0x0205 0 0 m.ltc 0)

/-- The pair link on one lane, and on both again (R610, R611). -/
def pairLinkCheck (m : Mach) : Mach :=
  let n := m.pairUp.length
  let act := decide (m.pair.role = .active)
  if !m.feat 3 then m
  else if decide (n = 1) && !m.pair.degraded then
    let m := m.updPair (fun p => { p with degraded := true })
    if act then m.emit .pairDegraded 0 else m
  else if decide (n = 2) && m.pair.degraded then
    let m := m.updPair (fun p => { p with degraded := false })
    if act then (m.m2Flush).emit .pairRestored 0 else m
  else m

/-- TB_INC_INT follows INC while the host may not write it (R460). -/
def incSync (m : Mach) : Mach :=
  if m.fld .tbCtrl F.tbCtrl_SERVO_EN = 0 ∧ m.tb.st = .free then m
  else m.wr .tbIncInt (wd (m.tb.inc.toNat / 2 ^ 32))

/-- A RESTART whose reply has been delivered (R759, R674). -/
def restartDue (m : Mach) : Mach :=
  match m.start.restartWait with
  | none => m
  | some k =>
    if m.cmd.hpOut.any (fun p => !p.notify && decide (p.op = 0x0805)) then m
    else m.restart (if k = 0 then 2 else 3) (some k)

/-- What follows a command, given the state before it. -/
def settle (old m : Mach) : Mach :=
  let m := rxRun m.cmd.rx.length m
  let m := (((m.runDeferred).fifoRefill).noteLost).switchAborts
  let m := m2Diff old (((m.enterInit).pairLinkCheck).otestGate)
  ((((m.restartDue).incSync).linkServe).setIrq).setFault

/-- A happening acts only on a block that is not held in reset (R757, R792). -/
def live (f : Mach → Mach) (m : Mach) : Mach := if m.inReset then m else settle m (f m)

/-- A happening that needs the engines' start (PHASE past HARDWARE, R758). -/
def awake (f : Mach → Mach) (m : Mach) : Mach := live (fun m => if m.start.phase = 0 then m else f m) m

/-- The instant is over: what the engine set in it stands as any other (R13, R14). -/
def instantOver (m : Mach) : Mach := { m with fresh1 := [], freshC := [] }

/-- The measurement of FL_P every 10 µs, and the band that follows it (R401). -/
def flpTick (m : Mach) : Mach :=
  if !m.flpDue then m
  else
    let m := m.flpMin
    if m.bandMove.isNone then m else settle m m.bandStep

/-- Queued frames and credits at a tick (R529, R564). -/
def linkTick (m : Mach) : Mach := if m.txq.isEmpty && m.pair.txq.isEmpty && m.pair.owed.isEmpty then m else m.linkServe

/-- One tick of the 125 MHz clock (R458, R462; log entry 1). -/
def tick (m : Mach) : Mach :=
  if m.inReset then m
  else ((((m.updTb (fun t => { t with ltc := t.ltc + (t.inc.setWidth 96), mon := t.mon + 8 })).instantOver.prbsTick).flpTick).linkTick).setFault

/-- An open session may write registers (R11, R758, R680, R736): features accepted, the engine past HARDWARE and not in recovery. -/
def hostMay (m : Mach) : Bool := decide (m.start.phase ≠ 0) && !m.start.recovery && m.flag .glbStat F.glbStat_FEAT_DONE

/-- What follows a register write by a session: the UDP sessions end where R674 says so. -/
def hostDone (num a : Nat) (r : Option (Nat × Nat) × Mach) : Mach :=
  if r.1.isNone && endsUdp a then r.2.afterReply num 2 else r.2

/-- A register write to an address as an open session carries it out (R11, R685). -/
def hostWrite (m : Mach) (ses a : Nat) (w : Word) : Mach :=
  match m.sess ses with
  | none => m
  | some s => if m.hostMay then hostDone s.num a (m.regWrite { session := s.num, maint := s.maint } a w) else m

/-- A write of a register under its name. -/
def hostPut (m : Mach) (ses : Nat) (r : Reg) (w : Word) : Mach :=
  match m.sess ses with
  | none => m
  | some s => if m.hostMay then hostDone s.num r.addr (m.regWriteAt { session := s.num, maint := s.maint } r w) else m

/-- A register read as an open session carries it out: by its address, and under its name. -/
def hostRead (m : Mach) (ses a : Nat) : Mach :=
  if (m.sess ses).isNone ∨ m.start.phase = 0 ∨ m.start.recovery then m else (m.regRead a).2
def hostGet (m : Mach) (ses : Nat) (r : Reg) : Mach :=
  if (m.sess ses).isNone ∨ m.start.phase = 0 ∨ m.start.recovery then m else (m.regReadAt r).2

/-- The register at an address has a field that reading clears (R14). -/
def hasRc (a : Nat) : Bool := match Reg.ofAddr a with
  | some r => r.fields.any (fun f => decide (f.acc = .rc))
  | none => false

/-- A command that names no part of the block changes nothing (log entry 29). -/
def only (c : Bool) (f : Mach → Mach) (m : Mach) : Mach := if c then f m else m

/-- A register with some fields replaced, as a host that knows its other bits writes it. -/
def withFields (m : Mach) (r : Reg) (l : List (Fld × Nat)) : Word := fields (m.rd r) l

end Mach

end Sys2Proof.Machine
end

