-- ==== Sys2Proof/Machine/State.lean ====
section
/-! DEFINITION. The state of the block: its own state and the queue of the commands that wait. -/

namespace Sys2Proof.Machine

/-- The state: commands waiting, first in first out, and everything the spec gives the block. -/
structure State where
  pending : List Instr
  m : Mach
  deriving DecidableEq, Repr

/-- Why a command stops with a fault. The spec gives every command an effect, so no command raises one and there is no constructor. -/
inductive Fault where
  deriving DecidableEq, Repr

/-- Why a command is refused. -/
inductive Refusal where
  /-- Raised by an arm of exec whose command has no meaning yet; safe. No arm raises it. -/
  | notModelled (mnemonic : String)
  deriving DecidableEq, Repr

/-- The block as shipped, right after the release of power-on reset, with no command waiting (R757, R773; log entry 3). -/
def State.reset : State := { pending := [], m := Mach.init }

end Sys2Proof.Machine
end

