-- ==== Sys2Proof/WellFormed.lean ====
section
/-! DEFINITION. Well-formed commands: every index names a part that the block has, every payload fits a packet. -/

namespace Sys2Proof

open Machine

/-- A bay or bay engine number: 0 to 31 (R3). -/
def wfBay (x : Nat) : Bool := Nat.blt x 32

/-- A modulator port: 0 to 15. -/
def wfPort (x : Nat) : Bool := Nat.blt x 16

/-- A modulator clock: 0 or 1. -/
def wfClk (x : Nat) : Bool := Nat.blt x 2

/-- A sampled-value subscription: 0 to 63. -/
def wfSub (x : Nat) : Bool := Nat.blt x 64

/-- A GOOSE subscription: 0 to 127. -/
def wfGsub (x : Nat) : Bool := Nat.blt x 128

/-- A GOOSE publication: 0 to 127. -/
def wfGpub (x : Nat) : Bool := Nat.blt x 128

/-- A logic task: 0 to 3. -/
def wfTask (x : Nat) : Bool := Nat.blt x 4

/-- A serial lane: 0 to 3. -/
def wfLane (x : Nat) : Bool := Nat.blt x 4

/-- A MAC: lane 0 to 3, or 4 for SVC. -/
def wfMac (x : Nat) : Bool := Nat.blt x 5

/-- A PTP port: 0 or 1. -/
def wfPtp (x : Nat) : Bool := Nat.blt x 2

/-- A time trigger: 0 to 7. -/
def wfTrg (x : Nat) : Bool := Nat.blt x 8

/-- An output DO0 to DO15 (DO12 to DO15 are TRIP0 to TRIP3). -/
def wfOut (x : Nat) : Bool := Nat.blt x 16

/-- An input DI0 to DI31. -/
def wfInp (x : Nat) : Bool := Nat.blt x 32

/-- An entry of the station table: 0 to 255. -/
def wfSta (x : Nat) : Bool := Nat.blt x 256

/-- A feed: 0 VFA, 1 VFB. -/
def wfFeed (x : Nat) : Bool := Nat.blt x 2

/-- A containment domain: 0 to 131. -/
def wfDom (x : Nat) : Bool := Nat.blt x 132

/-- An MRAM bank: 0 A, 1 B. -/
def wfBank (x : Nat) : Bool := Nat.blt x 2

/-- A swap group: 0 to 3. -/
def wfSwg (x : Nat) : Bool := Nat.blt x 4

/-- An analogue test bus: 0 or 1. -/
def wfAtb (x : Nat) : Bool := Nat.blt x 2

/-- A maintenance key slot: 0 to 3. -/
def wfMkey (x : Nat) : Bool := Nat.blt x 4

/-- A bay engine 0 to 31, or a juggler engine 32 or 33. -/
def wfEng (x : Nat) : Bool := Nat.blt x 34

/-- An SRAM region that exists (01). -/
def wfRegion (r : SramRegion) : Bool :=
  match r with
  | .engineLocal e => wfEng e
  | .bayResult b => wfBay b
  | .logic t => Nat.blt t 4
  | _ => true

/-- A bay, or 32 for the zone. -/
def wfDmd (x : Nat) : Bool := Nat.blt x 33

/-- An operand area code of four bits (R425). -/
def wfArea (x : Nat) : Bool := Nat.blt x 16

/-- An operand index of twenty bits (R425). -/
def wfIdx (x : Nat) : Bool := Nat.blt x 1048576

/-- An energy counter of a bay: 0 to 3. -/
def wfEgy (x : Nat) : Bool := Nat.blt x 4

/-- An entry of the integrator mirror: 0 to 1023. -/
def wfMir (x : Nat) : Bool := Nat.blt x 1024

/-- The payload of a request: at most 4096 octets (R668). -/
def wfPayload (p : List Byte) : Bool := Nat.ble p.length 4096

/-- Every operand of the command is in range. -/
def Instr.wf : Instr → Bool
  | .frameTrigger _ _ _ => true
  | .alignerCutOff => true
  | .alignedSetComplete => true
  | .bayFrameComplete e => wfEng e
  | .bayDeadline => true
  | .zeFrameComplete _ => true
  | .arcFlagRead => true
  | .fastOcFlagSet b p => wfBay b && wfPort p.port
  | .stitchBinding => true
  | .bindingComplete => true
  | .guardIntervalStart => true
  | .handoverCopyDone b => wfBay b
  | .vcoreLoopTick => true
  | .sramEccError r _ => wfRegion r
  | .mclkEnableWrite _ _ => true
  | .mclkPllLock x => wfClk x
  | .mclkPllLoss x => wfClk x
  | .modStuck p => wfPort p
  | .modStuckRecover p => wfPort p
  | .modPortEnable _ p _ => wfPort p
  | .modGainOffsetWrite _ p _ _ => wfPort p
  | .coefDataAccess _ _ => true
  | .swapArm _ g _ => wfSwg g
  | .svApduReceive x _ _ _ => wfLane x.lane
  | .resampleComplete n _ => wfSub n
  | .svStreamTimeout n => wfSub n
  | .svSubscriptionEnable _ n _ => wfSub n
  | .calMeasurementDone p => wfPort p
  | .transientCaptureStop => true
  | .transientCopyDone => true
  | .bayModeWrite _ b _ => wfBay b
  | .clrEnergy _ b => wfBay b
  | .bayLatchClear _ b _ => wfBay b
  | .motCntClr _ b => wfBay b
  | .motStartClr _ b => wfBay b
  | .motThetaReset _ b => wfBay b
  | .prepareDeadline _ => true
  | .commitInstant _ => true
  | .abortRepeat _ => true
  | .remoteCmdRepeat _ _ => true
  | .selectionTimeout _ => true
  | .tripMinExpiry b => wfDmd b
  | .diDebounce x _ => wfInp x
  | .wireBreakChange x _ => wfInp x
  | .inputSinkCheck x _ => wfInp x
  | .outputDiagScan _ _ _ _ => true
  | .outputChangeObservation y _ _ => wfOut y
  | .shortToM y => wfOut y.out
  | .shortRetry y => wfOut y
  | .openLoadOnState y => wfOut y.out
  | .tripDuty y => wfOut y.out
  | .fldSagEntry _ => true
  | .fldLowEntry _ => true
  | .fldLockoutEntry _ => true
  | .fldLockoutEnd _ => true
  | .fldNormalReturn _ => true
  | .doCfgWrite _ y _ => wfOut y
  | .outTestEnd => true
  | .logicSnapshot t => wfTask t
  | .lgNop t => wfTask t
  | .lgLd t area idx => wfTask t && wfArea area && wfIdx idx
  | .lgLdn t area idx => wfTask t && wfArea area && wfIdx idx
  | .lgAnd t area idx => wfTask t && wfArea area && wfIdx idx
  | .lgAndn t area idx => wfTask t && wfArea area && wfIdx idx
  | .lgOr t area idx => wfTask t && wfArea area && wfIdx idx
  | .lgOrn t area idx => wfTask t && wfArea area && wfIdx idx
  | .lgXor t area idx => wfTask t && wfArea area && wfIdx idx
  | .lgSt t area idx => wfTask t && wfArea area && wfIdx idx
  | .lgStn t area idx => wfTask t && wfArea area && wfIdx idx
  | .lgSet t area idx => wfTask t && wfArea area && wfIdx idx
  | .lgRst t area idx => wfTask t && wfArea area && wfIdx idx
  | .lgNot t => wfTask t
  | .lgRe t area idx => wfTask t && wfArea area && wfIdx idx
  | .lgFe t area idx => wfTask t && wfArea area && wfIdx idx
  | .lgLdv t area idx => wfTask t && wfArea area && wfIdx idx
  | .lgLdfl t area idx => wfTask t && wfArea area && wfIdx idx
  | .lgLdst t area idx => wfTask t && wfArea area && wfIdx idx
  | .lgAndOpen t area idx => wfTask t && wfArea area && wfIdx idx
  | .lgOrOpen t area idx => wfTask t && wfArea area && wfIdx idx
  | .lgCloseParen t => wfTask t
  | .lgLdw t area idx => wfTask t && wfArea area && wfIdx idx
  | .lgStw t area idx => wfTask t && wfArea area && wfIdx idx
  | .lgStwc t area idx => wfTask t && wfArea area && wfIdx idx
  | .lgAdd t area idx => wfTask t && wfArea area && wfIdx idx
  | .lgSub t area idx => wfTask t && wfArea area && wfIdx idx
  | .lgMul t area idx => wfTask t && wfArea area && wfIdx idx
  | .lgDiv t area idx => wfTask t && wfArea area && wfIdx idx
  | .lgMod t area idx => wfTask t && wfArea area && wfIdx idx
  | .lgWand t area idx => wfTask t && wfArea area && wfIdx idx
  | .lgWor t area idx => wfTask t && wfArea area && wfIdx idx
  | .lgWxor t area idx => wfTask t && wfArea area && wfIdx idx
  | .lgShl t area idx => wfTask t && wfArea area && wfIdx idx
  | .lgShr t area idx => wfTask t && wfArea area && wfIdx idx
  | .lgEq t area idx => wfTask t && wfArea area && wfIdx idx
  | .lgNe t area idx => wfTask t && wfArea area && wfIdx idx
  | .lgGt t area idx => wfTask t && wfArea area && wfIdx idx
  | .lgGe t area idx => wfTask t && wfArea area && wfIdx idx
  | .lgLt t area idx => wfTask t && wfArea area && wfIdx idx
  | .lgLe t area idx => wfTask t && wfArea area && wfIdx idx
  | .lgFadd t area idx => wfTask t && wfArea area && wfIdx idx
  | .lgFsub t area idx => wfTask t && wfArea area && wfIdx idx
  | .lgFmul t area idx => wfTask t && wfArea area && wfIdx idx
  | .lgFdiv t area idx => wfTask t && wfArea area && wfIdx idx
  | .lgFgt t area idx => wfTask t && wfArea area && wfIdx idx
  | .lgFlt t area idx => wfTask t && wfArea area && wfIdx idx
  | .lgItof t => wfTask t
  | .lgFtoi t => wfTask t
  | .lgTon t idx => wfTask t && wfIdx idx
  | .lgTof t idx => wfTask t && wfIdx idx
  | .lgTp t idx => wfTask t && wfIdx idx
  | .lgCtu t idx => wfTask t && wfIdx idx
  | .lgCtd t idx => wfTask t && wfIdx idx
  | .lgCld t idx => wfTask t && wfIdx idx
  | .lgJmp t area idx => wfTask t && wfArea area && wfIdx idx
  | .lgJmpc t area idx => wfTask t && wfArea area && wfIdx idx
  | .lgJmpcn t area idx => wfTask t && wfArea area && wfIdx idx
  | .lgCallfb t idx => wfTask t && wfIdx idx
  | .lgEnd t _ => wfTask t
  | .logicOverrun t => wfTask t
  | .tbIncWrite _ _ => true
  | .tbLtcRead _ => true
  | .sourceEnableClear _ _ => true
  | .ptpAnnounceReceive p _ => wfPtp p
  | .ptpAnnounceTimeout => true
  | .ptpSyncReceive p _ => wfPtp p
  | .ptpFollowUpReceive p _ => wfPtp p
  | .ptpPdelayReqSend p => wfPtp p
  | .ptpPdelayRespReceive p _ => wfPtp p
  | .ptpPdelayReqReceive p _ _ => wfPtp p
  | .ptpMasterSyncSend p => wfPtp p
  | .ppsInEdge => true
  | .ppsTimeout => true
  | .irigFrameReceive _ => true
  | .irigFrameTimeout => true
  | .tbStepArm _ _ => true
  | .holdTEnd => true
  | .holdMaxExpiry => true
  | .tbRrAccept _ => true
  | .triggerArm _ n _ => wfTrg n
  | .triggerFire n => wfTrg n
  | .ppsOutPulseEnd => true
  | .tsqEntryRead _ l => wfMac l
  | .laneCfgWrite _ l _ => wfLane l
  | .laneSyncGained l _ _ _ _ => wfMac l
  | .laneLossOfLock l _ _ => wfMac l
  | .laneUp l => wfMac l
  | .adaptPresetRestart l => wfLane l
  | .adaptFreeze _ l _ => wfLane l
  | .eyeScanStart _ l _ => wfLane l
  | .eyeScanDone l _ => wfLane l
  | .eyeAutoMeasure l _ _ => wfLane l
  | .prbsEnable _ l _ => wfLane l
  | .prbsSyncGain l => wfLane l.lane
  | .prbsSyncLoss l _ => wfLane l
  | .prbsClr _ l => wfLane l
  | .prbsInj _ l => wfLane l
  | .macFrameReceive _ => true
  | .gooseReceive lane _ _ _ => wfMac lane
  | .gooseTalExpiry g => wfGsub g
  | .gooseRepeat p => wfGpub p
  | .goosePubEnable _ p _ => wfGpub p
  | .gpubWinAccess _ _ => true
  | .glxAnnounceReceive _ _ => true
  | .glxInputReceive _ _ => true
  | .glxLeaveReceive _ _ => true
  | .glxAckReceive _ _ => true
  | .glxReadyReceive _ _ => true
  | .glxRefuseReceive _ _ => true
  | .glxReportReceive _ _ => true
  | .reportCoalesceClose => true
  | .glxBeaconSend => true
  | .stationLiveTimeout e => wfSta e
  | .stationAgeOut e => wfSta e
  | .stationEnable _ e _ => wfSta e
  | .hostFrameReceive lane _ _ => wfMac lane
  | .prpSupervisionSend => true
  | .prpSupervisionReceive _ => true
  | .claimWordSend => true
  | .claimWordReceive _ _ _ _ => true
  | .claimTimeout => true
  | .heartbeatReceive _ _ => true
  | .heartbeatTimeout => true
  | .pairListenEnd => true
  | .m0FrameReceive _ _ _ _ => true
  | .m1FrameReceive _ _ _ _ _ => true
  | .m2FrameReceive _ _ _ _ => true
  | .syncReqReceive _ => true
  | .m1FullPass => true
  | .pairCtrlSwitch _ => true
  | .pairCtrlResync _ => true
  | .mirrorEntryWrite _ e _ _ => wfMir e
  | .standbyOutputTest => true
  | .standbyOutputTestEnd _ => true
  | .feedPresent f _ => wfFeed f
  | .feedLoss f _ => wfFeed f
  | .feedProofEnd f => wfFeed f
  | .autoFeedProof f => wfFeed f
  | .pwrProve _ _ => true
  | .holdupEvent => true
  | .eventRecordWritten _ _ => true
  | .repeatEntryClose => true
  | .repeatRewrite => true
  | .evrCursorWrite _ _ => true
  | .evrWindowRead _ => true
  | .evrCtrlClear _ => true
  | .drCtrlManual _ => true
  | .drCtrlClear _ => true
  | .drRecordEnd => true
  | .hpStatus => true
  | .hpWrite _ => true
  | .hpRead _ => true
  | .udpDatagramReceive _ _ _ _ _ _ => true
  | .notifyResend => true
  | .sessionTimeout => true
  | .pkHello _ p => wfPayload p
  | .pkFeatOffer _ p => wfPayload p
  | .pkFeatAccept _ p => wfPayload p
  | .pkPing _ p => wfPayload p
  | .pkBye _ p => wfPayload p
  | .pkNotifyAck _ p => wfPayload p
  | .pkNotifyCfg _ p => wfPayload p
  | .pkRegRead _ p => wfPayload p
  | .pkRegWrite _ p => wfPayload p
  | .pkRegModify _ p => wfPayload p
  | .pkSetStage _ p => wfPayload p
  | .pkSetCommit _ p => wfPayload p
  | .pkGroupSelect _ p => wfPayload p
  | .pkSetRead _ p => wfPayload p
  | .pkSetDiscard _ p => wfPayload p
  | .pkProgLoad _ p => wfPayload p
  | .pkProgStart _ p => wfPayload p
  | .pkProgStop _ p => wfPayload p
  | .pkConstWrite _ p => wfPayload p
  | .pkForce _ p => wfPayload p
  | .pkUnforce _ p => wfPayload p
  | .pkForceList _ p => wfPayload p
  | .pkSelect _ p => wfPayload p
  | .pkOperate _ p => wfPayload p
  | .pkCancel _ p => wfPayload p
  | .pkStitchStatus _ p => wfPayload p
  | .pkEvrRead _ p => wfPayload p
  | .pkEvrClear _ p => wfPayload p
  | .pkEvtCodes _ p => wfPayload p
  | .pkDrList _ p => wfPayload p
  | .pkDrRead _ p => wfPayload p
  | .pkDrTrigger _ p => wfPayload p
  | .pkDrClear _ p => wfPayload p
  | .pkTimeGet _ p => wfPayload p
  | .pkTimeStep _ p => wfPayload p
  | .pkTimeAccept _ p => wfPayload p
  | .pkPairStatus _ p => wfPayload p
  | .pkPairSwitch _ p => wfPayload p
  | .pkPairResync _ p => wfPayload p
  | .pkFeedProve _ p => wfPayload p
  | .pkMaintStart _ p => wfPayload p
  | .pkMaintEnd _ p => wfPayload p
  | .pkMaintList _ p => wfPayload p
  | .pkOutTest _ p => wfPayload p
  | .pkRestart _ p => wfPayload p
  | .pkRoleChallenge _ p => wfPayload p
  | .pkRoleResponse _ p => wfPayload p
  | .pkRoleDrop _ p => wfPayload p
  | .pkFwStage _ p => wfPayload p
  | .pkFwActivate _ p => wfPayload p
  | .pkAttest _ p => wfPayload p
  | .pkCertRead _ p => wfPayload p
  | .pkSeal _ p => wfPayload p
  | .pkDiagSummary _ p => wfPayload p
  | .pkDomainStatus _ p => wfPayload p
  | .pkFrameSend _ p => wfPayload p
  | .registerWrite _ _ _ => true
  | .rcCounterRead _ _ => true
  | .frmCountRead _ => true
  | .energyLowRead _ b k => wfBay b && wfEgy k
  | .dAlignWrite _ _ => true
  | .hltUnfenceRequest _ _ => true
  | .retestDone d _ => wfDom d
  | .carouselSlot => true
  | .carouselTestDone e _ => wfEng e
  | .carouselNextReq _ _ => true
  | .rmcWatchdog => true
  | .mramScrubDone b _ => wfBank b
  | .tempRead _ => true
  | .atbCtrlWrite _ n _ => wfAtb n
  | .roleLockoutEnd => true
  | .roleNonceExpiry => true
  | .mkeyLoad _ k _ => wfMkey k
  | .mkeyRevoke _ _ => true
  | .powerOn _ _ _ _ _ => true
  | .rstNAssert => true
  | .hardwarePhaseDone _ => true
  | .startKindWrite _ _ => true
  | .startGo _ => true
  | .timeWaitExpiry => true
  | .bayWaitExpiry => true
  | .retImageWrite => true
  | .mvddFault => true
  | .fldLowExit _ => true
  | .ptpSyncTimeout => true
  | .pdelayRespFollowUpReceive p _ => wfPtp p
  | .prpNodeForget _ => true
  | .gooseSubEnable _ g _ => wfGsub g
  | .drEnable _ _ => true
  | .rstNRelease _ => true
  | .retImageWriteDone => true

/-- The command is well-formed. -/
abbrev Instr.WellFormed (i : Instr) : Prop := i.wf = true

end Sys2Proof
end

