-- ==== Sys2Proof/Machine/Run.lean ====
section
/-! DEFINITION. How a command's effect on the block becomes an outcome: every command answers a next state, the queue as it was. -/

namespace Sys2Proof.Machine

/-- The outcome of an effect on the block. -/
def onM (f : Mach → Mach) (s : State) : Host.Outcome State Fault Refusal := .next { s with m := f s.m }

end Sys2Proof.Machine
end

