-- ==== Sys2Proof/Machine/AcqCmds.lean ====
section
/-! DEFINITION. Commands of the acquisition chain: clocks, ports, coefficients, sampled values, calibration, transient ring
(03). -/

namespace Sys2Proof.Machine

/-- MCLK_ENABLE_WRITE (R806). A write of ACQ_CTRL. -/
def execMclkEnableWrite (ses : Nat) (w : Word) (s : State) : Host.Outcome State Fault Refusal :=
  onM (Mach.live (fun m => m.hostPut ses .acqCtrl w)) s

/-- MCLK_PLL_LOCK (R30). -/
def execMclkPllLock (x : Nat) (s : State) : Host.Outcome State Fault Refusal :=
  onM (Mach.awake (Mach.only (wfClk x) (fun m => m.mclkLock x))) s

/-- MCLK_PLL_LOSS (R110). -/
def execMclkPllLoss (x : Nat) (s : State) : Host.Outcome State Fault Refusal :=
  onM (Mach.awake (Mach.only (wfClk x) (fun m => m.mclkLoss x))) s

/-- MOD_STUCK (R96). -/
def execModStuck (p : Nat) (s : State) : Host.Outcome State Fault Refusal :=
  onM (Mach.awake (Mach.only (wfPort p) (fun m => m.modStuck p))) s

/-- MOD_STUCK_RECOVER (R97). -/
def execModStuckRecover (p : Nat) (s : State) : Host.Outcome State Fault Refusal :=
  onM (Mach.awake (Mach.only (wfPort p) (fun m => m.modRecover p))) s

/-- MOD_PORT_ENABLE (R110). A write of MODp_CFG. -/
def execModPortEnable (ses : Nat) (p : Nat) (w : Word) (s : State) : Host.Outcome State Fault Refusal :=
  onM (Mach.live (Mach.only (wfPort p) (fun m => m.hostPut ses (.modCfg p) w))) s

/-- MOD_GAIN_OFFSET_WRITE (R145). A write of MODp_GAIN, or of MODp_OFFSET. -/
def execModGainOffsetWrite (ses : Nat) (p : Nat) (gain : Bool) (w : Word) (s : State) : Host.Outcome State Fault Refusal :=
  onM (Mach.live (Mach.only (wfPort p) (fun m => m.hostPut ses (if gain then .modGain p else .modOffset p) w))) s

/-- COEF_DATA_ACCESS (R104). A write, or a read (none). -/
def execCoefDataAccess (ses : Nat) (w : Option Word) (s : State) : Host.Outcome State Fault Refusal :=
  onM (Mach.live (fun m => match w with
    | some w => m.hostPut ses .coefData w
    | none => m.hostGet ses .coefData)) s

/-- SWAP_ARM (R105). A write of SWGg_CTRL. -/
def execSwapArm (ses : Nat) (g : Nat) (w : Word) (s : State) : Host.Outcome State Fault Refusal :=
  onM (Mach.live (Mach.only (wfSwg g) (fun m => m.hostPut ses (.swgCtrl g) w))) s

/-- SV_APDU_RECEIVE (R115), on lane `ln`. -/
def execSvApduReceive (mac : SvFrom) (appid : Nat) (sim : Bool) (l : List Asdu) (s : State) : Host.Outcome State Fault Refusal :=
  onM (Mach.awake (Mach.only (wfLane mac.lane) (fun m => if m.ethUp mac.lane then m.svApdu mac.lane mac.mac appid sim l else m))) s

/-- RESAMPLE_COMPLETE (R118). For the target instant of the frame with FSEQ `k`. -/
def execResampleComplete (n : Nat) (k : Word) (s : State) : Host.Outcome State Fault Refusal :=
  onM (Mach.awake (Mach.only (wfSub n) (fun m => m.resampleDone n k))) s

/-- SV_STREAM_TIMEOUT (R124). -/
def execSvStreamTimeout (n : Nat) (s : State) : Host.Outcome State Fault Refusal :=
  onM (Mach.awake (Mach.only (wfSub n) (fun m => m.svTimeout n))) s

/-- SV_SUBSCRIPTION_ENABLE (R534). A write of SVSs_CFG. -/
def execSvSubscriptionEnable (ses : Nat) (n : Nat) (w : Word) (s : State) : Host.Outcome State Fault Refusal :=
  onM (Mach.live (Mach.only (wfSub n) (fun m => m.hostPut ses (.svsCfg n) w))) s

/-- CAL_MEASUREMENT_DONE (R148). -/
def execCalMeasurementDone (p : Nat) (s : State) : Host.Outcome State Fault Refusal :=
  onM (Mach.awake (Mach.only (wfPort p) (fun m => m.calDone p))) s

/-- TRANSIENT_CAPTURE_STOP (R654). -/
def execTransientCaptureStop (s : State) : Host.Outcome State Fault Refusal := onM (Mach.awake (fun m => m.trStop)) s

/-- TRANSIENT_COPY_DONE (R149). -/
def execTransientCopyDone (s : State) : Host.Outcome State Fault Refusal := onM (Mach.awake (fun m => m.trCopyDone)) s

end Sys2Proof.Machine
end

