-- ==== Sys2Proof/Machine/BayCmds.lean ====
section
/-! DEFINITION. Register writes that act on a bay: mode, energy, latches, motor memory (04, 05, 07). -/

namespace Sys2Proof.Machine

/-- BAY_MODE_WRITE (R158). A write of BAYn_CTRL with this MODE, the other fields as they are. -/
def execBayModeWrite (ses : Nat) (b : Nat) (mode : Nat) (s : State) : Host.Outcome State Fault Refusal :=
  onM (Mach.live (Mach.only (wfBay b) (fun m => m.hostPut ses (.bayCtrl b) (m.withFields (.bayCtrl b) [(F.bayCtrl_MODE, mode)])))) s

/-- CLR_ENERGY (R223). A write of BAYn_CTRL with CLR_ENERGY 1, the other fields as they are. -/
def execClrEnergy (ses : Nat) (b : Nat) (s : State) : Host.Outcome State Fault Refusal :=
  onM (Mach.live (Mach.only (wfBay b) (fun m => m.hostPut ses (.bayCtrl b) (m.withFields (.bayCtrl b) [(F.bayCtrl_CLR_ENERGY, 1)])))) s

/-- BAY_LATCH_CLEAR (R341). A write of BAYn_LATCH. -/
def execBayLatchClear (ses : Nat) (b : Nat) (w : Word) (s : State) : Host.Outcome State Fault Refusal :=
  onM (Mach.live (Mach.only (wfBay b) (fun m => m.hostPut ses (.bayLatch b) w))) s

/-- MOT_CNT_CLR (R268). A write of BAYn_MOT_CTRL with CNT_CLR alone. -/
def execMotCntClr (ses : Nat) (b : Nat) (s : State) : Host.Outcome State Fault Refusal :=
  onM (Mach.live (Mach.only (wfBay b) (fun m => m.hostPut ses (.bayMotCtrl b) (F.bayMotCtrl_CNT_CLR.set 0 1)))) s

/-- MOT_START_CLR (R251). A write of BAYn_MOT_CTRL with START_CLR alone. -/
def execMotStartClr (ses : Nat) (b : Nat) (s : State) : Host.Outcome State Fault Refusal :=
  onM (Mach.live (Mach.only (wfBay b) (fun m => m.hostPut ses (.bayMotCtrl b) (F.bayMotCtrl_START_CLR.set 0 1)))) s

/-- MOT_THETA_RESET (R269). A write of BAYn_MOT_CTRL with THETA_RESET alone. -/
def execMotThetaReset (ses : Nat) (b : Nat) (s : State) : Host.Outcome State Fault Refusal :=
  onM (Mach.live (Mach.only (wfBay b) (fun m => m.hostPut ses (.bayMotCtrl b) (F.bayMotCtrl_THETA_RESET.set 0 1)))) s

end Sys2Proof.Machine
end

