-- ==== Sys2Proof/Machine/FieldCmds.lean ====
section
/-! DEFINITION. Commands of the field I/O: inputs, output diagnostics, field supply, output test (08, 16). -/

namespace Sys2Proof.Machine

/-- DI_DEBOUNCE (R373, R377). `l` tells what the terminal of input x has read up to now: mV, µA, and for how many µs. -/
def execDiDebounce (x : Nat) (l : List (Nat × Nat × Nat)) (s : State) : Host.Outcome State Fault Refusal :=
  onM (Mach.live (Mach.only (wfInp x) (fun m => m.diReads x l))) s

/-- WIRE_BREAK_CHANGE (R380, R381). -/
def execWireBreakChange (x : Nat) (l : List (Nat × Nat × Nat)) (s : State) : Host.Outcome State Fault Refusal :=
  onM (Mach.live (Mach.only (wfInp x) (fun m => m.diReads x l))) s

/-- INPUT_SINK_CHECK (R702). -/
def execInputSinkCheck (x : Nat) (l : List (Nat × Nat × Nat)) (s : State) : Host.Outcome State Fault Refusal :=
  onM (Mach.live (Mach.only (wfInp x) (fun m => m.diReads x l))) s

/-- OUTPUT_DIAG_SCAN (R396). Readbacks with the pull and without, and of conducting outputs, as bit masks; the currents in mA. -/
def execOutputDiagScan (rbp : Nat) (rb0 : Nat) (rbOn : Nat) (cur : List Nat) (s : State) : Host.Outcome State Fault Refusal :=
  onM (Mach.live (fun m => m.diagScan rbp rb0 rbOn cur)) s

/-- OUTPUT_CHANGE_OBSERVATION (R397). -/
def execOutputChangeObservation (y : Nat) (rbp : Nat) (rb0 : Nat) (s : State) : Host.Outcome State Fault Refusal :=
  onM (Mach.live (Mach.only (wfOut y) (fun m => m.changeObs y rbp rb0))) s

/-- SHORT_TO_M (R398). Output y has been in current limit at `ma` mA for `us` µs. -/
def execShortToM (y : OutRead) (s : State) : Host.Outcome State Fault Refusal :=
  onM (Mach.live (Mach.only (wfOut y.out) (fun m => m.shortToM y.out y.us y.ma))) s

/-- SHORT_RETRY (R399). -/
def execShortRetry (y : Nat) (s : State) : Host.Outcome State Fault Refusal :=
  onM (Mach.live (Mach.only (wfOut y) (fun m => m.shortRetry y))) s

/-- OPEN_LOAD_ON_STATE (R400). Output y has read back high and carried `ma` mA for `us` µs. -/
def execOpenLoadOnState (y : OutRead) (s : State) : Host.Outcome State Fault Refusal :=
  onM (Mach.live (Mach.only (wfOut y.out) (fun m => m.openLoadOn y.out y.us y.ma))) s

/-- TRIP_DUTY (R390). Output y has carried `ma` mA for the last `us` µs. -/
def execTripDuty (y : OutRead) (s : State) : Host.Outcome State Fault Refusal :=
  onM (Mach.live (Mach.only (wfOut y.out) (fun m => m.tripDuty y.out y.us y.ma))) s

/-- FLD_SAG_ENTRY (R401). FL_P has been `mv` mV for the last `us` µs. -/
def execFldSagEntry (mv : FlpRead) (s : State) : Host.Outcome State Fault Refusal := onM (Mach.live (fun m => m.flpTake mv.mv mv.us)) s

/-- FLD_LOW_ENTRY (R383, R401). -/
def execFldLowEntry (mv : FlpRead) (s : State) : Host.Outcome State Fault Refusal := onM (Mach.live (fun m => m.flpTake mv.mv mv.us)) s

/-- FLD_LOCKOUT_ENTRY (R401, R403). -/
def execFldLockoutEntry (mv : FlpRead) (s : State) : Host.Outcome State Fault Refusal :=
  onM (Mach.live (fun m => m.flpTake mv.mv mv.us)) s

/-- FLD_LOCKOUT_END (R402). -/
def execFldLockoutEnd (mv : FlpRead) (s : State) : Host.Outcome State Fault Refusal :=
  onM (Mach.live (fun m => m.flpTake mv.mv mv.us)) s

/-- FLD_NORMAL_RETURN (R405). -/
def execFldNormalReturn (mv : FlpRead) (s : State) : Host.Outcome State Fault Refusal :=
  onM (Mach.live (fun m => m.flpTake mv.mv mv.us)) s

/-- DO_CFG_WRITE (R408). A write of DOy_CFG. -/
def execDoCfgWrite (ses : Nat) (y : Nat) (w : Word) (s : State) : Host.Outcome State Fault Refusal :=
  onM (Mach.live (Mach.only (wfOut y) (fun m => m.hostPut ses (.doCfg y) w))) s

/-- OUT_TEST_END (R726). -/
def execOutTestEnd (s : State) : Host.Outcome State Fault Refusal := onM (Mach.awake (fun m => m.outTestEnd)) s

/-- FLD_LOW_EXIT (R401). -/
def execFldLowExit (mv : FlpRead) (s : State) : Host.Outcome State Fault Refusal := onM (Mach.live (fun m => m.flpTake mv.mv mv.us)) s

end Sys2Proof.Machine
end

