-- ==== Sys2Proof/Machine/FrameCmds.lean ====
section
/-! DEFINITION. Commands of the frame path: trigger, aligner, engines, zone, binding, guard interval, VCORE, SRAM (01, 02, 06,
07). -/

namespace Sys2Proof.Machine

/-- FRAME_TRIGGER (R51). `bits` are the modulator bits of each port since the last trigger, `rb` the readbacks, `late` the ports
whose output is not written by the cut-off. -/
def execFrameTrigger (bits : List (List Bool)) (rb : Nat) (late : List Bool) (s : State) : Host.Outcome State Fault Refusal :=
  onM (Mach.live (fun m => m.frameTrigger bits rb late)) s

/-- ALIGNER_CUT_OFF (R61). -/
def execAlignerCutOff (s : State) : Host.Outcome State Fault Refusal := onM (Mach.awake (fun m => m.alignerCut)) s

/-- ALIGNED_SET_COMPLETE (R62). -/
def execAlignedSetComplete (s : State) : Host.Outcome State Fault Refusal := onM (Mach.awake (fun m => m.alignedSet)) s

/-- BAY_FRAME_COMPLETE (R39). -/
def execBayFrameComplete (e : Nat) (s : State) : Host.Outcome State Fault Refusal :=
  onM (Mach.awake (Mach.only (wfEng e) (fun m => m.bayComplete e))) s

/-- BAY_DEADLINE (R75). -/
def execBayDeadline (s : State) : Host.Outcome State Fault Refusal := onM (Mach.awake (fun m => m.bayDeadline)) s

/-- ZE_FRAME_COMPLETE (R46). `mismatch` is the outcome of the golden vector slice (R705). -/
def execZeFrameComplete (mismatch : Bool) (s : State) : Host.Outcome State Fault Refusal :=
  onM (Mach.awake (fun m => m.zeComplete mismatch)) s

/-- ARC_FLAG_READ (R306). -/
def execArcFlagRead (s : State) : Host.Outcome State Fault Refusal := onM (Mach.awake (fun m => m.arcRead)) s

/-- FAST_OC_FLAG_SET (R304). -/
def execFastOcFlagSet (b : Nat) (p : PortRun) (s : State) : Host.Outcome State Fault Refusal :=
  onM (Mach.awake (Mach.only (wfBay b && wfPort p.port) (fun m => m.fastOc b p.port p.samples))) s

/-- STITCH_BINDING (R803). -/
def execStitchBinding (s : State) : Host.Outcome State Fault Refusal := onM (Mach.awake (fun m => m.stitchBinding)) s

/-- BINDING_COMPLETE (R47), with the M0 set and the heartbeat that follow (R48, R590). -/
def execBindingComplete (s : State) : Host.Outcome State Fault Refusal :=
  onM (Mach.awake (fun m => m.bindComplete)) s

/-- GUARD_INTERVAL_START (R64). -/
def execGuardIntervalStart (s : State) : Host.Outcome State Fault Refusal := onM (Mach.awake (fun m => m.guardStart)) s

/-- HANDOVER_COPY_DONE (R23). -/
def execHandoverCopyDone (b : Nat) (s : State) : Host.Outcome State Fault Refusal :=
  onM (Mach.awake (Mach.only (wfBay b) (fun m => m.copyDone b))) s

/-- VCORE_LOOP_TICK (R71). -/
def execVcoreLoopTick (s : State) : Host.Outcome State Fault Refusal := onM (Mach.awake (fun m => m.vcoreTick)) s

/-- SRAM_ECC_ERROR (R33). -/
def execSramEccError (r : SramRegion) (uncorr : Bool) (s : State) : Host.Outcome State Fault Refusal :=
  onM (Mach.awake (Mach.only (wfRegion r) (fun m => m.sramError r uncorr))) s

end Sys2Proof.Machine
end

