-- ==== Sys2Proof/Machine/HealthCmds.lean ====
section
/-! DEFINITION. Commands of health, carousel, maintenance and security (16, 17). -/

namespace Sys2Proof.Machine

/-- HLT_UNFENCE_REQUEST (R709). A write of HLT_UNFENCE. -/
def execHltUnfenceRequest (ses : Nat) (w : Word) (s : State) : Host.Outcome State Fault Refusal :=
  onM (Mach.live (fun m => m.hostPut ses .hltUnfence w)) s

/-- RETEST_DONE (R710). -/
def execRetestDone (d : Nat) (pass : Bool) (s : State) : Host.Outcome State Fault Refusal :=
  onM (Mach.awake (Mach.only (wfDom d) (fun m => m.retestDone d pass))) s

/-- CAROUSEL_SLOT (R715). -/
def execCarouselSlot (s : State) : Host.Outcome State Fault Refusal := onM (Mach.awake (fun m => m.carSlot)) s

/-- CAROUSEL_TEST_DONE (R718). -/
def execCarouselTestDone (e : Nat) (pass : Bool) (s : State) : Host.Outcome State Fault Refusal :=
  onM (Mach.awake (Mach.only (wfEng e) (fun m => m.carTestDone e pass))) s

/-- CAROUSEL_NEXT_REQ (R719). A write of HLT_CAR_CTRL. -/
def execCarouselNextReq (ses : Nat) (w : Word) (s : State) : Host.Outcome State Fault Refusal :=
  onM (Mach.live (fun m => m.hostPut ses .hltCarCtrl w)) s

/-- RMC_WATCHDOG (R704). -/
def execRmcWatchdog (s : State) : Host.Outcome State Fault Refusal := onM (Mach.awake (fun m => m.rmcWatchdog)) s

/-- MRAM_SCRUB_DONE (R727). `n` are the uncorrectable words found. -/
def execMramScrubDone (b : Nat) (n : Nat) (s : State) : Host.Outcome State Fault Refusal :=
  onM (Mach.awake (Mach.only (wfBank b) (fun m => m.scrubDone b n))) s

/-- TEMP_READ (R784). The four temperatures in °C. -/
def execTempRead (l : List Int) (s : State) : Host.Outcome State Fault Refusal := onM (Mach.live (fun m => m.tempRead l)) s

/-- ATB_CTRL_WRITE (R733). A write of ATB_n_CTRL. -/
def execAtbCtrlWrite (ses : Nat) (n : Nat) (w : Word) (s : State) : Host.Outcome State Fault Refusal :=
  onM (Mach.live (Mach.only (wfAtb n) (fun m => m.hostPut ses (.atbCtrl n) w))) s

/-- ROLE_LOCKOUT_END (R752). -/
def execRoleLockoutEnd (s : State) : Host.Outcome State Fault Refusal := onM (Mach.awake (fun m => m.roleLockEnd)) s

/-- ROLE_NONCE_EXPIRY (R751). -/
def execRoleNonceExpiry (s : State) : Host.Outcome State Fault Refusal := onM (Mach.awake (fun m => m.nonceExpire)) s

/-- MKEY_LOAD (R756). A write of word 23. -/
def execMkeyLoad (ses : Nat) (k : Nat) (w : Word) (s : State) : Host.Outcome State Fault Refusal :=
  onM (Mach.live (Mach.only (wfMkey k) (fun m => m.hostPut ses (.secMkey k 23) w))) s

/-- MKEY_REVOKE (R753). A write of SEC_MKEY_CTRL. -/
def execMkeyRevoke (ses : Nat) (w : Word) (s : State) : Host.Outcome State Fault Refusal :=
  onM (Mach.live (fun m => m.hostPut ses .secMkeyCtrl w)) s

end Sys2Proof.Machine
end

