-- ==== Sys2Proof/Machine/LaneCmds.lean ====
section
/-! DEFINITION. Commands of the serial lanes: configuration, link states, equaliser, eye scan, PRBS (11). -/

namespace Sys2Proof.Machine

/-- LANE_CFG_WRITE (R525). A write of LNl_CFG. -/
def execLaneCfgWrite (ses : Nat) (l : Nat) (w : Word) (s : State) : Host.Outcome State Fault Refusal :=
  onM (Mach.live (Mach.only (wfLane l) (fun m => m.hostPut ses (.lnCfg l) w))) s

/-- LANE_SYNC_GAINED (R509). -/
def execLaneSyncGained (l : Nat) (an : Bool) (adapt : Word) (dfe : Word) (freq : Nat) (s : State) : Host.Outcome State Fault Refusal :=
  onM (Mach.awake (Mach.only (wfMac l) (fun m => m.laneSync l an adapt dfe freq))) s

/-- LANE_LOSS_OF_LOCK (R510). -/
def execLaneLossOfLock (l : Nat) (cause : Nat) (bad : Nat) (s : State) : Host.Outcome State Fault Refusal :=
  onM (Mach.awake (Mach.only (wfMac l) (fun m => m.laneLoss l cause bad))) s

/-- LANE_UP (R515). -/
def execLaneUp (l : Nat) (s : State) : Host.Outcome State Fault Refusal :=
  onM (Mach.awake (Mach.only (wfMac l) (fun m => m.laneUp l))) s

/-- ADAPT_PRESET_RESTART (R507). -/
def execAdaptPresetRestart (l : Nat) (s : State) : Host.Outcome State Fault Refusal :=
  onM (Mach.awake (Mach.only (wfLane l) (fun m => m.adaptRestart l))) s

/-- ADAPT_FREEZE (R508). A write of LNl_ADAPT. -/
def execAdaptFreeze (ses : Nat) (l : Nat) (w : Word) (s : State) : Host.Outcome State Fault Refusal :=
  onM (Mach.live (Mach.only (wfLane l) (fun m => m.hostPut ses (.lnAdapt l) w))) s

/-- EYE_SCAN_START (R516). A write of LNl_SCAN_CTRL. -/
def execEyeScanStart (ses : Nat) (l : Nat) (w : Word) (s : State) : Host.Outcome State Fault Refusal :=
  onM (Mach.live (Mach.only (wfLane l) (fun m => m.hostPut ses (.lnScanCtrl l) w))) s

/-- EYE_SCAN_DONE (R517). -/
def execEyeScanDone (l : Nat) (errs : Nat) (s : State) : Host.Outcome State Fault Refusal :=
  onM (Mach.awake (Mach.only (wfLane l) (fun m => m.scanDone l errs))) s

/-- EYE_AUTO_MEASURE (R518). -/
def execEyeAutoMeasure (l : Nat) (w : Nat) (h : EyeRead) (s : State) : Host.Outcome State Fault Refusal :=
  onM (Mach.awake (Mach.only (wfLane l) (fun m => m.eyeAuto l w h.height h.adapt h.dfe h.bad))) s

/-- PRBS_ENABLE (R520). A write of LNl_PRBS_CTRL. -/
def execPrbsEnable (ses : Nat) (l : Nat) (w : Word) (s : State) : Host.Outcome State Fault Refusal :=
  onM (Mach.live (Mach.only (wfLane l) (fun m => m.hostPut ses (.lnPrbsCtrl l) w))) s

/-- PRBS_SYNC_GAIN (R521). -/
def execPrbsSyncGain (l : PrbsRun) (s : State) : Host.Outcome State Fault Refusal :=
  onM (Mach.awake (Mach.only (wfLane l.lane) (fun m => m.prbsGain l.lane l.run))) s

/-- PRBS_SYNC_LOSS (R522). -/
def execPrbsSyncLoss (l : Nat) (errs : PrbsErrs) (s : State) : Host.Outcome State Fault Refusal :=
  onM (Mach.awake (Mach.only (wfLane l) (fun m => m.prbsLoss l errs.errs errs.win))) s

/-- PRBS_CLR (R523). A write of LNl_PRBS_CTRL with CLR 1, the other fields as they are. -/
def execPrbsClr (ses : Nat) (l : Nat) (s : State) : Host.Outcome State Fault Refusal :=
  onM (Mach.live (Mach.only (wfLane l) (fun m => m.hostPut ses (.lnPrbsCtrl l) (m.withFields (.lnPrbsCtrl l) [(F.lnPrbsCtrl_CLR, 1)])))) s

/-- PRBS_INJ (R519). A write of LNl_PRBS_CTRL with INJ 1, the other fields as they are. -/
def execPrbsInj (ses : Nat) (l : Nat) (s : State) : Host.Outcome State Fault Refusal :=
  onM (Mach.live (Mach.only (wfLane l) (fun m => m.hostPut ses (.lnPrbsCtrl l) (m.withFields (.lnPrbsCtrl l) [(F.lnPrbsCtrl_INJ, 1)])))) s

end Sys2Proof.Machine
end

