-- ==== Sys2Proof/Machine/LogicCmds.lean ====
section
/-! DEFINITION. Instructions of the logic tasks and the start and overrun of a cycle (09). An instruction is that of task `t` at
its address; `area` and `idx` are its operand (R425). -/

namespace Sys2Proof.Machine

open LCtx

/-- LOGIC_SNAPSHOT (R412). -/
def execLogicSnapshot (t : Nat) (s : State) : Host.Outcome State Fault Refusal :=
  onM (Mach.awake (Mach.only (wfTask t) (fun m => m.logicSnapshot t))) s

/-- NOP (R425). -/
def execLgNop (t : Nat) (s : State) : Host.Outcome State Fault Refusal :=
  onM (Mach.awake (Mach.only (wfTask t) (fun m => m.runOp t 0x00 0 0 (fun l => l)))) s

/-- LD (R425). -/
def execLgLd (t : Nat) (area : Nat) (idx : Nat) (s : State) : Host.Outcome State Fault Refusal :=
  onM (Mach.awake (Mach.only (wfTask t && wfArea area && wfIdx idx) (fun m => m.runOp t 0x01 area idx (fun l => l.acc (l.bit area idx).val)))) s

/-- LDN (R425). -/
def execLgLdn (t : Nat) (area : Nat) (idx : Nat) (s : State) : Host.Outcome State Fault Refusal :=
  onM (Mach.awake (Mach.only (wfTask t && wfArea area && wfIdx idx) (fun m => m.runOp t 0x02 area idx (fun l => l.acc (!(l.bit area idx).val))))) s

/-- AND (R425). -/
def execLgAnd (t : Nat) (area : Nat) (idx : Nat) (s : State) : Host.Outcome State Fault Refusal :=
  onM (Mach.awake (Mach.only (wfTask t && wfArea area && wfIdx idx) (fun m => m.runOp t 0x03 area idx (fun l => l.acc (l.c.acc && (l.bit area idx).val))))) s

/-- ANDN (R425). -/
def execLgAndn (t : Nat) (area : Nat) (idx : Nat) (s : State) : Host.Outcome State Fault Refusal :=
  onM (Mach.awake (Mach.only (wfTask t && wfArea area && wfIdx idx) (fun m => m.runOp t 0x04 area idx (fun l => l.acc (l.c.acc && !(l.bit area idx).val))))) s

/-- OR (R425). -/
def execLgOr (t : Nat) (area : Nat) (idx : Nat) (s : State) : Host.Outcome State Fault Refusal :=
  onM (Mach.awake (Mach.only (wfTask t && wfArea area && wfIdx idx) (fun m => m.runOp t 0x05 area idx (fun l => l.acc (l.c.acc || (l.bit area idx).val))))) s

/-- ORN (R425). -/
def execLgOrn (t : Nat) (area : Nat) (idx : Nat) (s : State) : Host.Outcome State Fault Refusal :=
  onM (Mach.awake (Mach.only (wfTask t && wfArea area && wfIdx idx) (fun m => m.runOp t 0x06 area idx (fun l => l.acc (l.c.acc || !(l.bit area idx).val))))) s

/-- XOR (R425). -/
def execLgXor (t : Nat) (area : Nat) (idx : Nat) (s : State) : Host.Outcome State Fault Refusal :=
  onM (Mach.awake (Mach.only (wfTask t && wfArea area && wfIdx idx) (fun m => m.runOp t 0x07 area idx (fun l => l.acc (l.c.acc != (l.bit area idx).val))))) s

/-- ST (R425). -/
def execLgSt (t : Nat) (area : Nat) (idx : Nat) (s : State) : Host.Outcome State Fault Refusal :=
  onM (Mach.awake (Mach.only (wfTask t && wfArea area && wfIdx idx) (fun m => m.runOp t 0x08 area idx (fun l => l.setBit area idx l.c.acc)))) s

/-- STN (R425). -/
def execLgStn (t : Nat) (area : Nat) (idx : Nat) (s : State) : Host.Outcome State Fault Refusal :=
  onM (Mach.awake (Mach.only (wfTask t && wfArea area && wfIdx idx) (fun m => m.runOp t 0x09 area idx (fun l => l.setBit area idx (!l.c.acc))))) s

/-- SET (R425). -/
def execLgSet (t : Nat) (area : Nat) (idx : Nat) (s : State) : Host.Outcome State Fault Refusal :=
  onM (Mach.awake (Mach.only (wfTask t && wfArea area && wfIdx idx) (fun m => m.runOp t 0x0A area idx (fun l => if l.c.acc then l.setBit area idx true else l)))) s

/-- RST (R425). -/
def execLgRst (t : Nat) (area : Nat) (idx : Nat) (s : State) : Host.Outcome State Fault Refusal :=
  onM (Mach.awake (Mach.only (wfTask t && wfArea area && wfIdx idx) (fun m => m.runOp t 0x0B area idx (fun l => if l.c.acc then l.setBit area idx false else l)))) s

/-- NOT (R425). -/
def execLgNot (t : Nat) (s : State) : Host.Outcome State Fault Refusal :=
  onM (Mach.awake (Mach.only (wfTask t) (fun m => m.runOp t 0x0C 0 0 (fun l => l.acc (!l.c.acc))))) s

/-- RE (R425). -/
def execLgRe (t : Nat) (area : Nat) (idx : Nat) (s : State) : Host.Outcome State Fault Refusal :=
  onM (Mach.awake (Mach.only (wfTask t && wfArea area && wfIdx idx) (fun m => m.runOp t 0x0D area idx (fun l => l.edge area idx true)))) s

/-- FE (R425). -/
def execLgFe (t : Nat) (area : Nat) (idx : Nat) (s : State) : Host.Outcome State Fault Refusal :=
  onM (Mach.awake (Mach.only (wfTask t && wfArea area && wfIdx idx) (fun m => m.runOp t 0x0E area idx (fun l => l.edge area idx false)))) s

/-- LDV (R425). -/
def execLgLdv (t : Nat) (area : Nat) (idx : Nat) (s : State) : Host.Outcome State Fault Refusal :=
  onM (Mach.awake (Mach.only (wfTask t && wfArea area && wfIdx idx) (fun m => m.runOp t 0x0F area idx (fun l => l.acc (l.bit area idx).valid)))) s

/-- LDFL (R425). -/
def execLgLdfl (t : Nat) (area : Nat) (idx : Nat) (s : State) : Host.Outcome State Fault Refusal :=
  onM (Mach.awake (Mach.only (wfTask t && wfArea area && wfIdx idx) (fun m => m.runOp t 0x10 area idx (fun l => l.acc (l.bit area idx).low)))) s

/-- LDST (R425). -/
def execLgLdst (t : Nat) (area : Nat) (idx : Nat) (s : State) : Host.Outcome State Fault Refusal :=
  onM (Mach.awake (Mach.only (wfTask t && wfArea area && wfIdx idx) (fun m => m.runOp t 0x11 area idx (fun l => l.acc (l.bit area idx).stale)))) s

/-- AND_OPEN (R425). -/
def execLgAndOpen (t : Nat) (area : Nat) (idx : Nat) (s : State) : Host.Outcome State Fault Refusal :=
  onM (Mach.awake (Mach.only (wfTask t && wfArea area && wfIdx idx) (fun m => m.runOp t 0x18 area idx (fun l => (l.push true).acc (l.bit area idx).val)))) s

/-- OR_OPEN (R425). -/
def execLgOrOpen (t : Nat) (area : Nat) (idx : Nat) (s : State) : Host.Outcome State Fault Refusal :=
  onM (Mach.awake (Mach.only (wfTask t && wfArea area && wfIdx idx) (fun m => m.runOp t 0x19 area idx (fun l => (l.push false).acc (l.bit area idx).val)))) s

/-- CLOSE_PAREN (R425). -/
def execLgCloseParen (t : Nat) (s : State) : Host.Outcome State Fault Refusal :=
  onM (Mach.awake (Mach.only (wfTask t) (fun m => m.runOp t 0x1A 0 0 (fun l => l.pop)))) s

/-- LDW (R425). -/
def execLgLdw (t : Nat) (area : Nat) (idx : Nat) (s : State) : Host.Outcome State Fault Refusal :=
  onM (Mach.awake (Mach.only (wfTask t && wfArea area && wfIdx idx) (fun m => m.runOp t 0x20 area idx (fun l => l.wacc (l.word area idx))))) s

/-- STW (R425). -/
def execLgStw (t : Nat) (area : Nat) (idx : Nat) (s : State) : Host.Outcome State Fault Refusal :=
  onM (Mach.awake (Mach.only (wfTask t && wfArea area && wfIdx idx) (fun m => m.runOp t 0x21 area idx (fun l => l.setWord area idx l.c.wacc)))) s

/-- STWC (R425). -/
def execLgStwc (t : Nat) (area : Nat) (idx : Nat) (s : State) : Host.Outcome State Fault Refusal :=
  onM (Mach.awake (Mach.only (wfTask t && wfArea area && wfIdx idx) (fun m => m.runOp t 0x22 area idx (fun l => if l.c.acc then l.setWord area idx l.c.wacc else l)))) s

/-- ADD (R426). -/
def execLgAdd (t : Nat) (area : Nat) (idx : Nat) (s : State) : Host.Outcome State Fault Refusal :=
  onM (Mach.awake (Mach.only (wfTask t && wfArea area && wfIdx idx) (fun m => m.runOp t 0x23 area idx (fun l => l.waccSat (l.c.wacc.toInt + (l.word area idx).toInt))))) s

/-- SUB (R426). -/
def execLgSub (t : Nat) (area : Nat) (idx : Nat) (s : State) : Host.Outcome State Fault Refusal :=
  onM (Mach.awake (Mach.only (wfTask t && wfArea area && wfIdx idx) (fun m => m.runOp t 0x24 area idx (fun l => l.waccSat (l.c.wacc.toInt - (l.word area idx).toInt))))) s

/-- MUL (R426). -/
def execLgMul (t : Nat) (area : Nat) (idx : Nat) (s : State) : Host.Outcome State Fault Refusal :=
  onM (Mach.awake (Mach.only (wfTask t && wfArea area && wfIdx idx) (fun m => m.runOp t 0x25 area idx (fun l => l.waccSat (l.c.wacc.toInt * (l.word area idx).toInt))))) s

/-- DIV (R426). -/
def execLgDiv (t : Nat) (area : Nat) (idx : Nat) (s : State) : Host.Outcome State Fault Refusal :=
  onM (Mach.awake (Mach.only (wfTask t && wfArea area && wfIdx idx) (fun m => m.runOp t 0x26 area idx (fun l => l.div area idx)))) s

/-- MOD (R426). -/
def execLgMod (t : Nat) (area : Nat) (idx : Nat) (s : State) : Host.Outcome State Fault Refusal :=
  onM (Mach.awake (Mach.only (wfTask t && wfArea area && wfIdx idx) (fun m => m.runOp t 0x27 area idx (fun l => l.mod area idx)))) s

/-- WAND (R425). -/
def execLgWand (t : Nat) (area : Nat) (idx : Nat) (s : State) : Host.Outcome State Fault Refusal :=
  onM (Mach.awake (Mach.only (wfTask t && wfArea area && wfIdx idx) (fun m => m.runOp t 0x28 area idx (fun l => l.wacc (l.c.wacc &&& l.word area idx))))) s

/-- WOR (R425). -/
def execLgWor (t : Nat) (area : Nat) (idx : Nat) (s : State) : Host.Outcome State Fault Refusal :=
  onM (Mach.awake (Mach.only (wfTask t && wfArea area && wfIdx idx) (fun m => m.runOp t 0x29 area idx (fun l => l.wacc (l.c.wacc ||| l.word area idx))))) s

/-- WXOR (R425). -/
def execLgWxor (t : Nat) (area : Nat) (idx : Nat) (s : State) : Host.Outcome State Fault Refusal :=
  onM (Mach.awake (Mach.only (wfTask t && wfArea area && wfIdx idx) (fun m => m.runOp t 0x2A area idx (fun l => l.wacc (l.c.wacc ^^^ l.word area idx))))) s

/-- SHL (R426). -/
def execLgShl (t : Nat) (area : Nat) (idx : Nat) (s : State) : Host.Outcome State Fault Refusal :=
  onM (Mach.awake (Mach.only (wfTask t && wfArea area && wfIdx idx) (fun m => m.runOp t 0x2B area idx (fun l => l.shift area idx true)))) s

/-- SHR (R425). -/
def execLgShr (t : Nat) (area : Nat) (idx : Nat) (s : State) : Host.Outcome State Fault Refusal :=
  onM (Mach.awake (Mach.only (wfTask t && wfArea area && wfIdx idx) (fun m => m.runOp t 0x2C area idx (fun l => l.shift area idx false)))) s

/-- EQ (R425). -/
def execLgEq (t : Nat) (area : Nat) (idx : Nat) (s : State) : Host.Outcome State Fault Refusal :=
  onM (Mach.awake (Mach.only (wfTask t && wfArea area && wfIdx idx) (fun m => m.runOp t 0x30 area idx (fun l => l.cmp area idx (fun a b => decide (a = b)))))) s

/-- NE (R425). -/
def execLgNe (t : Nat) (area : Nat) (idx : Nat) (s : State) : Host.Outcome State Fault Refusal :=
  onM (Mach.awake (Mach.only (wfTask t && wfArea area && wfIdx idx) (fun m => m.runOp t 0x31 area idx (fun l => l.cmp area idx (fun a b => decide (a ≠ b)))))) s

/-- GT (R425). -/
def execLgGt (t : Nat) (area : Nat) (idx : Nat) (s : State) : Host.Outcome State Fault Refusal :=
  onM (Mach.awake (Mach.only (wfTask t && wfArea area && wfIdx idx) (fun m => m.runOp t 0x32 area idx (fun l => l.cmp area idx (fun a b => decide (b < a)))))) s

/-- GE (R425). -/
def execLgGe (t : Nat) (area : Nat) (idx : Nat) (s : State) : Host.Outcome State Fault Refusal :=
  onM (Mach.awake (Mach.only (wfTask t && wfArea area && wfIdx idx) (fun m => m.runOp t 0x33 area idx (fun l => l.cmp area idx (fun a b => decide (b ≤ a)))))) s

/-- LT (R425). -/
def execLgLt (t : Nat) (area : Nat) (idx : Nat) (s : State) : Host.Outcome State Fault Refusal :=
  onM (Mach.awake (Mach.only (wfTask t && wfArea area && wfIdx idx) (fun m => m.runOp t 0x34 area idx (fun l => l.cmp area idx (fun a b => decide (a < b)))))) s

/-- LE (R425). -/
def execLgLe (t : Nat) (area : Nat) (idx : Nat) (s : State) : Host.Outcome State Fault Refusal :=
  onM (Mach.awake (Mach.only (wfTask t && wfArea area && wfIdx idx) (fun m => m.runOp t 0x35 area idx (fun l => l.cmp area idx (fun a b => decide (a ≤ b)))))) s

/-- FADD (R425). -/
def execLgFadd (t : Nat) (area : Nat) (idx : Nat) (s : State) : Host.Outcome State Fault Refusal :=
  onM (Mach.awake (Mach.only (wfTask t && wfArea area && wfIdx idx) (fun m => m.runOp t 0x38 area idx (fun l => l.flop area idx F32.add)))) s

/-- FSUB (R425). -/
def execLgFsub (t : Nat) (area : Nat) (idx : Nat) (s : State) : Host.Outcome State Fault Refusal :=
  onM (Mach.awake (Mach.only (wfTask t && wfArea area && wfIdx idx) (fun m => m.runOp t 0x39 area idx (fun l => l.flop area idx (fun a b => F32.add a b.flip))))) s

/-- FMUL (R425). -/
def execLgFmul (t : Nat) (area : Nat) (idx : Nat) (s : State) : Host.Outcome State Fault Refusal :=
  onM (Mach.awake (Mach.only (wfTask t && wfArea area && wfIdx idx) (fun m => m.runOp t 0x3A area idx (fun l => l.flop area idx F32.mul)))) s

/-- FDIV (R425). -/
def execLgFdiv (t : Nat) (area : Nat) (idx : Nat) (s : State) : Host.Outcome State Fault Refusal :=
  onM (Mach.awake (Mach.only (wfTask t && wfArea area && wfIdx idx) (fun m => m.runOp t 0x3B area idx (fun l => l.flop area idx F32.div)))) s

/-- FGT (R426). -/
def execLgFgt (t : Nat) (area : Nat) (idx : Nat) (s : State) : Host.Outcome State Fault Refusal :=
  onM (Mach.awake (Mach.only (wfTask t && wfArea area && wfIdx idx) (fun m => m.runOp t 0x3C area idx (fun l => l.acc (F32.gt (f32Of l.c.wacc) (f32Of (l.word area idx))))))) s

/-- FLT (R426). -/
def execLgFlt (t : Nat) (area : Nat) (idx : Nat) (s : State) : Host.Outcome State Fault Refusal :=
  onM (Mach.awake (Mach.only (wfTask t && wfArea area && wfIdx idx) (fun m => m.runOp t 0x3D area idx (fun l => l.acc (F32.gt (f32Of (l.word area idx)) (f32Of l.c.wacc)))))) s

/-- ITOF (R425). -/
def execLgItof (t : Nat) (s : State) : Host.Outcome State Fault Refusal :=
  onM (Mach.awake (Mach.only (wfTask t) (fun m => m.runOp t 0x3E 0 0 (fun l => l.wacc (f32Round false (l.c.wacc.toInt : Rat)))))) s

/-- FTOI (R426). -/
def execLgFtoi (t : Nat) (s : State) : Host.Outcome State Fault Refusal :=
  onM (Mach.awake (Mach.only (wfTask t) (fun m => m.runOp t 0x3F 0 0 (fun l => l.ftoi)))) s

/-- TON (R431). `idx` is the timer. -/
def execLgTon (t : Nat) (idx : Nat) (s : State) : Host.Outcome State Fault Refusal :=
  onM (Mach.awake (Mach.only (wfTask t && wfIdx idx) (fun m => m.runOp t 0x40 5 idx (fun l => l.timer idx Tmr.ton)))) s

/-- TOF (R431). `idx` is the timer. -/
def execLgTof (t : Nat) (idx : Nat) (s : State) : Host.Outcome State Fault Refusal :=
  onM (Mach.awake (Mach.only (wfTask t && wfIdx idx) (fun m => m.runOp t 0x41 5 idx (fun l => l.timer idx Tmr.tof)))) s

/-- TP (R431). `idx` is the timer. -/
def execLgTp (t : Nat) (idx : Nat) (s : State) : Host.Outcome State Fault Refusal :=
  onM (Mach.awake (Mach.only (wfTask t && wfIdx idx) (fun m => m.runOp t 0x42 5 idx (fun l => l.timer idx Tmr.tp)))) s

/-- CTU (R433). `idx` is the counter. -/
def execLgCtu (t : Nat) (idx : Nat) (s : State) : Host.Outcome State Fault Refusal :=
  onM (Mach.awake (Mach.only (wfTask t && wfIdx idx) (fun m => m.runOp t 0x44 6 idx (fun l => l.counter idx true)))) s

/-- CTD (R433). `idx` is the counter. -/
def execLgCtd (t : Nat) (idx : Nat) (s : State) : Host.Outcome State Fault Refusal :=
  onM (Mach.awake (Mach.only (wfTask t && wfIdx idx) (fun m => m.runOp t 0x45 6 idx (fun l => l.counter idx false)))) s

/-- CLD (R425). `idx` is the counter. -/
def execLgCld (t : Nat) (idx : Nat) (s : State) : Host.Outcome State Fault Refusal :=
  onM (Mach.awake (Mach.only (wfTask t && wfIdx idx) (fun m => m.runOp t 0x46 6 idx (fun l => if l.c.acc then l.ctrLoad idx else l)))) s

/-- JMP (R425). `idx` is the address; R425 gives the area of a jump no meaning. -/
def execLgJmp (t : Nat) (area : Nat) (idx : Nat) (s : State) : Host.Outcome State Fault Refusal :=
  onM (Mach.awake (Mach.only (wfTask t && wfArea area && wfIdx idx) (fun m => m.runOp t 0x50 area idx (fun l => l.jump idx)))) s

/-- JMPC (R425). `idx` is the address; R425 gives the area of a jump no meaning. -/
def execLgJmpc (t : Nat) (area : Nat) (idx : Nat) (s : State) : Host.Outcome State Fault Refusal :=
  onM (Mach.awake (Mach.only (wfTask t && wfArea area && wfIdx idx) (fun m => m.runOp t 0x51 area idx (fun l => if l.c.acc then l.jump idx else l)))) s

/-- JMPCN (R425). `idx` is the address; R425 gives the area of a jump no meaning. -/
def execLgJmpcn (t : Nat) (area : Nat) (idx : Nat) (s : State) : Host.Outcome State Fault Refusal :=
  onM (Mach.awake (Mach.only (wfTask t && wfArea area && wfIdx idx) (fun m => m.runOp t 0x52 area idx (fun l => if l.c.acc then l else l.jump idx)))) s

/-- CALLFB (R435). `idx` is the instance. -/
def execLgCallfb (t : Nat) (idx : Nat) (s : State) : Host.Outcome State Fault Refusal :=
  onM (Mach.awake (Mach.only (wfTask t && wfIdx idx) (fun m => m.runOp t 0x58 10 idx (fun l => l.callFb idx)))) s

/-- END (R412). `mismatch` is the outcome of the golden vector slice (R705). -/
def execLgEnd (t : Nat) (mismatch : Bool) (s : State) : Host.Outcome State Fault Refusal :=
  onM (Mach.awake (Mach.only (wfTask t) (fun m => m.logicEnd t mismatch))) s

/-- LOGIC_OVERRUN (R418). -/
def execLogicOverrun (t : Nat) (s : State) : Host.Outcome State Fault Refusal :=
  onM (Mach.awake (Mach.only (wfTask t) (fun m => m.logicOverrun t))) s

end Sys2Proof.Machine
end

