-- ==== Sys2Proof/Machine/NetCmds.lean ====
section
/-! DEFINITION. Commands of the network: MAC frames, GOOSE, GLX stations, coalescing, PRP, host frames (12). -/

namespace Sys2Proof.Machine

/-- MAC_FRAME_RECEIVE (R526). -/
def execMacFrameReceive (f : MacFrame) (s : State) : Host.Outcome State Fault Refusal :=
  onM (Mach.awake (fun m => m.macRecv f)) s

/-- GOOSE_RECEIVE (R537). -/
def execGooseReceive (lane : Nat) (mac : Nat) (appid : Nat) (g : GooseMsg) (s : State) : Host.Outcome State Fault Refusal :=
  onM (Mach.awake (Mach.only (wfMac lane) (Mach.onLane lane (fun m => m.gooseRecv lane mac appid g)))) s

/-- GOOSE_TAL_EXPIRY (R538). -/
def execGooseTalExpiry (g : Nat) (s : State) : Host.Outcome State Fault Refusal :=
  onM (Mach.awake (Mach.only (wfGsub g) (fun m => m.gooseTal g))) s

/-- GOOSE_REPEAT (R543). -/
def execGooseRepeat (p : Nat) (s : State) : Host.Outcome State Fault Refusal :=
  onM (Mach.awake (Mach.only (wfGpub p) (fun m => m.gooseRepeat p))) s

/-- GOOSE_PUB_ENABLE (R541). A write of GPUBp_CTRL. -/
def execGoosePubEnable (ses : Nat) (p : Nat) (w : Word) (s : State) : Host.Outcome State Fault Refusal :=
  onM (Mach.live (Mach.only (wfGpub p) (fun m => m.hostPut ses (.gpubCtrl p) w))) s

/-- GPUB_WIN_ACCESS (R573). A write, or a read (none). -/
def execGpubWinAccess (ses : Nat) (w : Option Word) (s : State) : Host.Outcome State Fault Refusal :=
  onM (Mach.live (fun m => match w with
    | some w => m.hostPut ses .gpubWinData w
    | none => m.hostGet ses .gpubWinData)) s

/-- GLX_ANNOUNCE_RECEIVE (R551). -/
def execGlxAnnounceReceive (h : GlxHdr) (p : List Byte) (s : State) : Host.Outcome State Fault Refusal :=
  onM (Mach.awake (Mach.onLane h.lane (fun m => m.glxAnnounce h p))) s

/-- GLX_INPUT_RECEIVE (R550). -/
def execGlxInputReceive (h : GlxHdr) (p : List Byte) (s : State) : Host.Outcome State Fault Refusal :=
  onM (Mach.awake (Mach.onLane h.lane (fun m => m.glxInput h p))) s

/-- GLX_LEAVE_RECEIVE (R566). -/
def execGlxLeaveReceive (h : GlxHdr) (p : List Byte) (s : State) : Host.Outcome State Fault Refusal :=
  onM (Mach.awake (Mach.onLane h.lane (fun m => m.glxLeave h p))) s

/-- GLX_ACK_RECEIVE (R559). -/
def execGlxAckReceive (h : GlxHdr) (p : List Byte) (s : State) : Host.Outcome State Fault Refusal :=
  onM (Mach.awake (Mach.onLane h.lane (fun m => m.glxAck h p))) s

/-- GLX_READY_RECEIVE (R349). -/
def execGlxReadyReceive (h : GlxHdr) (p : List Byte) (s : State) : Host.Outcome State Fault Refusal :=
  onM (Mach.awake (Mach.onLane h.lane (fun m => m.glxReady h p))) s

/-- GLX_REFUSE_RECEIVE (R348). -/
def execGlxRefuseReceive (h : GlxHdr) (p : List Byte) (s : State) : Host.Outcome State Fault Refusal :=
  onM (Mach.awake (Mach.onLane h.lane (fun m => m.glxRefuse h p))) s

/-- GLX_REPORT_RECEIVE (R569). -/
def execGlxReportReceive (h : GlxHdr) (p : List Byte) (s : State) : Host.Outcome State Fault Refusal :=
  onM (Mach.awake (Mach.onLane h.lane (fun m => m.glxReport h p))) s

/-- REPORT_COALESCE_CLOSE (R570). -/
def execReportCoalesceClose (s : State) : Host.Outcome State Fault Refusal := onM (Mach.awake (fun m => m.coalCloseDue)) s

/-- GLX_BEACON_SEND (R560). -/
def execGlxBeaconSend (s : State) : Host.Outcome State Fault Refusal := onM (Mach.awake (fun m => m.beaconDue)) s

/-- STATION_LIVE_TIMEOUT (R553). -/
def execStationLiveTimeout (e : Nat) (s : State) : Host.Outcome State Fault Refusal :=
  onM (Mach.awake (Mach.only (wfSta e) (fun m => m.staLiveTmo e))) s

/-- STATION_AGE_OUT (R551). -/
def execStationAgeOut (e : Nat) (s : State) : Host.Outcome State Fault Refusal :=
  onM (Mach.awake (Mach.only (wfSta e) (fun m => m.staAge e))) s

/-- STATION_ENABLE (R547). A write of STA_e_CFG. -/
def execStationEnable (ses : Nat) (e : Nat) (w : Word) (s : State) : Host.Outcome State Fault Refusal :=
  onM (Mach.live (Mach.only (wfSta e) (fun m => m.hostPut ses (.staCfg e) w))) s

/-- HOST_FRAME_RECEIVE (R572). -/
def execHostFrameReceive (lane : Nat) (etype : Nat) (bytes : List Byte) (s : State) : Host.Outcome State Fault Refusal :=
  onM (Mach.awake (Mach.only (wfMac lane) (Mach.onLane lane (fun m => m.hostFrame lane etype bytes)))) s

/-- PRP_SUPERVISION_SEND (R530). -/
def execPrpSupervisionSend (s : State) : Host.Outcome State Fault Refusal := onM (Mach.awake (fun m => m.prpSupSend)) s

/-- PRP_SUPERVISION_RECEIVE (R531). -/
def execPrpSupervisionReceive (node : PrpSup) (s : State) : Host.Outcome State Fault Refusal :=
  onM (Mach.awake (Mach.onLane node.lane (fun m => m.prpSupRecv node.node))) s

/-- PRP_NODE_FORGET (R530). -/
def execPrpNodeForget (node : Nat) (s : State) : Host.Outcome State Fault Refusal :=
  onM (Mach.awake (fun m => m.prpForget node)) s

/-- GOOSE_SUB_ENABLE (R534). A write of GSUBg_CFG. -/
def execGooseSubEnable (ses : Nat) (g : Nat) (w : Word) (s : State) : Host.Outcome State Fault Refusal :=
  onM (Mach.live (Mach.only (wfGsub g) (fun m => m.hostPut ses (.gsubCfg g) w))) s

end Sys2Proof.Machine
end

