-- ==== Sys2Proof/Machine/PacketCmds.lean ====
section
/-! DEFINITION. Requests of the command interface: one packet each, as it enters the receive queue (15 R668 to R691). -/

namespace Sys2Proof.Machine

/-- HELLO (R672). -/
def execPkHello (h : Hdr) (p : List Byte) (s : State) : Host.Outcome State Fault Refusal :=
  onM (Mach.live (Mach.only (wfPayload p) (fun m => m.packet 0x0001 h p))) s

/-- FEAT_OFFER (R681). -/
def execPkFeatOffer (h : Hdr) (p : List Byte) (s : State) : Host.Outcome State Fault Refusal :=
  onM (Mach.live (Mach.only (wfPayload p) (fun m => m.packet 0x0002 h p))) s

/-- FEAT_ACCEPT (R682). -/
def execPkFeatAccept (h : Hdr) (p : List Byte) (s : State) : Host.Outcome State Fault Refusal :=
  onM (Mach.live (Mach.only (wfPayload p) (fun m => m.packet 0x0003 h p))) s

/-- PING (R684). -/
def execPkPing (h : Hdr) (p : List Byte) (s : State) : Host.Outcome State Fault Refusal :=
  onM (Mach.live (Mach.only (wfPayload p) (fun m => m.packet 0x0004 h p))) s

/-- BYE (R675). -/
def execPkBye (h : Hdr) (p : List Byte) (s : State) : Host.Outcome State Fault Refusal :=
  onM (Mach.live (Mach.only (wfPayload p) (fun m => m.packet 0x0005 h p))) s

/-- NOTIFY_ACK (R679). -/
def execPkNotifyAck (h : Hdr) (p : List Byte) (s : State) : Host.Outcome State Fault Refusal :=
  onM (Mach.live (Mach.only (wfPayload p) (fun m => m.packet 0x0006 h p))) s

/-- NOTIFY_CFG (R677). -/
def execPkNotifyCfg (h : Hdr) (p : List Byte) (s : State) : Host.Outcome State Fault Refusal :=
  onM (Mach.live (Mach.only (wfPayload p) (fun m => m.packet 0x0007 h p))) s

/-- REG_READ (R685). -/
def execPkRegRead (h : Hdr) (p : List Byte) (s : State) : Host.Outcome State Fault Refusal :=
  onM (Mach.live (Mach.only (wfPayload p) (fun m => m.packet 0x0101 h p))) s

/-- REG_WRITE (R685). -/
def execPkRegWrite (h : Hdr) (p : List Byte) (s : State) : Host.Outcome State Fault Refusal :=
  onM (Mach.live (Mach.only (wfPayload p) (fun m => m.packet 0x0102 h p))) s

/-- REG_MODIFY (R686). -/
def execPkRegModify (h : Hdr) (p : List Byte) (s : State) : Host.Outcome State Fault Refusal :=
  onM (Mach.live (Mach.only (wfPayload p) (fun m => m.packet 0x0103 h p))) s

/-- SET_STAGE (R807). -/
def execPkSetStage (h : Hdr) (p : List Byte) (s : State) : Host.Outcome State Fault Refusal :=
  onM (Mach.live (Mach.only (wfPayload p) (fun m => m.packet 0x0201 h p))) s

/-- SET_COMMIT (R224). -/
def execPkSetCommit (h : Hdr) (p : List Byte) (s : State) : Host.Outcome State Fault Refusal :=
  onM (Mach.live (Mach.only (wfPayload p) (fun m => m.packet 0x0202 h p))) s

/-- GROUP_SELECT (R228). -/
def execPkGroupSelect (h : Hdr) (p : List Byte) (s : State) : Host.Outcome State Fault Refusal :=
  onM (Mach.live (Mach.only (wfPayload p) (fun m => m.packet 0x0203 h p))) s

/-- SET_READ (R684). -/
def execPkSetRead (h : Hdr) (p : List Byte) (s : State) : Host.Outcome State Fault Refusal :=
  onM (Mach.live (Mach.only (wfPayload p) (fun m => m.packet 0x0204 h p))) s

/-- SET_DISCARD (R688). -/
def execPkSetDiscard (h : Hdr) (p : List Byte) (s : State) : Host.Outcome State Fault Refusal :=
  onM (Mach.live (Mach.only (wfPayload p) (fun m => m.packet 0x0205 h p))) s

/-- PROG_LOAD (R429). -/
def execPkProgLoad (h : Hdr) (p : List Byte) (s : State) : Host.Outcome State Fault Refusal :=
  onM (Mach.live (Mach.only (wfPayload p) (fun m => m.packet 0x0301 h p))) s

/-- PROG_START (R438). -/
def execPkProgStart (h : Hdr) (p : List Byte) (s : State) : Host.Outcome State Fault Refusal :=
  onM (Mach.live (Mach.only (wfPayload p) (fun m => m.packet 0x0302 h p))) s

/-- PROG_STOP (R438). -/
def execPkProgStop (h : Hdr) (p : List Byte) (s : State) : Host.Outcome State Fault Refusal :=
  onM (Mach.live (Mach.only (wfPayload p) (fun m => m.packet 0x0303 h p))) s

/-- CONST_WRITE (R446). -/
def execPkConstWrite (h : Hdr) (p : List Byte) (s : State) : Host.Outcome State Fault Refusal :=
  onM (Mach.live (Mach.only (wfPayload p) (fun m => m.packet 0x0304 h p))) s

/-- FORCE (R449). -/
def execPkForce (h : Hdr) (p : List Byte) (s : State) : Host.Outcome State Fault Refusal :=
  onM (Mach.live (Mach.only (wfPayload p) (fun m => m.packet 0x0305 h p))) s

/-- UNFORCE (R454). -/
def execPkUnforce (h : Hdr) (p : List Byte) (s : State) : Host.Outcome State Fault Refusal :=
  onM (Mach.live (Mach.only (wfPayload p) (fun m => m.packet 0x0306 h p))) s

/-- FORCE_LIST (R684). -/
def execPkForceList (h : Hdr) (p : List Byte) (s : State) : Host.Outcome State Fault Refusal :=
  onM (Mach.live (Mach.only (wfPayload p) (fun m => m.packet 0x0307 h p))) s

/-- SELECT (R353). -/
def execPkSelect (h : Hdr) (p : List Byte) (s : State) : Host.Outcome State Fault Refusal :=
  onM (Mach.live (Mach.only (wfPayload p) (fun m => m.packet 0x0401 h p))) s

/-- OPERATE (R355). -/
def execPkOperate (h : Hdr) (p : List Byte) (s : State) : Host.Outcome State Fault Refusal :=
  onM (Mach.live (Mach.only (wfPayload p) (fun m => m.packet 0x0402 h p))) s

/-- CANCEL (R355). -/
def execPkCancel (h : Hdr) (p : List Byte) (s : State) : Host.Outcome State Fault Refusal :=
  onM (Mach.live (Mach.only (wfPayload p) (fun m => m.packet 0x0403 h p))) s

/-- STITCH_STATUS (R325). -/
def execPkStitchStatus (h : Hdr) (p : List Byte) (s : State) : Host.Outcome State Fault Refusal :=
  onM (Mach.live (Mach.only (wfPayload p) (fun m => m.packet 0x0404 h p))) s

/-- EVR_READ (R804). -/
def execPkEvrRead (h : Hdr) (p : List Byte) (s : State) : Host.Outcome State Fault Refusal :=
  onM (Mach.live (Mach.only (wfPayload p) (fun m => m.packet 0x0501 h p))) s

/-- EVR_CLEAR (R638). -/
def execPkEvrClear (h : Hdr) (p : List Byte) (s : State) : Host.Outcome State Fault Refusal :=
  onM (Mach.live (Mach.only (wfPayload p) (fun m => m.packet 0x0502 h p))) s

/-- EVT_CODES (R802). -/
def execPkEvtCodes (h : Hdr) (p : List Byte) (s : State) : Host.Outcome State Fault Refusal :=
  onM (Mach.live (Mach.only (wfPayload p) (fun m => m.packet 0x0503 h p))) s

/-- DR_LIST (R684). -/
def execPkDrList (h : Hdr) (p : List Byte) (s : State) : Host.Outcome State Fault Refusal :=
  onM (Mach.live (Mach.only (wfPayload p) (fun m => m.packet 0x0504 h p))) s

/-- DR_READ (R656). -/
def execPkDrRead (h : Hdr) (p : List Byte) (s : State) : Host.Outcome State Fault Refusal :=
  onM (Mach.live (Mach.only (wfPayload p) (fun m => m.packet 0x0505 h p))) s

/-- DR_TRIGGER (R648). -/
def execPkDrTrigger (h : Hdr) (p : List Byte) (s : State) : Host.Outcome State Fault Refusal :=
  onM (Mach.live (Mach.only (wfPayload p) (fun m => m.packet 0x0506 h p))) s

/-- DR_CLEAR (R657). -/
def execPkDrClear (h : Hdr) (p : List Byte) (s : State) : Host.Outcome State Fault Refusal :=
  onM (Mach.live (Mach.only (wfPayload p) (fun m => m.packet 0x0507 h p))) s

/-- TIME_GET (R684). -/
def execPkTimeGet (h : Hdr) (p : List Byte) (s : State) : Host.Outcome State Fault Refusal :=
  onM (Mach.live (Mach.only (wfPayload p) (fun m => m.packet 0x0601 h p))) s

/-- TIME_STEP (R473). -/
def execPkTimeStep (h : Hdr) (p : List Byte) (s : State) : Host.Outcome State Fault Refusal :=
  onM (Mach.live (Mach.only (wfPayload p) (fun m => m.packet 0x0602 h p))) s

/-- TIME_ACCEPT (R499). -/
def execPkTimeAccept (h : Hdr) (p : List Byte) (s : State) : Host.Outcome State Fault Refusal :=
  onM (Mach.live (Mach.only (wfPayload p) (fun m => m.packet 0x0603 h p))) s

/-- PAIR_STATUS (R684). -/
def execPkPairStatus (h : Hdr) (p : List Byte) (s : State) : Host.Outcome State Fault Refusal :=
  onM (Mach.live (Mach.only (wfPayload p) (fun m => m.packet 0x0701 h p))) s

/-- PAIR_SWITCH (R597). -/
def execPkPairSwitch (h : Hdr) (p : List Byte) (s : State) : Host.Outcome State Fault Refusal :=
  onM (Mach.live (Mach.only (wfPayload p) (fun m => m.packet 0x0702 h p))) s

/-- PAIR_RESYNC (R609). -/
def execPkPairResync (h : Hdr) (p : List Byte) (s : State) : Host.Outcome State Fault Refusal :=
  onM (Mach.live (Mach.only (wfPayload p) (fun m => m.packet 0x0703 h p))) s

/-- FEED_PROVE (R618). -/
def execPkFeedProve (h : Hdr) (p : List Byte) (s : State) : Host.Outcome State Fault Refusal :=
  onM (Mach.live (Mach.only (wfPayload p) (fun m => m.packet 0x0704 h p))) s

/-- MAINT_START (R691). -/
def execPkMaintStart (h : Hdr) (p : List Byte) (s : State) : Host.Outcome State Fault Refusal :=
  onM (Mach.live (Mach.only (wfPayload p) (fun m => m.packet 0x0801 h p))) s

/-- MAINT_END (R725). -/
def execPkMaintEnd (h : Hdr) (p : List Byte) (s : State) : Host.Outcome State Fault Refusal :=
  onM (Mach.live (Mach.only (wfPayload p) (fun m => m.packet 0x0802 h p))) s

/-- MAINT_LIST (R684). -/
def execPkMaintList (h : Hdr) (p : List Byte) (s : State) : Host.Outcome State Fault Refusal :=
  onM (Mach.live (Mach.only (wfPayload p) (fun m => m.packet 0x0803 h p))) s

/-- OUT_TEST (R726). -/
def execPkOutTest (h : Hdr) (p : List Byte) (s : State) : Host.Outcome State Fault Refusal :=
  onM (Mach.live (Mach.only (wfPayload p) (fun m => m.packet 0x0804 h p))) s

/-- RESTART (R759). -/
def execPkRestart (h : Hdr) (p : List Byte) (s : State) : Host.Outcome State Fault Refusal :=
  onM (Mach.live (Mach.only (wfPayload p) (fun m => m.packet 0x0805 h p))) s

/-- ROLE_CHALLENGE (R749). -/
def execPkRoleChallenge (h : Hdr) (p : List Byte) (s : State) : Host.Outcome State Fault Refusal :=
  onM (Mach.live (Mach.only (wfPayload p) (fun m => m.packet 0x0901 h p))) s

/-- ROLE_RESPONSE (R750). -/
def execPkRoleResponse (h : Hdr) (p : List Byte) (s : State) : Host.Outcome State Fault Refusal :=
  onM (Mach.live (Mach.only (wfPayload p) (fun m => m.packet 0x0902 h p))) s

/-- ROLE_DROP (R673). -/
def execPkRoleDrop (h : Hdr) (p : List Byte) (s : State) : Host.Outcome State Fault Refusal :=
  onM (Mach.live (Mach.only (wfPayload p) (fun m => m.packet 0x0903 h p))) s

/-- FW_STAGE (R740). -/
def execPkFwStage (h : Hdr) (p : List Byte) (s : State) : Host.Outcome State Fault Refusal :=
  onM (Mach.live (Mach.only (wfPayload p) (fun m => m.packet 0x0904 h p))) s

/-- FW_ACTIVATE (R735). -/
def execPkFwActivate (h : Hdr) (p : List Byte) (s : State) : Host.Outcome State Fault Refusal :=
  onM (Mach.live (Mach.only (wfPayload p) (fun m => m.packet 0x0905 h p))) s

/-- ATTEST (R746). -/
def execPkAttest (h : Hdr) (p : List Byte) (s : State) : Host.Outcome State Fault Refusal :=
  onM (Mach.live (Mach.only (wfPayload p) (fun m => m.packet 0x0906 h p))) s

/-- CERT_READ (R741). -/
def execPkCertRead (h : Hdr) (p : List Byte) (s : State) : Host.Outcome State Fault Refusal :=
  onM (Mach.live (Mach.only (wfPayload p) (fun m => m.packet 0x0907 h p))) s

/-- SEAL (R754). -/
def execPkSeal (h : Hdr) (p : List Byte) (s : State) : Host.Outcome State Fault Refusal :=
  onM (Mach.live (Mach.only (wfPayload p) (fun m => m.packet 0x0908 h p))) s

/-- DIAG_SUMMARY (R684). -/
def execPkDiagSummary (h : Hdr) (p : List Byte) (s : State) : Host.Outcome State Fault Refusal :=
  onM (Mach.live (Mach.only (wfPayload p) (fun m => m.packet 0x0A01 h p))) s

/-- DOMAIN_STATUS (R684). -/
def execPkDomainStatus (h : Hdr) (p : List Byte) (s : State) : Host.Outcome State Fault Refusal :=
  onM (Mach.live (Mach.only (wfPayload p) (fun m => m.packet 0x0A02 h p))) s

/-- FRAME_SEND (R572). -/
def execPkFrameSend (h : Hdr) (p : List Byte) (s : State) : Host.Outcome State Fault Refusal :=
  onM (Mach.live (Mach.only (wfPayload p) (fun m => m.packet 0x0A03 h p))) s

end Sys2Proof.Machine
end

