-- ==== Sys2Proof/Machine/PairCmds.lean ====
section
/-! DEFINITION. Commands of the pair and the power feeds: claim line, heartbeat, safety net, switchover, output test, feeds,
hold-up (13). -/

namespace Sys2Proof.Machine

/-- CLAIM_WORD_SEND (R582). -/
def execClaimWordSend (s : State) : Host.Outcome State Fault Refusal := onM (Mach.awake (fun m => m.claimSend)) s

/-- CLAIM_WORD_RECEIVE (R580). `syncOk` tells that its SYNC is correct. -/
def execClaimWordReceive (syncOk : Bool) (c : Word) (seq : Nat) (crc : Nat) (s : State) : Host.Outcome State Fault Refusal :=
  onM (Mach.awake (fun m => m.claimRx syncOk c seq crc)) s

/-- CLAIM_TIMEOUT (R581). -/
def execClaimTimeout (s : State) : Host.Outcome State Fault Refusal := onM (Mach.awake (fun m => m.claimTimeout)) s

/-- HEARTBEAT_RECEIVE (R586). -/
def execHeartbeatReceive (seq : Word) (h : Hb) (s : State) : Host.Outcome State Fault Refusal :=
  onM (Mach.awake (Mach.onPair (fun m => m.hbRecv seq h))) s

/-- HEARTBEAT_TIMEOUT (R591). -/
def execHeartbeatTimeout (s : State) : Host.Outcome State Fault Refusal := onM (Mach.awake (fun m => m.hbTimeout)) s

/-- PAIR_LISTEN_END (R587). -/
def execPairListenEnd (s : State) : Host.Outcome State Fault Refusal := onM (Mach.awake (fun m => m.listenOver)) s

/-- M0_FRAME_RECEIVE (R604). -/
def execM0FrameReceive (seq : Word) (tag : Word) (last : Bool) (x : M0Set) (s : State) : Host.Outcome State Fault Refusal :=
  onM (Mach.awake (Mach.onPair (fun m => m.m0Frame seq tag last x))) s

/-- M1_FRAME_RECEIVE (R594). -/
def execM1FrameReceive (seq : Word) (full : Bool) (last : Bool) (t : Nat) (d : RetData) (s : State) : Host.Outcome State Fault Refusal :=
  onM (Mach.awake (Mach.onPair (fun m => m.m1Frame seq full last t d))) s

/-- M2_FRAME_RECEIVE (R601). -/
def execM2FrameReceive (seq : Word) (full : Bool) (last : Bool) (x : M2Item) (s : State) : Host.Outcome State Fault Refusal :=
  onM (Mach.awake (Mach.onPair (fun m => m.m2Frame seq full last x))) s

/-- SYNC_REQ_RECEIVE (R608). -/
def execSyncReqReceive (seq : Word) (s : State) : Host.Outcome State Fault Refusal :=
  onM (Mach.awake (Mach.onPair (fun m => m.syncReqRecv seq))) s

/-- M1_FULL_PASS (R607). -/
def execM1FullPass (s : State) : Host.Outcome State Fault Refusal := onM (Mach.awake (fun m => m.m1FullPass)) s

/-- PAIR_CTRL_SWITCH (R598). A write of PAIR_CTRL with SWITCH alone. -/
def execPairCtrlSwitch (ses : Nat) (s : State) : Host.Outcome State Fault Refusal :=
  onM (Mach.live (fun m => m.hostPut ses .pairCtrl (F.pairCtrl_SWITCH.set 0 1))) s

/-- PAIR_CTRL_RESYNC (R622). A write of PAIR_CTRL with RESYNC alone. -/
def execPairCtrlResync (ses : Nat) (s : State) : Host.Outcome State Fault Refusal :=
  onM (Mach.live (fun m => m.hostPut ses .pairCtrl (F.pairCtrl_RESYNC.set 0 1))) s

/-- MIRROR_ENTRY_WRITE (R602). A write of MIRe_CFG, or of MIRe_ADDR. -/
def execMirrorEntryWrite (ses : Nat) (e : Nat) (cfg : Bool) (w : Word) (s : State) : Host.Outcome State Fault Refusal :=
  onM (Mach.live (Mach.only (wfMir e) (fun m => m.hostPut ses (if cfg then .mirCfg e else .mirAddr e) w))) s

/-- STANDBY_OUTPUT_TEST (R613). -/
def execStandbyOutputTest (s : State) : Host.Outcome State Fault Refusal := onM (Mach.awake (fun m => m.otestStart)) s

/-- STANDBY_OUTPUT_TEST_END (R615). -/
def execStandbyOutputTestEnd (ok : StageRead) (s : State) : Host.Outcome State Fault Refusal :=
  onM (Mach.awake (fun m => m.otestEnd ok.ua ok.clamp ok.rb)) s

/-- FEED_PRESENT (R616). -/
def execFeedPresent (f : Nat) (mv : Nat) (s : State) : Host.Outcome State Fault Refusal :=
  onM (Mach.live (Mach.only (wfFeed f) (fun m => m.feedPresent f mv))) s

/-- FEED_LOSS (R617). -/
def execFeedLoss (f : Nat) (mv : Nat) (s : State) : Host.Outcome State Fault Refusal :=
  onM (Mach.live (Mach.only (wfFeed f) (fun m => m.feedLoss f mv))) s

/-- FEED_PROOF_END (R620). -/
def execFeedProofEnd (f : Nat) (s : State) : Host.Outcome State Fault Refusal :=
  onM (Mach.live (Mach.only (wfFeed f) (fun m => m.feedProofEnd f))) s

/-- AUTO_FEED_PROOF (R618). -/
def execAutoFeedProof (f : Nat) (s : State) : Host.Outcome State Fault Refusal :=
  onM (Mach.live (Mach.only (wfFeed f) (fun m => m.autoFeedProof f))) s

/-- PWR_PROVE (R691). A write of PWR_CTRL. -/
def execPwrProve (ses : Nat) (w : Word) (s : State) : Host.Outcome State Fault Refusal :=
  onM (Mach.live (fun m => m.hostPut ses .pwrCtrl w)) s

/-- HOLDUP_EVENT (R619). -/
def execHoldupEvent (s : State) : Host.Outcome State Fault Refusal := onM (Mach.live (fun m => m.holdupEvent)) s

end Sys2Proof.Machine
end

