-- ==== Sys2Proof/Machine/RecCmds.lean ====
section
/-! DEFINITION. Commands of the recorders: event log, repeat entries, disturbance recorder (14). -/

namespace Sys2Proof.Machine

/-- EVENT_RECORD_WRITTEN (R630). `res` is 0 verified, 1 a verify mismatch, 2 a controller error. -/
def execEventRecordWritten (res : Nat) (off : Nat) (s : State) : Host.Outcome State Fault Refusal :=
  onM (Mach.awake (fun m => m.recWritten res off)) s

/-- REPEAT_ENTRY_CLOSE (R632). -/
def execRepeatEntryClose (s : State) : Host.Outcome State Fault Refusal := onM (Mach.awake (fun m => m.rptCloseDue)) s

/-- REPEAT_REWRITE (R633). -/
def execRepeatRewrite (s : State) : Host.Outcome State Fault Refusal := onM (Mach.awake (fun m => m.rptRewrite)) s

/-- EVR_CURSOR_WRITE (R636). A write of EVR_CURSOR. -/
def execEvrCursorWrite (ses : Nat) (w : Word) (s : State) : Host.Outcome State Fault Refusal :=
  onM (Mach.live (fun m => m.hostPut ses .evrCursor w)) s

/-- EVR_WINDOW_READ (R637). -/
def execEvrWindowRead (ses : Nat) (s : State) : Host.Outcome State Fault Refusal :=
  onM (Mach.live (fun m => m.hostGet ses (.evrWindow 15))) s

/-- EVR_CTRL_CLEAR (R638). A write of EVR_CTRL with CLEAR 1, the other fields as they are. -/
def execEvrCtrlClear (ses : Nat) (s : State) : Host.Outcome State Fault Refusal :=
  onM (Mach.live (fun m => m.hostPut ses .evrCtrl (m.withFields .evrCtrl [(F.evrCtrl_CLEAR, 1)]))) s

/-- DR_CTRL_MANUAL (R648). A write of DR_CTRL with MANUAL 1, the other fields as they are. -/
def execDrCtrlManual (ses : Nat) (s : State) : Host.Outcome State Fault Refusal :=
  onM (Mach.live (fun m => m.hostPut ses .drCtrl (m.withFields .drCtrl [(F.drCtrl_MANUAL, 1)]))) s

/-- DR_CTRL_CLEAR (R657). A write of DR_CTRL with CLEAR 1, the other fields as they are. -/
def execDrCtrlClear (ses : Nat) (s : State) : Host.Outcome State Fault Refusal :=
  onM (Mach.live (fun m => m.hostPut ses .drCtrl (m.withFields .drCtrl [(F.drCtrl_CLEAR, 1)]))) s

/-- DR_RECORD_END (R650). -/
def execDrRecordEnd (s : State) : Host.Outcome State Fault Refusal := onM (Mach.awake (fun m => m.drRecordEnd)) s

/-- DR_ENABLE (R651). A write of DR_CTRL. -/
def execDrEnable (ses : Nat) (w : Word) (s : State) : Host.Outcome State Fault Refusal :=
  onM (Mach.live (fun m => m.hostPut ses .drCtrl w)) s

end Sys2Proof.Machine
end

