-- ==== Sys2Proof/Machine/RegCmds.lean ====
section
/-! DEFINITION. Register accesses that no other row names (01 R11 to R14, 02, 04). -/

namespace Sys2Proof.Machine

/-- REGISTER_WRITE (R11). -/
def execRegisterWrite (ses : Nat) (a : Nat) (w : Word) (s : State) : Host.Outcome State Fault Refusal :=
  onM (Mach.live (fun m => m.hostWrite ses a w)) s

/-- RC_COUNTER_READ (R14). Only a register with an RC field is one of these. -/
def execRcCounterRead (ses : Nat) (a : Nat) (s : State) : Host.Outcome State Fault Refusal :=
  onM (Mach.live (fun m => if Mach.hasRc a then m.hostRead ses a else m)) s

/-- FRM_COUNT_READ (R89). -/
def execFrmCountRead (ses : Nat) (s : State) : Host.Outcome State Fault Refusal :=
  onM (Mach.live (fun m => m.hostGet ses .frmCount)) s

/-- ENERGY_LOW_READ (R232). -/
def execEnergyLowRead (ses : Nat) (b : Nat) (k : Nat) (s : State) : Host.Outcome State Fault Refusal :=
  onM (Mach.live (Mach.only (wfBay b && wfEgy k) (fun m => m.hostGet ses (.bayEnergy b (2 * k))))) s

/-- D_ALIGN_WRITE (R59). A write of FRM_CFG with this D_ALIGN, the other fields as they are. -/
def execDAlignWrite (ses : Nat) (d : Nat) (s : State) : Host.Outcome State Fault Refusal :=
  onM (Mach.live (fun m => m.hostPut ses .frmCfg (m.withFields .frmCfg [(F.frmCfg_D_ALIGN, d)]))) s

end Sys2Proof.Machine
end

