-- ==== Sys2Proof/Machine/StartCmds.lean ====
section
/-! DEFINITION. Power, reset, the start phases and the retentive image (18, 09, 19). -/

namespace Sys2Proof.Machine

/-- POWER_ON (R757). -/
def execPowerOn (psA : Bool) (mvA : Nat) (mvB : Nat) (okA : Bool) (okB : Bool) (s : State) : Host.Outcome State Fault Refusal :=
  onM (fun m => (m.powerOn psA mvA mvB okA okB).setFault) s

/-- RST_N_ASSERT (R792). -/
def execRstNAssert (s : State) : Host.Outcome State Fault Refusal := onM (fun m => m.rstAssert) s

/-- HARDWARE_PHASE_DONE (R758). -/
def execHardwarePhaseDone (x : HwDone) (s : State) : Host.Outcome State Fault Refusal :=
  onM (Mach.live (fun m => m.hwDone x)) s

/-- START_KIND_WRITE (R760). A write of START_CTRL with this KIND and GO 0, the other fields as they are. -/
def execStartKindWrite (ses : Nat) (kind : Nat) (s : State) : Host.Outcome State Fault Refusal :=
  onM (Mach.live (fun m => m.hostPut ses .startCtrl (m.withFields .startCtrl [(F.startCtrl_KIND, kind), (F.startCtrl_GO, 0)]))) s

/-- START_GO (R764). A write of START_CTRL with GO 1, the other fields as they are. -/
def execStartGo (ses : Nat) (s : State) : Host.Outcome State Fault Refusal :=
  onM (Mach.live (fun m => m.hostPut ses .startCtrl (m.withFields .startCtrl [(F.startCtrl_GO, 1)]))) s

/-- TIME_WAIT_EXPIRY (R765). -/
def execTimeWaitExpiry (s : State) : Host.Outcome State Fault Refusal := onM (Mach.awake (fun m => m.timeWait)) s

/-- BAY_WAIT_EXPIRY (R768). -/
def execBayWaitExpiry (s : State) : Host.Outcome State Fault Refusal := onM (Mach.awake (fun m => m.bayWait)) s

/-- RET_IMAGE_WRITE (R440). -/
def execRetImageWrite (s : State) : Host.Outcome State Fault Refusal := onM (Mach.awake (fun m => m.retStart false)) s

/-- MVDD_FAULT (R796). -/
def execMvddFault (s : State) : Host.Outcome State Fault Refusal := onM (Mach.live (fun m => m.emit .mvddFault 0)) s

/-- RST_N_RELEASE (R792). -/
def execRstNRelease (psA : Bool) (s : State) : Host.Outcome State Fault Refusal := onM (fun m => (m.rstRelease psA).setFault) s

/-- RET_IMAGE_WRITE_DONE (R772). -/
def execRetImageWriteDone (s : State) : Host.Outcome State Fault Refusal := onM (Mach.awake (fun m => m.retDone)) s

end Sys2Proof.Machine
end

