-- ==== Sys2Proof/Machine/StitchCmds.lean ====
section
/-! DEFINITION. Instants of open stitches, remote commands and trip demands (07). -/

namespace Sys2Proof.Machine

/-- PREPARE_DEADLINE (R347). -/
def execPrepareDeadline (id : Nat) (s : State) : Host.Outcome State Fault Refusal :=
  onM (Mach.awake (fun m => m.prepareDeadline id)) s

/-- COMMIT_INSTANT (R326). -/
def execCommitInstant (id : Nat) (s : State) : Host.Outcome State Fault Refusal :=
  onM (Mach.awake (fun m => m.commitInstant id)) s

/-- ABORT_REPEAT (R348). -/
def execAbortRepeat (id : Nat) (s : State) : Host.Outcome State Fault Refusal := onM (Mach.awake (fun m => m.abortRepeat id)) s

/-- REMOTE_CMD_REPEAT (R335). -/
def execRemoteCmdRepeat (devid : Nat) (point : Nat) (s : State) : Host.Outcome State Fault Refusal :=
  onM (Mach.awake (fun m => m.remoteRepeat devid point)) s

/-- SELECTION_TIMEOUT (R354). -/
def execSelectionTimeout (id : Nat) (s : State) : Host.Outcome State Fault Refusal :=
  onM (Mach.awake (fun m => m.selTimeout id)) s

/-- TRIP_MIN_EXPIRY (R340). -/
def execTripMinExpiry (b : Nat) (s : State) : Host.Outcome State Fault Refusal :=
  onM (Mach.awake (Mach.only (wfDmd b) (fun m => m.tripMinExpiry b))) s

end Sys2Proof.Machine
end

