-- ==== Sys2Proof/Machine/TimeCmds.lean ====
section
/-! DEFINITION. Commands of the time base: sources, PTP, 1PPS, IRIG-B, steps, reselection, triggers (10). -/

namespace Sys2Proof.Machine

/-- TB_INC_WRITE (R460). A write of TB_INC_FRAC. -/
def execTbIncWrite (ses : Nat) (w : Word) (s : State) : Host.Outcome State Fault Refusal :=
  onM (Mach.live (fun m => m.hostPut ses .tbIncFrac w)) s

/-- TB_LTC_READ (R464). -/
def execTbLtcRead (ses : Nat) (s : State) : Host.Outcome State Fault Refusal :=
  onM (Mach.live (fun m => m.hostGet ses .tbLtcLo)) s

/-- SOURCE_ENABLE_CLEAR (R467). A write of TB_CTRL. -/
def execSourceEnableClear (ses : Nat) (w : Word) (s : State) : Host.Outcome State Fault Refusal :=
  onM (Mach.live (fun m => m.hostPut ses .tbCtrl w)) s

/-- PTP_ANNOUNCE_RECEIVE (R484). -/
def execPtpAnnounceReceive (p : Nat) (a : Announce) (s : State) : Host.Outcome State Fault Refusal :=
  onM (Mach.awake (Mach.only (wfPtp p) (fun m => m.ptpAnnounce p a))) s

/-- PTP_ANNOUNCE_TIMEOUT (R486). -/
def execPtpAnnounceTimeout (s : State) : Host.Outcome State Fault Refusal := onM (Mach.awake (fun m => m.ptpAnnTimeout)) s

/-- PTP_SYNC_RECEIVE (R494). -/
def execPtpSyncReceive (p : Nat) (x : SyncMsg) (s : State) : Host.Outcome State Fault Refusal :=
  onM (Mach.awake (Mach.only (wfPtp p) (fun m => m.ptpSync p x))) s

/-- PTP_FOLLOW_UP_RECEIVE (R483). -/
def execPtpFollowUpReceive (p : Nat) (x : SyncMsg) (s : State) : Host.Outcome State Fault Refusal :=
  onM (Mach.awake (Mach.only (wfPtp p) (fun m => m.ptpFollowUp p x))) s

/-- PTP_PDELAY_REQ_SEND (R492). -/
def execPtpPdelayReqSend (p : Nat) (s : State) : Host.Outcome State Fault Refusal :=
  onM (Mach.awake (Mach.only (wfPtp p) (fun m => m.pdReqSend p))) s

/-- PTP_PDELAY_RESP_RECEIVE (R494). -/
def execPtpPdelayRespReceive (p : Nat) (x : PdResp) (s : State) : Host.Outcome State Fault Refusal :=
  onM (Mach.awake (Mach.only (wfPtp p) (fun m => m.pdResp p x))) s

/-- PTP_PDELAY_REQ_RECEIVE (R490). -/
def execPtpPdelayReqReceive (p : Nat) (seq : Nat) (rx : Int) (s : State) : Host.Outcome State Fault Refusal :=
  onM (Mach.awake (Mach.only (wfPtp p) (fun m => m.pdReqRecv p seq rx))) s

/-- PTP_MASTER_SYNC_SEND (R485). -/
def execPtpMasterSyncSend (p : Nat) (s : State) : Host.Outcome State Fault Refusal :=
  onM (Mach.awake (Mach.only (wfPtp p) (fun m => m.ptpMaster p))) s

/-- PPS_IN_EDGE (R487). -/
def execPpsInEdge (s : State) : Host.Outcome State Fault Refusal := onM (Mach.awake (fun m => m.ppsEdge)) s

/-- PPS_TIMEOUT (R466). -/
def execPpsTimeout (s : State) : Host.Outcome State Fault Refusal := onM (Mach.awake (fun m => m.ppsTimeout)) s

/-- IRIG_FRAME_RECEIVE (R488). -/
def execIrigFrameReceive (f : IrigFrame) (s : State) : Host.Outcome State Fault Refusal :=
  onM (Mach.awake (fun m => m.irigFrame f)) s

/-- IRIG_FRAME_TIMEOUT (R498). -/
def execIrigFrameTimeout (s : State) : Host.Outcome State Fault Refusal := onM (Mach.awake (fun m => m.irigTimeout)) s

/-- TB_STEP_ARM (R474). A write of TB_STEP_CTRL. -/
def execTbStepArm (ses : Nat) (w : Word) (s : State) : Host.Outcome State Fault Refusal :=
  onM (Mach.live (fun m => m.hostPut ses .tbStepCtrl w)) s

/-- HOLD_T_END (R497). -/
def execHoldTEnd (s : State) : Host.Outcome State Fault Refusal := onM (Mach.awake (fun m => m.holdTEnd)) s

/-- HOLD_MAX_EXPIRY (R498). -/
def execHoldMaxExpiry (s : State) : Host.Outcome State Fault Refusal := onM (Mach.awake (fun m => m.holdMax)) s

/-- TB_RR_ACCEPT (R499). A write of TB_RR_CTRL with ACCEPT 1, the other fields as they are. -/
def execTbRrAccept (ses : Nat) (s : State) : Host.Outcome State Fault Refusal :=
  onM (Mach.live (fun m => m.hostPut ses .tbRrCtrl (m.withFields .tbRrCtrl [(F.tbRrCtrl_ACCEPT, 1)]))) s

/-- TRIGGER_ARM (R480). A write of TRGn_CTRL. -/
def execTriggerArm (ses : Nat) (n : Nat) (w : Word) (s : State) : Host.Outcome State Fault Refusal :=
  onM (Mach.live (Mach.only (wfTrg n) (fun m => m.hostPut ses (.trgCtrl n) w))) s

/-- TRIGGER_FIRE (R481). -/
def execTriggerFire (n : Nat) (s : State) : Host.Outcome State Fault Refusal :=
  onM (Mach.awake (Mach.only (wfTrg n) (fun m => m.trgTick n))) s

/-- PPS_OUT_PULSE_END (R501). -/
def execPpsOutPulseEnd (s : State) : Host.Outcome State Fault Refusal := onM (Mach.awake (fun m => m.ppsOutEnd)) s

/-- TSQ_ENTRY_READ (R493). -/
def execTsqEntryRead (ses : Nat) (l : Nat) (s : State) : Host.Outcome State Fault Refusal :=
  onM (Mach.live (Mach.only (wfMac l) (fun m => m.hostGet ses (.lnTsqEnt0 l)))) s

/-- PTP_SYNC_TIMEOUT (R486). -/
def execPtpSyncTimeout (s : State) : Host.Outcome State Fault Refusal := onM (Mach.awake (fun m => m.ptpSyncTimeout)) s

/-- PDELAY_RESP_FOLLOW_UP_RECEIVE (R494). -/
def execPdelayRespFollowUpReceive (p : Nat) (x : PdResp) (s : State) : Host.Outcome State Fault Refusal :=
  onM (Mach.awake (Mach.only (wfPtp p) (fun m => m.pdRespFu p x))) s

end Sys2Proof.Machine
end

