-- ==== Sys2Proof/Machine/TransportCmds.lean ====
section
/-! DEFINITION. Transactions of the host port, UDP datagrams, NOTIFY repetition and session timeouts (15). -/

namespace Sys2Proof.Machine

/-- HP_STATUS (R662). -/
def execHpStatus (s : State) : Host.Outcome State Fault Refusal := onM (Mach.live (fun m => m.hpStatusCmd)) s

/-- HP_WRITE (R663). -/
def execHpWrite (l : List Byte) (s : State) : Host.Outcome State Fault Refusal := onM (Mach.live (fun m => m.hpWrite l)) s

/-- HP_READ (R664). `n` are the octets clocked out after the code bytes. -/
def execHpRead (n : Nat) (s : State) : Host.Outcome State Fault Refusal := onM (Mach.live (fun m => m.hpRead n)) s

/-- UDP_DATAGRAM_RECEIVE (R666). -/
def execUdpDatagramReceive (dst : Word) (dport : Nat) (src : Word) (sport : Nat) (frag : Bool) (l : List Byte) (s : State) : Host.Outcome State Fault Refusal :=
  onM (Mach.live (fun m => m.udpRecv dst dport src sport frag l)) s

/-- NOTIFY_RESEND (R679). -/
def execNotifyResend (s : State) : Host.Outcome State Fault Refusal := onM (Mach.awake (fun m => m.noteResend)) s

/-- SESSION_TIMEOUT (R674). -/
def execSessionTimeout (s : State) : Host.Outcome State Fault Refusal := onM (Mach.awake (fun m => m.sessTimeouts)) s

end Sys2Proof.Machine
end

