-- ==== Sys2Proof/Machine/Dispatch.lean ====
section
/-! DEFINITION. One arm per command. -/

namespace Sys2Proof.Machine

/-- The meaning of a command: its effect on everything but the queue. -/
def exec (i : Instr) (s : State) : Host.Outcome State Fault Refusal :=
  match i with
  | .frameTrigger bits rb late => Sys2Proof.Machine.execFrameTrigger bits rb late s
  | .alignerCutOff => Sys2Proof.Machine.execAlignerCutOff s
  | .alignedSetComplete => Sys2Proof.Machine.execAlignedSetComplete s
  | .bayFrameComplete e => Sys2Proof.Machine.execBayFrameComplete e s
  | .bayDeadline => Sys2Proof.Machine.execBayDeadline s
  | .zeFrameComplete mismatch => Sys2Proof.Machine.execZeFrameComplete mismatch s
  | .arcFlagRead => Sys2Proof.Machine.execArcFlagRead s
  | .fastOcFlagSet b p => Sys2Proof.Machine.execFastOcFlagSet b p s
  | .stitchBinding => Sys2Proof.Machine.execStitchBinding s
  | .bindingComplete => Sys2Proof.Machine.execBindingComplete s
  | .guardIntervalStart => Sys2Proof.Machine.execGuardIntervalStart s
  | .handoverCopyDone b => Sys2Proof.Machine.execHandoverCopyDone b s
  | .vcoreLoopTick => Sys2Proof.Machine.execVcoreLoopTick s
  | .sramEccError r uncorr => Sys2Proof.Machine.execSramEccError r uncorr s
  | .mclkEnableWrite ses w => Sys2Proof.Machine.execMclkEnableWrite ses w s
  | .mclkPllLock x => Sys2Proof.Machine.execMclkPllLock x s
  | .mclkPllLoss x => Sys2Proof.Machine.execMclkPllLoss x s
  | .modStuck p => Sys2Proof.Machine.execModStuck p s
  | .modStuckRecover p => Sys2Proof.Machine.execModStuckRecover p s
  | .modPortEnable ses p w => Sys2Proof.Machine.execModPortEnable ses p w s
  | .modGainOffsetWrite ses p gain w => Sys2Proof.Machine.execModGainOffsetWrite ses p gain w s
  | .coefDataAccess ses w => Sys2Proof.Machine.execCoefDataAccess ses w s
  | .swapArm ses g w => Sys2Proof.Machine.execSwapArm ses g w s
  | .svApduReceive mac appid sim l => Sys2Proof.Machine.execSvApduReceive mac appid sim l s
  | .resampleComplete n k => Sys2Proof.Machine.execResampleComplete n k s
  | .svStreamTimeout n => Sys2Proof.Machine.execSvStreamTimeout n s
  | .svSubscriptionEnable ses n w => Sys2Proof.Machine.execSvSubscriptionEnable ses n w s
  | .calMeasurementDone p => Sys2Proof.Machine.execCalMeasurementDone p s
  | .transientCaptureStop => Sys2Proof.Machine.execTransientCaptureStop s
  | .transientCopyDone => Sys2Proof.Machine.execTransientCopyDone s
  | .bayModeWrite ses b mode => Sys2Proof.Machine.execBayModeWrite ses b mode s
  | .clrEnergy ses b => Sys2Proof.Machine.execClrEnergy ses b s
  | .bayLatchClear ses b w => Sys2Proof.Machine.execBayLatchClear ses b w s
  | .motCntClr ses b => Sys2Proof.Machine.execMotCntClr ses b s
  | .motStartClr ses b => Sys2Proof.Machine.execMotStartClr ses b s
  | .motThetaReset ses b => Sys2Proof.Machine.execMotThetaReset ses b s
  | .prepareDeadline id => Sys2Proof.Machine.execPrepareDeadline id s
  | .commitInstant id => Sys2Proof.Machine.execCommitInstant id s
  | .abortRepeat id => Sys2Proof.Machine.execAbortRepeat id s
  | .remoteCmdRepeat devid point => Sys2Proof.Machine.execRemoteCmdRepeat devid point s
  | .selectionTimeout id => Sys2Proof.Machine.execSelectionTimeout id s
  | .tripMinExpiry b => Sys2Proof.Machine.execTripMinExpiry b s
  | .diDebounce x l => Sys2Proof.Machine.execDiDebounce x l s
  | .wireBreakChange x l => Sys2Proof.Machine.execWireBreakChange x l s
  | .inputSinkCheck x l => Sys2Proof.Machine.execInputSinkCheck x l s
  | .outputDiagScan rbp rb0 rbOn cur => Sys2Proof.Machine.execOutputDiagScan rbp rb0 rbOn cur s
  | .outputChangeObservation y rbp rb0 => Sys2Proof.Machine.execOutputChangeObservation y rbp rb0 s
  | .shortToM y => Sys2Proof.Machine.execShortToM y s
  | .shortRetry y => Sys2Proof.Machine.execShortRetry y s
  | .openLoadOnState y => Sys2Proof.Machine.execOpenLoadOnState y s
  | .tripDuty y => Sys2Proof.Machine.execTripDuty y s
  | .fldSagEntry mv => Sys2Proof.Machine.execFldSagEntry mv s
  | .fldLowEntry mv => Sys2Proof.Machine.execFldLowEntry mv s
  | .fldLockoutEntry mv => Sys2Proof.Machine.execFldLockoutEntry mv s
  | .fldLockoutEnd mv => Sys2Proof.Machine.execFldLockoutEnd mv s
  | .fldNormalReturn mv => Sys2Proof.Machine.execFldNormalReturn mv s
  | .doCfgWrite ses y w => Sys2Proof.Machine.execDoCfgWrite ses y w s
  | .outTestEnd => Sys2Proof.Machine.execOutTestEnd s
  | .logicSnapshot t => Sys2Proof.Machine.execLogicSnapshot t s
  | .lgNop t => Sys2Proof.Machine.execLgNop t s
  | .lgLd t area idx => Sys2Proof.Machine.execLgLd t area idx s
  | .lgLdn t area idx => Sys2Proof.Machine.execLgLdn t area idx s
  | .lgAnd t area idx => Sys2Proof.Machine.execLgAnd t area idx s
  | .lgAndn t area idx => Sys2Proof.Machine.execLgAndn t area idx s
  | .lgOr t area idx => Sys2Proof.Machine.execLgOr t area idx s
  | .lgOrn t area idx => Sys2Proof.Machine.execLgOrn t area idx s
  | .lgXor t area idx => Sys2Proof.Machine.execLgXor t area idx s
  | .lgSt t area idx => Sys2Proof.Machine.execLgSt t area idx s
  | .lgStn t area idx => Sys2Proof.Machine.execLgStn t area idx s
  | .lgSet t area idx => Sys2Proof.Machine.execLgSet t area idx s
  | .lgRst t area idx => Sys2Proof.Machine.execLgRst t area idx s
  | .lgNot t => Sys2Proof.Machine.execLgNot t s
  | .lgRe t area idx => Sys2Proof.Machine.execLgRe t area idx s
  | .lgFe t area idx => Sys2Proof.Machine.execLgFe t area idx s
  | .lgLdv t area idx => Sys2Proof.Machine.execLgLdv t area idx s
  | .lgLdfl t area idx => Sys2Proof.Machine.execLgLdfl t area idx s
  | .lgLdst t area idx => Sys2Proof.Machine.execLgLdst t area idx s
  | .lgAndOpen t area idx => Sys2Proof.Machine.execLgAndOpen t area idx s
  | .lgOrOpen t area idx => Sys2Proof.Machine.execLgOrOpen t area idx s
  | .lgCloseParen t => Sys2Proof.Machine.execLgCloseParen t s
  | .lgLdw t area idx => Sys2Proof.Machine.execLgLdw t area idx s
  | .lgStw t area idx => Sys2Proof.Machine.execLgStw t area idx s
  | .lgStwc t area idx => Sys2Proof.Machine.execLgStwc t area idx s
  | .lgAdd t area idx => Sys2Proof.Machine.execLgAdd t area idx s
  | .lgSub t area idx => Sys2Proof.Machine.execLgSub t area idx s
  | .lgMul t area idx => Sys2Proof.Machine.execLgMul t area idx s
  | .lgDiv t area idx => Sys2Proof.Machine.execLgDiv t area idx s
  | .lgMod t area idx => Sys2Proof.Machine.execLgMod t area idx s
  | .lgWand t area idx => Sys2Proof.Machine.execLgWand t area idx s
  | .lgWor t area idx => Sys2Proof.Machine.execLgWor t area idx s
  | .lgWxor t area idx => Sys2Proof.Machine.execLgWxor t area idx s
  | .lgShl t area idx => Sys2Proof.Machine.execLgShl t area idx s
  | .lgShr t area idx => Sys2Proof.Machine.execLgShr t area idx s
  | .lgEq t area idx => Sys2Proof.Machine.execLgEq t area idx s
  | .lgNe t area idx => Sys2Proof.Machine.execLgNe t area idx s
  | .lgGt t area idx => Sys2Proof.Machine.execLgGt t area idx s
  | .lgGe t area idx => Sys2Proof.Machine.execLgGe t area idx s
  | .lgLt t area idx => Sys2Proof.Machine.execLgLt t area idx s
  | .lgLe t area idx => Sys2Proof.Machine.execLgLe t area idx s
  | .lgFadd t area idx => Sys2Proof.Machine.execLgFadd t area idx s
  | .lgFsub t area idx => Sys2Proof.Machine.execLgFsub t area idx s
  | .lgFmul t area idx => Sys2Proof.Machine.execLgFmul t area idx s
  | .lgFdiv t area idx => Sys2Proof.Machine.execLgFdiv t area idx s
  | .lgFgt t area idx => Sys2Proof.Machine.execLgFgt t area idx s
  | .lgFlt t area idx => Sys2Proof.Machine.execLgFlt t area idx s
  | .lgItof t => Sys2Proof.Machine.execLgItof t s
  | .lgFtoi t => Sys2Proof.Machine.execLgFtoi t s
  | .lgTon t idx => Sys2Proof.Machine.execLgTon t idx s
  | .lgTof t idx => Sys2Proof.Machine.execLgTof t idx s
  | .lgTp t idx => Sys2Proof.Machine.execLgTp t idx s
  | .lgCtu t idx => Sys2Proof.Machine.execLgCtu t idx s
  | .lgCtd t idx => Sys2Proof.Machine.execLgCtd t idx s
  | .lgCld t idx => Sys2Proof.Machine.execLgCld t idx s
  | .lgJmp t area idx => Sys2Proof.Machine.execLgJmp t area idx s
  | .lgJmpc t area idx => Sys2Proof.Machine.execLgJmpc t area idx s
  | .lgJmpcn t area idx => Sys2Proof.Machine.execLgJmpcn t area idx s
  | .lgCallfb t idx => Sys2Proof.Machine.execLgCallfb t idx s
  | .lgEnd t mismatch => Sys2Proof.Machine.execLgEnd t mismatch s
  | .logicOverrun t => Sys2Proof.Machine.execLogicOverrun t s
  | .tbIncWrite ses w => Sys2Proof.Machine.execTbIncWrite ses w s
  | .tbLtcRead ses => Sys2Proof.Machine.execTbLtcRead ses s
  | .sourceEnableClear ses w => Sys2Proof.Machine.execSourceEnableClear ses w s
  | .ptpAnnounceReceive p a => Sys2Proof.Machine.execPtpAnnounceReceive p a s
  | .ptpAnnounceTimeout => Sys2Proof.Machine.execPtpAnnounceTimeout s
  | .ptpSyncReceive p x => Sys2Proof.Machine.execPtpSyncReceive p x s
  | .ptpFollowUpReceive p x => Sys2Proof.Machine.execPtpFollowUpReceive p x s
  | .ptpPdelayReqSend p => Sys2Proof.Machine.execPtpPdelayReqSend p s
  | .ptpPdelayRespReceive p x => Sys2Proof.Machine.execPtpPdelayRespReceive p x s
  | .ptpPdelayReqReceive p seq rx => Sys2Proof.Machine.execPtpPdelayReqReceive p seq rx s
  | .ptpMasterSyncSend p => Sys2Proof.Machine.execPtpMasterSyncSend p s
  | .ppsInEdge => Sys2Proof.Machine.execPpsInEdge s
  | .ppsTimeout => Sys2Proof.Machine.execPpsTimeout s
  | .irigFrameReceive f => Sys2Proof.Machine.execIrigFrameReceive f s
  | .irigFrameTimeout => Sys2Proof.Machine.execIrigFrameTimeout s
  | .tbStepArm ses w => Sys2Proof.Machine.execTbStepArm ses w s
  | .holdTEnd => Sys2Proof.Machine.execHoldTEnd s
  | .holdMaxExpiry => Sys2Proof.Machine.execHoldMaxExpiry s
  | .tbRrAccept ses => Sys2Proof.Machine.execTbRrAccept ses s
  | .triggerArm ses n w => Sys2Proof.Machine.execTriggerArm ses n w s
  | .triggerFire n => Sys2Proof.Machine.execTriggerFire n s
  | .ppsOutPulseEnd => Sys2Proof.Machine.execPpsOutPulseEnd s
  | .tsqEntryRead ses l => Sys2Proof.Machine.execTsqEntryRead ses l s
  | .laneCfgWrite ses l w => Sys2Proof.Machine.execLaneCfgWrite ses l w s
  | .laneSyncGained l an adapt dfe freq => Sys2Proof.Machine.execLaneSyncGained l an adapt dfe freq s
  | .laneLossOfLock l cause bad => Sys2Proof.Machine.execLaneLossOfLock l cause bad s
  | .laneUp l => Sys2Proof.Machine.execLaneUp l s
  | .adaptPresetRestart l => Sys2Proof.Machine.execAdaptPresetRestart l s
  | .adaptFreeze ses l w => Sys2Proof.Machine.execAdaptFreeze ses l w s
  | .eyeScanStart ses l w => Sys2Proof.Machine.execEyeScanStart ses l w s
  | .eyeScanDone l errs => Sys2Proof.Machine.execEyeScanDone l errs s
  | .eyeAutoMeasure l w h => Sys2Proof.Machine.execEyeAutoMeasure l w h s
  | .prbsEnable ses l w => Sys2Proof.Machine.execPrbsEnable ses l w s
  | .prbsSyncGain l => Sys2Proof.Machine.execPrbsSyncGain l s
  | .prbsSyncLoss l errs => Sys2Proof.Machine.execPrbsSyncLoss l errs s
  | .prbsClr ses l => Sys2Proof.Machine.execPrbsClr ses l s
  | .prbsInj ses l => Sys2Proof.Machine.execPrbsInj ses l s
  | .macFrameReceive f => Sys2Proof.Machine.execMacFrameReceive f s
  | .gooseReceive lane mac appid g => Sys2Proof.Machine.execGooseReceive lane mac appid g s
  | .gooseTalExpiry g => Sys2Proof.Machine.execGooseTalExpiry g s
  | .gooseRepeat p => Sys2Proof.Machine.execGooseRepeat p s
  | .goosePubEnable ses p w => Sys2Proof.Machine.execGoosePubEnable ses p w s
  | .gpubWinAccess ses w => Sys2Proof.Machine.execGpubWinAccess ses w s
  | .glxAnnounceReceive h p => Sys2Proof.Machine.execGlxAnnounceReceive h p s
  | .glxInputReceive h p => Sys2Proof.Machine.execGlxInputReceive h p s
  | .glxLeaveReceive h p => Sys2Proof.Machine.execGlxLeaveReceive h p s
  | .glxAckReceive h p => Sys2Proof.Machine.execGlxAckReceive h p s
  | .glxReadyReceive h p => Sys2Proof.Machine.execGlxReadyReceive h p s
  | .glxRefuseReceive h p => Sys2Proof.Machine.execGlxRefuseReceive h p s
  | .glxReportReceive h p => Sys2Proof.Machine.execGlxReportReceive h p s
  | .reportCoalesceClose => Sys2Proof.Machine.execReportCoalesceClose s
  | .glxBeaconSend => Sys2Proof.Machine.execGlxBeaconSend s
  | .stationLiveTimeout e => Sys2Proof.Machine.execStationLiveTimeout e s
  | .stationAgeOut e => Sys2Proof.Machine.execStationAgeOut e s
  | .stationEnable ses e w => Sys2Proof.Machine.execStationEnable ses e w s
  | .hostFrameReceive lane etype bytes => Sys2Proof.Machine.execHostFrameReceive lane etype bytes s
  | .prpSupervisionSend => Sys2Proof.Machine.execPrpSupervisionSend s
  | .prpSupervisionReceive node => Sys2Proof.Machine.execPrpSupervisionReceive node s
  | .claimWordSend => Sys2Proof.Machine.execClaimWordSend s
  | .claimWordReceive syncOk c seq crc => Sys2Proof.Machine.execClaimWordReceive syncOk c seq crc s
  | .claimTimeout => Sys2Proof.Machine.execClaimTimeout s
  | .heartbeatReceive seq h => Sys2Proof.Machine.execHeartbeatReceive seq h s
  | .heartbeatTimeout => Sys2Proof.Machine.execHeartbeatTimeout s
  | .pairListenEnd => Sys2Proof.Machine.execPairListenEnd s
  | .m0FrameReceive seq tag last x => Sys2Proof.Machine.execM0FrameReceive seq tag last x s
  | .m1FrameReceive seq full last t d => Sys2Proof.Machine.execM1FrameReceive seq full last t d s
  | .m2FrameReceive seq full last x => Sys2Proof.Machine.execM2FrameReceive seq full last x s
  | .syncReqReceive seq => Sys2Proof.Machine.execSyncReqReceive seq s
  | .m1FullPass => Sys2Proof.Machine.execM1FullPass s
  | .pairCtrlSwitch ses => Sys2Proof.Machine.execPairCtrlSwitch ses s
  | .pairCtrlResync ses => Sys2Proof.Machine.execPairCtrlResync ses s
  | .mirrorEntryWrite ses e cfg w => Sys2Proof.Machine.execMirrorEntryWrite ses e cfg w s
  | .standbyOutputTest => Sys2Proof.Machine.execStandbyOutputTest s
  | .standbyOutputTestEnd ok => Sys2Proof.Machine.execStandbyOutputTestEnd ok s
  | .feedPresent f mv => Sys2Proof.Machine.execFeedPresent f mv s
  | .feedLoss f mv => Sys2Proof.Machine.execFeedLoss f mv s
  | .feedProofEnd f => Sys2Proof.Machine.execFeedProofEnd f s
  | .autoFeedProof f => Sys2Proof.Machine.execAutoFeedProof f s
  | .pwrProve ses w => Sys2Proof.Machine.execPwrProve ses w s
  | .holdupEvent => Sys2Proof.Machine.execHoldupEvent s
  | .eventRecordWritten res off => Sys2Proof.Machine.execEventRecordWritten res off s
  | .repeatEntryClose => Sys2Proof.Machine.execRepeatEntryClose s
  | .repeatRewrite => Sys2Proof.Machine.execRepeatRewrite s
  | .evrCursorWrite ses w => Sys2Proof.Machine.execEvrCursorWrite ses w s
  | .evrWindowRead ses => Sys2Proof.Machine.execEvrWindowRead ses s
  | .evrCtrlClear ses => Sys2Proof.Machine.execEvrCtrlClear ses s
  | .drCtrlManual ses => Sys2Proof.Machine.execDrCtrlManual ses s
  | .drCtrlClear ses => Sys2Proof.Machine.execDrCtrlClear ses s
  | .drRecordEnd => Sys2Proof.Machine.execDrRecordEnd s
  | .hpStatus => Sys2Proof.Machine.execHpStatus s
  | .hpWrite l => Sys2Proof.Machine.execHpWrite l s
  | .hpRead n => Sys2Proof.Machine.execHpRead n s
  | .udpDatagramReceive dst dport src sport frag l => Sys2Proof.Machine.execUdpDatagramReceive dst dport src sport frag l s
  | .notifyResend => Sys2Proof.Machine.execNotifyResend s
  | .sessionTimeout => Sys2Proof.Machine.execSessionTimeout s
  | .pkHello h p => Sys2Proof.Machine.execPkHello h p s
  | .pkFeatOffer h p => Sys2Proof.Machine.execPkFeatOffer h p s
  | .pkFeatAccept h p => Sys2Proof.Machine.execPkFeatAccept h p s
  | .pkPing h p => Sys2Proof.Machine.execPkPing h p s
  | .pkBye h p => Sys2Proof.Machine.execPkBye h p s
  | .pkNotifyAck h p => Sys2Proof.Machine.execPkNotifyAck h p s
  | .pkNotifyCfg h p => Sys2Proof.Machine.execPkNotifyCfg h p s
  | .pkRegRead h p => Sys2Proof.Machine.execPkRegRead h p s
  | .pkRegWrite h p => Sys2Proof.Machine.execPkRegWrite h p s
  | .pkRegModify h p => Sys2Proof.Machine.execPkRegModify h p s
  | .pkSetStage h p => Sys2Proof.Machine.execPkSetStage h p s
  | .pkSetCommit h p => Sys2Proof.Machine.execPkSetCommit h p s
  | .pkGroupSelect h p => Sys2Proof.Machine.execPkGroupSelect h p s
  | .pkSetRead h p => Sys2Proof.Machine.execPkSetRead h p s
  | .pkSetDiscard h p => Sys2Proof.Machine.execPkSetDiscard h p s
  | .pkProgLoad h p => Sys2Proof.Machine.execPkProgLoad h p s
  | .pkProgStart h p => Sys2Proof.Machine.execPkProgStart h p s
  | .pkProgStop h p => Sys2Proof.Machine.execPkProgStop h p s
  | .pkConstWrite h p => Sys2Proof.Machine.execPkConstWrite h p s
  | .pkForce h p => Sys2Proof.Machine.execPkForce h p s
  | .pkUnforce h p => Sys2Proof.Machine.execPkUnforce h p s
  | .pkForceList h p => Sys2Proof.Machine.execPkForceList h p s
  | .pkSelect h p => Sys2Proof.Machine.execPkSelect h p s
  | .pkOperate h p => Sys2Proof.Machine.execPkOperate h p s
  | .pkCancel h p => Sys2Proof.Machine.execPkCancel h p s
  | .pkStitchStatus h p => Sys2Proof.Machine.execPkStitchStatus h p s
  | .pkEvrRead h p => Sys2Proof.Machine.execPkEvrRead h p s
  | .pkEvrClear h p => Sys2Proof.Machine.execPkEvrClear h p s
  | .pkEvtCodes h p => Sys2Proof.Machine.execPkEvtCodes h p s
  | .pkDrList h p => Sys2Proof.Machine.execPkDrList h p s
  | .pkDrRead h p => Sys2Proof.Machine.execPkDrRead h p s
  | .pkDrTrigger h p => Sys2Proof.Machine.execPkDrTrigger h p s
  | .pkDrClear h p => Sys2Proof.Machine.execPkDrClear h p s
  | .pkTimeGet h p => Sys2Proof.Machine.execPkTimeGet h p s
  | .pkTimeStep h p => Sys2Proof.Machine.execPkTimeStep h p s
  | .pkTimeAccept h p => Sys2Proof.Machine.execPkTimeAccept h p s
  | .pkPairStatus h p => Sys2Proof.Machine.execPkPairStatus h p s
  | .pkPairSwitch h p => Sys2Proof.Machine.execPkPairSwitch h p s
  | .pkPairResync h p => Sys2Proof.Machine.execPkPairResync h p s
  | .pkFeedProve h p => Sys2Proof.Machine.execPkFeedProve h p s
  | .pkMaintStart h p => Sys2Proof.Machine.execPkMaintStart h p s
  | .pkMaintEnd h p => Sys2Proof.Machine.execPkMaintEnd h p s
  | .pkMaintList h p => Sys2Proof.Machine.execPkMaintList h p s
  | .pkOutTest h p => Sys2Proof.Machine.execPkOutTest h p s
  | .pkRestart h p => Sys2Proof.Machine.execPkRestart h p s
  | .pkRoleChallenge h p => Sys2Proof.Machine.execPkRoleChallenge h p s
  | .pkRoleResponse h p => Sys2Proof.Machine.execPkRoleResponse h p s
  | .pkRoleDrop h p => Sys2Proof.Machine.execPkRoleDrop h p s
  | .pkFwStage h p => Sys2Proof.Machine.execPkFwStage h p s
  | .pkFwActivate h p => Sys2Proof.Machine.execPkFwActivate h p s
  | .pkAttest h p => Sys2Proof.Machine.execPkAttest h p s
  | .pkCertRead h p => Sys2Proof.Machine.execPkCertRead h p s
  | .pkSeal h p => Sys2Proof.Machine.execPkSeal h p s
  | .pkDiagSummary h p => Sys2Proof.Machine.execPkDiagSummary h p s
  | .pkDomainStatus h p => Sys2Proof.Machine.execPkDomainStatus h p s
  | .pkFrameSend h p => Sys2Proof.Machine.execPkFrameSend h p s
  | .registerWrite ses a w => Sys2Proof.Machine.execRegisterWrite ses a w s
  | .rcCounterRead ses a => Sys2Proof.Machine.execRcCounterRead ses a s
  | .frmCountRead ses => Sys2Proof.Machine.execFrmCountRead ses s
  | .energyLowRead ses b k => Sys2Proof.Machine.execEnergyLowRead ses b k s
  | .dAlignWrite ses d => Sys2Proof.Machine.execDAlignWrite ses d s
  | .hltUnfenceRequest ses w => Sys2Proof.Machine.execHltUnfenceRequest ses w s
  | .retestDone d pass => Sys2Proof.Machine.execRetestDone d pass s
  | .carouselSlot => Sys2Proof.Machine.execCarouselSlot s
  | .carouselTestDone e pass => Sys2Proof.Machine.execCarouselTestDone e pass s
  | .carouselNextReq ses w => Sys2Proof.Machine.execCarouselNextReq ses w s
  | .rmcWatchdog => Sys2Proof.Machine.execRmcWatchdog s
  | .mramScrubDone b n => Sys2Proof.Machine.execMramScrubDone b n s
  | .tempRead l => Sys2Proof.Machine.execTempRead l s
  | .atbCtrlWrite ses n w => Sys2Proof.Machine.execAtbCtrlWrite ses n w s
  | .roleLockoutEnd => Sys2Proof.Machine.execRoleLockoutEnd s
  | .roleNonceExpiry => Sys2Proof.Machine.execRoleNonceExpiry s
  | .mkeyLoad ses k w => Sys2Proof.Machine.execMkeyLoad ses k w s
  | .mkeyRevoke ses w => Sys2Proof.Machine.execMkeyRevoke ses w s
  | .powerOn psA mvA mvB okA okB => Sys2Proof.Machine.execPowerOn psA mvA mvB okA okB s
  | .rstNAssert => Sys2Proof.Machine.execRstNAssert s
  | .hardwarePhaseDone x => Sys2Proof.Machine.execHardwarePhaseDone x s
  | .startKindWrite ses kind => Sys2Proof.Machine.execStartKindWrite ses kind s
  | .startGo ses => Sys2Proof.Machine.execStartGo ses s
  | .timeWaitExpiry => Sys2Proof.Machine.execTimeWaitExpiry s
  | .bayWaitExpiry => Sys2Proof.Machine.execBayWaitExpiry s
  | .retImageWrite => Sys2Proof.Machine.execRetImageWrite s
  | .mvddFault => Sys2Proof.Machine.execMvddFault s
  | .fldLowExit mv => Sys2Proof.Machine.execFldLowExit mv s
  | .ptpSyncTimeout => Sys2Proof.Machine.execPtpSyncTimeout s
  | .pdelayRespFollowUpReceive p x => Sys2Proof.Machine.execPdelayRespFollowUpReceive p x s
  | .prpNodeForget node => Sys2Proof.Machine.execPrpNodeForget node s
  | .gooseSubEnable ses g w => Sys2Proof.Machine.execGooseSubEnable ses g w s
  | .drEnable ses w => Sys2Proof.Machine.execDrEnable ses w s
  | .rstNRelease psA => Sys2Proof.Machine.execRstNRelease psA s
  | .retImageWriteDone => Sys2Proof.Machine.execRetImageWriteDone s

end Sys2Proof.Machine
end

