-- ==== Sys2Proof/Machine/Step.lean ====
section
/-! DEFINITION. One step: the command at the front of the queue, or one tick of the 125 MHz clock when none waits (log entry 1). -/

namespace Sys2Proof.Machine

/-- The next step of the block. -/
def step (s : State) : Host.Outcome State Fault Refusal :=
  match s.pending with
  | [] => onM Mach.tick s
  | i :: rest => exec i { s with pending := rest }

/-- The command that a word spells, put at the front of the queue; the table gives no command bits, so the state is as it was. -/
def State.withFetchWord (s : State) (nbits w : Nat) : State :=
  match decodeTableWord nbits w with
  | some i => { s with pending := i :: s.pending }
  | none => s

end Sys2Proof.Machine
end

