-- ==== Sys2Proof/Safety.lean ====
section
/-! DEFINITION. What counts as safe: the block runs on (every step answers a next state), and the invariants that the obligations use;
and the words in which the obligations say what a command does. -/

namespace Sys2Proof.Machine

/-- A run that never stops: k steps answer a next state. -/
def Runs (s : State) (k : Nat) : Prop := ∃ t, Host.Core.run Sys2Proof.core k s = .next t

namespace Mach

/-- The block is not held in reset and has left HARDWARE, so that events act on it (R758, R792). -/
def up (m : Mach) : Prop := m.inReset = false ∧ m.start.phase ≠ 0

/-- A session may write a register: it is open, features are accepted, no recovery, and no rule refuses the word (R685). -/
def mayWrite (m : Mach) (x : Session) (ses : Nat) (r : Reg) (w : Word) : Prop :=
  m.sess ses = some x ∧ m.start.recovery = false ∧ m.flag .glbStat F.glbStat_FEAT_DONE = true ∧
    m.regCheck { session := x.num, maint := x.maint } r w = none

/-- The word that a write leaves in a register (R11, R12). -/
def newWord (m : Mach) (r : Reg) (w : Word) : Word := m.merged r w

/-- A written word stored. -/
def stored (m : Mach) (r : Reg) (w : Word) : Mach := m.wr r (m.newWord r w)

/-- Task t executes its cycle c, and the word at its address is the instruction given (R412, R425). -/
def atOp (m : Mach) (t op area idx : Nat) (x : Task) (c : Cycle) : Prop :=
  m.tasks[t]? = some x ∧ x.st = .run ∧ m.passive = false ∧ m.fenced (35 + t) = false ∧ x.cyc = some c ∧
    ∃ p, x.prog = some p ∧ p.code[c.pc]? = some (instrWord op area idx)

/-- Nothing waits for another command: no request, no deferred record, no NOTIFY lost, no switch, no restart, no frame to be sent, no credit
owed, no output test; the pair is not in use. -/
def quiet (m : Mach) : Prop :=
  m.cmd.rx = [] ∧ m.stu.deferLogic = [] ∧ m.recs.deferred = [] ∧ (m.sessions.all fun s => s.lost == 0) = true ∧
    m.pair.switchWait = [] ∧ m.feat 3 = false ∧ m.pair.role = .single ∧ m.start.restartWait = none ∧
    m.txq = [] ∧ m.pair.txq = [] ∧ m.pair.owed = [] ∧ m.pair.otest.run = none

/-- FAULT_N is low exactly while a lasting RMC or SEC fault holds, boot failed, a position conflict applies or a bay is unprotected (R714,
R736); and TB_INC_INT shows INC unless the host may write it (R460). -/
def shown (m : Mach) : Prop :=
  m.pins.faultN = !(m.zeroFault || m.start.bootFail || m.posConflict || (List.range 32).any (fun b => (m.bay b).unprot)) ∧
    ((m.fld .tbCtrl F.tbCtrl_SERVO_EN = 0 ∧ m.tb.st = .free) ∨ m.rd .tbIncInt = wd (m.tb.inc.toNat / 2 ^ 32))

/-- A GLX frame of a type is taken: its lane is UP, GLX is on, and it passes the checks of R548. -/
def glxTakes (m : Mach) (h : GlxHdr) (typ : Nat) (p : List Byte) : Prop :=
  m.rxUp h.lane = true ∧ m.flag .netCtrl F.netCtrl_GLX_EN = true ∧ m.glxOk h typ p = true

end Mach

/-- The state with the block as a command leaves it, and what follows every command done (Settle.lean). -/
def State.settled (s : State) (x : Mach) : State := { s with m := Mach.settle s.m x }

/-- On a block that is up and meets P, the command is carried out with effect f, and the queue stays as it was. -/
def Acts (i : Instr) (P : Mach → Prop) (f : Mach → Mach) : Prop :=
  ∀ s : State, s.m.up → P s.m → exec i s = .next (s.settled (f s.m))

/-- The same of a block that is only not held in reset. -/
def ActsLive (i : Instr) (P : Mach → Prop) (f : Mach → Mach) : Prop :=
  ∀ s : State, s.m.inReset = false → P s.m → exec i s = .next (s.settled (f s.m))

/-- An instruction of a running task is carried out: its address has moved on, and f gives what else changes. -/
def LogicActs (i : Instr) (t op area idx : Nat) (f : LCtx → LCtx) : Prop :=
  t < 4 → ∀ x c, Acts i (fun m => m.atOp t op area idx x c) (fun m =>
    let l := f { m := m, t := t, x := x, c := { c with pc := c.pc + 1 } }
    l.m.updTask t (fun y => { y with cyc := some l.c }))

/-- The same of an instruction that changes nothing but its cycle. -/
def LogicOp (i : Instr) (t op area idx : Nat) (f : LCtx → Cycle) : Prop :=
  LogicActs i t op area idx (fun l => { l with c := f l })

/-- The exact result v of an instruction kept in the signed range of a word, ARITH set when it had to be (R426). -/
def LCtx.keeps (l : LCtx) (v : Int) : Cycle :=
  if v < -2147483648 then { l.c with wacc := 0x80000000#32, arith := true }
  else if 2147483647 < v then { l.c with wacc := 0x7FFFFFFF#32, arith := true }
  else { l.c with wacc := BitVec.ofInt 32 v }

/-- A request of opcode op is the next of session x and is accepted up to the session's role (R669, R671): nothing else waits, its
transport is up, its SEQ is the next, the session's last reply is delivered, features are accepted, no recovery. -/
def Mach.ready (m : Mach) (x : Session) (op : Nat) (h : Hdr) (p : List Byte) : Prop :=
  m.cmd.rx = [] ∧ p.length ≤ 4096 ∧ m.reqSess (reqOf h op p) = some x ∧ m.reqHeld (reqOf h op p) = false ∧
    h.seq % 65536 = (x.lastSeq + 1) % 65536 ∧ m.start.recovery = false ∧ m.flag .glbStat F.glbStat_FEAT_DONE = true ∧
    (h.udp = true → m.flag .cmdCfg F.cmdCfg_UDP_EN = true ∧ m.svcUp = true) ∧
    (opMaint op = true → x.maint = true) ∧ (op / 256 = 7 → m.feat 3 = true)

/-- A packet command of opcode op carries out its request with f, and the reply that f gives is kept and sent, whenever the request is
ready and the state it is taken in meets P (R669, R670). -/
def Serves (i : Hdr → List Byte → Instr) (op : Nat) (P : Mach → Session → RawReq → Prop)
    (f : Mach → Session → RawReq → Mach × Ans) : Prop :=
  ∀ h p x, Acts (i h p) (fun m => m.ready x op h p ∧ P (m.taken x (reqOf h op p)) x (reqOf h op p)) (fun m =>
    let q := reqOf h op p
    let r := f (m.taken x q) x q
    r.1.served x q r.2)

end Sys2Proof.Machine
end

