-- ==== Sys2Proof/Certificates/Slice0/Obligations.lean ====
section
/-! DEFINITION. The obligations: what each family of commands does, the invariants that every step keeps, the state after reset. Each names
in its docstring the rules of spec/ that it follows. "Acts i P f" reads: on a block that is up and meets P, command i answers the next
state that f gives, followed only by what every command is followed by (Machine/Settle.lean), the queue as it was. -/

open Sys2Proof Sys2Proof.Machine

/-- The queue (the block's own law; log entry 1 names the tick): a step with a command at the front is that command carried out with the
queue's rest; with none it is one tick of the 125 MHz clock. Every command answers a next state and leaves the queue as it was. -/
def Obligations.StepTakesTheFront : Prop :=
  (∀ (i : Instr) (q : List Instr) (m : Mach), step { pending := i :: q, m := m } = exec i { pending := q, m := m }) ∧
  (∀ m : Mach, step { pending := [], m := m } = .next { pending := [], m := m.tick }) ∧
  (∀ (i : Instr) (s : State), ∃ x, exec i s = .next { s with m := x })

/-- The block after reset (R72, R388, R458, R586, R757, R758, R773): HARDWARE with status word 0, LTC and MON 0, INC 8 ns, FREE, every
register at its reset word, LOCKOUT, outputs parked, VCORE 900 mV, SINGLE, no session, no record; and the pins are as the invariants
have them. The identity words and the feeds are the model's (log entry 3). -/
def Obligations.AfterReset : Prop :=
  State.reset.pending = [] ∧ State.reset.m.inReset = false ∧ State.reset.m.start.phase = 0 ∧ State.reset.m.hpStatus = 0 ∧
  State.reset.m.tb.ltc = 0 ∧ State.reset.m.tb.mon = 0 ∧ State.reset.m.tb.inc = 0x0800000000#40 ∧ State.reset.m.tb.st = .free ∧
  (∀ r, State.reset.m.rd r = r.init) ∧ State.reset.m.fio.band = 3 ∧ (∀ y, (State.reset.m.doSt y).parked = true) ∧
  State.reset.m.fld .vcoreStat F.vcoreStat_VCORE_MV = 900 ∧ State.reset.m.pair.role = .single ∧ State.reset.m.sessions = [] ∧
  State.reset.m.recs.fifo = [] ∧ State.reset.m.fr.started = false ∧ (∀ b, (State.reset.m.bay b).mode = 0) ∧
  (∀ t, t < 4 → (State.reset.m.tasks[t]?).map (·.st) = some .empty) ∧
  State.reset.m.shown ∧ State.reset.m.pins.hpIrqN = true ∧ State.reset.m.cmd.hpOut = [] ∧ SMap.rising State.reset.m.regs = true

/-- The fault pin and TB_INC_INT (R460, R578, R714): FAULT_N is low exactly while a lasting RMC or SEC fault holds, a position conflict
applies, any bay is unprotected, or boot failed; TB_INC_INT shows INC unless the host may write it. Every step keeps this. -/
def Obligations.FaultPinAndIncKept : Prop :=
  ∀ s t : State, s.m.shown → step s = .next t → t.m.shown

/-- Every step keeps HP_IRQ_N as R665 states it: low while at least one NOTIFY for an HP session waits in the output queue. -/
def Obligations.IrqPinFollowsNotifies : Prop :=
  ∀ s t : State, (s.m.pins.hpIrqN = false ↔ ∃ p ∈ s.m.cmd.hpOut, p.notify = true) → step s = .next t →
    (t.m.pins.hpIrqN = false ↔ ∃ p ∈ t.m.cmd.hpOut, p.notify = true)

/-- RST_N low (R792): until its release nothing but power and RST_N acts on the block, and its clock stands. -/
def Obligations.HeldInReset : Prop :=
  (∀ (i : Instr) (s : State), s.m.inReset = true → (∀ a b c d e, i ≠ .powerOn a b c d e) → i ≠ .rstNAssert → (∀ a, i ≠ .rstNRelease a) →
    exec i s = .next s) ∧
  (∀ m : Mach, m.inReset = true → m.tick = m)

/-- What follows a command where nothing waits (log entry 1): INC is shown in TB_INC_INT and the pins HP_IRQ_N and FAULT_N are set; all else
is as the command left it. -/
def Obligations.NothingElseFollows : Prop :=
  ∀ (s : State) (x : Mach), x.quiet →
    (s.settled x).pending = s.pending ∧ (s.settled x).m = ((x.incSync).setIrq).setFault ∧
    (∀ r : Reg, r.addr ≠ Reg.tbIncInt.addr → (s.settled x).m.rd r = x.rd r) ∧
    (s.settled x).m.pins = { x.pins with hpIrqN := (s.settled x).m.pins.hpIrqN, faultN := (s.settled x).m.pins.faultN } ∧
    { (s.settled x).m with regs := x.regs, pins := x.pins } = x

/-- The register file (R11, R12): a word stored is the word read, other addresses are as before, and the file stays in its canonical form.
Of a written word RW fields are taken, RW1C bits clear, RO fields and reserved bits stay. An RW1C bit that the engine sets at the
instant of the write stays set (R13), and an increment at the instant of a read counts after the clear, and is not in what the read
returns (R14); the bits and counters shown are examples. A tick ends the instant. -/
def Obligations.RegisterFile : Prop :=
  (∀ (m : Mach) r w, (m.wr r w).rd r = w ∧ (∀ r' : Reg, r'.addr ≠ r.addr → (m.wr r w).rd r' = m.rd r') ∧
    (SMap.rising m.regs = true → SMap.rising (m.wr r w).regs = true)) ∧
  (∀ old w n, F.bayCtrl_MODE.get ((Reg.bayCtrl n).merge old w) = F.bayCtrl_MODE.get w ∧
    (∀ i, i = 2 ∨ i = 7 ∨ i = 31 → ((Reg.bayCtrl n).merge old w).getLsbD i = old.getLsbD i)) ∧
  (∀ old w, F.vcoreStat_VCORE_MV.get (Reg.vcoreStat.merge old w) = F.vcoreStat_VCORE_MV.get old ∧
    F.vcoreStat_AT_MAX_SHORT.get (Reg.vcoreStat.merge old w) =
      (if F.vcoreStat_AT_MAX_SHORT.get w = 1 then 0 else F.vcoreStat_AT_MAX_SHORT.get old)) ∧
  (∀ old w, Reg.frmCount.merge old w = old) ∧
  (∀ old w, Reg.cmdIp.merge old w = w) ∧
  (∀ (m : Mach) w, F.vcoreStat_AT_MAX_SHORT.get ((m.setF .vcoreStat F.vcoreStat_AT_MAX_SHORT 1).newWord .vcoreStat w) = 1) ∧
  (∀ m : Mach, SMap.get? m.freshC Reg.evrLost.addr = none → m.fld .evrLost F.evrLost_COUNT < 2 ^ 32 - 1 →
    let x := m.bump .evrLost F.evrLost_COUNT 1
    (x.regReadAt .evrLost).1 = m.rd .evrLost ∧ (x.regReadAt .evrLost).2.fld .evrLost F.evrLost_COUNT = 1 ∧
    (x.fld .evrLost F.evrLost_COUNT = m.fld .evrLost F.evrLost_COUNT + 1) ∧
    ((x.regReadAt .evrLost).2.regReadAt .evrLost).1 = 0) ∧
  (∀ m : Mach, m.instantOver.fresh1 = [] ∧ m.instantOver.freshC = [])

/-- Register addresses (R16, R687): a request for an address that is not a multiple of 4 or a range that reaches outside the space ends with
ST_BAD_PARAM and changes nothing more; an address that no block lists reads 0 and ignores a write. -/
def Obligations.RegisterAddresses : Prop :=
  Serves .pkRegRead 0x0101
    (fun _ _ q => q.len = 8 ∧ 1 ≤ q.h 4 ∧ q.h 4 ≤ 1024 ∧ (q.d 0 % 4 ≠ 0 ∨ 0xE0000 < q.d 0 + 4 * q.h 4)) (fun m _ q => m.bad (q.d 0)) ∧
  Serves .pkRegWrite 0x0102
    (fun _ _ q => 1 ≤ q.h 4 ∧ q.h 4 ≤ 1022 ∧ q.len = 8 + 4 * q.h 4 ∧ (q.d 0 % 4 ≠ 0 ∨ 0xE0000 < q.d 0 + 4 * q.h 4))
    (fun m _ q => m.bad (q.d 0)) ∧
  Serves .pkRegModify 0x0103 (fun _ _ q => q.len = 12 ∧ (q.d 0 % 4 ≠ 0 ∨ 0xE0000 < q.d 0 + 4)) (fun m _ q => m.bad (q.d 0)) ∧
  (∀ (m : Mach) n, m.bad n = (m, ⟨0x0102, beBytes 4 n ++ zeros 4, 0⟩)) ∧
  (∀ (m : Mach) a, Reg.ofAddr a = none → m.regRead a = (0, m)) ∧
  (∀ (m : Mach) who a w, Reg.ofAddr a = none → a % 4 = 0 → a < 0xD0100 → m.regWrite who a w = (none, m)) ∧
  (∀ (m : Mach) who a w, a % 4 ≠ 0 ∨ 0xE0000 ≤ a → m.regWrite who a w = (some (0x0102, a), m)) ∧
  (∀ r a, Reg.ofAddr a = some r → a % 4 = 0 ∧ a < 0xE0000)

/-- HEALTH at a frame trigger (R712, R713): 0 while a lasting RMC or SEC fault holds or PROTECTION_READY has not been reached since the last
start, which every restart clears; otherwise the greater of 1 and 15 - D, D the sum of the deductions that apply. An unprotected bay or
a fenced trip group brings it to 7 or lower. -/
def Obligations.HealthAtTheTrigger : Prop :=
  (∀ m : Mach,
    let r := m.healthUpdate
    ((m.hlth.rmcLasting = true ∨ m.hlth.secLasting = true ∨ m.flag .glbStat F.glbStat_PROT_READY = false) →
      r.fld .hltStat F.hltStat_HEALTH = 0 ∧ r.fld .hltStat F.hltStat_ZERO = 1) ∧
    (m.hlth.rmcLasting = false → m.hlth.secLasting = false → m.flag .glbStat F.glbStat_PROT_READY = true →
      r.fld .hltStat F.hltStat_HEALTH = max 1 (15 - m.deductSum) ∧ r.fld .hltStat F.hltStat_ZERO = 0) ∧
    r.fld .hltStat F.hltStat_DEDUCT = min m.deductSum 255 ∧
    m.deductSum = (m.deductions.map (·.2)).sum ∧ m.deductions.map (·.1) = List.range 19 ∧
    (m.deductions.map (·.2)).drop 2 = [bit (m.fenced 33 || m.carriesFenced 33), bit (m.fenced 32 || m.carriesFenced 32 || m.hlth.car.paused),
      6 * ([34].filter m.fenced).length, 2 * ([35, 36, 37, 38].filter m.fenced).length, 8 * ([47].filter m.fenced).length,
      2 * ([45, 46].filter m.fenced).length, 2 * ([48, 49, 50, 51].filter m.fenced).length,
      min 4 ((List.range' 52 16).filter m.fenced).length, min 4 ((List.range' 68 64).filter m.fenced).length,
      ([39, 40, 41, 42].filter m.fenced).length, 2 * ([43, 44].filter m.fenced).length, 2 * bit (decide (m.recs.active = 2)),
      3 * bit (m.hlth.atMaxShort.any (fun t => decide (m.since t ≤ 60000000000))), 4 * bit m.fabric,
      bit (Mach.Feed.unproven m.power.feedA) + bit (Mach.Feed.unproven m.power.feedB), 2 * bit (decide (m.fld .pairOtest F.pairOtest_FAIL ≠ 0)),
      bit (decide ((m.pair.role = .standby ∨ m.pair.role = .orphan) ∧ m.pair.otest.passed < 16))] ∧
    m.deductions[0]? = some (0, 2 * ((List.range 32).filter (fun b => m.fenced b && decide (32 ≤ m.engOf b) && !(m.bay b).unprot)).length) ∧
    (((∃ b, b < 32 ∧ (m.bay b).unprot = true) ∨ m.fenced 47 = true) → r.fld .hltStat F.hltStat_HEALTH ≤ 7) ∧
    m.deductions[1]? = some (1, 8 * ((List.range 32).filter (fun b => (m.bay b).unprot)).length)) ∧
  (∀ (m : Mach) cause kind, (m.restart cause kind).flag .glbStat F.glbStat_PROT_READY = false)

/-- Timers (R431): each timer instruction executes on MON_S of its cycle with PT from WACC and gives ACC its Q. TON: Q after the input has
been on for PT; TOF: Q until the input has been off for PT; TP: a pulse of PT from a rising input. -/
def Obligations.LogicTimers : Prop :=
  (∀ t i, i < 2 ^ 20 →
    LogicOp (.lgTon t i) t 0x40 5 i (fun l =>
      let v := Tmr.ton (l.c.work.tmr i) l.c.monS l.c.acc l.c.wacc.toNat
      { l.c with work := { l.c.work with t := SMap.put l.c.work.t i v }, acc := v.q }) ∧
    LogicOp (.lgTof t i) t 0x41 5 i (fun l =>
      let v := Tmr.tof (l.c.work.tmr i) l.c.monS l.c.acc l.c.wacc.toNat
      { l.c with work := { l.c.work with t := SMap.put l.c.work.t i v }, acc := v.q }) ∧
    LogicOp (.lgTp t i) t 0x42 5 i (fun l =>
      let v := Tmr.tp (l.c.work.tmr i) l.c.monS l.c.acc l.c.wacc.toNat
      { l.c with work := { l.c.work with t := SMap.put l.c.work.t i v }, acc := v.q })) ∧
  (∀ (v : Tmr) mon pt,
    v.ton mon false pt = { v with pt := pt, run := false, q := false, et := 0 } ∧
    (v.run = false → v.q = false → 0 < pt → v.ton mon true pt = { v with pt := pt, run := true, start := mon, et := 0 }) ∧
    (v.run = false → v.q = false → pt = 0 → v.ton mon true pt = { v with pt := pt, start := mon, q := true, expiry := mon, et := 0 }) ∧
    (v.run = true → v.q = false → (mon - v.start).toNat < pt * 1000 →
      v.ton mon true pt = { v with pt := pt, et := (mon - v.start).toNat / 1000 }) ∧
    (v.run = true → v.q = false → pt * 1000 ≤ (mon - v.start).toNat →
      v.ton mon true pt = { v with pt := pt, run := false, q := true, expiry := v.start + tm (pt * 1000), et := pt }) ∧
    (v.run = false → v.q = true → v.ton mon true pt = { v with pt := pt, et := pt })) ∧
  (∀ (v : Tmr) mon pt,
    v.tof mon true pt = { v with pt := pt, run := false, q := true } ∧
    (v.run = false → v.q = true → 0 < pt → v.tof mon false pt = { v with pt := pt, run := true, start := mon }) ∧
    (v.run = true → (mon - v.start).toNat < pt * 1000 → v.tof mon false pt = { v with pt := pt }) ∧
    (v.run = true → pt * 1000 ≤ (mon - v.start).toNat →
      v.tof mon false pt = { v with pt := pt, run := false, q := false, expiry := v.start + tm (pt * 1000) }) ∧
    (v.run = false → v.q = false → v.tof mon false pt = { v with pt := pt })) ∧
  (∀ (v : Tmr) mon pt a,
    (v.q = false → v.lastIn = false → 0 < pt → v.tp mon true pt = { v with pt := pt, q := true, start := mon, lastIn := true }) ∧
    (v.q = true → (mon - v.start).toNat < pt * 1000 → v.tp mon a pt = { v with pt := pt, lastIn := a }) ∧
    (v.q = true → pt * 1000 ≤ (mon - v.start).toNat →
      v.tp mon a pt = { v with pt := pt, q := false, expiry := v.start + tm (pt * 1000), lastIn := a }) ∧
    (v.q = false → (v.lastIn = true ∨ a = false) → v.tp mon a pt = { v with pt := pt, lastIn := a }))

/-- A frame trigger that is due (R51) first ends the frame before, then takes the next frame's numbers: FSEQ and the count of frames go on
by one, from FSEQ 0 and the frame of the LTC at the first trigger (R52, R53); what comes about at the trigger follows. One that is not
due changes nothing of the block. The aligner's cut-off is taken once in a frame, 6 µs after its trigger (R61). -/
def Obligations.FrameTriggerAndCutOff : Prop :=
  (∀ bits rb late, ActsLive (.frameTrigger bits rb late) (fun m => m.frameDue = true)
    (fun m => ((((m.frameEnd).drRowStore.bindOver).frameNumbers).triggerA bits rb late).triggerB)) ∧
  (∀ bits rb late, ActsLive (.frameTrigger bits rb late) (fun m => m.ltc.toNat < targetNs m.nextFrame) (fun m => m)) ∧
  (∀ m : Mach, m.fr.started = true → m.frameNumbers.fr.started = true ∧ m.frameNumbers.fr.fseq = m.fr.fseq + 1 ∧
    m.frameNumbers.fr.sec = (m.fr.sec * 14400 + m.fr.fcnt + 1) / 14400 ∧
    m.frameNumbers.fr.fcnt = (m.fr.sec * 14400 + m.fr.fcnt + 1) % 14400 ∧ m.frameNumbers.fr.trigMon = m.mon) ∧
  (∀ m : Mach, m.fr.started = false → m.frameNumbers.fr.fseq = 0 ∧ m.frameNumbers.fr.sec = frameAt m.ltc.toNat / 14400 ∧
    m.frameNumbers.fr.fcnt = frameAt m.ltc.toNat % 14400) ∧
  Acts .alignerCutOff (fun m => m.fr.started = true ∧ m.fr.guard = false ∧ m.fr.cutOff = false ∧ 6000 ≤ m.tau)
    (fun m => ({ m with fr := { m.fr with cutOff := true } } : Mach).cutOff) ∧
  Acts .alignerCutOff (fun m => m.fr.started = false ∨ m.fr.guard = true ∨ m.fr.cutOff = true ∨ m.tau < 6000) (fun m => m)

/-- The aligned set releases every enabled bay with its slots' samples (R62, R131, R79). An engine that completes the present frame within
44 µs and before the deadline puts its result into buffer FSEQ mod 2 and counts (R38, R39, R65); one that completes it after the
deadline fills the buffer, and the results before stay those of the bay (R76). At the deadline an enabled bay whose engine has not
completed the frame is late, and an engine that still computes an earlier one stalls (R75, R86); then the zone engine is released (R63). -/
def Obligations.BayEngineFrame : Prop :=
  Acts .alignedSetComplete
    (fun m => m.fr.started = true ∧ m.fr.guard = false ∧ m.fr.cutOff = true ∧ m.fr.setDone = false ∧ m.tau ≤ 8000)
    (fun m =>
      let m := { m with fr := { m.fr with setDone := true } }
      forEach ((List.range 32).filter (fun b => (m.bay b).mode ≠ 0)) m (fun m b =>
        let (m, slots) := m.baySlots b
        let m := { m with acq := { m.acq with views := SMap.put m.acq.views b (slots.map (fun (s : Option Sample) => s.getD ⟨0, 0⟩)) } }
        m.release b slots)) ∧
  (∀ e b i, Acts (.bayFrameComplete e)
    (fun m => e < 34 ∧ m.fr.cutOff = true ∧ m.fr.setDone = true ∧ m.bayOn e = some b ∧ m.tau ≤ 44000 ∧ m.fr.deadline = false ∧
      m.fenced e = false ∧ (m.bay b).comp = some i ∧ i.fseq = m.fr.fseq)
    (fun m =>
      let o := bayCompute b i (m.bay b).d
      let odd := i.fseq.getLsbD 0
      let m := m.updBay b (fun x =>
        { x with d := o.d, comp := x.wait, wait := none, buf0 := if odd then x.buf0 else o.res, buf1 := if odd then o.res else x.buf1,
                 res := o.res, resOk := true, late := false })
      let m := m.slackRec e (44000 - ((m.tau : Nat) : Int)) 36000
      (if o.emerg then m.emit .emergStart b else m).zeRelease)) ∧
  (∀ e b i, Acts (.bayFrameComplete e)
    (fun m => e < 34 ∧ m.fr.cutOff = true ∧ m.fr.setDone = true ∧ m.bayOn e = some b ∧ m.fr.deadline = true ∧ m.fenced e = false ∧
      (m.bay b).comp = some i ∧ i.fseq = m.fr.fseq)
    (fun m =>
      let o := bayCompute b i (m.bay b).d
      let odd := i.fseq.getLsbD 0
      let m := m.updBay b (fun x =>
        { x with d := o.d, comp := x.wait, wait := none, buf0 := if odd then x.buf0 else o.res, buf1 := if odd then o.res else x.buf1,
                 resOk := false })
      let m := m.slackRec e (44000 - ((m.tau : Nat) : Int)) 36000
      (if o.emerg then m.emit .emergStart b else m).zeRelease)) ∧
  Acts .bayDeadline
    (fun m => m.fr.started = true ∧ m.fr.guard = false ∧ m.fr.cutOff = true ∧ m.fr.setDone = true ∧ m.fr.deadline = false ∧
      44000 ≤ m.tau)
    (fun m =>
      let m := { m with fr := { m.fr with deadline := true } }
      let m := forEach ((List.range 32).filter (fun b => decide ((m.bay b).mode ≠ 0) && !(m.bay b).unprot)) m (fun m b =>
        let x := m.bay b
        let e := m.engOf b
        match x.comp with
        | some i =>
          if i.fseq = m.fr.fseq then m.lateFrame b e
          else (m.lateFrame b e).engStall e .late
        | none =>
          if x.resOk then m
          else if m.fenced e then m.lateFrame b e
          else m)
      m.zeRelease)

/-- The zone engine's frame, completed once the bays' deadline has passed and by the time the binding is released, replaces its result (R46)
with its slack recorded (R65); completed after it, it counts from the next trigger on (R81). The reading of the light and fast-OC flags,
once in a frame from 48 µs, takes the inputs up to now, clears the flags and decides ARC (R306). Stage-2 samples set a bay's fast-OC
flag when they come from a port in RUN on a phase current of the bay and end in N_ARC at or over the threshold of an enabled arc-flash
zone whose OC_MASK has the bay (R304; which zones count: log entry 13); else they change nothing. -/
def Obligations.ZoneFrameAndArcReading : Prop :=
  (∀ d r nr, Acts (.zeFrameComplete false)
    (fun m => m.fr.deadline = true ∧ m.zone.next = some (d, r, nr) ∧ m.fenced 34 = false ∧ r.fseq = m.fr.fseq ∧ m.fr.zeLate = false ∧
      m.tau ≤ 56000)
    (fun m =>
      let slack : Int := 56000 - ((m.tau : Nat) : Int)
      let m := { m with zone := { m.zone with d := d, res := r, next := none }, fr := { m.fr with zeDone := true } }
      forEach (numsWhere 32 nr.testBit) (m.slackRec 34 slack 12000) (fun m b => m.emit .btNoroute b))) ∧
  (∀ d r nr, Acts (.zeFrameComplete false)
    (fun m => m.fr.deadline = true ∧ m.zone.next = some (d, r, nr) ∧ m.fenced 34 = false ∧ r.fseq = m.fr.fseq ∧ m.fr.zeLate = true ∧
      m.fr.binding = true)
    (fun m =>
      let slack : Int := 56000 - ((m.tau : Nat) : Int)
      let m := { m with zone := { m.zone with d := d, after := some r, next := none } }
      forEach (numsWhere 32 nr.testBit) (m.slackRec 34 slack 12000) (fun m b => m.emit .btNoroute b))) ∧
  Acts .arcFlagRead (fun m => m.fr.started = true ∧ m.fr.guard = false ∧ m.fr.arcRead = false ∧ 48000 ≤ m.tau)
    (fun m =>
      let m := m.diSyncAll
      let on := bitsOf 32 (fun x => ((m.di x).deb || m.zone.lightSet.testBit x) && m.diLight x && !m.diFenced x)
      let d := arcDecide m.zcfg on m.zone.lightNow m.zone.ocSet m.zone.ocNow
      { m with fr := { m.fr with arcRead := true },
               zone := { m.zone with lightNow := on, ocNow := m.zone.ocSet,
                                     lightSet := 0, ocSet := 0, arcStart := d.1, arcOper := d.2 } }) ∧
  (∀ b p xs c k, Acts (.fastOcFlagSet b ⟨p, xs⟩)
    (fun m => b < 32 ∧ p < 16 ∧ c < 3 ∧ k < 4 ∧ (m.port p).st = .run ∧ m.fenced (52 + p) = false ∧ m.slotOnPort b c p = true ∧
      m.zcfg 0x54 k 0 = 1 ∧ (maskOf (m.zcfg 0x54 k 3)).testBit b = true ∧ m.arcOver k b c p xs = true)
    (fun m => { m with zone := { m.zone with ocSet := m.zone.ocSet ||| 2 ^ b } })) ∧
  (∀ b p xs, Acts (.fastOcFlagSet b ⟨p, xs⟩)
    (fun m => b < 32 ∧ p < 16 ∧ ∀ c k, c < 3 → k < 4 → m.slotOnPort b c p = true → m.zcfg 0x54 k 0 = 1 →
      (maskOf (m.zcfg 0x54 k 3)).testBit b = true → m.arcOver k b c p xs = false)
    (fun m => m))

/-- The release of the binding step (R803), once in a frame, from 56 µs on, the bays' deadline and the flag reading past. The zone engine is
judged first: out, or its frame complete, it is not late; else its lateness is counted (R81), and one that has not even completed an
earlier frame is fenced (R86). While the binding of the frame before still runs, this one waits (R82). Else it begins with the arc-flash
decision of the frame, of the last completed one while the zone's is late; an acting unit then carries out bindActs
(Machine/Binding.lean), a passive one binds nothing (R588). Not due, it changes nothing. -/
def Obligations.StitchBindingBindsTheFrame : Prop :=
  (Acts .stitchBinding
    (fun m => m.fr.started = true ∧ m.fr.guard = false ∧ m.fr.binding = false ∧ m.fr.bindHeld = false ∧ 56000 ≤ m.tau ∧
      m.fr.deadline = true ∧ m.fr.arcRead = true)
    (fun m =>
      let m := m.zeJudge
      if m.fr.bindPend then { m with fr := { m.fr with bindHeld := true } } else m.bindGo)) ∧
  (Acts .stitchBinding
    (fun m => m.fr.started = false ∨ m.fr.guard = true ∨ m.fr.binding = true ∨ m.fr.bindHeld = true ∨ m.tau < 56000)
    (fun m => m)) ∧
  (∀ m : Mach, m.zeOut = true ∨ m.fr.zeDone = true → m.zeJudge = { m with zone := { m.zone with late := false } }) ∧
  (∀ m : Mach, m.zeOut = false → m.fr.zeDone = false → (∀ d r n, m.zone.next = some (d, r, n) → r.fseq = m.fr.fseq) →
    m.zeJudge =
      ((({ m with fr := { m.fr with zeLate := true, lateInt := true },
                  zone := { m.zone with lateCnt := m.zone.lateCnt + 1, late := true } } : Mach).updEng 34
        (fun x => { x with late := true, secLate := true })).bump .lateCnt F.lateCnt_LATE_FRAMES 1).domErr 34 .late) ∧
  (∀ (m : Mach) d r n, m.zeOut = false → m.fr.zeDone = false → m.zone.next = some (d, r, n) → r.fseq ≠ m.fr.fseq →
    m.zeJudge =
      (((({ m with fr := { m.fr with zeLate := true, lateInt := true },
                   zone := { m.zone with lateCnt := m.zone.lateCnt + 1, late := true } } : Mach).updEng 34
        (fun x => { x with late := true, secLate := true })).bump .lateCnt F.lateCnt_LATE_FRAMES 1).domErr 34 .late).fenceNow 34 .late) ∧
  (∀ m : Mach, m.bindGo =
    (let a := if m.fr.zeLate && !m.zeOut then m.zone.arcHeld else (m.zone.arcStart, m.zone.arcOper)
     let x := { m with fr := { m.fr with binding := true, bindHeld := false }, zone := { m.zone with arcHeld := a } }
     if m.passive then x else x.bindActs a.1 a.2))

/-- The binding of a frame completes (R47): later than 62 µs it is late (R82); its slack is recorded (R65), the results published (R40), and
the M0 set and the heartbeat are sent, which a SINGLE unit does not. One that ran over the trigger completes with its own frame's set,
and the binding that waited for it begins (R82). The guard interval begins at 62 µs, the binding released; one not complete is late
(R64, R82). In it alone, a bay's engine with no frame under way has its copy done (R23). -/
def Obligations.BindingCompleteAndGuardInterval : Prop :=
  Acts .bindingComplete
    (fun m => m.fr.binding = true ∧ m.fr.bound = false)
    (fun m =>
      let t := m.tau
      let m := if 62000 < t then m.bindLate else m
      let m := m.slackRec 35 (62000 - ((t : Nat) : Int)) 6000
      (((({ m with fr := { m.fr with bound := true } } : Mach).publish).m0Send).hbSend)) ∧
  Acts .bindingComplete (fun m => (m.fr.binding = false ∨ m.fr.bound = true) ∧ m.fr.bindPend = true)
    (fun m =>
      let x := (m.bindPast).updPair (fun p => { p with m0Late := none })
      ((match m.pair.m0Late with
        | some s => x.m0SendOf s
        | none => x).hbSend).bindHeldGo) ∧
  Acts .bindingComplete (fun m => (m.fr.binding = false ∨ m.fr.bound = true) ∧ m.fr.bindPend = false) (fun m => m) ∧
  (∀ m : Mach, m.pair.role = .single → (m.m0Send).hbSend = m) ∧
  Acts .guardIntervalStart
    (fun m => m.fr.started = true ∧ m.fr.guard = false ∧ 62000 ≤ m.tau ∧ (m.fr.binding = true ∨ m.fr.bindHeld = true))
    (fun m =>
      let m := { m with fr := { m.fr with guard := true } }
      if m.fr.bound then m else m.bindLate) ∧
  Acts .guardIntervalStart (fun m => m.fr.started = false ∨ m.fr.guard = true ∨ m.tau < 62000) (fun m => m) ∧
  (∀ m : Mach, m.fr.lateLog = false →
    m.bindLate = (({ m with fr := { m.fr with lateLog := true, lateInt := true } } : Mach).emit .bindLate 35).fabErr) ∧
  (∀ b, Acts (.handoverCopyDone b)
    (fun m => b < 32 ∧ m.fr.guard = true ∧ (m.bay b).comp = none ∧ (m.bay b).wait = none)
    (fun m => { m with fr := { m.fr with moves := m.fr.moves.map (fun v => if v.bay = b then { v with copied := true } else v) } })) ∧
  (∀ b, Acts (.handoverCopyDone b)
    (fun m => b < 32 ∧ (m.fr.guard = false ∨ (m.bay b).comp.isSome = true ∨ (m.bay b).wait.isSome = true)) (fun m => m))

/-- The VCORE loop, each 144 frames once it runs (R71, R72): 5 mV up, at most to 900 mV, when the worst slack ratio of the interval is below
a quarter or a frame was late; else 5 mV down, at least to 700 mV, when it is 35 % or more; else, or without a slack, unchanged. AT_MAX
and AT_MIN tell 900 and 700 mV. At 900 mV with a ratio below a quarter AT_MAX_SHORT is set, kept with its time, and VCORE_LIMIT logged
(R73). SRAM errors (R33, R701): a corrected one counts in its owner's window; an uncorrectable one counts and fences the owner at once,
a bay or juggler engine as a stall. The owner of a region is that of R34. -/
def Obligations.VcoreStepAndSramErrors : Prop :=
  (∀ r : Rat, Acts .vcoreLoopTick
    (fun m => m.fr.vcoreOn = true ∧ 144 ≤ m.fr.vcoreCnt ∧ m.fr.worst = some r ∧
      (r < 1 / 4 → m.fld .vcoreStat F.vcoreStat_VCORE_MV ≠ 900))
    (fun m =>
      let mv := m.fld .vcoreStat F.vcoreStat_VCORE_MV
      let new := if m.fr.lateInt = true ∨ r < 1 / 4 then min 900 (mv + 5) else if 35 / 100 ≤ r then max 700 (mv - 5) else mv
      let m := { m with fr := { m.fr with vcoreCnt := 0, worst := none, lateInt := false } }
      ((m.setF .vcoreStat F.vcoreStat_VCORE_MV new).setF .vcoreStat F.vcoreStat_AT_MAX (bit (decide (new = 900)))).setF .vcoreStat
        F.vcoreStat_AT_MIN (bit (decide (new = 700))))) ∧
  (∀ r : Rat, Acts .vcoreLoopTick
    (fun m => m.fr.vcoreOn = true ∧ 144 ≤ m.fr.vcoreCnt ∧ m.fr.worst = some r ∧ r < 1 / 4 ∧ m.fld .vcoreStat F.vcoreStat_VCORE_MV = 900)
    (fun m =>
      let m := { m with fr := { m.fr with vcoreCnt := 0, worst := none, lateInt := false } }
      let m := ((m.setF .vcoreStat F.vcoreStat_AT_MAX_SHORT 1).updHlth (fun h => { h with atMaxShort := some m.mon })).emit
        .vcoreLimit 0
      ((m.setF .vcoreStat F.vcoreStat_VCORE_MV 900).setF .vcoreStat F.vcoreStat_AT_MAX 1).setF .vcoreStat F.vcoreStat_AT_MIN 0)) ∧
  Acts .vcoreLoopTick (fun m => m.fr.vcoreOn = true ∧ 144 ≤ m.fr.vcoreCnt ∧ m.fr.worst = none)
    (fun m =>
      let mv := m.fld .vcoreStat F.vcoreStat_VCORE_MV
      let new := if m.fr.lateInt then min 900 (mv + 5) else mv
      let m := { m with fr := { m.fr with vcoreCnt := 0, worst := none, lateInt := false } }
      ((m.setF .vcoreStat F.vcoreStat_VCORE_MV new).setF .vcoreStat F.vcoreStat_AT_MAX (bit (decide (new = 900)))).setF .vcoreStat
        F.vcoreStat_AT_MIN (bit (decide (new = 700)))) ∧
  Acts .vcoreLoopTick (fun m => m.fr.vcoreOn = false ∨ m.fr.vcoreCnt < 144) (fun m => m) ∧
  (∀ r d, Acts (.sramEccError r false) (fun m => wfRegion r = true ∧ m.sramOwner r = .dom d ∧ d < 132) (fun m => m.domErr d .eccCorr)) ∧
  (∀ r d, Acts (.sramEccError r true) (fun m => wfRegion r = true ∧ m.sramOwner r = .dom d ∧ d < 132)
    (fun m =>
      let x := m.dom d
      let m := m.setDom d { x with errs := m.inWindow x.errs ++ [m.mon], total := x.total + 1 }
      if d < 34 then m.engStall d .eccUncorr else m.fenceNow d .eccUncorr)) ∧
  (∀ r, Acts (.sramEccError r false) (fun m => wfRegion r = true ∧ m.sramOwner r = .rmc) (fun m => m.rmcErr 1)) ∧
  (∀ r, Acts (.sramEccError r true) (fun m => wfRegion r = true ∧ m.sramOwner r = .rmc)
    (fun m => (m.rmcErr 1).updHlth (fun h => { h with rmcLasting := true }))) ∧
  (∀ r u, Acts (.sramEccError r u) (fun m => wfRegion r = true ∧ m.sramOwner r = .sec) (fun m => m.secErr 1)) ∧
  (∀ (m : Mach) e b t, m.sramOwner (.engineLocal e) = .dom e ∧ m.sramOwner (.bayResult b) = .dom (m.engOf b) ∧
    m.sramOwner .zoneLocal = .dom 34 ∧ m.sramOwner .zoneResult = .dom 34 ∧ m.sramOwner (.logic t) = .dom (35 + t) ∧
    m.sramOwner .secPrivate = .sec ∧ m.sramOwner .rmcLocal = .rmc)

/-- Modulator clocks: a write of ACQ_CTRL is stored, and a clock whose enable it changes loses LOCK (R806); the PLL of an enabled clock
locks once, RELOCK set after a loss alone, and loses its lock; each of these shows on MCLK and gives the clock's ports a synchronising
reset (R30, R110, R806). Nothing else changes them. Ports: an enabled port on a locked clock that loses its transitions enters STUCK,
MOD_STUCK logged, a calibration of it ended and an error counted (R96); transitions again bring the reset of STUCK's end (R97). Enabling
gives a synchronising reset once the ports run, unless the port is fenced; disabling stops the port (R110, R763). GAIN and OFFSET are
stored; GAIN of a mapped port not in calibration is refused (R145). -/
def Obligations.ModulatorClocksAndPorts : Prop :=
  ((∀ ses x w, Acts (.mclkEnableWrite ses w) (fun m => m.mayWrite x ses .acqCtrl w)
      (fun m => (m.stored .acqCtrl w).mclkWritten (m.rd .acqCtrl) (m.newWord .acqCtrl w))) ∧
    (∀ (m : Mach) a b, F.acqCtrl_MCLK0_EN.get a = F.acqCtrl_MCLK0_EN.get b → F.acqCtrl_MCLK1_EN.get a = F.acqCtrl_MCLK1_EN.get b →
      m.mclkWritten a b = m) ∧
    (∀ (m : Mach) a b, F.acqCtrl_MCLK0_EN.get a ≠ F.acqCtrl_MCLK0_EN.get b → F.acqCtrl_MCLK1_EN.get a = F.acqCtrl_MCLK1_EN.get b →
      m.mclkWritten a b =
        (let m := m.setF .acqStat (Mach.mclkLockF 0) 0
         (({ m with acq := { m.acq with pllLost := setFlag m.acq.pllLost 0 false } } : Mach).mclkPins).clkReset 0)) ∧
    (∀ (m : Mach) a b, F.acqCtrl_MCLK0_EN.get a = F.acqCtrl_MCLK0_EN.get b → F.acqCtrl_MCLK1_EN.get a ≠ F.acqCtrl_MCLK1_EN.get b →
      m.mclkWritten a b =
        (let m := m.setF .acqStat (Mach.mclkLockF 1) 0
         (({ m with acq := { m.acq with pllLost := setFlag m.acq.pllLost 1 false } } : Mach).mclkPins).clkReset 1)) ∧
    (∀ c, Acts (.mclkPllLock c)
      (fun m => c < 2 ∧ m.mclkEn c = true ∧ m.flag .acqStat (Mach.mclkLockF c) = false)
      (fun m =>
        let m := m.setF .acqStat (Mach.mclkLockF c) 1
        let m := if m.acq.pllLost.getD c false then m.setF .acqStat (Mach.mclkRelockF c) 1 else m
        (({ m with acq := { m.acq with pllEver := setFlag m.acq.pllEver c true, pllLost := setFlag m.acq.pllLost c false } }
          : Mach).mclkPins).clkReset c)) ∧
    (∀ c, Acts (.mclkPllLock c) (fun m => c < 2 ∧ (m.mclkEn c = false ∨ m.flag .acqStat (Mach.mclkLockF c) = true)) (fun m => m)) ∧
    (∀ c, Acts (.mclkPllLoss c)
      (fun m => c < 2 ∧ m.mclkEn c = true ∧ m.flag .acqStat (Mach.mclkLockF c) = true)
      (fun m =>
        let m := m.setF .acqStat (Mach.mclkLockF c) 0
        (({ m with acq := { m.acq with pllLost := setFlag m.acq.pllLost c true } } : Mach).mclkPins).clkReset c)) ∧
    (∀ c, Acts (.mclkPllLoss c) (fun m => c < 2 ∧ (m.mclkEn c = false ∨ m.flag .acqStat (Mach.mclkLockF c) = false)) (fun m => m))) ∧
  ((∀ p, Acts (.modStuck p)
      (fun m => p < 16 ∧ m.portEn p = true ∧ m.fenced (52 + p) = false ∧ m.clkLocked p = true ∧ (m.port p).st ≠ .stuck ∧
        (m.port p).st ≠ .off)
      (fun m =>
        let m := ((m.setF (.modStat p) F.modStat_STUCK_SEEN 1).emit .modStuck p).calAbort p .stuck
        (m.updPort p (fun y => { y with st := .stuck, left := 0, resetPend := false })).domErr (52 + p) .stuck)) ∧
    (∀ p, Acts (.modStuckRecover p)
      (fun m => p < 16 ∧ m.portEn p = true ∧ m.fenced (52 + p) = false ∧ (m.port p).st = .stuck)
      (fun m => m.updPort p (fun y => { y with left := 18, resetPend := true }))) ∧
    (∀ p, Acts (.modStuckRecover p)
      (fun m => p < 16 ∧ (m.portEn p = false ∨ m.fenced (52 + p) = true ∨ (m.port p).st ≠ .stuck)) (fun m => m)) ∧
    (∀ ses x p w, Acts (.modPortEnable ses p w)
      (fun m => p < 16 ∧ m.mayWrite x ses (.modCfg p) w ∧ F.modCfg_EN.get (m.rd (.modCfg p)) = 0 ∧
        F.modCfg_EN.get (m.newWord (.modCfg p) w) = 1 ∧ 4 ≤ m.start.phase ∧ m.fenced (52 + p) = false)
      (fun m => (m.stored (.modCfg p) w).portReset p)) ∧
    (∀ (m : Mach) p, (m.port p).cal = none →
      m.portReset p = m.updPort p (fun y => { y with st := .settling, left := 18, resetPend := true })) ∧
    (∀ ses x p w, Acts (.modPortEnable ses p w)
      (fun m => p < 16 ∧ m.mayWrite x ses (.modCfg p) w ∧ F.modCfg_EN.get (m.rd (.modCfg p)) = 0 ∧
        F.modCfg_EN.get (m.newWord (.modCfg p) w) = 1 ∧ (m.start.phase < 4 ∨ m.fenced (52 + p) = true))
      (fun m => m.stored (.modCfg p) w)) ∧
    (∀ ses x p w, Acts (.modPortEnable ses p w)
      (fun m => p < 16 ∧ m.mayWrite x ses (.modCfg p) w ∧ F.modCfg_EN.get (m.rd (.modCfg p)) = 1 ∧
        F.modCfg_EN.get (m.newWord (.modCfg p) w) = 0)
      (fun m => ((m.stored (.modCfg p) w).calAbort p .off).updPort p
        (fun y => { y with st := .off, left := 0, resetPend := false, runFrames := 0 }))) ∧
    (∀ ses x p w, Acts (.modGainOffsetWrite ses p true w) (fun m => p < 16 ∧ m.mayWrite x ses (.modGain p) w)
      (fun m => m.stored (.modGain p) w)) ∧
    (∀ ses x p w, Acts (.modGainOffsetWrite ses p false w) (fun m => p < 16 ∧ m.mayWrite x ses (.modOffset p) w)
      (fun m => m.stored (.modOffset p) w)) ∧
    (∀ (m : Mach) who p w, m.portMapped p = true → (m.port p).st ≠ .cal → (m.regCheck who (.modGain p) w).isSome = true))

/-- Coefficients: a write of COEF_DATA puts its low 24 bits at the tap, stage, bank and group of COEF_ADDR and goes on to the next tap,
after the last to 0; a read only goes on (R104). A write of SWGg_CTRL with ARM 1 names the frame of the swap: that of SWGg_FSEQ as it
stands (log entry 58), or that of the second trigger from now; with ARM 0 none (R105, R106). -/
def Obligations.CoefficientAccessAndSwap : Prop :=
  (∀ ses x w, Acts (.coefDataAccess ses (some w)) (fun m => m.mayWrite x ses .coefData w)
    (fun m =>
      let g := m.fld .coefAddr F.coefAddr_GROUP
      let b := m.fld .coefAddr F.coefAddr_BANK
      let t := m.fld .coefAddr F.coefAddr_TAP
      let v : Int := (w.setWidth 24).toInt
      let c := m.bank g b
      let c' := if m.fld .coefAddr F.coefAddr_STAGE = 0 then (setAt c.1 t v, c.2) else (c.1, setAt c.2 t v)
      let x' := if b = 0 then { m.swg g with bankA := some c' } else { m.swg g with bankB := some c' }
      ({ m with acq := { m.acq with swgs := SMap.put m.acq.swgs g x' } } : Mach).setF .coefAddr F.coefAddr_TAP
        (if (if m.fld .coefAddr F.coefAddr_STAGE = 0 then 63 else 159) ≤ t then 0 else t + 1))) ∧
  (∀ ses x, Acts (.coefDataAccess ses none) (fun m => m.sess ses = some x ∧ m.start.recovery = false)
    (fun m => m.setF .coefAddr F.coefAddr_TAP
      (if (if m.fld .coefAddr F.coefAddr_STAGE = 0 then 63 else 159) ≤ m.fld .coefAddr F.coefAddr_TAP then 0
       else m.fld .coefAddr F.coefAddr_TAP + 1))) ∧
  (∀ ses x g w, Acts (.swapArm ses g w) (fun m => g < 4 ∧ m.mayWrite x ses (.swgCtrl g) w)
    (fun m =>
      let n := m.newWord (.swgCtrl g) w
      let m := m.stored (.swgCtrl g) w
      let at' : Option Word :=
        if F.swgCtrl_ARM.get n = 0 then none
        else if F.swgCtrl_USE_FSEQ.get n = 1 then some (m.rd (.swgFseq g))
        else some (if m.fr.started then m.fr.fseq + 2 else 1)
      { m with acq := { m.acq with swgs := SMap.put m.acq.swgs g { m.swg g with swapAt := at' } } }))

/-- Sampled values: an APDU of one to eight ASDUs on an UP lane is taken ASDU by ASDU for the enabled subscription that names it, the least
latency of its samples kept if above the second's greatest (R115, R123); one no subscription names, or on another lane, changes nothing.
The resampler's value for a frame is kept up to the cut-off that uses it and counted as late after it (R118). Without a sample for
STREAM_TMO an OK subscription is LOST, with its error (R124). EN puts a subscription in the table, and, once subscriptions run, WAITING
(R534). -/
def Obligations.SampledValues : Prop :=
  (∀ ln mac appid sim l n, Acts (.svApduReceive ⟨ln, mac⟩ appid sim l)
    (fun m => ln < 4 ∧ m.ethUp ln = true ∧ m.subFor false mac appid = some n ∧ (m.sub n).st ≠ 0 ∧ m.fenced (68 + n) = false ∧
      0 < l.length ∧ l.length ≤ 8)
    (fun m =>
      let arr := m.svArrival ln
      let lats := (l.filter (fun a => m.svMatch n a)).map (fun a => (ratRound (arr - m.svInstant n arr a.smpCnt)).toNat)
      let m := forEach l m (fun m a => m.svAsdu n sim arr a)
      match lats with
      | [] => m
      | e :: r => m.updSub n (fun y => { y with latMax := max y.latMax (r.foldl min e) }))) ∧
  (∀ ln mac appid sim l, Acts (.svApduReceive ⟨ln, mac⟩ appid sim l)
    (fun m => ln < 4 ∧ (m.ethUp ln = false ∨ m.subFor false mac appid = none)) (fun m => m)) ∧
  (∀ n k e, Acts (.resampleComplete n k)
    (fun m => n < 64 ∧ (m.sub n).st ≠ 0 ∧ m.fenced (68 + n) = false ∧ (m.sub n).ents.any (fun e => decide (e.fseq = k)) = false ∧
      m.resample n k = some e)
    (fun m =>
      let d := sdiff32 m.fr.fseq (k + wd (m.fld .frmCfg F.frmCfg_D_ALIGN))
      if 0 < d ∨ (d = 0 ∧ m.fr.cutOff = true) then m.bump (.svsLateCnt n) F.svsLateCnt_LATE 1
      else m.updSub n (fun y => { y with ents := (e :: y.ents).take 64 }))) ∧
  (∀ n k, Acts (.resampleComplete n k)
    (fun m => n < 64 ∧ ((m.sub n).st = 0 ∨ m.fenced (68 + n) = true ∨ m.resample n k = none)) (fun m => m)) ∧
  (∀ n, Acts (.svStreamTimeout n)
    (fun m => n < 64 ∧ (m.sub n).st = 2 ∧ m.fld (.svsCfg n) F.svsCfg_STREAM_TMO * 100000 ≤ m.since (m.sub n).lastMon)
    (fun m => ((m.updSub n (fun y => { y with st := 3, wasLost := true, run := 0 })).emit .svLost n).domErr (68 + n) .svLost)) ∧
  (∀ n, Acts (.svStreamTimeout n)
    (fun m => n < 64 ∧ ((m.sub n).st ≠ 2 ∨ m.since (m.sub n).lastMon < m.fld (.svsCfg n) F.svsCfg_STREAM_TMO * 100000)) (fun m => m)) ∧
  (∀ ses x n w, Acts (.svSubscriptionEnable ses n w)
    (fun m => n < 64 ∧ m.mayWrite x ses (.svsCfg n) w ∧ F.svsCfg_EN.get (m.rd (.svsCfg n)) = 0 ∧
      F.svsCfg_EN.get (m.newWord (.svsCfg n) w) = 1 ∧ 4 ≤ m.start.phase)
    (fun m => ((m.stored (.svsCfg n) w).subAdd n).updSub n
      (fun x => { x with st := 1, wasLost := false, hist := [], run := 0, ents := [] }))) ∧
  (∀ ses x n w, Acts (.svSubscriptionEnable ses n w)
    (fun m => n < 64 ∧ m.mayWrite x ses (.svsCfg n) w ∧ F.svsCfg_EN.get (m.rd (.svsCfg n)) = 0 ∧
      F.svsCfg_EN.get (m.newWord (.svsCfg n) w) = 1 ∧ m.start.phase < 4)
    (fun m => (m.stored (.svsCfg n) w).subAdd n))

/-- A calibration measurement whose CAL_FRAMES outputs are in stores their rounded mean and root mean square, sets CAL_DONE and starts anew
(R148). The transient ring stops when no output after the trigger is missing (R654). Stopped, it is copied into its record, 7200 outputs
of each port with zeros before a shorter ring, and starts again (R149). -/
def Obligations.CalibrationAndTransientRing : Prop :=
  (∀ p k, Acts (.calMeasurementDone p)
    (fun m => p < 16 ∧ (m.port p).cal = some k ∧ 0 < k.n ∧ k.n ≤ k.frames)
    (fun m =>
      let m := m.setF (.modCalMean p) F.modCalMean_CAL_MEAN (toBits 32 (ratRound (((k.sum : Int) : Rat) / ((k.n : Nat) : Rat))))
      let m := (m.setF (.modCalRms p) F.modCalRms_CAL_RMS (sqrtRound k.sumSq k.n)).setF (.modStat p) F.modStat_CAL_DONE 1
      m.updPort p (fun x => { x with cal := some { k with n := m.fld .acqCtrl F.acqCtrl_CAL_FRAMES, sum := 0, sumSq := 0,
                                                            frames := 0 } }))) ∧
  (∀ p, Acts (.calMeasurementDone p)
    (fun m => p < 16 ∧ ∀ k, (m.port p).cal = some k → k.n = 0 ∨ k.frames < k.n) (fun m => m)) ∧
  Acts .transientCaptureStop (fun m => m.recs.dr.trStopAt = some 0)
    (fun m => m.updDr (fun d => { d with trStopAt := none, trStopped := true })) ∧
  Acts .transientCaptureStop (fun m => m.recs.dr.trStopAt ≠ some 0) (fun m => m) ∧
  (∀ n, Acts .transientCopyDone (fun m => m.recs.dr.trStopped = true ∧ m.recs.dr.trRec = some n)
    (fun m =>
      let d := m.recs.dr
      let sec : TrSection := d.trRing.map (fun p => (p.1, List.replicate (7200 - p.2.length) 0 ++ p.2))
      let first : Int := (d.trLast.toNat : Int) - 7199 * 62500 / 9 - 57210
      let put (r : DrRec) : DrRec :=
        if r.recNo = n then
          { r with tr := sec, trFirst := BitVec.ofInt 64 first, trPorts := bitsOf 16 (fun p => sec.any (fun x => x.1 = p)) }
        else r
      m.updDr (fun d => { d with
        stored := d.stored.map put
        run := d.run.map (fun (r : DrRun) => { r with body := put r.body })
        trRing := [], trStopped := false, trRec := none })))

/-- Register writes of a bay: MODE is stored (R158); CLR_ENERGY, CNT_CLR, START_CLR and THETA_RESET mark the clear of the energy counters,
of a motor's hours and count, of its start ages, of its theta with THETA_RESET logged (R223, R251, R268, R269). At a trigger the marks
pass to the frame that the bay's engine computes, and are carried out at once in a bay that none computes. Latch bits are cleared where
nothing would set them again (R341). -/
def Obligations.BayRegisterWrites : Prop :=
  (∀ ses x b k, Acts (.bayModeWrite ses b k)
    (fun m => b < 32 ∧ k < 3 ∧ m.mayWrite x ses (.bayCtrl b) (m.withFields (.bayCtrl b) [(F.bayCtrl_MODE, k)]) ∧
      F.bayCtrl_CLR_ENERGY.get (m.withFields (.bayCtrl b) [(F.bayCtrl_MODE, k)]) = 0)
    (fun m => m.stored (.bayCtrl b) (m.withFields (.bayCtrl b) [(F.bayCtrl_MODE, k)]))) ∧
  (∀ ses x b, Acts (.clrEnergy ses b)
    (fun m => b < 32 ∧ m.mayWrite x ses (.bayCtrl b) (m.withFields (.bayCtrl b) [(F.bayCtrl_CLR_ENERGY, 1)]) ∧
      F.bayCtrl_CLR_ENERGY.get (m.withFields (.bayCtrl b) [(F.bayCtrl_CLR_ENERGY, 1)]) ≠ 0)
    (fun m => (m.stored (.bayCtrl b) (m.withFields (.bayCtrl b) [(F.bayCtrl_CLR_ENERGY, 1)])).updBay b
      (fun x => { x with clrEnergy := true }))) ∧
  (∀ ses x b w, Acts (.bayLatchClear ses b w) (fun m => b < 32 ∧ m.mayWrite x ses (.bayLatch b) w)
    (fun m =>
      let go := (w &&& ~~~ m.fresh1Of (.bayLatch b)).toNat % 8 &&& (7 - m.latchSetters b)
      let m := m.wr (.bayLatch b) (m.rd (.bayLatch b) &&& ~~~ (wd go))
      if go.testBit 2 then m.updBay b (fun x => { x with outLatch := 0 }) else m)) ∧
  (∀ ses x b, Acts (.motCntClr ses b) (fun m => b < 32 ∧ m.mayWrite x ses (.bayMotCtrl b) 4)
    (fun m => (m.stored (.bayMotCtrl b) 4).updBay b (fun x => { x with clrMot := x.clrMot ||| 4 }))) ∧
  (∀ ses x b, Acts (.motStartClr ses b) (fun m => b < 32 ∧ m.mayWrite x ses (.bayMotCtrl b) 2)
    (fun m => (m.stored (.bayMotCtrl b) 2).updBay b (fun x => { x with clrMot := x.clrMot ||| 2 }))) ∧
  (∀ ses x b, Acts (.motThetaReset ses b) (fun m => b < 32 ∧ m.mayWrite x ses (.bayMotCtrl b) 1)
    (fun m => ((m.stored (.bayMotCtrl b) 1).emit .thetaReset b).updBay b (fun x => { x with clrMot := x.clrMot ||| 1 }))) ∧
  (∀ x : Bay, x.mode ≠ 0 → x.unprot = false → Mach.Bay.clears x =
    { x with clrMot := 0, clrEnergy := false, clrMotNow := x.clrMotNow ||| x.clrMot, clrEnergyNow := x.clrEnergyNow || x.clrEnergy }) ∧
  (∀ x : Bay, (x.mode = 0 ∨ x.unprot = true) → (Mach.Bay.clears x).d.mot = x.d.mot.clear (x.clrMotNow ||| x.clrMot) ∧
    ((x.clrEnergyNow || x.clrEnergy) = true → (Mach.Bay.clears x).d.energy = [0, 0, 0, 0] ∧ (Mach.Bay.clears x).pub.energy = [0, 0, 0, 0])) ∧
  (∀ m : Mot, m.clear 1 = { m with theta := 0 } ∧ m.clear 2 = { m with starts := [] } ∧
    m.clear 4 = { m with runFrames := 0, nStarts := 0 })

/-- Instants of class A stitches, on a unit that acts (R352, R588). At B a stitch with participants, its PREPARE sent, is bound when every
READY is in and its close may go on, and is dropped when one is missing, each station without one an error (R347, R348). At T_C a bound
one carries out its own actions and ends (R326). A close that may not go on is dropped with INTERLOCK at either (R356). A passive unit
leaves them, and before its instant nothing happens. A selection not operated within SEL_TMO is dropped (R354). Repetitions: 250 µs
after the last one an ABORT goes to every participant again, until T_C, when it ends (R348); an unacknowledged remote command is sent
again, and 250 µs after its 20th transmission is left UNACKED, logged, counted and an error of the station (R335, R336); earlier than
that nothing is sent. A bay's demand, or the zone's, that has lasted the TRIP_MIN captured with it is held no longer (R340, R370). -/
def Obligations.StitchInstantsAndRepetitions : Prop :=
  ((∀ id t, Acts (.prepareDeadline id)
      (fun m => m.passive = false ∧ m.stitch id = some t ∧ t.parts ≠ [] ∧ t.prepSent = true ∧ t.st = .prepared ∧ t.b ≤ m.ltc)
      (fun m =>
        if m.closeOk t then (m.updStitch id (fun x => { x with st := .bound, bindLtc := m.ltc })).bindA { t with st := .bound, bindLtc := m.ltc }
        else m.stitchDrop id 2)) ∧
    (∀ id t, Acts (.prepareDeadline id)
      (fun m => m.passive = false ∧ m.stitch id = some t ∧ t.parts ≠ [] ∧ t.prepSent = true ∧ t.st ≠ .prepared ∧ t.st ≠ .bound ∧
        t.b ≤ m.ltc)
      (fun m => forEach (t.parts.filter (fun p => !p.2)) (m.stitchDrop id 3) (fun m p => match m.staOf p.1 with
        | some e => m.staErr e
        | none => m))) ∧
    (∀ id, Acts (.prepareDeadline id)
      (fun m => ∀ t, m.stitch id = some t → m.passive = true ∨ t.parts = [] ∨ t.prepSent = false ∨ t.st = .bound ∨ m.ltc < t.b)
      (fun m => m)) ∧
    (∀ id t, Acts (.commitInstant id)
      (fun m => m.passive = false ∧ m.stitch id = some t ∧ t.st = .bound ∧ t.tc ≤ m.ltc)
      (fun m =>
        if m.closeOk t then
          let a := (t.acts.filter (fun a => !a.isRemote)).foldl (Mach.doAct id (m.stitchTest t) (m.stitchDrive t.bay)) (m, [])
          ((a.1.gooseFlush a.2).doSync).finishA t
        else m.stitchDrop id 2)) ∧
    (∀ id, Acts (.commitInstant id)
      (fun m => ∀ t, m.stitch id = some t → m.passive = true ∨ t.st ≠ .bound ∨ m.ltc < t.tc) (fun m => m)) ∧
    (∀ id t, Acts (.selectionTimeout id)
      (fun m => m.stitch id = some t ∧ t.st = .opened ∧ t.obj.isSome = true ∧ t.selTmo * 1000000000 ≤ m.since t.castMon)
      (fun m => m.stitchDrop id 8)) ∧
    (∀ id, Acts (.selectionTimeout id)
      (fun m => ∀ t, m.stitch id = some t → t.st ≠ .opened ∨ t.obj = none ∨ m.since t.castMon < t.selTmo * 1000000000) (fun m => m))) ∧
  ((∀ id a, Acts (.abortRepeat id)
      (fun m => m.stu.aborts.find? (fun a => a.stitch = id) = some a ∧ m.ltc < a.tc ∧ usNs 250 ≤ m.since a.lastMon)
      (fun m =>
        let m := forEach a.parts m (fun m p => m.glxTo p.1 32 0x33 p.2 id [])
        { m with stu := { m.stu with
            aborts := m.stu.aborts.map (fun x => if x.stitch = id then { x with lastMon := m.mon } else x) } })) ∧
    (∀ id a, Acts (.abortRepeat id)
      (fun m => m.stu.aborts.find? (fun a => a.stitch = id) = some a ∧ a.tc ≤ m.ltc)
      (fun m => { m with stu := { m.stu with aborts := m.stu.aborts.filter (fun x => x.stitch ≠ id) } })) ∧
    (∀ id, Acts (.abortRepeat id)
      (fun m => ∀ a, m.stu.aborts.find? (fun a => a.stitch = id) = some a → m.ltc < a.tc ∧ m.since a.lastMon < usNs 250) (fun m => m)) ∧
    (∀ d p c, Acts (.remoteCmdRepeat d p)
      (fun m => m.stu.cmds.find? (fun c => decide (c.devid = d ∧ c.point = p)) = some c ∧ c.sent < 20 ∧ usNs 250 ≤ m.since c.lastMon)
      (fun m =>
        let m := m.glxTo d (32 + if c.test then 64 else 0) 0x20 c.seq c.stitch (glxCmds [(p, c.val)])
        { m with stu := { m.stu with cmds := m.stu.cmds.map (fun x =>
            if x.devid = d ∧ x.point = p then { x with sent := x.sent + 1, lastMon := m.mon } else x) } })) ∧
    (∀ d p c, Acts (.remoteCmdRepeat d p)
      (fun m => m.stu.cmds.find? (fun c => decide (c.devid = d ∧ c.point = p)) = some c ∧ 20 ≤ c.sent ∧ usNs 250 ≤ m.since c.lastMon)
      (fun m =>
        let m := { m with stu := { m.stu with cmds := m.stu.cmds.filter (fun x => !(decide (x.devid = d ∧ x.point = p))) } }
        let m := ((m.setRemote c.stitch 3).emit .remoteNoack d).bump .stuCntNoack F.stuCntNoack_COUNT 1
        match m.staOf d with
        | some e => m.staErr e
        | none => m)) ∧
    (∀ d p, Acts (.remoteCmdRepeat d p)
      (fun m => ∀ c, m.stu.cmds.find? (fun c => decide (c.devid = d ∧ c.point = p)) = some c → m.since c.lastMon < usNs 250) (fun m => m)) ∧
    (∀ b, Acts (.tripMinExpiry b) (fun _ => b < 32)
      (fun m => m.updBay b (fun x => { x with
        dBrk := Mach.Demand.expire m x.dBrk, dXfer := Mach.Demand.expire m x.dXfer, dOut := x.dOut.map (fun p => (p.1, Mach.Demand.expire m p.2)) }))) ∧
    Acts (.tripMinExpiry 32) (fun _ => True)
      (fun m => { m with zone := { m.zone with dOut := m.zone.dOut.map (fun p => (p.1, Mach.Demand.expire m p.2)) } }) ∧
    (∀ (m : Mach) (d : Demand), Mach.Demand.expire m d = { d with held := d.held && decide (m.since d.onMon < msNs d.tmin) }))

/-- Field inputs. Each of the three rows tells what the terminal of an input has read up to now, and the input takes the samples of it
(R373, R375). A sample is ON from 11 V with 2 mA, OFF to 5 V or 1.5 mA, and between them repeats the one before (R373). The debounced
state follows samples alike for DEB_US, in whole strobes in pulsed mode (R377). A wire-break class is one of open, kept, normal, kept,
high by the sample current (R380); classes that stay BREAK, or not, for WB_TIME set and clear BREAK (R381), which is kept outside NORMAL
(R382). A change of BREAK is logged, a sink newly out of band is an error of the input group, and a light sensor's ON sets its held flag
(R305, R381, R702). Diagnostics of the outputs. A scan, no sooner than 10 ms after the last, takes the currents; in NORMAL it then
observes every output commanded off and checks every conducting one (R396, R398, R401). 1 ms after a change the other outputs commanded
off are observed (R397). A current limit of 1 ms takes the stage off, the fourth time for good; the stage retries 100 ms, a trip output
10 ms, after it, three times (R398, R399). A conducting output that has read back high under 3 mA for 10 ms is OPEN_LOAD in NORMAL
(R400). A trip output's conduction above 1.0 A is kept for 10 s; longer than 250 ms at once, or than 1.5 s of them, it sets DUTY_WARN
and is logged (R390). -/
def Obligations.FieldInputsAndDiagnostics : Prop :=
  ((∀ x l, ActsLive (.diDebounce x l) (fun _ => x < 32) (fun m => m.diTake x l)) ∧
    (∀ x l, ActsLive (.wireBreakChange x l) (fun _ => x < 32) (fun m => m.diTake x l)) ∧
    (∀ x l, ActsLive (.inputSinkCheck x l) (fun _ => x < 32) (fun m => m.diTake x l)) ∧
    (∀ (m : Mach) x mv ua us, m.diTake x [(mv, ua, us)] =
      (m.diRun x (m.di x).mv (m.di x).ua (usNs us)).diRun x mv ua 0) ∧
    (∀ (m : Mach) x mv ua, m.diRun x mv ua 0 =
      (let d := m.di x
       let n := m.sampled d 0 - m.sampled d (m.since d.takenMon)
       let e := { d with mv := mv, ua := ua, takenMon := m.mon }
       m.diPut x (if n = 0 then e
         else e.samples n mv ua (10 * m.fio.strobe) (m.flag (.diOpt x) F.diOpt_WB_EN) (decide (m.fio.band = 0))))) ∧
    (∀ (d : Di) mv ua, d.next mv ua =
      (if 11000 ≤ mv ∧ 2000 ≤ ua then true else if mv ≤ 5000 ∨ ua ≤ 1500 then false else d.smp)) ∧
    (∀ (d : Di) n mv ua us wb norm, (d.samples n mv ua us wb norm).smp = d.next mv ua ∧
      (d.samples n mv ua us wb norm).deb =
        (if (if d.pulsed = true ∧ us ≠ 0 then (F.diCfg_DEB_US.get d.cfg + us - 1) / us else F.diCfg_DEB_US.get d.cfg) ≤
            (if d.next mv ua = d.smp then d.run + n else n) then d.next mv ua else d.deb)) ∧
    (∀ (d : Di) n mv ua us, (d.samples n mv ua us true false).brk = d.brk) ∧
    (∀ old na, wireClass old na = (if na < 250000 then 0 else if na < 350000 then old else if na ≤ 1500000 then 1
      else if na ≤ 2000000 then old else 2)) ∧
    (∀ (d : Di) k us, 0 < k →
      (d.classes 0 k us).brk = (d.brk || decide (F.diCfg_WB_TIME.get d.cfg * 10000 ≤ d.brkUs + k * us))) ∧
    (∀ (d : Di) c k us, 0 < k → 0 < c → 0 < F.diCfg_WB_TIME.get d.cfg →
      (d.classes c k us).brk = (d.brk && decide (d.okUs + k * us < F.diCfg_WB_TIME.get d.cfg * 10000))) ∧
    (∀ (m : Mach) x d, d.brk = true → (m.di x).brk = false → (d.sinkBad = false ∨ (m.di x).sinkBad = true) →
      (d.deb = false ∨ (m.di x).deb = true) → m.diPut x d = (m.updDi x (fun _ => d)).emit .diBreak x) ∧
    (∀ (m : Mach) x d, d.brk = false → (m.di x).brk = true → (d.sinkBad = false ∨ (m.di x).sinkBad = true) →
      (d.deb = false ∨ (m.di x).deb = true) → m.diPut x d = (m.updDi x (fun _ => d)).emit .diBreakEnd x) ∧
    (∀ (m : Mach) x d, d.brk = (m.di x).brk → d.sinkBad = true → (m.di x).sinkBad = false →
      (d.deb = false ∨ (m.di x).deb = true) → m.diPut x d = (m.updDi x (fun _ => d)).domErr (48 + x / 8) .sink) ∧
    (∀ (m : Mach) x d, d.brk = (m.di x).brk → (d.sinkBad = false ∨ (m.di x).sinkBad = true) → d.deb = true → (m.di x).deb = false →
      (m.updDi x (fun _ => d)).diLight x = true → (m.updDi x (fun _ => d)).diFenced x = false →
      m.diPut x d = (let m := m.updDi x (fun _ => d); { m with zone := { m.zone with lightSet := m.zone.lightSet ||| 2 ^ x } }))) ∧
  ((∀ rbp rb0 rbOn cur, ActsLive (.outputDiagScan rbp rb0 rbOn cur)
      (fun m => (∀ t, m.fio.scanMon = some t → msNs 10 ≤ m.since t) ∧ m.fio.band = 0)
      (fun m => forEach (List.range 16) (({ m with fio := { m.fio with scanMon := some m.mon } } : Mach).curSet cur) (fun m y =>
        if !m.cmdOn y then m.observe rbp rb0 y
        else if !m.conducts y then m
        else
          let m := m.updDo y (fun d => { d with rb := rbOn.testBit y })
          let low := decide ((m.doSt y).cur < 3)
          if !rbOn.testBit y && low then m.setClass y 6 0
          else if rbOn.testBit y && low && decide ((m.doSt y).fault = 1) then m
          else m.setClass y 0 0))) ∧
    (∀ rbp rb0 rbOn cur, ActsLive (.outputDiagScan rbp rb0 rbOn cur)
      (fun m => (∀ t, m.fio.scanMon = some t → msNs 10 ≤ m.since t) ∧ m.fio.band ≠ 0)
      (fun m => ({ m with fio := { m.fio with scanMon := some m.mon } } : Mach).curSet cur)) ∧
    (∀ rbp rb0 rbOn cur t, ActsLive (.outputDiagScan rbp rb0 rbOn cur) (fun m => m.fio.scanMon = some t ∧ m.since t < msNs 10)
      (fun m => m)) ∧
    (∀ y rbp rb0 p, ActsLive (.outputChangeObservation y rbp rb0)
      (fun m => y < 16 ∧ m.fio.obsPend.find? (fun p => p.1 = y) = some p ∧ msNs 1 ≤ m.since p.2)
      (fun m =>
        let m := { m with fio := { m.fio with obsPend := m.fio.obsPend.erase p } }
        if m.fio.band ≠ 0 then m
        else forEach ((List.range 16).filter (fun z => z ≠ y)) m (fun m z => if m.cmdOn z then m else m.observe rbp rb0 z))) ∧
    (∀ y rbp rb0, ActsLive (.outputChangeObservation y rbp rb0)
      (fun m => y < 16 ∧ ∀ p, m.fio.obsPend.find? (fun p => p.1 = y) = some p → m.since p.2 < msNs 1) (fun m => m)) ∧
    (∀ y us ma, ActsLive (.shortToM ⟨y, us, ma⟩) (fun m => y < 16 ∧ 1000 ≤ us ∧ m.conducts y = true)
      (fun m => (m.updDo y (fun d => { d with cur := ma, heldOff := true, dead := decide (3 ≤ d.retries), shortMon := m.mon })).setClass
        y 2 0)) ∧
    (∀ y us ma, ActsLive (.shortToM ⟨y, us, ma⟩) (fun m => y < 16 ∧ (us < 1000 ∨ m.conducts y = false)) (fun m => m)) ∧
    (∀ y, ActsLive (.shortRetry y)
      (fun m => y < 16 ∧ (m.doSt y).heldOff = true ∧ (m.doSt y).dead = false ∧ m.cmdOn y = true ∧ (m.doSt y).retries < 3 ∧
        msNs (if y < 12 then 100 else 10) ≤ m.since (m.doSt y).shortMon)
      (fun m => m.updDo y (fun d => { d with heldOff := false, retries := d.retries + 1 }))) ∧
    (∀ y, ActsLive (.shortRetry y)
      (fun m => y < 16 ∧ ((m.doSt y).heldOff = false ∨ (m.doSt y).dead = true ∨ m.cmdOn y = false ∨ 3 ≤ (m.doSt y).retries ∨
        m.since (m.doSt y).shortMon < msNs (if y < 12 then 100 else 10))) (fun m => m)) ∧
    (∀ y us ma, ActsLive (.openLoadOnState ⟨y, us, ma⟩)
      (fun m => y < 16 ∧ 10000 ≤ us ∧ ma < 3 ∧ m.conducts y = true ∧ m.fio.band = 0)
      (fun m => (m.setClass y 1 0).updDo y (fun d => { d with openOn := true, cur := ma, rb := true }))) ∧
    (∀ y us ma, ActsLive (.openLoadOnState ⟨y, us, ma⟩)
      (fun m => y < 16 ∧ (us < 10000 ∨ 3 ≤ ma ∨ m.conducts y = false ∨ m.fio.band ≠ 0)) (fun m => m)) ∧
    (∀ y us ma, ActsLive (.tripDuty ⟨y, us, ma⟩) (fun m => 12 ≤ y ∧ y < 16 ∧ m.conducts y = true)
      (fun m =>
        let d := m.doSt y
        let l := if 1000 < ma then Mach.condAdd m.mon us d.cond else d.cond
        let new := decide (l.head?.map (·.1) ≠ d.cond.head?.map (·.1))
        let long := decide (1000 < ma) && l.head?.any (fun c => decide (msNs 250 < c.2))
        let much := decide (msNs 1500 < Mach.condSum m.mon l)
        let m := m.updDo y (fun d => { d with cur := ma, cond := l, condLong := long || (!new && d.condLong), condMuch := much })
        if (long && (new || !d.condLong)) || (much && !d.condMuch) then (m.setF (.doStat y) F.doStat_DUTY_WARN 1).emit .tripDuty y
        else m)) ∧
    (∀ y us ma, ActsLive (.tripDuty ⟨y, us, ma⟩) (fun m => y < 16 ∧ (y < 12 ∨ m.conducts y = false)) (fun m => m)))

/-- The field supply. Each of the six rows tells FL_P, which is measured; the band then follows it (R401, R402): below 10 V LOCKOUT, below
15 V for more than 1 ms LOW, back to NORMAL from 19.4 V, to SAG below 19.2 V and, from LOW, from 15 V; out of LOCKOUT after 5 ms from 16
V, and after a reset 5 ms from its release. Entries are logged; LOW and LOCKOUT set Q_FLD_LOW on every input; LOCKOUT keeps which
outputs were commanded on, and at its end those of DO0 to DO11 still commanded on wait for a fresh command (R403). -/
def Obligations.FieldSupplyBands : Prop :=
  (∀ mv us, ActsLive (.fldSagEntry ⟨mv, us⟩) (fun _ => True) (fun m => (m.flpSet mv us).bandStep)) ∧
  (∀ mv us, ActsLive (.fldLowEntry ⟨mv, us⟩) (fun _ => True) (fun m => (m.flpSet mv us).bandStep)) ∧
  (∀ mv us, ActsLive (.fldLowExit ⟨mv, us⟩) (fun _ => True) (fun m => (m.flpSet mv us).bandStep)) ∧
  (∀ mv us, ActsLive (.fldLockoutEntry ⟨mv, us⟩) (fun _ => True) (fun m => (m.flpSet mv us).bandStep)) ∧
  (∀ mv us, ActsLive (.fldLockoutEnd ⟨mv, us⟩) (fun _ => True) (fun m => (m.flpSet mv us).bandStep)) ∧
  (∀ mv us, ActsLive (.fldNormalReturn ⟨mv, us⟩) (fun _ => True) (fun m => (m.flpSet mv us).bandStep)) ∧
  (∀ (m : Mach) mv us,
    let r := m.flpSet mv us
    let t := m.mon - tm (min (usNs us) (m.since m.fio.flpMon))
    r.fio.flpMv = min mv 65535 ∧ r.fio.band = m.fio.band ∧
    (mv < 15000 → r.fio.low15 = some (m.fio.low15.getD t) ∧ r.fio.since15 = none ∧ r.fio.hi16 = none) ∧
    (15000 ≤ mv → r.fio.low15 = none ∧ r.fio.since15 = some (m.fio.since15.getD t)) ∧
    (16000 ≤ mv → r.fio.hi16 = some (m.fio.hi16.getD t))) ∧
  (∀ m : Mach, m.bandMove = none → m.bandStep = m) ∧
  (∀ m : Mach, m.fio.band ≠ 3 → m.fio.flpMv < 10000 →
    m.bandStep =
      (let m := (m.setBand 3).allLow
       let m := { m with fio := { m.fio with lockCmds := m.cmdMask, resetLock := false } }
       (m.setF .fioStat F.fioStat_LOCK_SEEN 1).emit .fldLockout 0)) ∧
  (∀ (m : Mach) t, m.fio.band < 2 → 10000 ≤ m.fio.flpMv → m.fio.flpMv < 15000 → m.fio.low15 = some t → msNs 1 < m.since t →
    m.bandStep = (((m.setBand 2).allLow).setF .fioStat F.fioStat_LOW_SEEN 1).emit .fldLow 0) ∧
  (∀ m : Mach, (m.fio.band = 1 ∨ m.fio.band = 2) → 19400 ≤ m.fio.flpMv → m.bandStep = m.setBand 0) ∧
  (∀ m : Mach, (m.fio.band = 0 ∧ m.fio.flpMv < 19200 ∨ m.fio.band = 2 ∧ m.fio.flpMv < 19400) → 15000 ≤ m.fio.flpMv →
    m.bandStep = ((m.setBand 1).setF .fioStat F.fioStat_SAG_SEEN 1).emit .fldSag 0) ∧
  (∀ (m : Mach) t, m.fio.band = 3 → m.fio.hi16 = some t → msNs 5 ≤ m.since t →
    (m.fio.resetLock = true → msNs 5 ≤ m.since m.start.resetMon) →
    m.bandStep =
      (let m := forEach (List.range 12) m (fun m y =>
         if m.fio.lockCmds.testBit y && m.cmdOn y then m.updDo y (fun d => { d with wait := true }) else m)
       let m := ({ m with fio := { m.fio with lockEndMon := m.mon, lockCmds := 0, resetLock := false } } : Mach).emit .fldRestore 0
       if 19400 ≤ m.fio.flpMv then m.setBand 0 else ((m.setBand 1).setF .fioStat F.fioStat_SAG_SEEN 1).emit .fldSag 0)) ∧
  (∀ m : Mach, m.fio.band = 3 → (∀ t, m.fio.hi16 = some t → m.since t < msNs 5) → m.bandStep = m) ∧
  (∀ m : Mach, (m.fio.band = 0 ∧ 19200 ≤ m.fio.flpMv ∨ m.fio.band = 1 ∧ 15000 ≤ m.fio.flpMv ∧ m.fio.flpMv < 19400) → m.bandStep = m)

/-- DOy_CFG is stored when no rule refuses it; one for an output commanded on, or CLOSE of a trip output, is refused (R408). Output tests
whose TIME has passed, and they alone, give the commanded state back (R726). -/
def Obligations.OutputConfigurationAndTest : Prop :=
  (∀ ses x y w, Acts (.doCfgWrite ses y w) (fun m => y < 16 ∧ m.mayWrite x ses (.doCfg y) w) (fun m => m.stored (.doCfg y) w)) ∧
  (∀ (m : Mach) who y w, m.cmdOn y = true → (m.regCheck who (.doCfg y) w).isSome = true) ∧
  (∀ (m : Mach) who y w, 12 ≤ y → F.doCfg_CLOSE.get (m.newWord (.doCfg y) w) = 1 → (m.regCheck who (.doCfg y) w).isSome = true) ∧
  Acts .outTestEnd (fun m => ∃ o ∈ m.cmd.outTests, (o.2.2.2 - m.mon).toInt ≤ 0)
    (fun m => (forEach (m.cmd.outTests.filter (fun (o : Nat × Nat × Bool × Time) => decide ((o.2.2.2 - m.mon).toInt ≤ 0)))
      { m with cmd := { m.cmd with outTests := m.cmd.outTests.filter (fun (o : Nat × Nat × Bool × Time) => decide (0 < (o.2.2.2 - m.mon).toInt)) } }
      (fun m (o : Nat × Nat × Bool × Time) => m.updDo o.2.1 (fun d => { d with test := none }))).doSync) ∧
  Acts .outTestEnd (fun m => ∀ o ∈ m.cmd.outTests, 0 < (o.2.2.2 - m.mon).toInt) (fun m => m)

/-- Bit instructions (R425): each takes the bit its operand reads into ACC, alone or combined with it, or the quality of that bit; NOT
inverts ACC, NOP changes nothing. Bit instructions that store or combine (R425): ST and STN store ACC and its inverse, SET and RST store
1 and 0 while ACC is true, RE and FE leave in ACC whether ACC rose or fell against the bit kept in the operand, which takes ACC; AND(
and OR( put ACC on the stack with the combination and take the operand's bit, and ) takes it off again and combines. A marker bit set is
what its word then holds. -/
def Obligations.LogicBitInstructions : Prop :=
  (∀ t a i, a < 16 → i < 2 ^ 20 →
      LogicOp (.lgNop t) t 0x00 0 0 (fun l => l.c) ∧
      LogicOp (.lgLd t a i) t 0x01 a i (fun l => { l.c with acc := (l.bit a i).val }) ∧
      LogicOp (.lgLdn t a i) t 0x02 a i (fun l => { l.c with acc := !(l.bit a i).val }) ∧
      LogicOp (.lgAnd t a i) t 0x03 a i (fun l => { l.c with acc := l.c.acc && (l.bit a i).val }) ∧
      LogicOp (.lgAndn t a i) t 0x04 a i (fun l => { l.c with acc := l.c.acc && !(l.bit a i).val }) ∧
      LogicOp (.lgOr t a i) t 0x05 a i (fun l => { l.c with acc := l.c.acc || (l.bit a i).val }) ∧
      LogicOp (.lgOrn t a i) t 0x06 a i (fun l => { l.c with acc := l.c.acc || !(l.bit a i).val }) ∧
      LogicOp (.lgXor t a i) t 0x07 a i (fun l => { l.c with acc := xor l.c.acc (l.bit a i).val }) ∧
      LogicOp (.lgNot t) t 0x0C 0 0 (fun l => { l.c with acc := !l.c.acc }) ∧
      LogicOp (.lgLdv t a i) t 0x0F a i (fun l => { l.c with acc := (l.bit a i).valid }) ∧
      LogicOp (.lgLdfl t a i) t 0x10 a i (fun l => { l.c with acc := (l.bit a i).low }) ∧
      LogicOp (.lgLdst t a i) t 0x11 a i (fun l => { l.c with acc := (l.bit a i).stale })) ∧
  (∀ t a i, a < 16 → i < 2 ^ 20 →
      LogicActs (.lgSt t a i) t 0x08 a i (fun l => l.setBit a i l.c.acc) ∧
      LogicActs (.lgStn t a i) t 0x09 a i (fun l => l.setBit a i (!l.c.acc)) ∧
      LogicActs (.lgSet t a i) t 0x0A a i (fun l => if l.c.acc then l.setBit a i true else l) ∧
      LogicActs (.lgRst t a i) t 0x0B a i (fun l => if l.c.acc then l.setBit a i false else l) ∧
      LogicActs (.lgRe t a i) t 0x0D a i (fun l => (l.setBit a i l.c.acc).acc (l.c.acc && !(l.bit a i).val)) ∧
      LogicActs (.lgFe t a i) t 0x0E a i (fun l => (l.setBit a i l.c.acc).acc ((l.bit a i).val && !l.c.acc)) ∧
      LogicOp (.lgAndOpen t a i) t 0x18 a i (fun l =>
        { l.c with stack := (l.c.acc, true) :: l.c.stack,
                   acc := (LCtx.bit { l with c := { l.c with stack := (l.c.acc, true) :: l.c.stack } } a i).val }) ∧
      LogicOp (.lgOrOpen t a i) t 0x19 a i (fun l =>
        { l.c with stack := (l.c.acc, false) :: l.c.stack,
                   acc := (LCtx.bit { l with c := { l.c with stack := (l.c.acc, false) :: l.c.stack } } a i).val }) ∧
      LogicOp (.lgCloseParen t) t 0x1A 0 0 (fun l => match l.c.stack with
        | (v, true) :: rest => { l.c with stack := rest, acc := v && l.c.acc }
        | (v, false) :: rest => { l.c with stack := rest, acc := v || l.c.acc }
        | [] => l.c) ∧
      (∀ (l : LCtx) k v, l.x.forces = [] → ((l.setBit 2 k v).c.work.mw (k / 32)).getLsbD (k % 32) = v))

/-- Word instructions (R425, R426): loads, stores and bitwise combinations; ADD, SUB and MUL saturate with ARITH; DIV and MOD by 0 give 0
with ARITH, DIV otherwise the quotient toward zero (a free value, log entry 18, where no word holds it) and MOD the remainder with the
sign of WACC; shifts by 0 to 31, to the left saturating. -/
def Obligations.LogicWordArithmetic : Prop :=
  ∀ t a i, a < 16 → i < 2 ^ 20 →
    LogicOp (.lgLdw t a i) t 0x20 a i (fun l => { l.c with wacc := l.word a i }) ∧
    LogicActs (.lgStw t a i) t 0x21 a i (fun l => l.setWord a i l.c.wacc) ∧
    LogicActs (.lgStwc t a i) t 0x22 a i (fun l => if l.c.acc then l.setWord a i l.c.wacc else l) ∧
    LogicOp (.lgAdd t a i) t 0x23 a i (fun l => l.keeps (l.c.wacc.toInt + (l.word a i).toInt)) ∧
    LogicOp (.lgSub t a i) t 0x24 a i (fun l => l.keeps (l.c.wacc.toInt - (l.word a i).toInt)) ∧
    LogicOp (.lgMul t a i) t 0x25 a i (fun l => l.keeps (l.c.wacc.toInt * (l.word a i).toInt)) ∧
    (t < 4 → ∀ x c, Acts (.lgDiv t a i) (fun m => m.atOp t 0x26 a i x c ∧ (LCtx.word ⟨m, t, x, { c with pc := c.pc + 1 }⟩ a i).toInt = 0)
      (fun m => m.updTask t (fun y => { y with cyc := some { c with pc := c.pc + 1, wacc := 0, arith := true } }))) ∧
    (t < 4 → ∀ x c, Acts (.lgDiv t a i)
      (fun m => m.atOp t 0x26 a i x c ∧ (LCtx.word ⟨m, t, x, { c with pc := c.pc + 1 }⟩ a i).toInt ≠ 0 ∧
        Int.tdiv c.wacc.toInt (LCtx.word ⟨m, t, x, { c with pc := c.pc + 1 }⟩ a i).toInt ≤ 2147483647)
      (fun m => m.updTask t (fun y =>
        let q := Int.tdiv c.wacc.toInt (LCtx.word ⟨m, t, x, { c with pc := c.pc + 1 }⟩ a i).toInt
        { y with cyc := some { c with pc := c.pc + 1, wacc := BitVec.ofInt 32 q } }))) ∧
    (t < 4 → ∀ x c, Acts (.lgDiv t a i)
      (fun m => m.atOp t 0x26 a i x c ∧ (LCtx.word ⟨m, t, x, { c with pc := c.pc + 1 }⟩ a i).toInt ≠ 0 ∧
        2147483647 < Int.tdiv c.wacc.toInt (LCtx.word ⟨m, t, x, { c with pc := c.pc + 1 }⟩ a i).toInt)
      (fun m => ({ m with free := m.free + 1 } : Mach).updTask t (fun y =>
        { y with cyc := some { c with pc := c.pc + 1, wacc := wd (Config.freeValue m.free) } }))) ∧
    LogicOp (.lgMod t a i) t 0x27 a i (fun l =>
      if (l.word a i).toInt = 0 then { l.c with wacc := 0, arith := true }
      else { l.c with wacc := BitVec.ofInt 32 (Int.tmod l.c.wacc.toInt (l.word a i).toInt) }) ∧
    LogicOp (.lgWand t a i) t 0x28 a i (fun l => { l.c with wacc := l.c.wacc &&& l.word a i }) ∧
    LogicOp (.lgWor t a i) t 0x29 a i (fun l => { l.c with wacc := l.c.wacc ||| l.word a i }) ∧
    LogicOp (.lgWxor t a i) t 0x2A a i (fun l => { l.c with wacc := l.c.wacc ^^^ l.word a i }) ∧
    (t < 4 → ∀ x c (n : Nat), n < 32 → Acts (.lgShl t a i)
      (fun m => m.atOp t 0x2B a i x c ∧ (LCtx.word ⟨m, t, x, { c with pc := c.pc + 1 }⟩ a i).toInt = n)
      (fun m => m.updTask t (fun y =>
        { y with cyc := some (LCtx.keeps ⟨m, t, x, { c with pc := c.pc + 1 }⟩ (c.wacc.toInt * 2 ^ n)) }))) ∧
    (t < 4 → ∀ x c (n : Nat), n < 32 → Acts (.lgShr t a i)
      (fun m => m.atOp t 0x2C a i x c ∧ (LCtx.word ⟨m, t, x, { c with pc := c.pc + 1 }⟩ a i).toInt = n)
      (fun m => m.updTask t (fun y => { y with cyc := some { c with pc := c.pc + 1, wacc := c.wacc.sshiftRight n } })))

/-- Comparisons leave in ACC how WACC compares with the operand, signed (R425); the binary32 instructions take WACC and the operand as
binary32, a comparison with a NaN being false (R426); FTOI of a NaN is 0 with ARITH, of an infinity the end of the range with ARITH. -/
def Obligations.LogicComparisonsAndFloats : Prop :=
  ∀ t a i, a < 16 → i < 2 ^ 20 →
    LogicOp (.lgEq t a i) t 0x30 a i (fun l => { l.c with acc := decide (l.c.wacc.toInt = (l.word a i).toInt) }) ∧
    LogicOp (.lgNe t a i) t 0x31 a i (fun l => { l.c with acc := decide (l.c.wacc.toInt ≠ (l.word a i).toInt) }) ∧
    LogicOp (.lgGt t a i) t 0x32 a i (fun l => { l.c with acc := decide ((l.word a i).toInt < l.c.wacc.toInt) }) ∧
    LogicOp (.lgGe t a i) t 0x33 a i (fun l => { l.c with acc := decide ((l.word a i).toInt ≤ l.c.wacc.toInt) }) ∧
    LogicOp (.lgLt t a i) t 0x34 a i (fun l => { l.c with acc := decide (l.c.wacc.toInt < (l.word a i).toInt) }) ∧
    LogicOp (.lgLe t a i) t 0x35 a i (fun l => { l.c with acc := decide (l.c.wacc.toInt ≤ (l.word a i).toInt) }) ∧
    LogicOp (.lgFadd t a i) t 0x38 a i (fun l => { l.c with wacc := F32.add (f32Of l.c.wacc) (f32Of (l.word a i)) }) ∧
    LogicOp (.lgFsub t a i) t 0x39 a i (fun l => { l.c with wacc := F32.add (f32Of l.c.wacc) (f32Of (l.word a i)).flip }) ∧
    LogicOp (.lgFmul t a i) t 0x3A a i (fun l => { l.c with wacc := F32.mul (f32Of l.c.wacc) (f32Of (l.word a i)) }) ∧
    LogicOp (.lgFdiv t a i) t 0x3B a i (fun l => { l.c with wacc := F32.div (f32Of l.c.wacc) (f32Of (l.word a i)) }) ∧
    LogicOp (.lgFgt t a i) t 0x3C a i (fun l => { l.c with acc := F32.gt (f32Of l.c.wacc) (f32Of (l.word a i)) }) ∧
    LogicOp (.lgFlt t a i) t 0x3D a i (fun l => { l.c with acc := F32.gt (f32Of (l.word a i)) (f32Of l.c.wacc) }) ∧
    LogicOp (.lgItof t) t 0x3E 0 0 (fun l => { l.c with wacc := f32Round false (l.c.wacc.toInt : Rat) }) ∧
    LogicOp (.lgFtoi t) t 0x3F 0 0 (fun l => match f32Of l.c.wacc with
      | .nan => { l.c with wacc := 0, arith := true }
      | .inf true => { l.c with wacc := 0x80000000#32, arith := true }
      | .inf false => { l.c with wacc := 0x7FFFFFFF#32, arith := true }
      | .fin _ q => l.keeps (ratRound q))

/-- Counters count rising edges of ACC between the ends of the signed range (R433); CLD loads a counter while ACC is true; jumps set the
address (R425). CALLFB gives an instance's words to the function of its type and takes them back (R435), on MON_S (R436); LOGIC_EVENT is
logged by type 23 alone. Of the functions this states the bistables, edges, timers, two out of three and the comparator, over the layout
of log entry 8. -/
def Obligations.LogicCountersJumps : Prop :=
  ∀ t a i, a < 16 → i < 2 ^ 20 →
    LogicOp (.lgCtu t i) t 0x44 6 i (fun l =>
      let v := l.c.work.ctr i
      let cv := if l.c.acc && !v.edge then clampI (-2147483648) 2147483647 (v.cv.toInt + 1) else v.cv.toInt
      let q := decide (l.c.wacc.toInt ≤ cv)
      { l.c with work := { l.c.work with c := SMap.put l.c.work.c i { cv := BitVec.ofInt 32 cv, edge := l.c.acc, q := q } }, acc := q }) ∧
    LogicOp (.lgCtd t i) t 0x45 6 i (fun l =>
      let v := l.c.work.ctr i
      let cv := if l.c.acc && !v.edge then clampI (-2147483648) 2147483647 (v.cv.toInt - 1) else v.cv.toInt
      let q := decide (cv ≤ 0)
      { l.c with work := { l.c.work with c := SMap.put l.c.work.c i { cv := BitVec.ofInt 32 cv, edge := l.c.acc, q := q } }, acc := q }) ∧
    LogicOp (.lgCld t i) t 0x46 6 i (fun l =>
      if l.c.acc then { l.c with work := { l.c.work with c := SMap.put l.c.work.c i { l.c.work.ctr i with cv := l.c.wacc } } }
      else l.c) ∧
    LogicOp (.lgJmp t a i) t 0x50 a i (fun l => { l.c with pc := i }) ∧
    LogicOp (.lgJmpc t a i) t 0x51 a i (fun l => if l.c.acc then { l.c with pc := i } else l.c) ∧
    LogicOp (.lgJmpcn t a i) t 0x52 a i (fun l => if l.c.acc then l.c else { l.c with pc := i }) ∧
    LogicActs (.lgCallfb t i) t 0x58 10 i (fun l => l.callFb i) ∧
    (∀ (l : LCtx) k p, l.x.prog = some p →
      let base := p.inst.getD k 0
      let n := efbWords ((l.c.work.ew base).toNat / 2 ^ 24)
      let r := efbStep ((l.c.work.ew base).toNat / 2 ^ 24) ((List.range n).map (fun j => l.c.work.ew (base + j))) l.c.monS
      (l.callFb k).c = { l.c with work := { l.c.work with
        e := (List.range n).foldl (fun (a : SMap Word) j => SMap.putD a 0 (base + j) (r.1.getD j 0)) l.c.work.e } } ∧
      (r.2 = none → (l.callFb k).m = l.m) ∧
      (∀ code, r.2 = some code → (l.callFb k).m = l.m.emitW .logicEvent l.t [wd (code % 65536)])) ∧
    (∀ (x : Efb) typ, x.event typ = if typ = 23 ∧ x.b 0 ∧ !x.b 1 then some ((x.w 0).toNat % 65536) else none) ∧
    (∀ (x : Efb) mon, x.run 1 mon = x.setB 2 (x.b 0 || (x.b 2 && !x.b 1)) ∧ x.run 2 mon = x.setB 2 (!x.b 1 && (x.b 0 || x.b 2)) ∧
      x.run 3 mon = (x.setB 1 (x.b 0 && !x.b 2)).setB 2 (x.b 0) ∧ x.run 4 mon = (x.setB 1 (!x.b 0 && x.b 2)).setB 2 (x.b 0) ∧
      x.run 5 mon = x.timer 1000 mon Tmr.ton ∧ x.run 6 mon = x.timer (Config.efbUnit 6) mon Tmr.tof ∧
      x.run 7 mon = x.timer (Config.efbUnit 7) mon Tmr.tp ∧
      x.run 21 mon = x.setB 3 ((x.b 0 && x.b 1) || (x.b 0 && x.b 2) || (x.b 1 && x.b 2)) ∧
      x.run 17 mon = x.setB 0 (if x.b 0 then !F32.gt (f32Of (x.w 2)) (f32Of (x.w 0)) else F32.gt (f32Of (x.w 0)) (f32Of (x.w 1))))

/-- A cycle begins at its snapshot (R412): a running task's time since the last snapshot is CYC_MIN or more, after an overrun and at the
first cycle whatever the time; its ACC, WACC, stack and address are 0 (R414), its MON_S is the MON of the snapshot. Nothing begins while
a cycle stands, in another task state, on a passive unit or a fenced task. A loaded task that waits for PROT_READY starts then, and its
cycle begins. At an END instruction the cycle's data become the task's, its time and count are kept in LEt_CYC_LAST, PEAK and CNT, the
outputs of each group are staged, and a stop that waited is done (R413, R438); elsewhere END does nothing. A cycle not complete CYC_MAX
after its snapshot is abandoned with LOGIC_OVERRUN logged and counted (R418), its successor due at once (R419), the OVR_STOP-th in
succession stopping the task with LOGIC_STOPPED (R421); before CYC_MAX, or without a cycle, nothing. -/
def Obligations.LogicCycle : Prop :=
  (∀ t x, t < 4 → Acts (.logicSnapshot t)
    (fun m => m.tasks[t]? = some x ∧ x.runAtReady = false ∧ x.st = .run ∧ x.cyc = none ∧ m.passive = false ∧
      m.fenced (35 + t) = false ∧
      (x.lastOverrun = true ∨ x.first ≠ 0 ∨ F.leCtrl_CYC_MIN.get (m.rd (.leCtrl t)) * 100000 ≤ m.since x.lastSnap))
    (fun m => m.beginCycle t x)) ∧
  (∀ t x, t < 4 → Acts (.logicSnapshot t)
    (fun m => m.tasks[t]? = some x ∧ x.runAtReady = false ∧ x.st = .run ∧ x.cyc = none ∧ m.passive = false ∧
      m.fenced (35 + t) = false ∧ x.lastOverrun = false ∧ x.first = 0 ∧
      m.since x.lastSnap < F.leCtrl_CYC_MIN.get (m.rd (.leCtrl t)) * 100000)
    (fun m => m)) ∧
  (∀ t x, t < 4 → Acts (.logicSnapshot t)
    (fun m => m.tasks[t]? = some x ∧ (x.runAtReady = false ∨ m.flag .glbStat F.glbStat_PROT_READY = false ∨ x.st ≠ .loaded) ∧
      (x.st ≠ .run ∨ x.cyc ≠ none ∨ m.passive = true ∨ m.fenced (35 + t) = true))
    (fun m => m)) ∧
  (∀ t x, t < 4 → Acts (.logicSnapshot t)
    (fun m => m.tasks[t]? = some x ∧ x.runAtReady = true ∧ m.flag .glbStat F.glbStat_PROT_READY = true ∧ x.st = .loaded ∧ x.cyc = none ∧
      x.first ≠ 0 ∧ m.passive = false ∧ m.fenced (35 + t) = false)
    (fun m =>
      let start (y : Machine.Task) : Machine.Task := { y with runAtReady := false, startKind := if y.first = 2 then 2 else 1 }
      ((m.updTask t start).setTask t .run).beginCycle t { start x with st := .run })) ∧
  (∀ (m : Mach) t x, m.tasks[t]? = some x → ∃ c y, (m.beginCycle t x).tasks[t]? = some y ∧ y.cyc = some c ∧ y.lastSnap = m.mon ∧
    c.pc = 0 ∧ c.acc = false ∧ c.wacc = 0 ∧ c.stack = [] ∧ c.monS = m.mon ∧ y.first = 0 ∧ y.lastOverrun = false ∧ y.kNow = x.kAll ∧
    y.ctrl = m.rd (.leCtrl t)) ∧
  (∀ t x c p e, t < 4 → Acts (.lgEnd t e)
    (fun m => m.tasks[t]? = some x ∧ x.st = .run ∧ m.passive = false ∧ m.fenced (35 + t) = false ∧ x.cyc = some c ∧
      x.prog = some p ∧ p.code[c.pc]? = some (instrWord 0x7F 0 0))
    (fun m => m.endCycle t x c e)) ∧
  (∀ t x e, t < 4 → Acts (.lgEnd t e)
    (fun m => m.tasks[t]? = some x ∧ (x.st ≠ .run ∨ m.passive = true ∨ m.fenced (35 + t) = true ∨ x.cyc = none ∨ x.prog = none ∨
      ∃ c p, x.cyc = some c ∧ x.prog = some p ∧ p.code[c.pc]? ≠ some (instrWord 0x7F 0 0)))
    (fun m => m)) ∧
  (∀ (m : Mach) t x c e, m.endCycle t x c e =
    (let o := Mach.forcedOut x c
     let us := m.since c.monS / 1000
     let own (f : Force) : Force :=
       if f.area ≠ 1 then f
       else if (if f.idx < 2 ^ 19 then (SMap.get? c.out.q f.idx).isSome else (SMap.get? c.out.pts (f.idx - 2 ^ 19)).isSome) then
         { f with pv := c.out.bitAt f.idx }
       else f
     let d := m.updTask t (fun y => { y with cyc := none, data := c.work, ovrRun := 0, forces := x.forces.map own,
                                             forcesNext := x.forcesNext.map own, relPv := [] })
     let d := d.setF (.leCycLast t) F.leCycLast_US us
     let d := if d.fld (.leCycPeak t) F.leCycPeak_US < us then d.setF (.leCycPeak t) F.leCycPeak_US us else d
     let d := d.wr (.leCycCnt t) (d.rd (.leCycCnt t) + 1)
     let (d, ids) := ((List.range 16).map (fun g => (g, m.actsOf x c.wrote o g))).foldl (Mach.stageGroup t c.monS o c.wrote) (d, [])
     let d := (forEach ids d Mach.prepareIf).m1Send t
     let d := if e then d.domErr (35 + t) .golden else d
     match x.stopWait with
     | some w => d.stopNow t w
     | none => d)) ∧
  (∀ t x c, t < 4 → Acts (.logicOverrun t)
    (fun m => m.tasks[t]? = some x ∧ x.cyc = some c ∧ x.stopWait = none ∧ F.leCtrl_CYC_MAX.get x.ctrl * 100000 ≤ m.since c.monS ∧
      (F.leCtrl_OVR_STOP.get x.ctrl = 0 ∨ x.ovrRun + 1 < F.leCtrl_OVR_STOP.get x.ctrl))
    (fun m => ((m.emitW .logicOverrun t [wd c.pc]).bump (.leOvrCnt t) F.leOvrCnt_COUNT 1).updTask t
      (fun y => { y with cyc := none, lastOverrun := true, ovrRun := x.ovrRun + 1 }))) ∧
  (∀ t x c, t < 4 → Acts (.logicOverrun t)
    (fun m => m.tasks[t]? = some x ∧ x.cyc = some c ∧ x.stopWait = none ∧ F.leCtrl_CYC_MAX.get x.ctrl * 100000 ≤ m.since c.monS ∧
      F.leCtrl_OVR_STOP.get x.ctrl ≠ 0 ∧ F.leCtrl_OVR_STOP.get x.ctrl ≤ x.ovrRun + 1)
    (fun m => ((((m.emitW .logicOverrun t [wd c.pc]).bump (.leOvrCnt t) F.leOvrCnt_COUNT 1).updTask t
      (fun y => { y with cyc := none, lastOverrun := true, ovrRun := x.ovrRun + 1 })).setTask t .stopped).emit .logicStopped t)) ∧
  (∀ t x c w, t < 4 → Acts (.logicOverrun t)
    (fun m => m.tasks[t]? = some x ∧ x.cyc = some c ∧ x.stopWait = some w ∧ F.leCtrl_CYC_MAX.get x.ctrl * 100000 ≤ m.since c.monS ∧
      (F.leCtrl_OVR_STOP.get x.ctrl = 0 ∨ x.ovrRun + 1 < F.leCtrl_OVR_STOP.get x.ctrl))
    (fun m => (((m.emitW .logicOverrun t [wd c.pc]).bump (.leOvrCnt t) F.leOvrCnt_COUNT 1).updTask t
      (fun y => { y with cyc := none, lastOverrun := true, ovrRun := x.ovrRun + 1 })).stopNow t w)) ∧
  (∀ t x, t < 4 → Acts (.logicOverrun t)
    (fun m => m.tasks[t]? = some x ∧
      (x.cyc = none ∨ ∃ c, x.cyc = some c ∧ m.since c.monS < F.leCtrl_CYC_MAX.get x.ctrl * 100000))
    (fun m => m))

/-- Registers of the time base: a host write of TB_INC_FRAC loads INC from both words and is refused while the servo is enabled or the state
is not FREE (R460); a read of TB_LTC_LO latches the four registers beside it (R464). After a write of TB_CTRL the highest-ranked source
enabled and qualified is followed at once, ACQUIRE entered where a source was followed outside FREE; in HOLD a better one waits; a
followed source disabled with no other counts as lost (R466, R467), which sets FREE and INC to the mean of the last values. Arming a
step without the maintenance role is refused; ARM written 0 disarms it (R474), a held-back COMPLETE then reporting 0x0205. ACCEPT is
Mach.rrAccept, which ReRouteHold states (R499). A trigger armed at or past its target reports PAST (R480). A read of LNl_TSQ_ENT0 takes
the oldest host entry of its queue, VALID 0 with none (R493). -/
def Obligations.TimeRegisters : Prop :=
  (∀ ses x w, Acts (.tbIncWrite ses w) (fun m => m.mayWrite x ses .tbIncFrac w)
    (fun m =>
      let i := ((m.stored .tbIncFrac w).rd .tbIncInt).toNat % 256 * 2 ^ 32 + (m.newWord .tbIncFrac w).toNat
      (m.stored .tbIncFrac w).updTb (fun t => { t with inc := BitVec.ofNat 40 i }))) ∧
  (∀ (m : Mach) who w, m.flag .tbCtrl F.tbCtrl_SERVO_EN = true ∨ m.tb.st ≠ .free → m.regCheck who .tbIncFrac w ≠ none) ∧
  (∀ ses x, Acts (.tbLtcRead ses) (fun m => m.sess ses = some x ∧ m.start.recovery = false) (fun m =>
    ((((m.wr .tbLtcLo (m.ltc.setWidth 32)).wr .tbLtcHi ((m.ltc >>> 32).setWidth 32)).wr .tbLtcFrac (m.tb.ltc.setWidth 32)).wr
      .tbMonLo (m.mon.setWidth 32)).wr .tbMonHi ((m.mon >>> 32).setWidth 32))) ∧
  (∀ ses x w, Acts (.sourceEnableClear ses w) (fun m => m.mayWrite x ses .tbCtrl w) (fun m => (m.stored .tbCtrl w).tbCtrlWritten)) ∧
  (∀ m : Mach, m.srcEn .ptp = true →
    (∀ b, m.tb.src = none → m.bestSrc = some b → m.tbCtrlWritten = m.updTb (fun t => { t with src := some b })) ∧
    (m.tb.src = none → m.bestSrc = none → m.tbCtrlWritten = m) ∧
    (∀ c b, m.tb.src = some c → m.srcEn c = true → m.bestSrc = some b → b.prio < c.prio → m.tb.st = .free →
      m.tbCtrlWritten = m.updTb (fun t => { t with src := some b })) ∧
    (∀ c b, m.tb.src = some c → m.srcEn c = true → m.bestSrc = some b → b.prio < c.prio → (m.tb.st = .acquire ∨ m.tb.st = .locked) →
      m.tbCtrlWritten = m.tbFollow b) ∧
    (∀ c, m.tb.src = some c → m.srcEn c = true → (∀ b, m.bestSrc = some b → b.prio < c.prio → m.tb.st = .hold) → m.tbCtrlWritten = m) ∧
    (∀ c b, m.tb.src = some c → m.srcEn c = false → m.bestSrc = some b → m.tb.st = .free →
      m.tbCtrlWritten = m.updTb (fun t => { t with src := some b })) ∧
    (∀ c b, m.tb.src = some c → m.srcEn c = false → m.bestSrc = some b → m.tb.st ≠ .free →
      m.tbCtrlWritten = (m.tbFollow b).emit .timeSrcChange b.code) ∧
    (∀ c, m.tb.src = some c → m.srcEn c = false → m.bestSrc = none → m.tbCtrlWritten = m.tbLost)) ∧
  (∀ (m : Mach) b, m.tbFollow b = m.updTb (fun t => { t with
      src := some b, st := .acquire, lockCnt := 0, unlockCnt := 0, lastMeas := none
      hold := none, yF := ((t.inc.toNat : Nat) : Rat) / 34359738368 - 1 })) ∧
  (∀ (m : Mach) c, m.tb.src = some c → m.tbLost =
    (m.updTb (fun t => { t with
      st := .free, lockCnt := 0, unlockCnt := 0, hold := none, lastMeas := none, src := m.bestSrc
      inc := if t.incHist = [] then t.inc else BitVec.ofInt 40 (ratRound (meanI (t.incHist.map (fun i => ((i.toNat : Nat) : Int))))) })).emit .timeSrcLost c.code) ∧
  (∀ ses x w, Acts (.tbStepArm ses w)
    (fun m => m.mayWrite x ses .tbStepCtrl w ∧ F.tbStepCtrl_ARM.get (m.newWord .tbStepCtrl w) = 1)
    (fun m => m.stored .tbStepCtrl w)) ∧
  (∀ ses x w, Acts (.tbStepArm ses w)
    (fun m => m.mayWrite x ses .tbStepCtrl w ∧ F.tbStepCtrl_ARM.get (m.rd .tbStepCtrl) = 1 ∧
      F.tbStepCtrl_ARM.get (m.newWord .tbStepCtrl w) = 0)
    (fun m => (m.stored .tbStepCtrl w).stepDisarm)) ∧
  (∀ ses x w, Acts (.tbStepArm ses w)
    (fun m => m.mayWrite x ses .tbStepCtrl w ∧ F.tbStepCtrl_ARM.get (m.rd .tbStepCtrl) = 0 ∧
      F.tbStepCtrl_ARM.get (m.newWord .tbStepCtrl w) = 0)
    (fun m => m.stored .tbStepCtrl w)) ∧
  (∀ m : Mach, (m.tb.stepWaiter = none →
      m.stepDisarm = (m.updTb (fun t => { t with stepDue := false, stepWaiter := none })).stepReleased) ∧
    ∀ y, m.tb.stepWaiter = some y → m.stepDisarm =
      ((m.updTb (fun t => { t with stepDue := false, stepWaiter := none })).complete y 0x0205 0 0 m.ltc 0).stepReleased) ∧
  (∀ (m : Mach) who w, who.maint = false → F.tbStepCtrl_ARM.get (m.newWord .tbStepCtrl w) = 1 →
    m.regCheck who .tbStepCtrl w ≠ none) ∧
  (∀ ses x, Acts (.tbRrAccept ses)
    (fun m => m.mayWrite x ses .tbRrCtrl (m.withFields .tbRrCtrl [(F.tbRrCtrl_ACCEPT, 1)]))
    (fun m => (m.stored .tbRrCtrl (m.withFields .tbRrCtrl [(F.tbRrCtrl_ACCEPT, 1)])).rrAccept)) ∧
  (∀ ses x n w, Acts (.triggerArm ses n w)
    (fun m => n < 8 ∧ m.mayWrite x ses (.trgCtrl n) w ∧ F.trgCtrl_ARM.get (m.newWord (.trgCtrl n) w) = 1)
    (fun m => let m := m.stored (.trgCtrl n) w
      if 0 ≤ ((m.ltc.setWidth 32) - m.rd (.trgTarget n)).toInt then m.setF (.trgStat n) F.trgStat_PAST 1 else m)) ∧
  (∀ ses x n w, Acts (.triggerArm ses n w)
    (fun m => n < 8 ∧ m.mayWrite x ses (.trgCtrl n) w ∧ F.trgCtrl_ARM.get (m.newWord (.trgCtrl n) w) = 0)
    (fun m => m.stored (.trgCtrl n) w)) ∧
  (∀ ses x l e, Acts (.tsqEntryRead ses l)
    (fun m => l < 5 ∧ m.sess ses = some x ∧ m.start.recovery = false ∧ m.tsqHead l = some e)
    (fun m =>
      let m := m.updTb (fun x => { x with tsq := setAt x.tsq l ((x.tsq.getD l []).erase e) })
      ((m.wr (.lnTsqEnt0 l) (wd (2 ^ 31 + e.1 % 65536))).wr (.lnTsqEnt1 l) (e.2.setWidth 32)).wr (.lnTsqEnt2 l)
        ((e.2 >>> 32).setWidth 32))) ∧
  (∀ ses x l, Acts (.tsqEntryRead ses l)
    (fun m => l < 5 ∧ m.sess ses = some x ∧ m.start.recovery = false ∧ m.tsqHead l = none)
    (fun m => m.wr (.lnTsqEnt0 l) 0))

/-- An armed time trigger fires once LTC[31:0] - TARGET is 0 or greater (R479): FIRED is set, its action carried out, and it disarms or
moves its target on by PERIOD (R481); not armed or not there yet, it does nothing. PPS_OUT is low once no pulse, whole-second or of a
trigger, has its end ahead (R501). 1PPS and IRIG-B (R487, R488): an edge 1 s after the last qualifies 1PPS, and each edge measures the
offset to the second IRIG-B tells, else to the nearest; 2 s without one lose 1PPS. An IRIG-B frame that is good and follows the last is
counted, the third in succession qualifies IRIG-B, and it measures the offset; a frame not good, or 2 s without one, counts as missed,
the second in succession or the timeout losing IRIG-B; before 2 s neither timeout acts. Of the good frame this states the case with no
leap second and none announced. -/
def Obligations.TriggersPpsAndIrig : Prop :=
  ((∀ n, Acts (.triggerFire n) (fun m => n < 8 ∧ m.flag (.trgCtrl n) F.trgCtrl_ARM = true ∧
        0 ≤ ((m.ltc.setWidth 32) - m.rd (.trgTarget n)).toInt)
      (fun m =>
        let m := m.setF (.trgStat n) F.trgStat_FIRED 1
        let m := match m.fld (.trgCtrl n) F.trgCtrl_ACTION with
          | 0 => m.notifyAll (fun s => s.flags.testBit 0) 3 (beBytes 1 n ++ [0, 0, 0] ++ beBytes 8 m.ltc.toNat)
          | 1 => m.drTrig 2 n (m.fr.fseq + 1) false
          | 2 => (m.updTb (fun t => { t with ppsTrgEnd := some (m.ltc + tm (msNs (m.fld .tbPps F.tbPps_PPS_W))) })).ppsPin
          | _ => m
        let p := m.rd (.trgPeriod n)
        if p = 0 then m.setF (.trgCtrl n) F.trgCtrl_ARM 0 else m.wr (.trgTarget n) (m.rd (.trgTarget n) + p))) ∧
    (∀ n, Acts (.triggerFire n) (fun m => m.flag (.trgCtrl n) F.trgCtrl_ARM = false ∨ ((m.ltc.setWidth 32) - m.rd (.trgTarget n)).toInt < 0) (fun m => m)) ∧
    Acts .ppsOutPulseEnd (fun _ => True) (fun m =>
      (m.updTb (fun t => { t with
        ppsWholeEnd := t.ppsWholeEnd.filter (fun e => decide (0 < (e - m.ltc).toInt))
        ppsTrgEnd := t.ppsTrgEnd.filter (fun e => decide (0 < (e - m.ltc).toInt)) })).ppsPin)) ∧
  ((∀ t, Acts .ppsInEdge
      (fun m => m.tb.ppsLast = some t ∧ 999990000 ≤ m.since t ∧ m.since t ≤ 1000010000 ∧ m.srcQual .irig = false)
      (fun m =>
        let stamp : Int := ((m.ltc.toNat : Nat) : Int) - m.fld .tbPps F.tbPps_PPS_IN_DLY
        let m := (m.updTb (fun t => { t with ppsLast := some m.mon })).srcGain .pps
        m.offsetMeas .pps (stamp - (stamp + 500000000) / 1000000000 * 1000000000) 1000000000)) ∧
    Acts .ppsInEdge
      (fun m => (∀ t, m.tb.ppsLast = some t → m.since t < 999990000 ∨ 1000010000 < m.since t) ∧ m.srcQual .irig = false)
      (fun m =>
        let stamp : Int := ((m.ltc.toNat : Nat) : Int) - m.fld .tbPps F.tbPps_PPS_IN_DLY
        (m.updTb (fun t => { t with ppsLast := some m.mon })).offsetMeas .pps
          (stamp - (stamp + 500000000) / 1000000000 * 1000000000) 1000000000) ∧
    (∀ t s i, Acts .ppsInEdge
      (fun m => m.tb.ppsLast = some t ∧ (m.since t < 999990000 ∨ 1000010000 < m.since t) ∧ m.srcQual .irig = true ∧
        m.tb.irigLast = some (s, i))
      (fun m =>
        let stamp : Int := ((m.ltc.toNat : Nat) : Int) - m.fld .tbPps F.tbPps_PPS_IN_DLY
        (m.updTb (fun t => { t with ppsLast := some m.mon })).offsetMeas .pps
          (stamp - ((s : Int) + ((m.since i + 500000000) / 1000000000 : Nat)) * 1000000000) 1000000000)) ∧
    (∀ t, Acts .ppsTimeout (fun m => m.tb.ppsLast = some t ∧ 2000000000 ≤ m.since t)
      (fun m => (m.updTb (fun x => { x with ppsLast := none })).srcLose .pps)) ∧
    Acts .ppsTimeout (fun m => ∀ t, m.tb.ppsLast = some t → m.since t < 2000000000) (fun m => m) ∧
    (∀ f q, Acts (.irigFrameReceive f)
      (fun m => f.ok = true ∧ f.year = true ∧ f.tq = some q ∧ q ≤ m.fld .tbIrig F.tbIrig_TQ_MAX ∧ f.leap = 0 ∧ m.tb.leap = 0 ∧
        m.tb.irigLast = none)
      (fun m =>
        let m := m.setF .tbIrig F.tbIrig_LOCAL (bit (decide (f.loc ≠ 0)))
        let tai : Int := (f.sec : Int) - f.loc + m.fld .tbUtcOfs F.tbUtcOfs_UTC_OFS
        let n := m.tb.irigCnt + 1
        let stamp := f.edge - m.fld .tbIrig F.tbIrig_IRIG_DLY
        let ago := (((m.ltc.toNat : Nat) : Int) - stamp).toNat
        let m := m.updTb (fun t => { t with irigCnt := n, irigMiss := 0, irigLast := some (tai.toNat, m.mon - tm ago) })
        let m := if 3 ≤ n then m.srcGain .irig else m
        m.offsetMeas .irig (stamp - tai * 1000000000) 1000000000)) ∧
    (∀ f, Acts (.irigFrameReceive f) (fun m => f.ok = false ∧ m.tb.irigMiss = 0)
      (fun m => m.updTb (fun t => { t with irigMiss := 1, irigCnt := 0 }))) ∧
    (∀ f, Acts (.irigFrameReceive f) (fun m => f.ok = false ∧ 1 ≤ m.tb.irigMiss)
      (fun m => (m.updTb (fun t => { t with irigCnt := 0, irigLast := none, irigMiss := 0 })).srcLose .irig)) ∧
    (∀ x, Acts .irigFrameTimeout (fun m => m.tb.irigLast = some x ∧ 2000000000 ≤ m.since x.2)
      (fun m => (m.updTb (fun t => { t with irigCnt := 0, irigLast := none, irigMiss := 0 })).srcLose .irig)) ∧
    Acts .irigFrameTimeout (fun m => ∀ x, m.tb.irigLast = some x → m.since x.2 < 2000000000) (fun m => m))

/-- PTP as slave. An Announce of the own domain, on a port where PTP works, whose rank is better than the present grandmaster's makes its
sender the grandmaster and its port the followed one (R484, R486); one of the grandmaster refreshes its port and may give UTC_OFS
(R483); any other changes nothing. PTP is lost when neither port has had an Announce for 3 s (R486). A Sync of the grandmaster gives a
path value, a two-step one once its Follow_Up has come: link delay and corrections, and the offset of its receive stamp (R494); near the
filtered path it enters the filter and, on the followed port, the offset is measured. Without a Sync for three intervals the other port
is followed, or PTP lost where it has missed them too. Peer delay and master. A Pdelay_Req is put into its queue at most once a second
(R492); as it leaves, its transmit stamp is kept unless the stamp queue of the lane is full, which counts and ends the exchange. A
response gives the link delay, one-step at once, two-step once its Follow_Up has come (R494); a response of another sequence number
changes nothing. A request is answered: one-step with the residence time where that feature is accepted, else with the response and its
Follow_Up (R490). As master, Sync at its interval and Announce each second are queued, where the unit acts, MASTER_EN is set and it does
not follow PTP (R485). -/
def Obligations.PtpMessages : Prop :=
  ((∀ p a, Acts (.ptpAnnounceReceive p a)
      (fun m => p < 2 ∧ m.ptpOn p = true ∧ m.srcEn .ptp = true ∧ a.domain = m.fld .tbPtpCfg F.tbPtpCfg_DOMAIN ∧
        (m.tb.gm = none ∨ ∃ g, m.tb.gm = some g ∧ g.id ≠ a.gm ∧ a.rank < g.rank))
      (fun m =>
        let sync := m.syncNs
        let m := m.updTb (fun t =>
          { t with gm := some { id := a.gm, rank := a.rank, syncNs := sync },
                   ports := t.ports.map (fun x => { x with announceMon := none, syncMon := none, pendSync := none }) })
        let m := ((m.wr .tbGmIdHi ((a.gm >>> 32).setWidth 32)).wr .tbGmIdLo (a.gm.setWidth 32)).setF .tbStat F.tbStat_PTP_PORT p
        let m := m.updPtp p (fun x => { x with announceMon := some m.mon })
        let m := match a.utc with
          | some u => m.setF .tbUtcOfs F.tbUtcOfs_UTC_OFS u
          | none => m
        m.srcGain .ptp)) ∧
    (∀ p a g, Acts (.ptpAnnounceReceive p a)
      (fun m => p < 2 ∧ m.tb.gm = some g ∧ g.id = a.gm ∧ m.ptpOn p = true ∧ m.srcEn .ptp = true ∧
        a.domain = m.fld .tbPtpCfg F.tbPtpCfg_DOMAIN)
      (fun m =>
        let m := (m.updTb (fun t => { t with gm := some { g with rank := a.rank } })).updPtp p (fun x => { x with announceMon := some m.mon })
        let m := match a.utc with
          | some u => m.setF .tbUtcOfs F.tbUtcOfs_UTC_OFS u
          | none => m
        m.srcGain .ptp)) ∧
    (∀ p a, Acts (.ptpAnnounceReceive p a)
      (fun m => p < 2 ∧ (m.ptpOn p = false ∨ m.srcEn .ptp = false ∨ a.domain ≠ m.fld .tbPtpCfg F.tbPtpCfg_DOMAIN ∨
        ∃ g, m.tb.gm = some g ∧ g.id ≠ a.gm ∧ g.rank ≤ a.rank)) (fun m => m)) ∧
    Acts .ptpAnnounceTimeout
      (fun m => m.srcQual .ptp = true ∧ ∀ p, p < 2 → ∀ t, (m.ptp p).announceMon = some t → 3000000000 ≤ m.since t)
      (fun m => m.ptpLose) ∧
    Acts .ptpAnnounceTimeout
      (fun m => m.srcQual .ptp = false ∨ ∃ p t, p < 2 ∧ (m.ptp p).announceMon = some t ∧ m.since t < 3000000000) (fun m => m) ∧
    (∀ p x g, Acts (.ptpSyncReceive p x)
      (fun m => p < 2 ∧ m.tb.gm = some g ∧ m.ptpOn p = true ∧ m.srcEn .ptp = true ∧
        x.domain = m.fld .tbPtpCfg F.tbPtpCfg_DOMAIN ∧ x.src = g.id)
      (fun m =>
        let ns := (ratRound (1000000000 * pow2 (clampI (-8) 8 x.logInt))).toNat
        let m := m.updTb (fun t => { t with gm := some { g with syncNs := ns } })
        let m := m.updPtp p (fun x => { x with syncMon := some m.mon })
        let rx := m.rxStamp p x.rx
        if x.twoStep then m.updPtp p (fun y => { y with pendSync := some (x.seq, rx, x.corr) })
        else m.syncDone p x.origin x.corr rx)) ∧
    (∀ p x, Acts (.ptpSyncReceive p x)
      (fun m => p < 2 ∧ (m.ptpOn p = false ∨ m.srcEn .ptp = false ∨ x.domain ≠ m.fld .tbPtpCfg F.tbPtpCfg_DOMAIN ∨
        ∀ g, m.tb.gm = some g → x.src ≠ g.id)) (fun m => m)) ∧
    (∀ (m : Mach) p origin corr rx, m.syncDone p origin corr rx =
      m.pathValue p ((m.ptp p).linkDelay + corr) (ratRound ((((rx - origin - ((m.ptp p).linkDelay + corr) : Int)) : Rat) / 1000))) ∧
    (∀ (m : Mach) p (v o : Int), m.tb.hold = none → (m.ptp p).held = none →
      ((m.ptp p).path = [] ∨ ratAbs ((v : Rat) - meanI (m.ptp p).path) ≤ 1000 * ((m.fld .tbRrCfg F.tbRrCfg_PD_STEP_THR : Nat) : Rat)) →
      m.pathValue p v o =
        let m' := m.pathSet p (v :: (m.ptp p).path)
        if p = m.ptpPort then m'.offsetMeas .ptp o m'.syncNs else m') ∧
    (∀ p x g rx corr, Acts (.ptpFollowUpReceive p x)
      (fun m => p < 2 ∧ m.tb.gm = some g ∧ (m.ptp p).pendSync = some (x.seq, rx, corr) ∧ m.ptpOn p = true ∧
        x.domain = m.fld .tbPtpCfg F.tbPtpCfg_DOMAIN ∧ x.src = g.id)
      (fun m => (m.updPtp p (fun x => { x with pendSync := none })).syncDone p x.origin (corr + x.corr) rx)) ∧
    (∀ p x, Acts (.ptpFollowUpReceive p x)
      (fun m => p < 2 ∧ (m.ptpOn p = false ∨ x.domain ≠ m.fld .tbPtpCfg F.tbPtpCfg_DOMAIN ∨ (∀ g, m.tb.gm = some g → x.src ≠ g.id) ∨
        ∀ q rx corr, (m.ptp p).pendSync = some (q, rx, corr) → x.seq ≠ q)) (fun m => m)) ∧
    (∀ g t, Acts .ptpSyncTimeout
      (fun m => m.tb.gm = some g ∧ (m.ptp m.ptpPort).syncMon = some t ∧ 3 * m.syncNs ≤ m.since t ∧
        m.ptpSyncMiss (1 - m.ptpPort) = false)
      (fun m => m.setF .tbStat F.tbStat_PTP_PORT (1 - m.ptpPort))) ∧
    (∀ g t, Acts .ptpSyncTimeout
      (fun m => m.tb.gm = some g ∧ (m.ptp m.ptpPort).syncMon = some t ∧ 3 * m.syncNs ≤ m.since t ∧
        m.ptpSyncMiss (1 - m.ptpPort) = true)
      (fun m => m.ptpLose)) ∧
    (∀ g t, Acts .ptpSyncTimeout
      (fun m => m.tb.gm = some g ∧ (m.ptp m.ptpPort).syncMon = none ∧ (m.ptp m.ptpPort).announceMon = some t ∧ 3 * m.syncNs ≤ m.since t ∧
        m.ptpSyncMiss (1 - m.ptpPort) = true)
      (fun m => m.ptpLose)) ∧
    Acts .ptpSyncTimeout
      (fun m => m.tb.gm = none ∨ (∃ t, (m.ptp m.ptpPort).syncMon = some t ∧ m.since t < 3 * m.syncNs) ∨
        ((m.ptp m.ptpPort).syncMon = none ∧ ∀ t, (m.ptp m.ptpPort).announceMon = some t → m.since t < 3 * m.syncNs))
      (fun m => m) ∧
    (∀ (m : Mach) p, m.ptpSyncMiss p = true ↔ ∀ t, (m.ptp p).syncMon = some t → 3 * m.syncNs ≤ m.since t)) ∧
  ((∀ p, Acts (.ptpPdelayReqSend p)
      (fun m => p < 2 ∧ m.ptpOn p = true ∧ (∀ t, (m.ptp p).reqMon = some t → 1000000000 ≤ m.since t))
      (fun m => (m.ptpOut 3 p (m.ptp p).reqSeq [] (.pdReq (m.ptp p).reqSeq)).updPtp p (fun x =>
        { x with reqSeq := ((m.ptp p).reqSeq + 1) % 65536, reqMon := some m.mon, pdResp := none, pdReq := none }))) ∧
    (∀ p, Acts (.ptpPdelayReqSend p)
      (fun m => m.ptpOn p = false ∨ ∃ t, (m.ptp p).reqMon = some t ∧ m.since t < 1000000000) (fun m => m)) ∧
    (∀ (m : Mach) l f q, f.post = .pdReq q → (m.tb.tsq.getD l []).length < 16 →
      m.txGo l f = ((m.bump (.mac l 1) F.mac_COUNT 1).send f.frame).updPtp l (fun x => { x with pdReq := some (q, m.txStamp l) })) ∧
    (∀ (m : Mach) l f q, f.post = .pdReq q → 16 ≤ (m.tb.tsq.getD l []).length →
      m.txGo l f = (((m.bump (.mac l 1) F.mac_COUNT 1).send f.frame).bump (.lnTsqOvf l) F.lnTsqOvf_VALUE 1).updPtp l (fun x => { x with pdReq := none })) ∧
    (∀ p r t1, Acts (.ptpPdelayRespReceive p r)
      (fun m => p < 2 ∧ (m.ptp p).pdReq = some (r.seq, t1) ∧ m.ptpOn p = true ∧ r.twoStep = false)
      (fun m => m.updPtp p (fun x => { x with linkDelay := (m.rxStamp p r.rx - t1 - r.corr) / 2, pdReq := none, pdResp := none }))) ∧
    (∀ p r t1, Acts (.ptpPdelayRespReceive p r)
      (fun m => p < 2 ∧ (m.ptp p).pdReq = some (r.seq, t1) ∧ m.ptpOn p = true ∧ r.twoStep = true)
      (fun m => m.updPtp p (fun x => { x with pdResp := some (r.seq, m.rxStamp p r.rx - t1 - r.corr, r.stamp) }))) ∧
    (∀ p r, Acts (.ptpPdelayRespReceive p r)
      (fun m => p < 2 ∧ (m.ptpOn p = false ∨ ∀ t1, (m.ptp p).pdReq ≠ some (r.seq, t1))) (fun m => m)) ∧
    (∀ p r rt t2, Acts (.pdelayRespFollowUpReceive p r)
      (fun m => p < 2 ∧ (m.ptp p).pdResp = some (r.seq, rt, t2) ∧ m.ptpOn p = true)
      (fun m => m.updPtp p (fun x => { x with linkDelay := (rt - (r.stamp - t2) - r.corr) / 2, pdReq := none, pdResp := none }))) ∧
    (∀ p r, Acts (.pdelayRespFollowUpReceive p r)
      (fun m => p < 2 ∧ (m.ptpOn p = false ∨ ∀ rt t2, (m.ptp p).pdResp ≠ some (r.seq, rt, t2))) (fun m => m)) ∧
    (∀ p q rx, Acts (.ptpPdelayReqReceive p q rx) (fun m => p < 2 ∧ m.ptpOn p = true)
      (fun m => m.ptpOut 4 p q [m.rxStamp p rx, 0] (.pdResp q (m.rxStamp p rx)))) ∧
    (∀ p q rx, Acts (.ptpPdelayReqReceive p q rx) (fun m => m.ptpOn p = false) (fun m => m)) ∧
    (∀ (m : Mach) l f q t2, f.post = .pdResp q t2 → m.feat 6 = true →
      ∃ tag, m.txGo l f = (m.bump (.mac l 1) F.mac_COUNT 1).send (.ptp 4 l q [0, m.txStamp l - t2] tag)) ∧
    (∀ (m : Mach) l f q t2, f.post = .pdResp q t2 → m.feat 6 = false →
      m.txGo l f = ((m.bump (.mac l 1) F.mac_COUNT 1).send f.frame).ptpOut 5 l q [m.txStamp l, 0] .plain) ∧
    (∀ p, Acts (.ptpMasterSyncSend p)
      (fun m => p < 2 ∧ m.ptpOn p = true ∧ m.acts = true ∧ m.flag .tbCtrl F.tbCtrl_MASTER_EN = true ∧ m.tb.src ≠ some .ptp ∧
        (∀ t, (m.ptp p).mSync = some t → 1000000000 / 2 ^ ((16 - m.fld .tbPtpCfg F.tbPtpCfg_LOG_SYNC) % 16) ≤ m.since t) ∧
        ∃ t, (m.ptp p).mAnn = some t ∧ m.since t < 1000000000)
      (fun m => (m.ptpOut 0 p (m.ptp p).mSeq [0, 0] (.sync (m.ptp p).mSeq)).updPtp p
        (fun x => { x with mSeq := ((m.ptp p).mSeq + 1) % 65536, mSync := some m.mon }))) ∧
    (∀ p, Acts (.ptpMasterSyncSend p)
      (fun m => p < 2 ∧ m.ptpOn p = true ∧ m.acts = true ∧ m.flag .tbCtrl F.tbCtrl_MASTER_EN = true ∧ m.tb.src ≠ some .ptp ∧
        (∀ t, (m.ptp p).mSync = some t → 1000000000 / 2 ^ ((16 - m.fld .tbPtpCfg F.tbPtpCfg_LOG_SYNC) % 16) ≤ m.since t) ∧
        (∀ t, (m.ptp p).mAnn = some t → 1000000000 ≤ m.since t))
      (fun m =>
        let m' := m.ptpOut 0 p (m.ptp p).mSeq [0, 0] (.sync (m.ptp p).mSeq)
        (m'.ptpOut 2 p (m.ptp p).mSeq [m'.clockClass, m'.fld .tbPtpCfg F.tbPtpCfg_PRIORITY1,
          m'.fld .tbPtpCfg F.tbPtpCfg_PRIORITY2, m'.fld .tbUtcOfs F.tbUtcOfs_UTC_OFS] .plain).updPtp p
            (fun x => { x with mSeq := ((m.ptp p).mSeq + 1) % 65536, mSync := some m.mon, mAnn := some m.mon }))) ∧
    (∀ p, Acts (.ptpMasterSyncSend p)
      (fun m => m.flag .tbCtrl F.tbCtrl_MASTER_EN = false ∨ m.acts = false ∨ m.tb.src = some .ptp ∨ m.ptpOn p = false ∨
        ∃ t, (m.ptp p).mSync = some t ∧ m.since t < 1000000000 / 2 ^ ((16 - m.fld .tbPtpCfg F.tbPtpCfg_LOG_SYNC) % 16))
      (fun m => m)) ∧
    (∀ (m : Mach) l f q, f.post = .sync q → m.feat 6 = true →
      ∃ tag, m.txGo l f = (m.bump (.mac l 1) F.mac_COUNT 1).send (.ptp 0 l q [m.txStamp l, 0] tag)) ∧
    (∀ (m : Mach) l f q, f.post = .sync q → m.feat 6 = false →
      m.txGo l f = ((m.bump (.mac l 1) F.mac_COUNT 1).send f.frame).ptpOut 1 l q [m.txStamp l, 0] .plain))

/-- HOLD (R497, R498): at the end of HOLD_T the mean of the offsets measured in its second half is TB_RR_OFS, a free value where there are
none (log entry 20); within VERIFY_THR the new path is taken and the servo LOCKED again, otherwise RR_ASYM is set, TIME_ASYM logged and
HOLD_T begins anew. After HOLD_MAX, or on ACCEPT (R499), the new path is taken and ACQUIRE entered with TIME_HOLD_MAX or TIME_ACCEPT
logged. Before its time, or outside HOLD, neither end acts. A write of 1 to ACCEPT carries that out. -/
def Obligations.ReRouteHold : Prop :=
  (∀ h, Acts .holdTEnd
    (fun m => m.tb.hold = some h ∧ m.fld .tbRrCfg F.tbRrCfg_HOLD_T * 1000000000 ≤ m.since h.tStart ∧ m.holdOffs h ≠ [] ∧
      (ratRound (meanI (m.holdOffs h))).natAbs ≤ 10 * m.fld .tbRrCfg F.tbRrCfg_VERIFY_THR)
    (fun m =>
      let m := m.wr .tbRrOfs (sat32w (ratRound (meanI (m.holdOffs h))))
      (m.pathSet m.ptpPort h.news).updTb (fun t => { t with st := .locked, unlockCnt := 0, hold := none }))) ∧
  (∀ h, Acts .holdTEnd
    (fun m => m.tb.hold = some h ∧ m.fld .tbRrCfg F.tbRrCfg_HOLD_T * 1000000000 ≤ m.since h.tStart ∧ m.holdOffs h ≠ [] ∧
      10 * m.fld .tbRrCfg F.tbRrCfg_VERIFY_THR < (ratRound (meanI (m.holdOffs h))).natAbs)
    (fun m =>
      let o := ratRound (meanI (m.holdOffs h))
      let m := ((m.wr .tbRrOfs (sat32w o)).setF .tbStat F.tbStat_RR_ASYM 1).emitW .timeAsym 1 [sat32w o]
      m.updTb (fun t => { t with hold := some { h with tStart := m.mon, offs := [] } }))) ∧
  (∀ h, Acts .holdTEnd
    (fun m => m.tb.hold = some h ∧ m.fld .tbRrCfg F.tbRrCfg_HOLD_T * 1000000000 ≤ m.since h.tStart ∧ m.holdOffs h = [])
    (fun m =>
      let o := sgn32 (Config.freeValue m.free)
      let m := ({ m with free := m.free + 1 } : Mach).wr .tbRrOfs (sat32w o)
      if o.natAbs ≤ 10 * m.fld .tbRrCfg F.tbRrCfg_VERIFY_THR then
        (m.pathSet m.ptpPort h.news).updTb (fun t => { t with st := .locked, unlockCnt := 0, hold := none })
      else
        let m := (m.setF .tbStat F.tbStat_RR_ASYM 1).emitW .timeAsym 1 [sat32w o]
        m.updTb (fun t => { t with hold := some { h with tStart := m.mon, offs := [] } }))) ∧
  Acts .holdTEnd
    (fun m => ∀ h, m.tb.hold = some h → m.since h.tStart < m.fld .tbRrCfg F.tbRrCfg_HOLD_T * 1000000000) (fun m => m) ∧
  (∀ (m : Mach) h, m.holdOffs h =
    (h.offs.filter (fun p => decide (m.fld .tbRrCfg F.tbRrCfg_HOLD_T * 1000000000 / 2 ≤ m.since h.tStart - m.since p.1))).map (·.2)) ∧
  (∀ h, Acts .holdMaxExpiry
    (fun m => m.tb.hold = some h ∧ m.fld .tbRrCtrl F.tbRrCtrl_HOLD_MAX * 1000000000 ≤ m.since h.entered)
    (fun m => ((m.pathSet m.ptpPort h.news).tbAcquire).emit .timeHoldMax 1)) ∧
  Acts .holdMaxExpiry
    (fun m => ∀ h, m.tb.hold = some h → m.since h.entered < m.fld .tbRrCtrl F.tbRrCtrl_HOLD_MAX * 1000000000)
    (fun m => m) ∧
  (∀ ses x h, Acts (.tbRrAccept ses)
    (fun m => m.mayWrite x ses .tbRrCtrl (m.withFields .tbRrCtrl [(F.tbRrCtrl_ACCEPT, 1)]) ∧ m.tb.hold = some h)
    (fun m =>
      let m := m.stored .tbRrCtrl (m.withFields .tbRrCtrl [(F.tbRrCtrl_ACCEPT, 1)])
      ((m.pathSet m.ptpPort h.news).tbAcquire).emit .timeAccept 1)) ∧
  (∀ m : Mach, m.tbAcquire = m.updTb (fun t => { t with
    st := .acquire, lockCnt := 0, unlockCnt := 0, lastMeas := none
    hold := none, yF := ((t.inc.toNat : Nat) : Rat) / 34359738368 - 1 })) ∧
  (∀ (m : Mach) p l, m.pathSet p l =
    (m.updPtp p (fun x => { x with path := l.take 8, held := none })).wr (.tbPath p) (sat32w (ratRound (meanI (l.take 8) / 1000))))

/-- Serial lanes (R509). A write of LNl_CFG stores its word (R525); EN takes a lane from OFF to TRAIN, cleared it takes any to OFF, a fenced
one stays. Synchronisation in TRAIN, with auto-negotiation complete where it takes part and a partner within 200 ppm, gives ALIGN;
UP_HOLD in ALIGN gives UP with LANE_UP logged (R515), a pair lane with its 256 credits (R564). A cause that the lane can have (R510)
starts TRAIN again in ALIGN; in UP it counts, logs LANE_DOWN and goes through DOWN to TRAIN, loss of lock, of block lock or of signal
counting as an error of the lane (R511); OFF and FENCED ignore it. 5 ms of TRAIN restart adaptation from the presets (R507). A write of
LNl_ADAPT is stored (R508). A lane in another state than the one named is left as it was. SVC's states are log entry 61. Eye monitor and
PRBS. START begins a scan point and clears DONE (R516); once its bits are compared, its disagreements are stored, at most 2^(20 +
DWELL), and DONE is set (R517); before that, or with no scan, nothing. The engine's own measurement, every 100 ms, is shown, adaptation
moved and the invalid codes counted in UP, unless a scan runs or the lane is OFF or FENCED (R518). A change of CHK_EN clears SYNC
(R520). 64 good bits give a running checker SYNC, 32 errors in 64 take it with LOST_SYNC set (R521), and errors in SYNC are counted
(R522). CLR clears the counters (R522); INJ, looped back on the same pattern, counts one error (R523). -/
def Obligations.Lanes : Prop :=
  ((∀ ses x l w, Acts (.laneCfgWrite ses l w) (fun m => l < 4 ∧ m.mayWrite x ses (.lnCfg l) w)
      (fun m => (m.stored (.lnCfg l) w).laneEn l)) ∧
    (∀ (m : Mach) l, l < 4 →
      ((m.lane l).st = .off → m.flag (.lnCfg l) F.lnCfg_EN = true →
        m.laneEn l = (m.updLane l (fun x => { x with st := .train, trainMon := m.mon, eqMon := m.mon })).eqPresets l) ∧
      ((m.lane l).st = .off → m.flag (.lnCfg l) F.lnCfg_EN = false → m.laneEn l = m) ∧
      ((m.lane l).st = .fenced → m.laneEn l = m) ∧
      ((m.lane l).st = .test → m.flag (.lnCfg l) F.lnCfg_EN = false →
        m.laneEn l = ((m.prbsOff l).maintEndOf 3 l 0).updLane l (fun x => { x with st := .off, scan := false })) ∧
      ((m.lane l).st ≠ .off → (m.lane l).st ≠ .fenced → m.flag (.lnCfg l) F.lnCfg_EN = true → m.laneEn l = m) ∧
      ((m.lane l).st ≠ .off → (m.lane l).st ≠ .fenced → (m.lane l).st ≠ .test → m.flag (.lnCfg l) F.lnCfg_EN = false →
        m.laneEn l = m.updLane l (fun x => { x with st := .off, scan := false }))) ∧
    (∀ l an a d f, Acts (.laneSyncGained l an a d f)
      (fun m => l < 4 ∧ (m.lane l).st = .train ∧ (an = true ∨ m.laneAn l = false) ∧ (BitVec.ofNat 16 f).toInt.natAbs ≤ 2000)
      (fun m =>
        let m := (m.eqMove l a d).updLane l (fun x => { x with st := .align, alignMon := m.mon })
        let m := (m.setF (.lnStat l) F.lnStat_FREQ_OFS f).setF (.lnStat l) F.lnStat_SIG_DET 1
        m.setF (.lnStat l) F.lnStat_HIBER 0)) ∧
    (∀ l an a d f, Acts (.laneSyncGained l an a d f)
      (fun m => l < 4 ∧ ((m.lane l).st ≠ .train ∨ (an = false ∧ m.laneAn l = true) ∨ 2000 < (BitVec.ofNat 16 f).toInt.natAbs))
      (fun m => m)) ∧
    (∀ (m : Mach) l, l < 4 →
      m.laneAn l = (m.flag (.lnCfg l) F.lnCfg_AN_EN && decide (m.fld (.lnCfg l) F.lnCfg_RATE = 0)) ∧
      (∀ c, m.laneCause l c = true ↔ c = 1 ∨ c = 2 ∨ c = 3 ∨ (c = 4 ∧ m.fld (.lnCfg l) F.lnCfg_RATE ≠ 0) ∨ (c = 5 ∧ m.laneAn l = true) ∨
        (c = 6 ∧ m.fld (.lnCfg l) F.lnCfg_RATE = 2 ∧ m.fld (.lnCfg l) F.lnCfg_ROLE ≠ 1))) ∧
    (∀ l c bad, Acts (.laneLossOfLock l c bad) (fun m => l < 4 ∧ m.laneCause l c = true ∧ (m.lane l).st = .align)
      (fun m =>
        let m := if c = 1 then m.setF (.lnStat l) F.lnStat_SIG_DET 0 else m
        let m := if c = 4 then m.setF (.lnStat l) F.lnStat_HIBER 1 else m
        m.laneTrain l true)) ∧
    (∀ l c bad, Acts (.laneLossOfLock l c bad) (fun m => l < 4 ∧ m.laneCause l c = true ∧ (m.lane l).st = .up)
      (fun m =>
        let m := if c = 1 then m.setF (.lnStat l) F.lnStat_SIG_DET 0 else m
        let m := if c = 4 then m.setF (.lnStat l) F.lnStat_HIBER 1 else m
        let eq := ((m.rd (.lnAdapt l)), m.rd (.lnDfe l))
        let m := m.updLane l (fun x => { x with st := .down, eqUp := eq, fromUp := true, scan := false })
        let m := (m.setF (.lnStat l) F.lnStat_DOWN_CAUSE c).setF (.lnStat l) F.lnStat_FLAP_SEEN 1
        let m := (m.bump (.lnCntDown l) F.lnCntDown_COUNT 1).bump (.lnCntCode l) F.lnCntCode_COUNT bad
        let m := m.emitW .laneDown l [wd c]
        let m := if c = 2 ∨ c = 3 ∨ c = 4 then m.domErr (39 + l) .laneDrop else m
        if (m.lane l).st = .down then m.laneTrain l true else m)) ∧
    (∀ l c bad, Acts (.laneLossOfLock l c bad) (fun m => l < 4 ∧ m.laneCause l c = true ∧ ((m.lane l).st = .train ∨ (m.lane l).st = .test))
      (fun m =>
        let m := if c = 1 then m.setF (.lnStat l) F.lnStat_SIG_DET 0 else m
        if c = 4 then m.setF (.lnStat l) F.lnStat_HIBER 1 else m)) ∧
    (∀ l c bad, Acts (.laneLossOfLock l c bad)
      (fun m => l < 4 ∧ (m.laneCause l c = false ∨ (m.lane l).st = .off ∨ (m.lane l).st = .fenced)) (fun m => m)) ∧
    (∀ (m : Mach) l warm, l < 4 → m.laneTrain l warm =
      (let m' := m.updLane l (fun x => { x with st := .train, trainMon := m.mon, eqMon := m.mon })
       if warm && (m.lane l).fromUp then m'.eqSet l (m.lane l).eqUp.1 (m.lane l).eqUp.2 else m'.eqPresets l)) ∧
    (∀ l, Acts (.laneUp l)
      (fun m => l < 4 ∧ (m.lane l).st = .align ∧ msNs (m.fld (.lnCfg l) F.lnCfg_UP_HOLD) ≤ m.since (m.lane l).alignMon)
      (fun m =>
        let eq := ((m.rd (.lnAdapt l)), m.rd (.lnDfe l))
        let m := (m.updLane l (fun x => { x with st := .up, eqUp := eq, fromUp := true })).emit .laneUp l
        if m.fld (.lnCfg l) F.lnCfg_ROLE = 1 then
          { m with pair := { m.pair with credits := SMap.put m.pair.credits l 256, owed := m.pair.owed.filter (fun o => o.1 ≠ l) } }
        else m)) ∧
    (∀ l, Acts (.laneUp l)
      (fun m => l < 4 ∧ ((m.lane l).st ≠ .align ∨ m.since (m.lane l).alignMon < msNs (m.fld (.lnCfg l) F.lnCfg_UP_HOLD))) (fun m => m)) ∧
    (∀ l, Acts (.adaptPresetRestart l)
      (fun m => l < 4 ∧ (m.lane l).st = .train ∧ msNs 5 ≤ m.since (m.lane l).trainMon)
      (fun m => (m.eqPresets l).updLane l (fun x => { x with trainMon := m.mon }))) ∧
    (∀ l, Acts (.adaptPresetRestart l)
      (fun m => l < 4 ∧ ((m.lane l).st ≠ .train ∨ m.since (m.lane l).trainMon < msNs 5)) (fun m => m)) ∧
    (∀ ses x l w, Acts (.adaptFreeze ses l w) (fun m => l < 4 ∧ m.mayWrite x ses (.lnAdapt l) w)
      (fun m => m.stored (.lnAdapt l) w)) ∧
    (∀ (m : Mach) l a d, m.flag (.lnAdapt l) F.lnAdapt_FREEZE = true → m.eqSet l a d = m)) ∧
  ((∀ ses x l w, Acts (.eyeScanStart ses l w)
      (fun m => l < 4 ∧ m.mayWrite x ses (.lnScanCtrl l) w ∧ F.lnScanCtrl_START.get w = 1)
      (fun m => ((m.stored (.lnScanCtrl l) w).updLane l (fun x => { x with scan := true, scanMon := m.mon })).setF (.lnScanCtrl l)
        F.lnScanCtrl_DONE 0)) ∧
    (∀ l e, Acts (.eyeScanDone l e)
      (fun m => l < 4 ∧ (m.lane l).scan = true ∧
        2 ^ (20 + m.fld (.lnScanCtrl l) F.lnScanCtrl_DWELL) ≤ m.laneBits l (m.since (m.lane l).scanMon))
      (fun m => ((m.updLane l (fun x => { x with scan := false })).setF (.lnScanCtrl l) F.lnScanCtrl_DONE 1).wr (.lnScanErr l)
        (wd (min (min e (2 ^ (20 + m.fld (.lnScanCtrl l) F.lnScanCtrl_DWELL))) (2 ^ 32 - 1))))) ∧
    (∀ l e, Acts (.eyeScanDone l e)
      (fun m => (m.lane l).scan = false ∨
        m.laneBits l (m.since (m.lane l).scanMon) < 2 ^ (20 + m.fld (.lnScanCtrl l) F.lnScanCtrl_DWELL)) (fun m => m)) ∧
    (∀ (m : Mach) l ns, m.laneBits l ns = ns * bitsPerTick (m.fld (.lnCfg l) F.lnCfg_RATE) / 64) ∧
    (∀ l w h a d bad, Acts (.eyeAutoMeasure l w ⟨h, a, d, bad⟩)
      (fun m => l < 4 ∧ (m.lane l).scan = false ∧ (m.lane l).st ≠ .off ∧ (m.lane l).st ≠ .fenced ∧ msNs 100 ≤ m.since (m.lane l).eyeMon)
      (fun m =>
        let m' := (((m.setF (.lnEye l) F.lnEye_EYE_W w).setF (.lnEye l) F.lnEye_EYE_H h).updLane l
          (fun y => { y with eyeMon := m.mon })).eqMove l a d
        if (m.lane l).st = .up then m'.bump (.lnCntCode l) F.lnCntCode_COUNT bad else m')) ∧
    (∀ l w h a d bad, Acts (.eyeAutoMeasure l w ⟨h, a, d, bad⟩)
      (fun m => (m.lane l).scan = true ∨ (m.lane l).st = .off ∨ (m.lane l).st = .fenced ∨ m.since (m.lane l).eyeMon < msNs 100)
      (fun m => m)) ∧
    (∀ ses x l w, Acts (.prbsEnable ses l w)
      (fun m => l < 4 ∧ m.mayWrite x ses (.lnPrbsCtrl l) w)
      (fun m => (m.stored (.lnPrbsCtrl l) w).prbsWritten l (m.rd (.lnPrbsCtrl l)) w (m.newWord (.lnPrbsCtrl l) w))) ∧
    (∀ l run, Acts (.prbsSyncGain ⟨l, run⟩)
      (fun m => l < 4 ∧ (m.lane l).st = .test ∧ m.flag (.lnPrbsCtrl l) F.lnPrbsCtrl_CHK_EN = true ∧ 64 ≤ run)
      (fun m => m.setF (.lnPrbsStat l) F.lnPrbsStat_SYNC 1)) ∧
    (∀ l run, Acts (.prbsSyncGain ⟨l, run⟩)
      (fun m => (m.lane l).st ≠ .test ∨ m.flag (.lnPrbsCtrl l) F.lnPrbsCtrl_CHK_EN = false ∨ run < 64) (fun m => m)) ∧
    (∀ l e win, Acts (.prbsSyncLoss l ⟨e, win⟩)
      (fun m => l < 4 ∧ (m.lane l).st = .test ∧ m.flag (.lnPrbsCtrl l) F.lnPrbsCtrl_CHK_EN = true ∧
        m.flag (.lnPrbsStat l) F.lnPrbsStat_SYNC = true ∧ 32 ≤ win)
      (fun m => ((((m.updLane l (fun x => { x with errs := x.errs + e })).prbsShow l).setF (.lnPrbsStat l) F.lnPrbsStat_SYNC 0).setF
        (.lnPrbsStat l) F.lnPrbsStat_LOST_SYNC 1))) ∧
    (∀ l e win, Acts (.prbsSyncLoss l ⟨e, win⟩)
      (fun m => l < 4 ∧ (m.lane l).st = .test ∧ m.flag (.lnPrbsCtrl l) F.lnPrbsCtrl_CHK_EN = true ∧
        m.flag (.lnPrbsStat l) F.lnPrbsStat_SYNC = true ∧ win < 32)
      (fun m => (m.updLane l (fun x => { x with errs := x.errs + e })).prbsShow l)) ∧
    (∀ l e win, Acts (.prbsSyncLoss l ⟨e, win⟩)
      (fun m => (m.lane l).st ≠ .test ∨ m.flag (.lnPrbsCtrl l) F.lnPrbsCtrl_CHK_EN = false ∨
        m.flag (.lnPrbsStat l) F.lnPrbsStat_SYNC = false) (fun m => m)) ∧
    (∀ (m : Mach) l, m.prbsShow l =
      (m.wr (.lnPrbsErr l) (wd (min (m.lane l).errs (2 ^ 32 - 1)))).wr (.lnPrbsBits l)
        (wd (min ((m.lane l).bits / 8 / 65536) (2 ^ 32 - 1)))) ∧
    (∀ ses x l, Acts (.prbsClr ses l)
      (fun m => l < 4 ∧ m.mayWrite x ses (.lnPrbsCtrl l) (m.withFields (.lnPrbsCtrl l) [(F.lnPrbsCtrl_CLR, 1)]))
      (fun m => m.stored (.lnPrbsCtrl l) (m.withFields (.lnPrbsCtrl l) [(F.lnPrbsCtrl_CLR, 1)]) |>.prbsWritten l (m.rd (.lnPrbsCtrl l))
        (m.withFields (.lnPrbsCtrl l) [(F.lnPrbsCtrl_CLR, 1)])
        (m.newWord (.lnPrbsCtrl l) (m.withFields (.lnPrbsCtrl l) [(F.lnPrbsCtrl_CLR, 1)])))) ∧
    (∀ ses x l, Acts (.prbsInj ses l)
      (fun m => l < 4 ∧ m.mayWrite x ses (.lnPrbsCtrl l) (m.withFields (.lnPrbsCtrl l) [(F.lnPrbsCtrl_INJ, 1)]))
      (fun m => m.stored (.lnPrbsCtrl l) (m.withFields (.lnPrbsCtrl l) [(F.lnPrbsCtrl_INJ, 1)]) |>.prbsWritten l (m.rd (.lnPrbsCtrl l))
        (m.withFields (.lnPrbsCtrl l) [(F.lnPrbsCtrl_INJ, 1)])
        (m.newWord (.lnPrbsCtrl l) (m.withFields (.lnPrbsCtrl l) [(F.lnPrbsCtrl_INJ, 1)])))) ∧
    (∀ (m : Mach) l old w new,
      (F.lnPrbsCtrl_CLR.get w = 0 → F.lnPrbsCtrl_INJ.get w = 0 → F.lnPrbsCtrl_CHK_EN.get old ≠ F.lnPrbsCtrl_CHK_EN.get new →
        m.prbsWritten l old w new = m.setF (.lnPrbsStat l) F.lnPrbsStat_SYNC 0) ∧
      (F.lnPrbsCtrl_CLR.get w = 0 → F.lnPrbsCtrl_INJ.get w = 0 → F.lnPrbsCtrl_CHK_EN.get old = F.lnPrbsCtrl_CHK_EN.get new →
        m.prbsWritten l old w new = m) ∧
      (F.lnPrbsCtrl_CLR.get w = 1 → F.lnPrbsCtrl_INJ.get w = 0 → F.lnPrbsCtrl_CHK_EN.get old = F.lnPrbsCtrl_CHK_EN.get new →
        m.prbsWritten l old w new = (m.updLane l (fun x => { x with bits := 0, errs := 0 })).prbsShow l) ∧
      (F.lnPrbsCtrl_CLR.get w = 0 → F.lnPrbsCtrl_INJ.get w = 1 → F.lnPrbsCtrl_CHK_EN.get old = F.lnPrbsCtrl_CHK_EN.get new →
        m.prbsWritten l old w new = m.prbsInj l)) ∧
    (∀ (m : Mach) l, l < 4 → (m.lane l).st = .test → m.flag (.lnPrbsCtrl l) F.lnPrbsCtrl_GEN_EN = true →
      m.flag (.lnPrbsCtrl l) F.lnPrbsCtrl_CHK_EN = true → m.flag (.lnPrbsStat l) F.lnPrbsStat_SYNC = true →
      m.fld (.lnPrbsCtrl l) F.lnPrbsCtrl_LOOP = 1 →
      m.fld (.lnPrbsCtrl l) F.lnPrbsCtrl_GEN_PAT = m.fld (.lnPrbsCtrl l) F.lnPrbsCtrl_CHK_PAT →
      m.prbsInj l = (m.updLane l (fun x => { x with errs := x.errs + 1 })).prbsShow l) ∧
    (∀ (m : Mach) l, (m.flag (.lnPrbsCtrl l) F.lnPrbsCtrl_GEN_EN = false ∨ m.fld (.lnPrbsCtrl l) F.lnPrbsCtrl_LOOP ≠ 1) → m.prbsInj l = m))

/-- The receive path and GOOSE reception (R526): a frame on a lane that is not UP does nothing, a cut one is counted as that; one with a bad
FCS or a length outside 64 to 1528 is counted; a PAUSE frame is dropped (R527), a doubly tagged one counted; an untagged GOOSE frame for
a destination taken is a GOOSE message. Such a message is ignored on another lane than its subscription's, of an unknown address, when
simulated without SIM_ACC or when a repetition; one that does not fit its configuration is reported; else it sets its points and its
subscription LIVE (R537). timeAllowedtoLive passing makes them stale with GOOSE_LOST (R538), before it nothing. A frame of a host filter
is sent to the host, another not (R572). -/
def Obligations.ReceiveAndGoose : Prop :=
  (∀ (m : Mach) l, m.rxUp l = if l = 4 then m.svcUp else decide (l < 4) && m.ethUp l) ∧
  (∀ f, Acts (.macFrameReceive f) (fun m => m.rxUp f.lane = false) (fun m => m)) ∧
  (∀ f, Acts (.macFrameReceive f) (fun m => m.rxUp f.lane = true ∧ f.cut = true)
    (fun m => m.bump (.mac f.lane 3) F.mac_COUNT 1)) ∧
  (∀ f, Acts (.macFrameReceive f) (fun m => m.rxUp f.lane = true ∧ f.cut = false ∧ f.fcs = false)
    (fun m => (m.bump (.mac f.lane 0) F.mac_COUNT 1).bump (.mac f.lane 2) F.mac_COUNT 1)) ∧
  (∀ f, Acts (.macFrameReceive f)
    (fun m => m.rxUp f.lane = true ∧ f.cut = false ∧ f.fcs = true ∧ (f.len < 64 ∨ 1528 < f.len))
    (fun m => (m.bump (.mac f.lane 0) F.mac_COUNT 1).bump (.mac f.lane 5) F.mac_COUNT 1)) ∧
  (∀ f, Acts (.macFrameReceive f)
    (fun m => m.rxUp f.lane = true ∧ f.cut = false ∧ f.fcs = true ∧ 64 ≤ f.len ∧ f.len ≤ 1528 ∧ f.etype = 0x8808)
    (fun m => m.bump (.mac f.lane 0) F.mac_COUNT 1)) ∧
  (∀ f, Acts (.macFrameReceive f)
    (fun m => m.rxUp f.lane = true ∧ f.cut = false ∧ f.fcs = true ∧ 64 ≤ f.len ∧ f.len ≤ 1528 ∧ f.etype ≠ 0x8808 ∧ f.double = true)
    (fun m => (m.bump (.mac f.lane 0) F.mac_COUNT 1).bump (.mac f.lane 4) F.mac_COUNT 1)) ∧
  (∀ f l ap g, Acts (.macFrameReceive f)
    (fun m => f.lane = l ∧ m.rxUp l = true ∧ f.cut = false ∧ f.fcs = true ∧ 64 ≤ f.len ∧ f.len ≤ 1528 ∧ f.etype = 0x88B8 ∧
      f.double = false ∧ f.tag = none ∧ m.dual = false ∧ f.body = .goose ap g ∧
      (m.bump (.mac l 0) F.mac_COUNT 1).dstOk l f.dst = true ∧ ((m.bump (.mac l 0) F.mac_COUNT 1).subFor true f.dst ap).isSome = true)
    (fun m => (m.bump (.mac l 0) F.mac_COUNT 1).gooseRecv l f.dst ap g)) ∧
  (∀ l mac ap msg, Acts (.gooseReceive l mac ap msg) (fun m => l < 5 ∧ m.rxUp l = true) (fun m => m.gooseRecv l mac ap msg)) ∧
  (∀ l mac ap msg, Acts (.gooseReceive l mac ap msg) (fun m => m.rxUp l = false) (fun m => m)) ∧
  (∀ (m : Mach) l mac ap msg,
    (m.subFor true mac ap = none → m.gooseRecv l mac ap msg = m) ∧
    (∀ g, m.subFor true mac ap = some g →
      (m.flag (.gsubCfg g) F.gsubCfg_EN = false ∨ (m.dual = true ∧ 2 ≤ l) ∨ (m.dual = false ∧ m.fld (.gsubCfg g) F.gsubCfg_LANE ≠ l) →
        m.gooseRecv l mac ap msg = m) ∧
      (m.flag (.gsubCfg g) F.gsubCfg_EN = true → (m.dual = true ∧ l < 2 ∨ m.dual = false ∧ m.fld (.gsubCfg g) F.gsubCfg_LANE = l) →
        (msg.idCrc ≠ m.rd (.rxd (64 + g) 3) ∨ msg.confRev ≠ m.rd (.rxd (64 + g) 2) ∨ msg.ndsCom = true ∨
            msg.data.length ≤ m.fld (.gsubCfg g) F.gsubCfg_NMEMB →
          m.gooseRecv l mac ap msg = (m.setF (.gsubStat g) F.gsubStat_CFG_MISMATCH 1).emit .gooseCfgMismatch g) ∧
        (msg.idCrc = m.rd (.rxd (64 + g) 3) → msg.confRev = m.rd (.rxd (64 + g) 2) → msg.ndsCom = false →
          m.fld (.gsubCfg g) F.gsubCfg_NMEMB < msg.data.length →
          (msg.sim = true → m.flag (.gsubCfg g) F.gsubCfg_SIM_ACC = false → m.gooseRecv l mac ap msg = m) ∧
          ((m.gsub g).stNum = some (msg.stNum, msg.sqNum) → m.gooseRecv l mac ap msg = m) ∧
          ((msg.sim = false ∨ m.flag (.gsubCfg g) F.gsubCfg_SIM_ACC = true) → (m.gsub g).stNum ≠ some (msg.stNum, msg.sqNum) →
            m.gooseRecv l mac ap msg =
              let m := m.updGsub g (fun x =>
                { x with live := true, stNum := some (msg.stNum, msg.sqNum), tal := msg.tal, lastMon := m.mon })
              let m := m.setF (.gsubStat g) F.gsubStat_LIVE 1
              forEach (m.gptOf g) m (fun m i => m.gptSet g msg i)))))) ∧
  (∀ g, Acts (.gooseTalExpiry g) (fun m => g < 128 ∧ (m.gsub g).live = true ∧ msNs (m.gsub g).tal ≤ m.since (m.gsub g).lastMon)
    (fun m => (m.gptStale g).emit .gooseLost g)) ∧
  (∀ g, Acts (.gooseTalExpiry g) (fun m => (m.gsub g).live = false ∨ m.since (m.gsub g).lastMon < msNs (m.gsub g).tal) (fun m => m)) ∧
  (∀ (m : Mach) g, m.gptStale g =
    ((m.updGsub g (fun x => { x with live := false })).setF (.gsubStat g) F.gsubStat_LIVE 0).updNet (fun n => { n with
      gpts := n.gpts.map (fun p => if (m.gptOf g).contains p.1 then (p.1, { p.2 with valid := false, stale := true }) else p) })) ∧
  (∀ l e b, Acts (.hostFrameReceive l e b) (fun m => l < 5 ∧ m.rxUp l = true ∧ m.hostMatch l e = true)
    (fun m => m.notifyAll (fun s => s.flags.testBit 1) 4
      (beBytes 1 l ++ [0] ++ beBytes 2 b.length ++ beBytes 8 m.ltc.toNat ++ b))) ∧
  (∀ l e b, Acts (.hostFrameReceive l e b) (fun m => m.rxUp l = false ∨ m.hostMatch l e = false) (fun m => m))

/-- GOOSE subscriptions and publications: EN of a subscription enters it in the first free place of its set of the table (R534), cleared it
leaves the table and its points go stale; EN of a publication cleared sends nothing more (R541). A repetition that is due doubles the
interval up to T_MAX and sends, one not due, of a publication not enabled or of a unit that does not act, does nothing (R543). The
window takes a template word or a member's offsets and its index moves on, by a read alone too (R573). -/
def Obligations.GooseConfiguration : Prop :=
  (∀ ses x g w, Acts (.gooseSubEnable ses g w) (fun m => g < 128 ∧ m.mayWrite x ses (.gsubCfg g) w)
    (fun m => (m.stored (.gsubCfg g) w).gsubWritten g (m.rd (.gsubCfg g)) (m.newWord (.gsubCfg g) w))) ∧
  (∀ (m : Mach) g old new,
    (F.gsubCfg_EN.get old = 0 → F.gsubCfg_EN.get new = 1 → m.gsubWritten g old new = m.subAdd (64 + g)) ∧
    (F.gsubCfg_EN.get old = 1 → F.gsubCfg_EN.get new = 0 →
      m.gsubWritten g old new = ((m.subDel (64 + g)).gptStale g).updGsub g (fun x => { x with stNum := none })) ∧
    (F.gsubCfg_EN.get old = F.gsubCfg_EN.get new → m.gsubWritten g old new = m)) ∧
  (∀ (m : Mach) g k, k < 4 →
    let s := Mach.subSet (m.rxdMac (64 + g)) (m.rxdAppid (64 + g))
    (∀ j, j < k → (SMap.get? m.net.table (4 * s + j)).isSome) → SMap.get? m.net.table (4 * s + k) = none →
    m.subAdd (64 + g) = m.updNet (fun n => { n with
      table := SMap.put n.table (4 * s + k)
        ({ set := s, goose := true, idx := g, mac := m.rxdMac (64 + g), appid := m.rxdAppid (64 + g) } : SubEnt) })) ∧
  (∀ ses x p w, Acts (.goosePubEnable ses p w) (fun m => p < 128 ∧ m.mayWrite x ses (.gpubCtrl p) w)
    (fun m =>
      let m := m.stored (.gpubCtrl p) w
      if m.flag (.gpubCtrl p) F.gpubCtrl_EN then m else m.updGpub p (fun x => { x with nextMon := none }))) ∧
  (∀ p t, Acts (.gooseRepeat p)
    (fun m => p < 128 ∧ (m.gpub p).nextMon = some t ∧ (t - m.mon).toInt ≤ 0 ∧ m.flag (.gpubCtrl p) F.gpubCtrl_EN = true ∧
      m.acts = true)
    (fun m =>
      let iv := min (2 * (m.gpub p).interval) (msNs (m.fld (.gpubCtrl p) F.gpubCtrl_T_MAX))
      (m.updGpub p (fun x =>
        { x with sqNum := (x.sqNum + 1) % 2 ^ 32, interval := iv, nextMon := some (m.mon + tm iv) })).gooseSend p)) ∧
  (∀ p, Acts (.gooseRepeat p)
    (fun m => (∀ t, (m.gpub p).nextMon = some t → 0 < (t - m.mon).toInt) ∨ m.flag (.gpubCtrl p) F.gpubCtrl_EN = false ∨ m.acts = false)
    (fun m => m)) ∧
  (∀ ses x w, Acts (.gpubWinAccess ses (some w)) (fun m => m.mayWrite x ses .gpubWinData w) (fun m => (m.gwPut w).gwNext)) ∧
  (∀ ses x, Acts (.gpubWinAccess ses none) (fun m => m.sess ses = some x ∧ m.start.recovery = false) (fun m => m.gwNext)) ∧
  (∀ (m : Mach) w,
    (m.gwMemb = true → m.gwPut w = m.updGpub m.gwPub (fun g => { g with offs := SMap.put g.offs m.gwIdx w })) ∧
    (m.gwMemb = false → m.gwIdx < 375 → m.gwPut w = m.updGpub m.gwPub (fun g =>
      let t := g.tmpl ++ zeros (4 * m.gwIdx + 4 - g.tmpl.length)
      { g with tmpl := t.take (4 * m.gwIdx) ++ beBytes 4 w.toNat ++ t.drop (4 * m.gwIdx + 4) })) ∧
    (m.gwMemb = false → 375 ≤ m.gwIdx → m.gwPut w = m) ∧
    m.gwNext = m.wr .gpubWinAddr (wd ((m.rd .gpubWinAddr).toNat / 2048 * 2048 + (m.gwIdx + 1) % 2048)))

/-- GLX stations (R551). Every received GLX frame does nothing on a lane not UP or with GLX off, and is counted when it fails R548. An
ANNOUNCE of an unknown station is counted and logged (R555); of a valid layout it admits a WAITING station and sends ADMIT, of an
invalid one it is logged (R552); of a known station with another MAC it sets DUP_DEVID; else it is heard by an ADMITTED one and admits a
LIVE or SILENT one again. An INPUT newer than the last (R550) is taken, and makes an ADMITTED or SILENT station LIVE; of a DISABLED or
WAITING one it is only heard. LEAVE makes a LIVE or SILENT station WAITING. No INPUT for LIVE_TMO makes a LIVE station SILENT (R553), an
ADMITTED one WAITING; no frame for AGE_T a SILENT one WAITING; before that nothing. EN enables and disables the entry (R547). -/
def Obligations.GlxStations : Prop :=
  (∀ h p i t, (i, t) ∈ [(Instr.glxAnnounceReceive h p, 0x01), (Instr.glxInputReceive h p, 0x10), (Instr.glxLeaveReceive h p, 0x03),
      (Instr.glxAckReceive h p, 0x21), (Instr.glxReadyReceive h p, 0x31), (Instr.glxRefuseReceive h p, 0x32),
      (Instr.glxReportReceive h p, 0x40)] →
    Acts i (fun m => m.rxUp h.lane = false ∨ m.flag .netCtrl F.netCtrl_GLX_EN = false) (fun m => m) ∧
    Acts i (fun m => m.rxUp h.lane = true ∧ m.flag .netCtrl F.netCtrl_GLX_EN = true ∧ m.glxOk h t p = false)
      (fun m => m.bump .netGlxBad F.netGlxBad_COUNT 1)) ∧
  (∀ h p, Acts (.glxAnnounceReceive h p) (fun m => m.glxTakes h 0x01 p ∧ m.staOf h.src = none)
    (fun m => ((m.bump .netGlxUnknown F.netGlxUnknown_COUNT 1).setF .netStat F.netStat_UNKNOWN_STA 1).emit .staUnknown h.src)) ∧
  (∀ h p e, Acts (.glxAnnounceReceive h p)
    (fun m => m.glxTakes h 0x01 p ∧ m.staOf h.src = some e ∧ (m.staLane e h.lane = false ∨ (m.sta e).st = .disabled)) (fun m => m)) ∧
  (∀ h p e, let l := Layout.mk (beAt p 2 2) (beAt p 4 2) (beAt p 6 2) (beAt p 8 2)
    Acts (.glxAnnounceReceive h p)
      (fun m => m.glxTakes h 0x01 p ∧ m.staOf h.src = some e ∧ m.staLane e h.lane = true ∧ (m.sta e).st = .waiting ∧ l.ok = true)
      (fun m => (m.staHeard e).staAdmit e h.mac l) ∧
    Acts (.glxAnnounceReceive h p)
      (fun m => m.glxTakes h 0x01 p ∧ m.staOf h.src = some e ∧ m.staLane e h.lane = true ∧ (m.sta e).st = .waiting ∧ l.ok = false)
      (fun m => (m.staHeard e).emit .staLayoutBad e) ∧
    Acts (.glxAnnounceReceive h p)
      (fun m => m.glxTakes h 0x01 p ∧ m.staOf h.src = some e ∧ m.staLane e h.lane = true ∧
        ((m.sta e).st = .admitted ∨ (m.sta e).st = .live ∨ (m.sta e).st = .silent) ∧ h.mac ≠ (m.sta e).mac)
      (fun m => (m.setF .netStat F.netStat_DUP_DEVID 1).emit .staDupDevid e) ∧
    Acts (.glxAnnounceReceive h p)
      (fun m => m.glxTakes h 0x01 p ∧ m.staOf h.src = some e ∧ m.staLane e h.lane = true ∧ (m.sta e).st = .admitted ∧ h.mac = (m.sta e).mac)
      (fun m => m.staHeard e) ∧
    Acts (.glxAnnounceReceive h p)
      (fun m => m.glxTakes h 0x01 p ∧ m.staOf h.src = some e ∧ m.staLane e h.lane = true ∧
        ((m.sta e).st = .live ∨ (m.sta e).st = .silent) ∧ h.mac = (m.sta e).mac ∧ (m.sta e).layout = some l)
      (fun m => (m.staHeard e).staAdmit e h.mac l) ∧
    Acts (.glxAnnounceReceive h p)
      (fun m => m.glxTakes h 0x01 p ∧ m.staOf h.src = some e ∧ m.staLane e h.lane = true ∧
        ((m.sta e).st = .live ∨ (m.sta e).st = .silent) ∧ h.mac = (m.sta e).mac ∧ (m.sta e).layout ≠ some l)
      (fun m => ((m.staHeard e).staAdmit e h.mac l).emit .staLayout e)) ∧
  (∀ (m : Mach) e mac l, m.staAdmit e mac l =
    ((m.staTo e .admitted).updSta e (fun s => { s with layout := some l, mac := mac, seq := none, lastInput := m.mon })).admitSend e) ∧
  (∀ h p e l, Acts (.glxInputReceive h p)
    (fun m => m.glxTakes h 0x10 p ∧ m.glxFrom h = some e ∧ ((m.staHeard e).sta e).layout = some l ∧
      (((m.staHeard e).sta e).st = .admitted ∨ ((m.staHeard e).sta e).st = .live ∨ ((m.staHeard e).sta e).st = .silent) ∧
      ∀ q, ((m.staHeard e).sta e).seq = some q → 0 < sdiff16 h.seq q)
    (fun m =>
      let m' := (m.staHeard e).updSta e (fun s => { s with seq := some h.seq, lastInput := m.mon, vals := inputPoints l p })
      match ((m.staHeard e).sta e).st with
      | .admitted => (m'.staTo e .live).emit .staJoin e
      | .silent => (m'.staTo e .live).emit .staBack e
      | _ => m')) ∧
  (∀ h p e, Acts (.glxInputReceive h p)
    (fun m => m.glxTakes h 0x10 p ∧ m.glxFrom h = some e ∧ (((m.staHeard e).sta e).layout = none ∨
      ((m.staHeard e).sta e).st = .disabled ∨ ((m.staHeard e).sta e).st = .waiting ∨
      ∃ q, ((m.staHeard e).sta e).seq = some q ∧ sdiff16 h.seq q ≤ 0))
    (fun m => m.staHeard e)) ∧
  (∀ h p, Acts (.glxInputReceive h p) (fun m => m.glxTakes h 0x10 p ∧ m.glxFrom h = none) (fun m => m)) ∧
  (∀ h p e, Acts (.glxLeaveReceive h p)
    (fun m => m.glxTakes h 0x03 p ∧ m.glxFrom h = some e ∧ (((m.staHeard e).sta e).st = .live ∨ ((m.staHeard e).sta e).st = .silent))
    (fun m => ((m.staHeard e).staTo e .waiting).emit .staLeave e)) ∧
  (∀ h p e, Acts (.glxLeaveReceive h p)
    (fun m => m.glxTakes h 0x03 p ∧ m.glxFrom h = some e ∧ ((m.staHeard e).sta e).st ≠ .live ∧ ((m.staHeard e).sta e).st ≠ .silent)
    (fun m => m.staHeard e)) ∧
  (∀ h p, Acts (.glxLeaveReceive h p) (fun m => m.glxTakes h 0x03 p ∧ m.glxFrom h = none) (fun m => m)) ∧
  (∀ e, Acts (.stationLiveTimeout e)
    (fun m => e < 256 ∧ 100000 * m.fld (.staTime e) F.staTime_LIVE_TMO ≤ m.since (m.sta e).lastInput ∧ (m.sta e).st = .live)
    (fun m => ((m.staTo e .silent).emit .staSilent e).staErr e)) ∧
  (∀ e, Acts (.stationLiveTimeout e)
    (fun m => e < 256 ∧ 100000 * m.fld (.staTime e) F.staTime_LIVE_TMO ≤ m.since (m.sta e).lastInput ∧ (m.sta e).st = .admitted)
    (fun m => m.staTo e .waiting)) ∧
  (∀ e, Acts (.stationLiveTimeout e)
    (fun m => m.since (m.sta e).lastInput < 100000 * m.fld (.staTime e) F.staTime_LIVE_TMO ∨
      ((m.sta e).st ≠ .live ∧ (m.sta e).st ≠ .admitted))
    (fun m => m)) ∧
  (∀ e, Acts (.stationAgeOut e)
    (fun m => e < 256 ∧ (m.sta e).st = .silent ∧ 1000000000 * m.fld (.staTime e) F.staTime_AGE_T ≤ m.since (m.sta e).lastFrame)
    (fun m => (m.staTo e .waiting).emit .staAged e)) ∧
  (∀ e, Acts (.stationAgeOut e)
    (fun m => (m.sta e).st ≠ .silent ∨ m.since (m.sta e).lastFrame < 1000000000 * m.fld (.staTime e) F.staTime_AGE_T) (fun m => m)) ∧
  (∀ ses x e w, Acts (.stationEnable ses e w) (fun m => e < 256 ∧ m.mayWrite x ses (.staCfg e) w)
    (fun m => (m.stored (.staCfg e) w).staWritten e)) ∧
  (∀ (m : Mach) e,
    ((m.sta e).st = .disabled → m.flag (.staCfg e) F.staCfg_EN = true → m.staWritten e = m.staTo e .waiting) ∧
    ((m.sta e).st ≠ .disabled → m.flag (.staCfg e) F.staCfg_EN = false → m.staWritten e = m.staTo e .disabled) ∧
    (((m.sta e).st = .disabled ↔ m.flag (.staCfg e) F.staCfg_EN = false) → m.staWritten e = m)) ∧
  (∀ (m : Mach) e st, m.staTo e st =
    m.updSta e (fun s => { s with st := st, leftLive := if s.st = .live ∧ st ≠ .live then some m.mon else s.leftLive }))

/-- Remote participants, reports and supervision. A participant's READY is recorded before the deadline, the last prepares the stitch
(R347); REFUSE of a participant drops a STAGED stitch (R348); where there is no such stitch, sender or state, the sender is only heard.
An ACK of one command ends its repetition and, when refused, is logged (R559). A REPORT opens an entry, or counts in the open one (R568,
R569); an entry HOLD_MS old closes with its summary, none closed where none is due (R570). BEACON every 5 ms (R560); supervision every
LIFE_MS; a node heard enters the table of 512, one not heard for NODE_FORGET leaves it (R530). -/
def Obligations.PartnersAndReports : Prop :=
  (∀ h p s e, Acts (.glxReadyReceive h p)
    (fun m => m.glxTakes h 0x31 p ∧ m.glxFrom h = some e ∧ (m.staHeard e).glxFrom h = some e ∧
      (m.staHeard e).stitch h.stitch = some s ∧ s.prepSent = true ∧ s.st = .staged ∧ m.ltc < s.b)
    (fun m =>
      let parts := s.parts.map (fun x => if x.1 = h.src then (x.1, true) else x)
      (m.staHeard e).updStitch h.stitch (fun x => { x with parts := parts, st := if parts.all (·.2) then .prepared else x.st }))) ∧
  (∀ h p e, Acts (.glxReadyReceive h p)
    (fun m => m.glxTakes h 0x31 p ∧ m.glxFrom h = some e ∧
      ∀ s, (m.staHeard e).stitch h.stitch = some s → s.prepSent = false ∨ s.st ≠ .staged ∨ s.b ≤ m.ltc)
    (fun m => m.staHeard e)) ∧
  (∀ h p s e, Acts (.glxRefuseReceive h p)
    (fun m => m.glxTakes h 0x32 p ∧ m.glxFrom h = some e ∧ (m.staHeard e).glxFrom h = some e ∧
      (m.staHeard e).stitch h.stitch = some s ∧ s.prepSent = true ∧ s.st = .staged ∧
      s.parts.any (fun x => decide (x.1 = h.src)) = true)
    (fun m => (m.staHeard e).stitchDrop h.stitch 4)) ∧
  (∀ h p e, Acts (.glxRefuseReceive h p)
    (fun m => m.glxTakes h 0x32 p ∧ m.glxFrom h = some e ∧ ∀ s, (m.staHeard e).stitch h.stitch = some s →
      s.prepSent = false ∨ s.st ≠ .staged ∨ s.parts.any (fun x => decide (x.1 = h.src)) = false)
    (fun m => m.staHeard e)) ∧
  (∀ h p e c, Acts (.glxAckReceive h p)
    (fun m => m.glxTakes h 0x21 p ∧ m.glxFrom h = some e ∧ beAt p 0 1 = 1 ∧
      (m.staHeard e).stu.cmds.find? (fun c =>
        decide (c.devid = h.src ∧ c.point = beAt p 4 2 ∧ c.stitch = h.stitch)) = some c)
    (fun m =>
      let m := m.staHeard e
      let m := ({ m with stu := { m.stu with cmds := m.stu.cmds.erase c } } : Mach).setRemote c.stitch 1
      if beAt p 6 2 = 0 then m else m.emitW .remoteRefused e [wd (beAt p 6 2)])) ∧
  (∀ h p e, Acts (.glxAckReceive h p)
    (fun m => m.glxTakes h 0x21 p ∧ m.glxFrom h = some e ∧ beAt p 0 1 = 1 ∧
      (m.staHeard e).stu.cmds.find? (fun c =>
        decide (c.devid = h.src ∧ c.point = beAt p 4 2 ∧ c.stitch = h.stitch)) = none)
    (fun m => m.staHeard e)) ∧
  (∀ h p k c, Acts (.glxReportReceive h p)
    (fun m => m.glxTakes h 0x40 p ∧ m.glxFrom h = none ∧
      m.coalOf (beAt p 0 2) (beAt p 2 2) = some (k, c) ∧ m.coalDue c = false)
    (fun m => m.updNet (fun n => { n with coal := SMap.put n.coal k { c.count1 (m.staOf h.src) with
      lastLtc := m.ltc, lastMon := m.mon } }))) ∧
  (∀ h p k, Acts (.glxReportReceive h p)
    (fun m => m.glxTakes h 0x40 p ∧ m.glxFrom h = none ∧
      m.coalOf (beAt p 0 2) (beAt p 2 2) = none ∧ (List.range 128).find? (fun k => (SMap.get? m.net.coal k).isNone) = some k)
    (fun m =>
      let c : Coal := { code := beAt p 0 2, subject := beAt p 2 2, firstLtc := m.ltc, lastLtc := m.ltc, lastMon := m.mon,
                        count := 0, nOther := 0, bitmap := [], reporter := h.src }
      ((m.updNet (fun n => { n with coal := SMap.put n.coal k (c.count1 (m.staOf h.src)) })).coalStat).emitW .staReport h.src
        [wd (beAt p 0 2 * 65536 + beAt p 2 2), wd h.src, wd (beAt p 4 4)])) ∧
  (∀ k c, Acts .reportCoalesceClose (fun m => m.net.coal.filter (fun p => m.coalDue p.2) = [(k, c)]) (fun m => m.coalClose k c)) ∧
  Acts .reportCoalesceClose (fun m => m.net.coal.filter (fun p => m.coalDue p.2) = []) (fun m => m) ∧
  (∀ (m : Mach) k c, 1 < c.count → m.coalClose k c =
    (let m' := (m.updNet (fun n => { n with coal := SMap.del n.coal k })).coalStat
     let d := c.lastLtc - c.firstLtc
     m'.emitW .rptSummary c.subject [wd (min c.count (2 ^ 32 - 1)), wd c.bitmap.length, wd (min c.nOther (2 ^ 32 - 1)),
       (d >>> 32).setWidth 32, d.setWidth 32])) ∧
  Acts .glxBeaconSend (fun m => ∀ t, m.net.beaconLast = some t → msNs 5 ≤ m.since t)
    (fun m => (m.updNet (fun n => { n with beaconLast := some m.mon })).beacon) ∧
  (∀ t, Acts .glxBeaconSend (fun m => m.net.beaconLast = some t ∧ m.since t < msNs 5) (fun m => m)) ∧
  Acts .prpSupervisionSend (fun m => m.dual = true ∧ msNs (m.fld .prpCfg F.prpCfg_LIFE_MS) ≤ m.since m.net.prpLast)
    (fun m => forEach ([0, 1].filter m.ethUp) (m.updNet (fun x => { x with prpLast := m.mon, prpSeq := (m.net.prpSeq + 1) % 65536 }))
      (fun y l => y.txPut l (y.tagClass none) 70 (.prpSup m.net.prpSeq l) .plain)) ∧
  Acts .prpSupervisionSend (fun m => m.dual = false ∨ m.since m.net.prpLast < msNs (m.fld .prpCfg F.prpCfg_LIFE_MS)) (fun m => m) ∧
  (∀ l n, Acts (.prpSupervisionReceive ⟨l, n⟩)
    (fun m => m.rxUp l = true ∧ m.dual = true ∧ m.net.nodes.any (fun p => decide (p.1 = n)) = false ∧ m.net.nodes.length < 512)
    (fun m => let x := m.net.nodes ++ [(n, m.mon)]
      (m.updNet (fun y => { y with nodes := x })).wr (.prp 5) (wd x.length))) ∧
  (∀ l n, Acts (.prpSupervisionReceive ⟨l, n⟩)
    (fun m => m.rxUp l = true ∧ m.dual = true ∧ m.net.nodes.any (fun p => decide (p.1 = n)) = true)
    (fun m => let x := m.net.nodes.map (fun p => if p.1 = n then (n, m.mon) else p)
      (m.updNet (fun y => { y with nodes := x })).wr (.prp 5) (wd x.length))) ∧
  (∀ l n, Acts (.prpSupervisionReceive ⟨l, n⟩) (fun m => m.rxUp l = false ∨ m.dual = false) (fun m => m)) ∧
  (∀ n, Acts (.prpNodeForget n) (fun _ => True)
    (fun m => let x := m.net.nodes.filter (fun p => !(decide (p.1 = n) &&
        decide (1000000000 * m.fld .prpCfg F.prpCfg_NODE_FORGET ≤ m.since p.2)))
      (m.updNet (fun y => { y with nodes := x })).wr (.prp 5) (wd x.length)))

/-- The claim line: an acting or passive unit whose last word is 64 µs old sends its claim with the next number, else nothing; a word of
wrong SYNC or CRC is counted and nothing else (R581); a valid one becomes the peer's claim, three of its own POS in a row are a POS
conflict (R578), a passive unit's EPOCH follows it (R579), and one higher than its own demotes an ACTIVE unit, no other (R595); without
a valid word for 500 µs there is no peer claim, before that nothing changes. Roles: a heartbeat that comes with no pair lane UP does
nothing; a heartbeat is taken as received (R590); in INIT with a feed proven that of an ACTIVE peer makes the unit STANDBY with
SYNC_REQ, that of an INIT peer makes it STANDBY or ACTIVE with EPOCH 1 by the higher claim; a STANDBY follows the peer's EPOCH; an
ACTIVE unit logs the link's return and compares the claim (R595). LISTEN ending without a heartbeat in INIT makes the unit ACTIVE with
EPOCH 1, unless there is a POS conflict, or ORPHAN where a peer claim is present; else it does nothing. Without a heartbeat for
HB_TIMEOUT the loss is counted and an ACTIVE unit logs it; a STANDBY clears SYNC and, where it does not take over, becomes ORPHAN;
before that nothing changes. A write of SWITCH announces the frame 16 ahead. -/
def Obligations.ClaimsAndRoles : Prop :=
  (Acts .claimWordSend
      (fun m => m.feat 3 = true ∧ (m.passive = true ∨ m.pair.role = .active) ∧
        (m.pair.claimMon = none ∨ ∃ t, m.pair.claimMon = some t ∧ usNs 64 ≤ m.since t))
      (fun m =>
        let c := m.ownClaim.toNat
        let s := m.pair.claimSeq
        let w := 0x31 * 2 ^ 56 + c * 2 ^ 24 + s * 2 ^ 16 + (crc8 (beBytes 4 c ++ beBytes 1 s)).toNat * 256 + 0xFF
        (m.updPair (fun p => { p with claimSeq := (s + 1) % 256, claimMon := some m.mon })).send (.claim w)) ∧
    Acts .claimWordSend
      (fun m => m.feat 3 = false ∨ (m.passive = false ∧ m.pair.role ≠ .active) ∨ ∃ t, m.pair.claimMon = some t ∧ m.since t < usNs 64)
      (fun m => m) ∧
    (∀ ok c s crc, Acts (.claimWordReceive ok c s crc) (fun m => m.feat 3 = false) (fun m => m)) ∧
    (∀ ok c s crc, Acts (.claimWordReceive ok c s crc)
      (fun m => m.feat 3 = true ∧ (ok = false ∨ crc ≠ (crc8 (beBytes 4 c.toNat ++ beBytes 1 s)).toNat))
      (fun m => m.bump .pairCntClmerr F.pairCntClmerr_COUNT 1)) ∧
    (∀ c s, Acts (.claimWordReceive true c s (crc8 (beBytes 4 c.toNat ++ beBytes 1 s)).toNat)
      (fun m => m.feat 3 = true ∧ (c.getLsbD 0 == m.pins.psA) = false)
      (fun m =>
        let had := m.posConflict
        let m := m.updPair (fun p => { p with peer := some c, peerOn := true, peerMon := m.mon, ownPos := 0, posConf := p.posConf && had })
        (if m.passive then m.epochFollow c else m).demoteIf c)) ∧
    (∀ c s, Acts (.claimWordReceive true c s (crc8 (beBytes 4 c.toNat ++ beBytes 1 s)).toNat)
      (fun m => m.feat 3 = true ∧ (c.getLsbD 0 == m.pins.psA) = true ∧ (m.pair.ownPos < 2 ∨ m.posConflict = true))
      (fun m =>
        let had := m.posConflict
        let n := min 3 (m.pair.ownPos + 1)
        let m := m.updPair (fun p => { p with peer := some c, peerOn := true, peerMon := m.mon, ownPos := n, posGone := m.mon,
                                              posConf := (p.posConf && had) || decide (n = 3) })
        (if m.passive then m.epochFollow c else m).demoteIf c)) ∧
    (∀ c s, Acts (.claimWordReceive true c s (crc8 (beBytes 4 c.toNat ++ beBytes 1 s)).toNat)
      (fun m => m.feat 3 = true ∧ (c.getLsbD 0 == m.pins.psA) = true ∧ 2 ≤ m.pair.ownPos ∧ m.posConflict = false)
      (fun m =>
        let m := (m.updPair (fun p => { p with peer := some c, peerOn := true, peerMon := m.mon, ownPos := 3, posGone := m.mon,
                                               posConf := true })).emit .pairPosConflict 0
        (if m.passive then m.epochFollow c else m).demoteIf c)) ∧
    (∀ (m : Mach) c,
      (m.pair.role = .active → claimHigher c m.ownClaim = true → m.demoteIf c = m.demote c) ∧
      (m.pair.role ≠ .active ∨ claimHigher c m.ownClaim = false → m.demoteIf c = m) ∧
      m.epochFollow c = m.updPair (fun p => { p with epoch := claimEpoch c - 1 })) ∧
    Acts .claimTimeout (fun m => usNs 500 ≤ m.since m.pair.peerMon) (fun m => m.updPair (fun p => { p with peerOn := false })) ∧
    Acts .claimTimeout (fun m => m.since m.pair.peerMon < usNs 500) (fun m => m) ∧
    (∀ m : Mach, (m.pair.peerOn = false → m.peerClaim = none) ∧ (m.pair.peerOn = true → m.peerClaim = m.pair.peer))) ∧
  ((∀ q h, Acts (.heartbeatReceive q h) (fun m => m.pairUp = [] ∨ m.feat 3 = false) (fun m => m)) ∧
    (∀ q h, Acts (.heartbeatReceive q h)
      (fun m => m.pairUp ≠ [] ∧ m.feat 3 = true ∧ m.pair.role = .init ∧ m.feedProven = true ∧ h.role = .active)
      (fun m => ((((m.pairRx q).updPair (fun p =>
        { p with hbAnyMon := some m.mon, hbMon := some m.mon, hbLost := false, hbLast := some h })).epochFollow h.claim).setRole
        .standby).syncReqSend)) ∧
    (∀ q h, Acts (.heartbeatReceive q h)
      (fun m => m.pairUp ≠ [] ∧ m.feat 3 = true ∧ m.pair.role = .init ∧ m.feedProven = true ∧ h.role = .init)
      (fun m =>
        let m := (m.pairRx q).updPair (fun p => { p with hbAnyMon := some m.mon })
        let own := m.claimOf 0 m.healthInit
        if claimHigher own h.claim then m.toActive 1
        else if claimHigher h.claim own then ((m.epochFollow h.claim).setRole .standby).syncReqSend
        else m)) ∧
    (∀ q h, Acts (.heartbeatReceive q h)
      (fun m => m.pairUp ≠ [] ∧ m.feat 3 = true ∧ h.role = .init ∧
        (m.pair.role = .standby ∨ m.pair.role = .orphan ∨ m.pair.role = .active ∨ m.pair.role = .init ∧ m.feedProven = false))
      (fun m => (m.pairRx q).updPair (fun p => { p with hbAnyMon := some m.mon }))) ∧
    (∀ q h, Acts (.heartbeatReceive q h)
      (fun m => m.pairUp ≠ [] ∧ m.feat 3 = true ∧ h.role ≠ .init ∧ m.pair.role = .standby ∧ m.pair.syncReqPend = false)
      (fun m => (((m.pairRx q).updPair (fun p =>
        { p with hbAnyMon := some m.mon, hbMon := some m.mon, hbLost := false, hbLast := some h })).epochFollow h.claim).updPair (fun p =>
          { p with m2Stale := decide (h.role = .active) && h.m2Pending, switchTag := if h.switchAnn then some h.switchTag else none }))) ∧
    (∀ q h, Acts (.heartbeatReceive q h)
      (fun m => m.pairUp ≠ [] ∧ m.feat 3 = true ∧ h.role ≠ .init ∧ m.pair.role = .active)
      (fun m =>
        let back := m.pair.hbLost && m.pair.hbMon.isSome
        let m := (m.pairRx q).updPair (fun p =>
          { p with hbAnyMon := some m.mon, hbMon := some m.mon, hbLost := false, hbLast := some h })
        (if back then m.emit .pairLinkBack 0 else m).demoteIf h.claim)) ∧
    (∀ (m : Mach) e,
      (m.posConflict = true → m.toActive e = m) ∧
      (m.posConflict = false →
        m.toActive e = ((m.updPair (fun p => { p with epoch := e, listenMon := none })).setRole .active).doSync)) ∧
    (∀ t, Acts .pairListenEnd
      (fun m => m.pair.listenMon = some t ∧ m.pair.role = .init ∧ msNs (m.fld .pairCfg F.pairCfg_LISTEN) ≤ m.since t ∧
        m.pair.hbAnyMon = none ∧ m.feedProven = true ∧ m.peerClaim = none)
      (fun m => m.toActive 1)) ∧
    (∀ t c, Acts .pairListenEnd
      (fun m => m.pair.listenMon = some t ∧ m.pair.role = .init ∧ msNs (m.fld .pairCfg F.pairCfg_LISTEN) ≤ m.since t ∧
        m.pair.hbAnyMon = none ∧ m.feedProven = true ∧ m.peerClaim = some c)
      (fun m => ((m.epochFollow c).setRole .orphan).emit .pairOrphan 0)) ∧
    Acts .pairListenEnd
      (fun m => m.pair.listenMon = none ∨ m.pair.role ≠ .init ∨
        (∃ t, m.pair.listenMon = some t ∧ m.since t < msNs (m.fld .pairCfg F.pairCfg_LISTEN)) ∨ m.pair.hbAnyMon ≠ none ∨
        m.feedProven = false)
      (fun m => m) ∧
    (∀ t, Acts .heartbeatTimeout
      (fun m => m.feat 3 = true ∧ m.pair.hbLost = false ∧ m.pair.hbMon = some t ∧ m.pair.role = .active ∧
        usNs (100 * m.fld .pairCfg F.pairCfg_HB_TIMEOUT) ≤ m.since t)
      (fun m => ((m.updPair (fun p => { p with hbLost := true, hbRun := 0 })).bump .pairCntHblost F.pairCntHblost_COUNT 1).emit
        .pairLinkLost 0)) ∧
    (∀ t, Acts .heartbeatTimeout
      (fun m => m.feat 3 = true ∧ m.pair.hbLost = false ∧ m.pair.hbMon = some t ∧ m.pair.role = .standby ∧
        usNs (100 * m.fld .pairCfg F.pairCfg_HB_TIMEOUT) ≤ m.since t)
      (fun m =>
        let m := (m.updPair (fun p => { p with hbLost := true, hbRun := 0 })).bump .pairCntHblost F.pairCntHblost_COUNT 1
        let m := m.updPair (fun p => { p with sync := false, m0Good := 0, full := false, fullM1 := false })
        if decide (m.takeCause ≠ 0) && m.takeAble then m else (m.setRole .orphan).emit .pairOrphan 0)) ∧
    Acts .heartbeatTimeout
      (fun m => m.feat 3 = false ∨ m.pair.hbLost = true ∨ m.pair.hbMon = none ∨
        ∃ t, m.pair.hbMon = some t ∧ m.since t < usNs (100 * m.fld .pairCfg F.pairCfg_HB_TIMEOUT))
      (fun m => m) ∧
    (∀ ses x, Acts (.pairCtrlSwitch ses) (fun m => m.mayWrite x ses .pairCtrl (F.pairCtrl_SWITCH.set 0 1))
      (fun m => (m.stored .pairCtrl (F.pairCtrl_SWITCH.set 0 1)).switchAnnounce)) ∧
    (∀ m : Mach, m.switchAnnounce = m.updPair (fun p => { p with switchTag := some m.switchTagOf })) ∧
    (∀ m : Mach, m.fr.fcnt + 16 < 14400 → m.switchTagOf = Mach.tagOf m.fr.sec (m.fr.fcnt + 16)) ∧
    (∀ m : Mach, 14400 ≤ m.fr.fcnt + 16 → m.switchTagOf = Mach.tagOf (m.fr.sec + 1) (m.fr.fcnt + 16 - 14400)))

/-- Mirroring: pair-link frames do nothing while no pair lane is UP. A passive unit takes a one-frame M0 set, and counts one that comes
after a gap in SEQ (R604); it takes M1 data, of a full pass in place of what it held, else merged into it where the CRC is the same, and
M2 data; other units take the number alone. SYNC_REQ makes an ACTIVE unit send a full pass of both, no other; it sends one of M1 when
the last is 1 s old, not before. RESYNC on a STANDBY clears SYNC and sends SYNC_REQ, on another unit it does nothing. A mirror entry's
write is stored. The standby's output test: once OTEST_PERIOD has passed a STANDBY tests the next output, passing it over where its gate
passes or the maintenance output test runs (R614), and does nothing else. At 500 µs the test passes with 20 to 30 mA, the clamp working
and the readback off; else its bit is set, it is logged and counted as an error of the output's group (R615). A test whose gate passes,
or under the maintenance test, or of a unit no longer STANDBY just ends; before 500 µs, and with no test running, nothing changes. -/
def Obligations.MirroringAndOutputTest : Prop :=
  ((∀ i, (∃ q tag l x, i = Instr.m0FrameReceive q tag l x) ∨ (∃ q f l t d, i = Instr.m1FrameReceive q f l t d) ∨
        (∃ q f l x, i = Instr.m2FrameReceive q f l x) ∨ (∃ q, i = Instr.syncReqReceive q) →
      Acts i (fun m => m.pairUp = []) (fun m => m)) ∧
    (∀ q tag x, Acts (.m0FrameReceive q tag true x)
      (fun m => m.pairUp ≠ [] ∧ m.feat 3 = true ∧ m.passive = true ∧ m.pair.m0Part = none ∧
        (m.pair.rxSeq = none ∨ m.pair.rxSeq = some (q - 1)))
      (fun m => (m.pairRx q).updPair (fun p => { p with m0Part := none, m0Pend := some x, m0Good := p.m0Good + 1 }))) ∧
    (∀ q tag x s, Acts (.m0FrameReceive q tag true x)
      (fun m => m.pairUp ≠ [] ∧ m.feat 3 = true ∧ m.passive = true ∧ m.pair.m0Part = none ∧ m.pair.rxSeq = some s ∧ q ≠ s + 1)
      (fun m => (m.pairRx q).m0Bad)) ∧
    (∀ m : Mach, m.m0Bad =
      (m.updPair (fun p => { p with m0Good := 0, m0Part := none })).bump .pairCntM0bad F.pairCntM0bad_COUNT 1) ∧
    (∀ q tag l x, Acts (.m0FrameReceive q tag l x) (fun m => m.pairUp ≠ [] ∧ (m.feat 3 = false ∨ m.passive = false))
      (fun m => m.pairRx q)) ∧
    (∀ q l t d, Acts (.m1FrameReceive q true l t d) (fun m => m.pairUp ≠ [] ∧ m.feat 3 = true ∧ m.passive = true)
      (fun m => ((m.pairRx q).updPair (fun p => { p with m1 := setAt p.m1 t (some d), fullM1 := p.fullM1 || l })).syncCheck)) ∧
    (∀ q l t d, Acts (.m1FrameReceive q false l t d) (fun m => m.pairUp ≠ [] ∧ m.feat 3 = true ∧ m.passive = true)
      (fun m => ((m.pairRx q).updPair (fun p => { p with m1 := setAt p.m1 t (some (match p.m1.getD t none with
        | some o => if o.crc = d.crc then RetData.merge o d else d
        | none => d)) })).syncCheck)) ∧
    (∀ q f l t d, Acts (.m1FrameReceive q f l t d) (fun m => m.pairUp ≠ [] ∧ (m.feat 3 = false ∨ m.passive = false))
      (fun m => m.pairRx q)) ∧
    (∀ q f l x, Acts (.m2FrameReceive q f l x) (fun m => m.pairUp ≠ [] ∧ m.feat 3 = true ∧ m.passive = true)
      (fun m =>
        let m := (m.pairRx q).m2Item1 f x
        (if f && l then m.updPair (fun p => { p with full := true }) else m).syncCheck)) ∧
    (∀ q f l x, Acts (.m2FrameReceive q f l x) (fun m => m.pairUp ≠ [] ∧ (m.feat 3 = false ∨ m.passive = false))
      (fun m => m.pairRx q)) ∧
    (∀ q, Acts (.syncReqReceive q) (fun m => m.pairUp ≠ [] ∧ m.feat 3 = true ∧ m.pair.role = .active)
      (fun m => ((m.pairRx q).m1Pass).m2PassAsk)) ∧
    (∀ q, Acts (.syncReqReceive q) (fun m => m.pairUp ≠ [] ∧ (m.feat 3 = false ∨ m.pair.role ≠ .active)) (fun m => m.pairRx q)) ∧
    Acts .m1FullPass (fun m => m.pair.role = .active ∧ 1000000000 ≤ m.since m.pair.m1Last)
      (fun m => (m.m1Pass).updPair (fun p => { p with m1Last := m.mon })) ∧
    Acts .m1FullPass (fun m => m.pair.role ≠ .active ∨ m.since m.pair.m1Last < 1000000000) (fun m => m) ∧
    (∀ ses x, Acts (.pairCtrlResync ses)
      (fun m => m.mayWrite x ses .pairCtrl (F.pairCtrl_RESYNC.set 0 1) ∧ m.pair.role = .standby)
      (fun m => (m.stored .pairCtrl (F.pairCtrl_RESYNC.set 0 1)).syncReqSend)) ∧
    (∀ ses x, Acts (.pairCtrlResync ses)
      (fun m => m.mayWrite x ses .pairCtrl (F.pairCtrl_RESYNC.set 0 1) ∧ m.pair.role ≠ .standby)
      (fun m => m.stored .pairCtrl (F.pairCtrl_RESYNC.set 0 1))) ∧
    (∀ m : Mach, m.syncReqSend =
      (m.updPair (fun p => { p with sync := false, full := false, fullM1 := false, m0Good := 0, syncReqPend := false })).pairSend
        m.tagNow .syncReq) ∧
    (∀ ses x e w, Acts (.mirrorEntryWrite ses e true w) (fun m => e < 1024 ∧ m.mayWrite x ses (.mirCfg e) w)
      (fun m => m.stored (.mirCfg e) w)) ∧
    (∀ ses x e w, Acts (.mirrorEntryWrite ses e false w) (fun m => e < 1024 ∧ m.mayWrite x ses (.mirAddr e) w)
      (fun m => m.stored (.mirAddr e) w))) ∧
  (Acts .standbyOutputTest
      (fun m => m.pair.role = .standby ∧ m.pair.otest.run = none ∧
        m.fld .pairCfg F.pairCfg_OTEST_PERIOD * 1000000000 ≤ m.since m.pair.otest.lastMon ∧ m.gatePass m.pair.otest.next = false ∧
        m.cmd.maint.any (fun x => decide (x.act = 1)) = false)
      (fun m => m.updPair (fun p => { p with otest :=
        { run := some (m.pair.otest.next, m.mon), next := (m.pair.otest.next + 1) % 16, lastMon := m.mon, passed := p.otest.passed } })) ∧
    Acts .standbyOutputTest
      (fun m => m.pair.role = .standby ∧ m.pair.otest.run = none ∧
        m.fld .pairCfg F.pairCfg_OTEST_PERIOD * 1000000000 ≤ m.since m.pair.otest.lastMon ∧
        (m.gatePass m.pair.otest.next = true ∨ m.cmd.maint.any (fun x => decide (x.act = 1)) = true))
      (fun m => m.updPair (fun p => { p with otest :=
        { run := none, next := (m.pair.otest.next + 1) % 16, lastMon := m.mon, passed := p.otest.passed + 1 } })) ∧
    Acts .standbyOutputTest
      (fun m => m.pair.role ≠ .standby ∨ m.pair.otest.run ≠ none ∨
        m.since m.pair.otest.lastMon < m.fld .pairCfg F.pairCfg_OTEST_PERIOD * 1000000000)
      (fun m => m) ∧
    (∀ y t ua, Acts (.standbyOutputTestEnd ⟨ua, true, false⟩)
      (fun m => m.pair.otest.run = some (y, t) ∧ m.gatePass y = false ∧ m.cmd.maint.any (fun x => decide (x.act = 1)) = false ∧
        m.pair.role = .standby ∧ usNs 500 ≤ m.since t ∧ 20000 ≤ ua ∧ ua ≤ 30000)
      (fun m => (m.updPair (fun p => { p with otest := { p.otest with run := none, passed := p.otest.passed + 1 } })).setF .pairOtest
        F.pairOtest_LAST y)) ∧
    (∀ y t ua c rb, Acts (.standbyOutputTestEnd ⟨ua, c, rb⟩)
      (fun m => m.pair.otest.run = some (y, t) ∧ m.gatePass y = false ∧ m.cmd.maint.any (fun x => decide (x.act = 1)) = false ∧
        m.pair.role = .standby ∧ usNs 500 ≤ m.since t ∧ (ua < 20000 ∨ 30000 < ua ∨ c = false ∨ rb = true))
      (fun m =>
        let m := (m.updPair (fun p => { p with otest := { p.otest with run := none, passed := p.otest.passed + 1 } })).setF
          .pairOtest F.pairOtest_LAST y
        ((m.orW .pairOtest (wd (2 ^ y))).emit .otestFail y).domErr (doDomain y) .otest)) ∧
    (∀ y t ua c rb, Acts (.standbyOutputTestEnd ⟨ua, c, rb⟩)
      (fun m => m.pair.otest.run = some (y, t) ∧
        (m.gatePass y = true ∨ m.cmd.maint.any (fun x => decide (x.act = 1)) = true ∨ m.pair.role ≠ .standby))
      (fun m => m.updPair (fun p => { p with otest := { p.otest with run := none } }))) ∧
    (∀ ua c rb, Acts (.standbyOutputTestEnd ⟨ua, c, rb⟩)
      (fun m => m.pair.otest.run = none ∨ ∃ y t, m.pair.otest.run = some (y, t) ∧ m.gatePass y = false ∧
        m.cmd.maint.any (fun x => decide (x.act = 1)) = false ∧ m.pair.role = .standby ∧ m.since t < usNs 500)
      (fun m => m)))

/-- Power feeds: at 16.8 V a feed that was below it, or ABSENT, is PRESENT, and while the module runs from the store it leaves it and both
feeds become PRESENT or ABSENT by their voltage (R619); a feed below 16.8 V is ABSENT, stays FAILED, or while PROVING is FAILED with its
activity ended; FEED_T alone makes a PROVING feed PROVEN and ends its activity; after a survived hold-up a PRESENT feed of 1 s is proved
while the other is not proving, else nothing; PROVE_A and PROVE_B start the proof of a feed; a hold-up fails the proofs under way, draws
the store, is logged, and from CONFIG on starts the retentive image; on the store it does nothing. -/
def Obligations.PowerFeeds : Prop :=
  (∀ x t, Mach.feedAsIs x t = if 16800 ≤ x.mv then { x with st := .present, since := t } else { x with st := .absent }) ∧
  (∀ f mv, ActsLive (.feedPresent f mv)
    (fun m => f < 2 ∧ 16800 ≤ mv ∧ m.power.onStore = false ∧ ((m.feed f).mv < 16800 ∨ (m.feed f).st = .absent))
    (fun m => m.updFeed f (fun x => { x with mv := min mv 65535, st := .present, since := m.mon }))) ∧
  (∀ f mv, ActsLive (.feedPresent f mv)
    (fun m => f < 2 ∧ 16800 ≤ mv ∧ m.power.onStore = false ∧ 16800 ≤ (m.feed f).mv ∧ (m.feed f).st ≠ .absent)
    (fun m => m.updFeed f (fun x => { x with mv := min mv 65535 }))) ∧
  (∀ f mv, ActsLive (.feedPresent f mv)
    (fun m => f < 2 ∧ 16800 ≤ mv ∧ m.power.onStore = true)
    (fun m =>
      let m := m.updFeed f (fun x => { x with mv := min mv 65535 })
      let m := (m.updFeed f (fun x => Mach.feedAsIs x m.mon)).updFeed (1 - f) (fun x => Mach.feedAsIs x m.mon)
      { m with power := { m.power with onStore := false, autoProof := true } })) ∧
  (∀ f mv, ActsLive (.feedPresent f mv) (fun _ => f < 2 ∧ mv < 16800) (fun m => m)) ∧
  (∀ f mv, ActsLive (.feedLoss f mv)
    (fun m => f < 2 ∧ mv < 16800 ∧ (m.feed f).st ≠ .proving ∧ (m.feed f).st ≠ .failed)
    (fun m => m.updFeed f (fun x => { x with mv := mv, st := .absent }))) ∧
  (∀ f mv, ActsLive (.feedLoss f mv) (fun m => f < 2 ∧ mv < 16800 ∧ (m.feed f).st = .failed)
    (fun m => m.updFeed f (fun x => { x with mv := mv }))) ∧
  (∀ f mv, ActsLive (.feedLoss f mv) (fun m => f < 2 ∧ mv < 16800 ∧ (m.feed f).st = .proving)
    (fun m => (m.updFeed f (fun x => { x with mv := mv, st := .failed })).maintEndOf 7 f 0x0205)) ∧
  (∀ f mv, ActsLive (.feedLoss f mv) (fun _ => f < 2 ∧ 16800 ≤ mv) (fun m => m)) ∧
  (∀ f, ActsLive (.feedProofEnd f)
    (fun m => f < 2 ∧ (m.feed f).st = .proving ∧ msNs (10 * m.fld .pwrCtrl F.pwrCtrl_FEED_T) ≤ m.since (m.feed f).proveMon)
    (fun m =>
      let m := (m.updFeed f (fun x => { x with st := .proven })).maintEndOf 7 f 0
      if m.power.feedA.st ≠ .present ∧ m.power.feedB.st ≠ .present then { m with power := { m.power with autoProof := false } }
      else m)) ∧
  (∀ f, ActsLive (.feedProofEnd f)
    (fun m => f < 2 ∧ ((m.feed f).st ≠ .proving ∨ m.since (m.feed f).proveMon < msNs (10 * m.fld .pwrCtrl F.pwrCtrl_FEED_T)))
    (fun m => m)) ∧
  (∀ f, ActsLive (.autoFeedProof f)
    (fun m => f < 2 ∧ m.power.autoProof = true ∧ (m.feed f).st = .present ∧ (m.feed (1 - f)).st ≠ .proving ∧
      1000000000 ≤ m.since (m.feed f).since)
    (fun m => m.updFeed f (fun x => { x with st := .proving, proveMon := m.mon }))) ∧
  (∀ f, ActsLive (.autoFeedProof f)
    (fun m => f < 2 ∧ (m.power.autoProof = false ∨ (m.feed f).st ≠ .present ∨ (m.feed (1 - f)).st = .proving ∨
      m.since (m.feed f).since < 1000000000))
    (fun m => m)) ∧
  (∀ ses x w, Acts (.pwrProve ses w)
    (fun m => m.mayWrite x ses .pwrCtrl w ∧ F.pwrCtrl_PROVE_A.get w = 1 ∧ F.pwrCtrl_PROVE_B.get w = 0)
    (fun m => (m.stored .pwrCtrl w).proveBegin 0 x.num none)) ∧
  (∀ ses x w, Acts (.pwrProve ses w)
    (fun m => m.mayWrite x ses .pwrCtrl w ∧ F.pwrCtrl_PROVE_A.get w = 0 ∧ F.pwrCtrl_PROVE_B.get w = 1)
    (fun m => (m.stored .pwrCtrl w).proveBegin 1 x.num none)) ∧
  (∀ ses x w, Acts (.pwrProve ses w)
    (fun m => m.mayWrite x ses .pwrCtrl w ∧ F.pwrCtrl_PROVE_A.get w = 0 ∧ F.pwrCtrl_PROVE_B.get w = 0)
    (fun m => m.stored .pwrCtrl w)) ∧
  ActsLive .holdupEvent (fun m => m.power.onStore = false ∧ 2 ≤ m.start.phase)
    (fun m => (((m.storeDrawn).setF .pwrStat F.pwrStat_HOLDUP_SEEN 1).emit .holdup 0).retStart true) ∧
  ActsLive .holdupEvent (fun m => m.power.onStore = false ∧ m.start.phase < 2)
    (fun m => ((m.storeDrawn).setF .pwrStat F.pwrStat_HOLDUP_SEEN 1).emit .holdup 0) ∧
  (∀ m : Mach, m.storeDrawn =
    let m := (m.feedFail 0).feedFail 1
    { m with power := { m.power with onStore := true } }) ∧
  (∀ (m : Mach) f,
    ((m.feed f).st ≠ .proving → m.feedFail f = m) ∧
    ((m.feed f).st = .proving →
      m.feedFail f = (m.updFeed f (fun x => { x with st := .failed })).maintEndOf 7 f 0x0205)) ∧
  ActsLive .holdupEvent (fun m => m.power.onStore = true) (fun m => m)

/-- Sessions and features: a HELLO of version 1, of session 0 too, opens a session in a free slot, with no slot free it ends with ST_STATE;
FEAT_OFFER answers the bitmaps offered and accepted; FEAT_ACCEPT of offered features accepts them, of others ends with ST_FEATURE and
the lowest one (R682), of the accepted set again is answered with it, of another one then with ST_STATE; PING of at most 64 octets
echoes with the LTC; BYE ends its session; NOTIFY_ACK on UDP removes what it acknowledges, on HP nothing (R679); NOTIFY_CFG stores
masks. A payload of another length ends with ST_BAD_PARAM. Registers: REG_READ of 1 to 1024 registers of a range in the space reads one
after another; REG_WRITE of 1 to 1022 writes until the first refusal and answers how many, then the status, the address and how many
(R685); REG_MODIFY writes the word with the bits of MASK taken and answers the word before and after, or the refusal. Other ranges end
with ST_BAD_PARAM. -/
def Obligations.SessionAndRegisterRequests : Prop :=
  ((∀ i, Serves .pkHello 0x0001 (fun m _ q => q.len = 20 ∧ q.h 0 = 1 ∧ m.cmd.slots.findIdx? (·.isNone) = some i) (fun m _ q =>
      let (f, m) := m.freeVal
      let n := m.helloNum f
      let s : Session :=
        { num := n, udp := q.udp, ip := q.ip, port := q.port, nip := q.ip, nport := q.port, lastSeq := q.seq, nseq := 0,
          nseqAck := 0, maint := false, roleKey := 255, evtMask := 0, flags := 0, nonce := none, reply := none, lastReq := m.mon,
          lost := 0, xfers := [], report := none }
      let m := { m with cmd := { m.cmd with slots := setAt m.cmd.slots i (some s), lastNum := n } }
      m.ok (beBytes 2 n ++ beBytes 2 1 ++ beBytes 1 (bit (m.flag .glbStat F.glbStat_FEAT_DONE)) ++ beBytes 1 m.pair.role.code ++
        beBytes 2 4096))) ∧
    Serves .pkHello 0x0001 (fun _ _ q => q.len = 20 ∧ q.h 0 ≠ 1) (fun m _ _ => m.err 0x0102 0) ∧
    Serves .pkHello 0x0001 (fun m _ q => q.len = 20 ∧ q.h 0 = 1 ∧ m.cmd.slots.findIdx? (·.isNone) = none) (fun m _ _ => m.err 0x0208) ∧
    (∀ h p, Acts (.pkHello h p)
      (fun m => m.cmd.rx = [] ∧ p.length = 20 ∧ beAt p 0 2 = 1 ∧ h.udp = false ∧ h.session % 65536 = 0 ∧ m.sess 0 = none ∧
        m.start.recovery = false)
      (fun m =>
        let q := reqOf h 1 p
        let (m, a) := m.cmdHello q
        let p := m.replyPkt q a
        let m := if a.status = 0 then m.updSess m.cmd.lastNum (fun x => { x with reply := some p }) else m
        m.sendReply p)) ∧
    Serves .pkFeatOffer 0x0002 (fun _ _ q => q.len = 0) (fun m _ _ => (m, ⟨0, m.featBytes .glbFeatOffer ++ m.featBytes .glbFeatAcc, 0⟩)) ∧
    Serves .pkFeatAccept 0x0003
      (fun m _ q => q.len = 16 ∧ beNat q.payload = m.featNum .glbFeatAcc ∧
        (∀ i, i < 128 → (beNat q.payload).testBit i = true → (m.featNum .glbFeatOffer).testBit i = true) ∧
        m.flag .glbStat F.glbStat_FEAT_DONE = true)
      (fun m _ _ => (m, ⟨0, m.featBytes .glbFeatAcc, 0⟩)) ∧
    (∀ (m : Mach) q, q.len = 16 → m.flag .glbStat F.glbStat_FEAT_DONE = false →
      (∀ i, i < 128 → (beNat q.payload).testBit i = true → (m.featNum .glbFeatOffer).testBit i = true) →
      m.cmdFeatAccept q =
        (let m := (forEach (List.range 4) m (fun m w => m.wr (.glbFeatAcc w) (wd (beNat q.payload / 2 ^ (32 * w))))).setF .glbStat
          F.glbStat_FEAT_DONE 1
         (m, ⟨0, m.featBytes .glbFeatAcc, 0⟩))) ∧
    Serves .pkFeatAccept 0x0003
      (fun m _ q => q.len = 16 ∧ m.flag .glbStat F.glbStat_FEAT_DONE = true ∧ beNat q.payload ≠ m.featNum .glbFeatAcc ∧
        (∀ i, i < 128 → (beNat q.payload).testBit i = true → (m.featNum .glbFeatOffer).testBit i = true))
      (fun m _ _ => m.err 0x0208) ∧
    (∀ k, k < 128 → Serves .pkFeatAccept 0x0003
      (fun m _ q => q.len = 16 ∧ (beNat q.payload).testBit k = true ∧ (m.featNum .glbFeatOffer).testBit k = false ∧
        (∀ i, i < k → (beNat q.payload).testBit i = true → (m.featNum .glbFeatOffer).testBit i = true))
      (fun m _ _ => m.err 0x0203 k)) ∧
    (∀ (m : Mach) q n f, q.len ≠ n → m.ofLen q n f = m.badLen) ∧
    (∀ m : Mach, m.badLen = (m.freeVal.2).err 0x0102 (m.freeVal.1 % 2 ^ 32)) ∧
    (∀ (m : Mach) st a b, m.err st a b = (m, ⟨st, beBytes 4 a ++ beBytes 4 b, 0⟩)) ∧
    Serves .pkPing 0x0004 (fun _ _ q => 64 < q.len) (fun m _ _ => m.badLen) ∧
    Serves .pkPing 0x0004 (fun _ _ q => q.len ≤ 64) (fun m _ q => (m, ⟨0, q.payload ++ beBytes 8 m.ltc.toNat, 0⟩)) ∧
    Serves .pkBye 0x0005 (fun _ _ q => q.len = 0) (fun m _ _ => (m, ⟨0, [], 1⟩)) ∧
    Serves .pkNotifyAck 0x0006 (fun _ x q => q.len = 4 ∧ x.udp = true) (fun m x q =>
      let l := m.cmd.udpNotes.filter (fun p => !(decide (p.session = x.num) && decide (sdiff16 p.seq (q.h 0) ≤ 0)))
      (({ m with cmd := { m.cmd with udpNotes := l } } : Mach).updSess x.num (fun x => { x with nseqAck := q.h 0 }), ⟨0, [], 0⟩)) ∧
    Serves .pkNotifyAck 0x0006 (fun _ x q => q.len = 4 ∧ x.udp = false) (fun m _ _ => (m, ⟨0, [], 0⟩)) ∧
    Serves .pkNotifyCfg 0x0007 (fun _ _ q => q.len = 4) (fun m x q =>
      (m.updSess x.num (fun y => { y with evtMask := q.h 0, flags := q.h 2 % 8 }), ⟨0, [], 0⟩))) ∧
  (Serves .pkRegRead 0x0101 (fun _ _ q => q.len = 8 ∧ 1 ≤ q.h 4 ∧ q.h 4 ≤ 1024 ∧ Mach.badRange (q.d 0) (q.h 4) = false) (fun m _ q =>
      let r := (List.range (q.h 4)).foldl (fun (x : Mach × List Byte) i =>
        let y := x.1.regRead (q.d 0 + 4 * i)
        (y.2, x.2 ++ beBytes 4 y.1.toNat)) (m, [])
      (r.1, ⟨0, r.2, 0⟩)) ∧
    Serves .pkRegWrite 0x0102
      (fun m x q => q.len = 12 ∧ q.h 4 = 1 ∧ Mach.badRange (q.d 0) 1 = false ∧ Mach.endsUdp (q.d 0) = false ∧
        (m.regWrite { session := x.num, maint := x.maint } (q.d 0) (wd (q.d 8))).1 = none)
      (fun m x q => ((m.regWrite { session := x.num, maint := x.maint } (q.d 0) (wd (q.d 8))).2, ⟨0, beBytes 2 1 ++ [0, 0], 0⟩)) ∧
    Serves .pkRegRead 0x0101 (fun _ _ q => q.len = 8 ∧ (q.h 4 < 1 ∨ 1024 < q.h 4)) (fun m _ _ => m.err 0x0102 4) ∧
    Serves .pkRegRead 0x0101 (fun _ _ q => q.len = 8 ∧ 1 ≤ q.h 4 ∧ q.h 4 ≤ 1024 ∧ Mach.badRange (q.d 0) (q.h 4) = true)
      (fun m _ q => m.err 0x0102 (q.d 0)) ∧
    Serves .pkRegWrite 0x0102 (fun _ _ q => 8 ≤ q.len ∧ (q.h 4 < 1 ∨ 1022 < q.h 4)) (fun m _ _ => m.err 0x0102 4) ∧
    (∀ n, 1 ≤ n → n ≤ 1022 → Serves .pkRegWrite 0x0102
      (fun _ _ q => q.len = 8 + 4 * n ∧ q.h 4 = n ∧ Mach.badRange (q.d 0) n = true) (fun m _ q => m.err 0x0102 (q.d 0))) ∧
    (∀ n, 1 ≤ n → n ≤ 1022 → Serves .pkRegWrite 0x0102
      (fun _ _ q => q.len = 8 + 4 * n ∧ q.h 4 = n ∧ Mach.badRange (q.d 0) n = false)
      (fun m x q =>
        let r := m.regWrites { session := x.num, maint := x.maint } (q.d 0) 0 false ((List.range n).map (fun i => wd (q.d (8 + 4 * i))))
        (r.1, ⟨r.2.2.2.getD 0, (match r.2.2.2 with
            | none => beBytes 2 r.2.1 ++ [0, 0]
            | some _ => beBytes 4 (q.d 0 + 4 * r.2.1) ++ beBytes 4 r.2.1), if r.2.2.1 then 2 else 0⟩))) ∧
    (∀ (m : Mach) who a d u, Mach.regWrites m who a d u [] = (m, d, u, none)) ∧
    (∀ m who a d u w l e m', Mach.regWrite m who a w = (some e, m') → Mach.regWrites m who a d u (w :: l) = (m', d, u, some e.1)) ∧
    (∀ m who a d u w l m', Mach.regWrite m who a w = (none, m') →
      Mach.regWrites m who a d u (w :: l) = Mach.regWrites m' who (a + 4) (d + 1) (u || Mach.endsUdp a) l) ∧
    (∀ r, Serves .pkRegModify 0x0103
      (fun m x q => q.len = 12 ∧ Mach.badRange (q.d 0) 1 = false ∧ Mach.endsUdp (q.d 0) = false ∧ Reg.ofAddr (q.d 0) = some r ∧
        (m.regWrite { session := x.num, maint := x.maint } (q.d 0)
          (Mach.modifyWord r (m.peekAddr (q.d 0)) (wd (q.d 4)) (wd (q.d 8)))).1 = none)
      (fun m x q =>
        let m' := (m.regWrite { session := x.num, maint := x.maint } (q.d 0)
          (Mach.modifyWord r (m.peekAddr (q.d 0)) (wd (q.d 4)) (wd (q.d 8)))).2
        (m', ⟨0, beBytes 4 (m.peekAddr (q.d 0)).toNat ++ beBytes 4 (m'.peekAddr (q.d 0)).toNat, 0⟩))) ∧
    (∀ r e m', Serves .pkRegModify 0x0103
      (fun m x q => q.len = 12 ∧ Mach.badRange (q.d 0) 1 = false ∧ Reg.ofAddr (q.d 0) = some r ∧
        m.regWrite { session := x.num, maint := x.maint } (q.d 0)
          (Mach.modifyWord r (m.peekAddr (q.d 0)) (wd (q.d 4)) (wd (q.d 8))) = (some e, m'))
      (fun _ _ q => m'.err e.1 (if e.1 = 0x0102 then q.d 0 else e.2))) ∧
    (∀ r old mask v, Mach.modifyWord r old mask v =
      r.fields.foldl (fun (x : Word) f => match f.acc with
        | .rw1c | .wo => x &&& ~~~ f.mask
        | _ => x) (old &&& ~~~ mask) ||| (v &&& mask)) ∧
    (∀ a n, Mach.badRange a n = (decide (a % 4 ≠ 0) || decide (0xE0000 < a + 4 * n))))

/-- Settings: SET_STAGE of 1 to 511 values that all keep their range puts each in its bay's buffer, owned by the session from then on, while
no buffer named belongs to another session and the unit is not passive; a value out of range ends it with ST_BAD_PARAM and its PID, the
others with ST_STATE. SET_COMMIT of buffers that pass the checks and GROUP_SELECT become class A stitches and answer pending with their
number, without a slot ST_STATE; a check failed ends SET_COMMIT with its status and PID; a passive unit, an unset restart kind or
another session's buffer with ST_STATE. SET_READ gives committed values, or staged ones over them; SET_DISCARD empties buffers that are
the session's or free, not another session's. -/
def Obligations.SettingsRequests : Prop :=
  Serves .pkSetStage 0x0201
    (fun m x q => 1 ≤ q.h 2 ∧ q.h 2 ≤ 511 ∧ q.len = 4 + 8 * q.h 2 ∧ Mach.badBayGroup 0 (q.b 0) (q.b 1) = none ∧ m.passive = false ∧
      (∀ i, i < q.h 2 → ∃ d, setDef (decide (q.b 0 = 32)) (q.h (4 + 8 * i)) = some d ∧ d.ok (sgn32 (q.d (8 + 8 * i))) = true ∧
        m.stageTaken (stageKey (q.b 0) (q.b 1) (q.h (4 + 8 * i))) x.num = false))
    (fun m x q =>
      let l : List (Nat × Int) := (List.range (q.h 2)).map (fun i => (q.h (4 + 8 * i), sgn32 (q.d (8 + 8 * i))))
      let st := l.foldl (fun (a : SMap (Nat × SMap Int)) p =>
        SMap.upd a (stageKey (q.b 0) (q.b 1) p.1) (0, []) (fun y => (x.num, SMap.put y.2 p.1 p.2))) m.stage
      ({ m with stage := st }, ⟨0, beBytes 2 (q.h 2) ++ [0, 0], 0⟩)) ∧
  Serves .pkSetStage 0x0201
    (fun m x q => 1 ≤ q.h 2 ∧ q.h 2 ≤ 511 ∧ q.len = 4 + 8 * q.h 2 ∧ Mach.badBayGroup 0 (q.b 0) (q.b 1) = none ∧
      (∀ i, i < q.h 2 → ∃ d, setDef (decide (q.b 0 = 32)) (q.h (4 + 8 * i)) = some d ∧ d.ok (sgn32 (q.d (8 + 8 * i))) = true) ∧
      (m.passive = true ∨ ∃ i, i < q.h 2 ∧ m.stageTaken (stageKey (q.b 0) (q.b 1) (q.h (4 + 8 * i))) x.num = true))
    (fun m _ _ => m.err 0x0208) ∧
  (∀ k, Serves .pkSetStage 0x0201
    (fun _ _ q => k < q.h 2 ∧ q.h 2 ≤ 511 ∧ q.len = 4 + 8 * q.h 2 ∧ Mach.badBayGroup 0 (q.b 0) (q.b 1) = none ∧
      (∀ i, i < k → ∃ d, setDef (decide (q.b 0 = 32)) (q.h (4 + 8 * i)) = some d ∧ d.ok (sgn32 (q.d (8 + 8 * i))) = true) ∧
      (∀ d, setDef (decide (q.b 0 = 32)) (q.h (4 + 8 * k)) = some d → d.ok (sgn32 (q.d (8 + 8 * k))) = false))
    (fun m _ q => m.err 0x0102 (q.h (4 + 8 * k)))) ∧
  Serves .pkSetCommit 0x0202
    (fun m x q =>
      let l : List (Nat × Nat) := (List.range (q.b 0)).map (fun i => (q.b (4 + 4 * i), q.b (5 + 4 * i)))
      1 ≤ q.b 0 ∧ q.b 0 ≤ 32 ∧ q.len = 4 + 4 * q.b 0 ∧ (∀ p ∈ l, Mach.badBayGroup 0 p.1 p.2 = none) ∧
        (m.passive = true ∨ m.unset = true ∨ ∃ p ∈ l, m.commitTaken x.num p.1 p.2 = true))
    (fun m _ _ => m.err 0x0208) ∧
  (∀ k e, Serves .pkSetCommit 0x0202
    (fun m x q =>
      let l : List (Nat × Nat) := (List.range (q.b 0)).map (fun i => (q.b (4 + 4 * i), q.b (5 + 4 * i)))
      1 ≤ q.b 0 ∧ q.b 0 ≤ 32 ∧ q.len = 4 + 4 * q.b 0 ∧ (∀ p ∈ l, Mach.badBayGroup 0 p.1 p.2 = none) ∧ m.passive = false ∧
        m.unset = false ∧ (∀ p ∈ l, m.commitTaken x.num p.1 p.2 = false) ∧ k < q.b 0 ∧
        (∀ p ∈ l.take k, m.commitBad (m.commitSet l) p.1 p.2 = none) ∧
        m.commitBad (m.commitSet l) (q.b (4 + 4 * k)) (q.b (5 + 4 * k)) = some e)
    (fun m _ q => m.err e.1 (q.b (4 + 4 * k) * 65536 + e.2))) ∧
  Serves .pkSetCommit 0x0202
    (fun m x q =>
      let l : List (Nat × Nat) := (List.range (q.b 0)).map (fun i => (q.b (4 + 4 * i), q.b (5 + 4 * i)))
      1 ≤ q.b 0 ∧ q.b 0 ≤ 32 ∧ q.len = 4 + 4 * q.b 0 ∧ (∀ p ∈ l, Mach.badBayGroup 0 p.1 p.2 = none) ∧ m.passive = false ∧
        m.unset = false ∧ (∀ p ∈ l, m.commitTaken x.num p.1 p.2 = false) ∧ (∀ p ∈ l, m.commitBad (m.commitSet l) p.1 p.2 = none))
    (fun m _ q => match m.hostStitch q.waiter none (m.commitActs
        ((List.range (q.b 0)).map (fun i => (q.b (4 + 4 * i), q.b (5 + 4 * i)))).eraseDups) with
      | none => m.noSlot
      | some (id, m) => m.stitchReply id) ∧
  Serves .pkGroupSelect 0x0203
    (fun m _ q => q.len = 4 ∧ q.b 0 ≤ 31 ∧ q.b 1 ≤ 3 ∧ m.passive = false ∧ m.unset = false)
    (fun m _ q => match m.hostStitch q.waiter none [.groupSel (q.b 0) (q.b 1)] with
      | none => m.noSlot
      | some (id, m) => m.stitchReply id) ∧
  Serves .pkGroupSelect 0x0203
    (fun m _ q => q.len = 4 ∧ q.b 0 ≤ 31 ∧ q.b 1 ≤ 3 ∧ (m.passive = true ∨ m.unset = true)) (fun m _ _ => m.err 0x0208) ∧
  (∀ (m : Mach) w b l, 192 ≤ m.stu.opens.length → m.hostStitch w b l = none) ∧
  (∀ m : Mach, m.noSlot = (m.stuFull).err 0x0208 12) ∧
  (∀ (m : Mach) w b l, m.stu.opens.length < 192 → ∃ id m', m.hostStitch w b l = some (id, m')) ∧
  (∀ (m : Mach) id, m.stitchReply id = (m, ⟨1, beBytes 2 id ++ [0, 0], 0⟩)) ∧
  Serves .pkSetRead 0x0204
    (fun _ _ q => q.len = 8 ∧ Mach.badBayGroup 0 (q.b 0) (q.b 1) = none ∧ q.b 2 ≤ 1 ∧ 1 ≤ q.h 6 ∧ q.h 6 ≤ 500)
    (fun m _ q =>
      let l := ((pidsOf (decide (q.b 0 = 32))).filter (fun p => decide (q.h 4 ≤ p))).take (q.h 6)
      let val (p : Nat) : Int :=
        let c := setGet m.set (q.b 0) (q.b 1) p
        if q.b 2 = 0 then c else SMap.getD (m.stageBuf (stageKey (q.b 0) (q.b 1) p)).2 p c
      (m, ⟨0, beBytes 2 l.length ++ [0, 0] ++ l.flatMap (fun p => beBytes 2 p ++ [0, 0] ++ beBytes 4 (toBits 32 (val p))), 0⟩)) ∧
  Serves .pkSetDiscard 0x0205
    (fun m x q => q.len = 4 ∧ Mach.badBayGroup 0 (q.b 0) (q.b 1) = none ∧ m.stageTaken (q.b 0 * 8 + q.b 1) x.num = false ∧
      m.stageTaken (q.b 0 * 8 + 4) x.num = false)
    (fun m _ q => ({ m with stage := SMap.del (SMap.del m.stage (q.b 0 * 8 + q.b 1)) (q.b 0 * 8 + 4) }, ⟨0, [], 0⟩)) ∧
  Serves .pkSetDiscard 0x0205
    (fun m x q => q.len = 4 ∧ Mach.badBayGroup 0 (q.b 0) (q.b 1) = none ∧ m.stageTaken (q.b 0 * 8 + q.b 1) x.num = true)
    (fun m _ _ => m.err 0x0208)

/-- Logic requests: a PROG_LOAD segment that does not complete the image is kept; the last one of an image that loads makes it the task's
program, of a faulty, overlapping or FB image without FEAT 9, or while the task runs or is fenced, it ends with the status for it and
loads nothing; PROG_START starts a LOADED or STOPPED task cold, or resumes a STOPPED one, else ends with ST_STATE; PROG_STOP of a
running task stops at once, or at the end of the cycle in progress, else ends with ST_STATE; CONST_WRITE within the K area is a class A
stitch; FORCE of an area up to 2 and UNFORCE change the forces of the next snapshot, a 65th force ends with ST_STATE, FORCE_LIST gives
them. A passive unit ends all but FORCE_LIST with ST_STATE. -/
def Obligations.LogicRequests : Prop :=
  (∀ s, Serves .pkProgLoad 0x0301
    (fun m x q => 12 ≤ q.len ∧ q.b 0 ≤ 3 ∧ q.b 1 ≤ 1 ∧ 64 ≤ q.d 4 ∧ q.d 4 ≤ 262144 ∧
      Mach.segTake x 1 (q.b 0) (q.b 1) (q.d 4) (q.d 8) (q.payload.drop 12) 4 8 = .ok s ∧ m.passive = false ∧ m.unset = false ∧
      s.data.length < q.d 4)
    (fun m x _ => (m.xferSet x.num 1 (some s), ⟨0, beBytes 4 s.data.length, 0⟩))) ∧
  (∀ s, Serves .pkProgLoad 0x0301
    (fun m x q => 12 ≤ q.len ∧ q.b 0 ≤ 3 ∧ q.b 1 ≤ 1 ∧ 64 ≤ q.d 4 ∧ q.d 4 ≤ 262144 ∧
      Mach.segTake x 1 (q.b 0) (q.b 1) (q.d 4) (q.d 8) (q.payload.drop 12) 4 8 = .ok s ∧ m.passive = false ∧ m.unset = false ∧
      s.data.length = q.d 4 ∧ ((m.xferSet x.num 1 none).progLoad (q.b 0) (q.b 1) s.data).1 = 0)
    (fun m x q => (((m.xferSet x.num 1 none).progLoad (q.b 0) (q.b 1) s.data).2.2, ⟨0, beBytes 4 (q.d 4), 0⟩))) ∧
  (∀ (m : Mach) t img p, m.progOf t 0 img = .ok p → p.code.any (fun w => decide (iOp w = 0x58)) = false → progBad p = none →
    m.retTooLong t p = false → m.overlapAt t p = none →
    (m.tasks[t]?).map (·.st) = some .empty ∨ (m.tasks[t]?).map (·.st) = some .loaded ∨ (m.tasks[t]?).map (·.st) = some .stopped →
    m.fenced (35 + t) = false →
    m.progLoad t 0 img = (0, 0, (m.progPut t p).updSec (fun s => { s with store := SMap.put s.store t img }))) ∧
  (∀ (m : Mach) t img,
    (m.feat 9 = false → m.progLoad t 1 img = (0x0203, 9, m)) ∧
    (∀ r, m.progOf t 0 img = .error r → (m.progLoad t 0 img).1 = 0x0102 ∧ (m.progLoad t 0 img).2.2 = m.loadErr t 0 r) ∧
    (∀ p, m.progOf t 0 img = .ok p → p.code.any (fun w => decide (iOp w = 0x58)) = true → m.feat 9 = false →
      m.progLoad t 0 img = (0x0203, 9, m)) ∧
    (∀ p, m.progOf t 0 img = .ok p → p.code.any (fun w => decide (iOp w = 0x58)) = false →
      (∀ a r, progBad p = some (a, r) → (m.progLoad t 0 img).1 = 0x0102 ∧ (m.progLoad t 0 img).2.2 = m.loadErr t a r) ∧
      (progBad p = none → m.retTooLong t p = true →
        (m.progLoad t 0 img).1 = 0x0102 ∧ (m.progLoad t 0 img).2.2 = m.loadErr t 0 12) ∧
      (∀ a, progBad p = none → m.retTooLong t p = false → m.overlapAt t p = some a →
        (m.progLoad t 0 img).1 = 0x0208 ∧ (m.progLoad t 0 img).2.2 = m.loadErr t a 11) ∧
      (progBad p = none → m.retTooLong t p = false → m.overlapAt t p = none → (m.tasks[t]?).map (·.st) = some .run →
        m.progLoad t 0 img = (0x0208, 0, m)) ∧
      (progBad p = none → m.retTooLong t p = false → m.overlapAt t p = none → (m.tasks[t]?).map (·.st) = some .fenced →
        m.progLoad t 0 img = (0x0204, 35 + t, m)))) ∧
  (∀ i op, (i, op) ∈ [(Instr.pkProgStart, 0x0302), (Instr.pkProgStop, 0x0303)] →
    Serves i op (fun m _ q => q.len = 4 ∧ q.b 0 ≤ 3 ∧ q.b 1 ≤ 1 ∧ m.passive = true) (fun m _ _ => m.err 0x0208)) ∧
  (∀ i op, (i, op) ∈ [(Instr.pkForce, 0x0305), (Instr.pkUnforce, 0x0306)] →
    Serves i op (fun m _ q => q.len = 8 ∧ q.b 0 ≤ 3 ∧ q.b 2 ≤ 1 ∧ m.passive = true) (fun m _ _ => m.err 0x0208)) ∧
  Serves .pkConstWrite 0x0304
    (fun m _ q => q.b 0 ≤ 3 ∧ 1 ≤ q.h 2 ∧ q.h 2 ≤ 256 ∧ q.len = 8 + 4 * q.h 2 ∧ m.passive = true) (fun m _ _ => m.err 0x0208) ∧
  (∀ s, Serves .pkProgLoad 0x0301
    (fun m x q => 12 ≤ q.len ∧ q.b 0 ≤ 3 ∧ q.b 1 ≤ 1 ∧ 64 ≤ q.d 4 ∧ q.d 4 ≤ 262144 ∧
      Mach.segTake x 1 (q.b 0) (q.b 1) (q.d 4) (q.d 8) (q.payload.drop 12) 4 8 = .ok s ∧ m.passive = true)
    (fun m _ _ => m.err 0x0208)) ∧
  (∀ y p, Serves .pkProgStart 0x0302
    (fun m _ q => q.len = 4 ∧ q.b 0 ≤ 3 ∧ q.b 1 ≤ 1 ∧ m.passive = false ∧ m.unset = false ∧ m.tasks[q.b 0]? = some y ∧
      y.prog = some p ∧ y.st ≠ .fenced ∧ y.st ≠ .stopped ∧ (q.b 1 = 1 ∨ y.st ≠ .loaded))
    (fun m _ _ => m.err 0x0208)) ∧
  (∀ y, Serves .pkProgStop 0x0303
    (fun m _ q => q.len = 4 ∧ q.b 0 ≤ 3 ∧ m.passive = false ∧ m.tasks[q.b 0]? = some y ∧ (y.st ≠ .run ∨ y.stopWait ≠ none))
    (fun m _ _ => m.err 0x0208)) ∧
  (∀ y p, Serves .pkProgStart 0x0302
    (fun m _ q => q.len = 4 ∧ q.b 0 ≤ 3 ∧ q.b 1 = 0 ∧ m.passive = false ∧ m.unset = false ∧ m.tasks[q.b 0]? = some y ∧
      y.prog = some p ∧ (y.st = .loaded ∨ y.st = .stopped))
    (fun m _ q => (((m.forceClear (q.b 0)).updTask (q.b 0) (fun x => { x with
      kNow := p.k, data := Mach.coldData p, cyc := none, first := 1, startKind := 1, lastOverrun := false, ovrRun := 0, grp := [],
      constPend := [], ctrPend := [], mkPend := [], stale := [], runAtReady := false, retAge := [] })).setTask (q.b 0) .run, ⟨0, [], 0⟩))) ∧
  (∀ y p, Serves .pkProgStart 0x0302
    (fun m _ q => q.len = 4 ∧ q.b 0 ≤ 3 ∧ q.b 1 = 1 ∧ m.passive = false ∧ m.unset = false ∧ m.tasks[q.b 0]? = some y ∧
      y.prog = some p ∧ y.st = .stopped)
    (fun m _ q => ((m.updTask (q.b 0) (fun x => { x with
      cyc := none, first := 4, startKind := 3, lastOverrun := false, ovrRun := 0, grp := [] })).setTask (q.b 0) .run, ⟨0, [], 0⟩))) ∧
  (∀ y, Serves .pkProgStop 0x0303
    (fun m _ q => q.len = 4 ∧ q.b 0 ≤ 3 ∧ m.passive = false ∧ m.tasks[q.b 0]? = some y ∧ y.st = .run ∧ y.stopWait = none ∧
      y.cyc = none)
    (fun m _ q => (m.stopNow (q.b 0) q.waiter, ⟨1, [], 0⟩))) ∧
  (∀ y c, Serves .pkProgStop 0x0303
    (fun m _ q => q.len = 4 ∧ q.b 0 ≤ 3 ∧ m.passive = false ∧ m.tasks[q.b 0]? = some y ∧ y.st = .run ∧ y.stopWait = none ∧
      y.cyc = some c)
    (fun m _ q => (m.updTask (q.b 0) (fun x => { x with stopWait := some q.waiter }), ⟨1, [], 0⟩))) ∧
  (∀ y p, Serves .pkConstWrite 0x0304
    (fun m _ q => q.b 0 ≤ 3 ∧ 1 ≤ q.h 2 ∧ q.h 2 ≤ 256 ∧ q.len = 8 + 4 * q.h 2 ∧ m.passive = false ∧ m.unset = false ∧
      m.tasks[q.b 0]? = some y ∧ y.prog = some p ∧ q.d 4 + q.h 2 ≤ p.hdr.nK ∧ y.st ≠ .fenced ∧ m.stu.opens.length < 192)
    (fun m _ q => match m.hostStitch q.waiter none
        [.consts (q.b 0) (q.d 4) ((List.range (q.h 2)).map (fun i => wd (q.d (8 + 4 * i))))] with
      | none => m.noSlot
      | some (id, m) => m.stitchReply id)) ∧
  (∀ y p, Serves .pkForce 0x0305
    (fun m _ q => q.len = 8 ∧ q.b 0 ≤ 3 ∧ q.b 2 ≤ 1 ∧ m.passive = false ∧ m.unset = false ∧ m.tasks[q.b 0]? = some y ∧
      y.prog = some p ∧ q.b 1 ≤ 2 ∧ q.d 4 < 2 ^ 20 ∧ bitIdxOk p.hdr (q.b 1) (q.d 4) = true ∧ y.st ≠ .fenced ∧
      (y.forcesNext.length < 64 ∨ y.forcesNext.any (fun f => decide (f.area = q.b 1 ∧ f.idx = q.d 4)) = true))
    (fun m _ q =>
      let same (f : Force) : Bool := decide (f.area = q.b 1 ∧ f.idx = q.d 4)
      let pv := ((y.forcesNext.find? same).map (·.pv)).getD false
      (m.updTask (q.b 0) (fun x => { x with
        forcesNext := x.forcesNext.filter (fun f => !same f) ++
          [{ area := q.b 1, idx := q.d 4, val := decide (q.b 2 = 1), pv := pv }] }), ⟨0, [], 0⟩))) ∧
  (∀ y p, Serves .pkForce 0x0305
    (fun m _ q => q.len = 8 ∧ q.b 0 ≤ 3 ∧ q.b 2 ≤ 1 ∧ m.passive = false ∧ m.unset = false ∧ m.tasks[q.b 0]? = some y ∧
      y.prog = some p ∧ q.b 1 ≤ 2 ∧ q.d 4 < 2 ^ 20 ∧ bitIdxOk p.hdr (q.b 1) (q.d 4) = true ∧ y.st ≠ .fenced ∧
      64 ≤ y.forcesNext.length ∧ y.forcesNext.any (fun f => decide (f.area = q.b 1 ∧ f.idx = q.d 4)) = false)
    (fun m _ _ => m.err 0x0208)) ∧
  (∀ y, Serves .pkUnforce 0x0306
    (fun m _ q => q.len = 8 ∧ q.b 0 ≤ 3 ∧ q.b 2 = 1 ∧ m.passive = false ∧ m.tasks[q.b 0]? = some y)
    (fun m _ q => (m.updTask (q.b 0) (fun x => { x with forcesNext := [] }), ⟨0, [], 0⟩))) ∧
  (∀ y, Serves .pkUnforce 0x0306
    (fun m _ q => q.len = 8 ∧ q.b 0 ≤ 3 ∧ q.b 2 = 0 ∧ q.b 1 ≤ 2 ∧ m.passive = false ∧ m.tasks[q.b 0]? = some y)
    (fun m _ q => (m.updTask (q.b 0) (fun x => { x with
      forcesNext := x.forcesNext.filter (fun f => !decide (f.area = q.b 1 ∧ f.idx = q.d 4)) }), ⟨0, [], 0⟩))) ∧
  (∀ y, Serves .pkForceList 0x0307 (fun m _ q => q.len = 4 ∧ q.b 0 ≤ 3 ∧ m.tasks[q.b 0]? = some y)
    (fun m _ _ => (m, ⟨0, beBytes 2 y.forcesNext.length ++ [0, 0] ++
      y.forcesNext.flatMap (fun f => beBytes 1 f.area ++ beBytes 1 (bit f.val) ++ [0, 0] ++ beBytes 4 f.idx), 0⟩)))

/-- Control: SELECT of a free object casts a stitch on and answers its number, of one a stitch has selected, and without a slot, ends with
ST_STATE; OPERATE by the selecting session stages the object's actions, pending, and the stitch is dropped where a close check fails or
a named station is not LIVE; of another session's or a stitch closed for staging, or a finished one, it ends with ST_STATE, of an
unknown number with ST_BAD_PARAM; CANCEL drops a stitch not yet bound, else likewise; STITCH_STATUS gives the state of an open stitch
and the outcome of a finished one, of another number ST_BAD_PARAM. -/
def Obligations.ControlRequests : Prop :=
  Serves .pkSelect 0x0401
    (fun m _ q => q.len = 8 ∧ q.b 0 ≤ 3 ∧ q.h 2 < selRange (q.b 0) ∧ (q.b 0 = 3 → q.h 4 ≤ 4095) ∧ m.passive = false ∧ m.unset = false ∧
      (∀ s ∈ m.stu.opens, s.obj ≠ some ⟨q.b 0, q.h 2, if q.b 0 = 3 then q.h 4 else 0⟩) ∧ m.stu.opens.length < 192)
    (fun m _ q => match m.castOn (.host q.waiter) (some ⟨q.b 0, q.h 2, if q.b 0 = 3 then q.h 4 else 0⟩)
        (if q.b 0 < 2 then some (q.h 2) else none) (decide (q.b 0 = 0)) with
      | none => m.noSlot
      | some (id, m) => (m, ⟨0, beBytes 2 id ++ [0, 0], 0⟩)) ∧
  Serves .pkSelect 0x0401
    (fun m _ q => q.len = 8 ∧ q.b 0 ≤ 3 ∧ q.h 2 < selRange (q.b 0) ∧ (q.b 0 = 3 → q.h 4 ≤ 4095) ∧
      (m.passive = true ∨ m.unset = true ∨ ∃ s ∈ m.stu.opens, s.obj = some ⟨q.b 0, q.h 2, if q.b 0 = 3 then q.h 4 else 0⟩))
    (fun m _ _ => m.err 0x0208) ∧
  Serves .pkSelect 0x0401
    (fun m _ q => q.len = 8 ∧ q.b 0 ≤ 3 ∧ q.h 2 < selRange (q.b 0) ∧ (q.b 0 = 3 → q.h 4 ≤ 4095) ∧ m.passive = false ∧ m.unset = false ∧
      (∀ s ∈ m.stu.opens, s.obj ≠ some ⟨q.b 0, q.h 2, if q.b 0 = 3 then q.h 4 else 0⟩) ∧ 192 ≤ m.stu.opens.length)
    (fun m _ _ => m.noSlot) ∧
  (∀ (m : Mach) src o b cl, m.stu.opens.length < 192 → (m.castOn src o b cl).isSome = true) ∧
  (∀ s o, Serves .pkOperate 0x0402
    (fun m x q => q.len = 8 ∧ m.stitch (q.h 0) = some s ∧ s.obj = some o ∧ Mach.objValBad o (q.d 4) = false ∧
      (m.passive = true ∨ Mach.selMine s x.num = false))
    (fun m _ _ => m.err 0x0208)) ∧
  (∀ s o, Serves .pkOperate 0x0402
    (fun m _ q => q.len = 8 ∧ m.stitch (q.h 0) = some s ∧ s.obj = some o ∧ Mach.objValBad o (q.d 4) = true)
    (fun m _ _ => m.err 0x0102 4)) ∧
  (∀ i op k, (i, op, k) ∈ [(Instr.pkOperate, 0x0402, 8), (Instr.pkCancel, 0x0403, 4)] →
    Serves i op (fun m _ q => q.len = k ∧ m.stitch (q.h 0) = none ∧ (m.finOf (q.h 0)).isSome = true) (fun m _ _ => m.err 0x0208) ∧
    Serves i op (fun m _ q => q.len = k ∧ m.stitch (q.h 0) = none ∧ m.finOf (q.h 0) = none) (fun m _ _ => m.err 0x0102)) ∧
  (∀ s, Serves .pkCancel 0x0403 (fun m _ q => q.len = 4 ∧ m.stitch (q.h 0) = some s ∧ s.st = .bound) (fun m _ _ => m.err 0x0208)) ∧
  Serves .pkStitchStatus 0x0404 (fun m _ q => q.len = 4 ∧ m.stitch (q.h 0) = none ∧ m.finOf (q.h 0) = none)
    (fun m _ _ => m.err 0x0102) ∧
  (∀ s, Serves .pkStitchStatus 0x0404 (fun m _ q => q.len = 4 ∧ m.stitch (q.h 0) = some s ∧ s.st ≠ .bound)
    (fun m _ _ => (m.freeVal.2, ⟨0, beBytes 1 s.st.code ++ [1, 0] ++ beBytes 1 s.remote ++ beBytes 8 m.freeVal.1, 0⟩))) ∧
  (∀ s o, Serves .pkOperate 0x0402
    (fun m x q => q.len = 8 ∧ m.stitch (q.h 0) = some s ∧ s.obj = some o ∧ Mach.objValBad o (q.d 4) = false ∧ m.passive = false ∧
      Mach.selMine s x.num = true)
    (fun m _ q =>
      let m := m.updStitch (q.h 0) (fun y => { y with opWaiter := some q.waiter })
      let acts := m.objActs o (q.d 4)
      let m := m.stageStitch (q.h 0) acts
      let m := match m.stitch (q.h 0) with
        | some y =>
          if !m.closeOk y then m.stitchDrop (q.h 0) 2
          else if m.namesSilent acts then m.stitchDrop (q.h 0) 11
          else m.prepareIf (some (q.h 0))
        | none => m
      (m, ⟨1, [], 0⟩))) ∧
  (∀ s, Serves .pkCancel 0x0403 (fun m _ q => q.len = 4 ∧ m.stitch (q.h 0) = some s ∧ s.st ≠ .bound)
    (fun m _ q => (m.stitchDrop (q.h 0) 5, ⟨0, [], 0⟩))) ∧
  (∀ s, Serves .pkStitchStatus 0x0404 (fun m _ q => q.len = 4 ∧ m.stitch (q.h 0) = some s ∧ s.st = .bound)
    (fun m _ _ => (m, ⟨0, beBytes 1 3 ++ [1, 0] ++ beBytes 1 s.remote ++ beBytes 8 s.bindLtc.toNat, 0⟩))) ∧
  (∀ f, Serves .pkStitchStatus 0x0404 (fun m _ q => q.len = 4 ∧ m.stitch (q.h 0) = none ∧ m.finOf (q.h 0) = some f)
    (fun m _ _ => (m, ⟨0, beBytes 1 (if f.dropped then 4 else 3) ++ beBytes 1 (bit f.clsA) ++ beBytes 1 f.reason ++ beBytes 1 f.remote ++
      beBytes 8 f.ltc.toNat, 0⟩)))

/-- Recorders: EVR_READ gives records in sequence from an RSEQ held, from the oldest where it lies before, none where it is newer or the log
is empty, and ST_FENCED of a fenced log; EVR_CLEAR and DR_CLEAR start their activity and stay pending, or end with the refusal of R723;
EVT_CODES gives the codes of a class from FIRST; DR_LIST the index; DR_READ octets of a stored record, ST_STATE while it is being
recorded, ST_FENCED where its blocks are lost, ST_BAD_PARAM of a number not stored and of octets beyond its end; DR_TRIGGER a trigger
for the next frame, with DR_CTRL.EN 0 ST_STATE. Diagnostics and host frames: DIAG_SUMMARY gives HEALTH, FAULT and the fenced domains;
DOMAIN_STATUS one domain's state, errors and fence time, of a number without a domain absent; FRAME_SEND puts the frame into the queue
of class 0 of each lane named that is UP, to be stamped when ID asks for one, and refuses lanes beyond SVC, other IDs and other lengths
with ST_BAD_PARAM. A frame leaves its queue as its lane is free, unless its lane is not UP or its buffer of 32 KiB is full. -/
def Obligations.RecorderAndDiagnosticsRequests : Prop :=
  ((∀ l, Serves .pkEvrRead 0x0501
      (fun m _ q => q.len = 8 ∧ q.b 0 ≤ 2 ∧ 1 ≤ q.b 1 ∧ q.b 1 ≤ 63 ∧ m.selLog (q.b 0) = (l, false) ∧ l ≠ [] ∧
        0 ≤ sdiff32 (wd (q.d 4)) (Mach.oldestOf l) ∧ sdiff32 (wd (q.d 4)) (Mach.newestOf l) ≤ 0)
      (fun m _ q =>
        let r := (l.filter (fun e => decide (0 ≤ sdiff32 e.rseq (wd (q.d 4))))).take (q.b 1)
        (m, ⟨0, beBytes 4 (wd (q.d 4)).toNat ++ beBytes 1 r.length ++ beBytes 1 0 ++ [0, 0] ++ r.flatMap (fun e => (m.recNow e).bytes),
          0⟩))) ∧
    (∀ l, Serves .pkEvrRead 0x0501
      (fun m _ q => q.len = 8 ∧ q.b 0 ≤ 2 ∧ 1 ≤ q.b 1 ∧ q.b 1 ≤ 63 ∧ m.selLog (q.b 0) = (l, false) ∧
        (l = [] ∨ 0 < sdiff32 (wd (q.d 4)) (Mach.oldestOf l) ∧ 0 < sdiff32 (wd (q.d 4)) (Mach.newestOf l)))
      (fun m _ q => (m, ⟨0, beBytes 4 (wd (q.d 4)).toNat ++ [0, 0, 0, 0], 0⟩))) ∧
    (∀ l, Serves .pkEvrRead 0x0501
      (fun m _ q => q.len = 8 ∧ q.b 0 ≤ 2 ∧ 1 ≤ q.b 1 ∧ q.b 1 ≤ 63 ∧ m.selLog (q.b 0) = (l, false) ∧ l ≠ [] ∧
        sdiff32 (wd (q.d 4)) (Mach.oldestOf l) < 0)
      (fun m _ q =>
        let r := (l.filter (fun e => decide (0 ≤ sdiff32 e.rseq (Mach.oldestOf l)))).take (q.b 1)
        (m, ⟨0, beBytes 4 (Mach.oldestOf l).toNat ++ beBytes 1 r.length ++ beBytes 1 1 ++ [0, 0] ++
          r.flatMap (fun e => (m.recNow e).bytes), 0⟩))) ∧
    (∀ l, Serves .pkEvrRead 0x0501
      (fun m _ q => q.len = 8 ∧ q.b 0 ≤ 2 ∧ 1 ≤ q.b 1 ∧ q.b 1 ≤ 63 ∧ m.selLog (q.b 0) = (l, true))
      (fun m _ q => m.err 0x0204 (if q.b 0 = 2 then 44 else 43))) ∧
    (∀ e l, Serves .pkEvrClear 0x0502 (fun m _ q => q.len = 0 ∧ m.maintBroken 8 0 = e :: l) (fun m _ _ => m.err e.1 e.2) ∧
      Serves .pkDrClear 0x0507 (fun m _ q => q.len = 0 ∧ m.maintBroken 8 1 = e :: l) (fun m _ _ => m.err e.1 e.2)) ∧
    Serves .pkEvrClear 0x0502 (fun m _ q => q.len = 0 ∧ m.maintBroken 8 0 = [])
      (fun m x q => (m.evrClear x.num (some q.waiter), ⟨1, [], 0⟩)) ∧
    (∀ (m : Mach) n w x, m.maintTake 8 0 n w = .ok x → m.evrClear n w = x.2.clearEnter n) ∧
    Serves .pkEvtCodes 0x0503 (fun _ _ q => q.len = 4 ∧ q.b 0 ≤ 15) (fun m _ q =>
      let l := ((evSorted (Ev.all.filter (fun e => decide (e.cls = q.b 0)))).filter (fun e => decide (q.h 2 ≤ e.code))).take 127
      (m, ⟨0, beBytes 2 l.length ++ [0, 0] ++ l.flatMap (fun e =>
        beBytes 2 e.code ++ beBytes 2 (Config.evSrcKind e).toNat ++ (Config.evName e ++ zeros 28).take 28), 0⟩)) ∧
    Serves .pkDrList 0x0504 (fun _ _ q => q.len = 0) (fun m _ _ =>
      (m, ⟨0, (List.range 8).flatMap (fun r => (List.range 4).flatMap (fun w => beBytes 4 (m.peek (.drIdx r w)).toNat)), 0⟩)) ∧
    (∀ r, Serves .pkDrRead 0x0505
      (fun m _ q => q.len = 12 ∧ 1 ≤ q.h 8 ∧ q.h 8 ≤ 4096 ∧ m.recs.dr.run.any (fun r => decide (r.body.recNo = q.d 0)) = false ∧
        m.recs.dr.stored.find? (fun r => decide (r.recNo = q.d 0)) = some r ∧ r.damaged = false ∧
        (∀ k ∈ r.blocks, m.recs.dr.badBlocks.contains k = false ∧ m.fenced (if k < 40 then 43 else 44) = false) ∧
        q.d 4 + q.h 8 ≤ r.bytes.length)
      (fun m _ q => (m, ⟨0, (r.bytes.drop (q.d 4)).take (q.h 8), 0⟩))) ∧
    Serves .pkDrRead 0x0505
      (fun m _ q => q.len = 12 ∧ 1 ≤ q.h 8 ∧ q.h 8 ≤ 4096 ∧ m.recs.dr.run.any (fun r => decide (r.body.recNo = q.d 0)) = true)
      (fun m _ _ => m.err 0x0208) ∧
    Serves .pkDrRead 0x0505
      (fun m _ q => q.len = 12 ∧ 1 ≤ q.h 8 ∧ q.h 8 ≤ 4096 ∧ m.recs.dr.run.any (fun r => decide (r.body.recNo = q.d 0)) = false ∧
        m.recs.dr.stored.find? (fun r => decide (r.recNo = q.d 0)) = none)
      (fun m _ _ => m.err 0x0102 0) ∧
    (∀ r k, Serves .pkDrRead 0x0505
      (fun m _ q => q.len = 12 ∧ 1 ≤ q.h 8 ∧ q.h 8 ≤ 4096 ∧ m.recs.dr.run.any (fun r => decide (r.body.recNo = q.d 0)) = false ∧
        m.recs.dr.stored.find? (fun r => decide (r.recNo = q.d 0)) = some r ∧
        r.blocks.find? (fun k => m.recs.dr.badBlocks.contains k || m.fenced (if k < 40 then 43 else 44)) = some k)
      (fun m _ _ => m.err 0x0204 (if k < 40 then 43 else 44))) ∧
    (∀ r, Serves .pkDrRead 0x0505
      (fun m _ q => q.len = 12 ∧ 1 ≤ q.h 8 ∧ q.h 8 ≤ 4096 ∧ m.recs.dr.run.any (fun r => decide (r.body.recNo = q.d 0)) = false ∧
        m.recs.dr.stored.find? (fun r => decide (r.recNo = q.d 0)) = some r ∧ r.damaged = false ∧
        (∀ k ∈ r.blocks, m.recs.dr.badBlocks.contains k = false ∧ m.fenced (if k < 40 then 43 else 44) = false) ∧
        r.bytes.length < q.d 4 + q.h 8)
      (fun m _ _ => m.err 0x0102 4)) ∧
    Serves .pkDrTrigger 0x0506 (fun m _ q => q.len = 0 ∧ m.flag .drCtrl F.drCtrl_EN = false) (fun m _ _ => m.err 0x0208) ∧
    Serves .pkDrTrigger 0x0506 (fun m _ q => q.len = 0 ∧ m.flag .drCtrl F.drCtrl_EN = true)
      (fun m x _ => (m.drManual x.num, ⟨0, beBytes 4 (if m.fr.started then m.fr.fseq + 1 else 0).toNat, 0⟩)) ∧
    Serves .pkDrClear 0x0507 (fun m _ q => q.len = 0 ∧ m.maintBroken 8 1 = [])
      (fun m x q => (m.drClearRun x.num (some q.waiter), ⟨1, [], 0⟩)) ∧
    (∀ (m : Mach) n w x, m.maintTake 8 1 n w = .ok x → m.drClearRun n w = (x.2.drClear).maintEndOf 8 1 0)) ∧
  (Serves .pkDiagSummary 0x0A01 (fun _ _ q => q.len = 0) (fun m _ _ =>
      (m, ⟨0, beBytes 1 m.health ++ beBytes 1 (bit (!m.pins.faultN)) ++ [0, 0] ++ beBytes 32 (bitsOf 132 m.fenced), 0⟩)) ∧
    Serves .pkDomainStatus 0x0A02 (fun _ _ q => q.len = 4 ∧ q.b 0 < 132) (fun m _ q =>
      (m, ⟨0, beBytes 1 (m.dom (q.b 0)).st ++ beBytes 1 (min (m.domErrs (q.b 0)) 255) ++ [0, 0] ++
        beBytes 8 (m.dom (q.b 0)).fenceLtc.toNat, 0⟩)) ∧
    Serves .pkDomainStatus 0x0A02 (fun _ _ q => q.len = 4 ∧ 132 ≤ q.b 0) (fun m _ _ => (m, ⟨0, [4, 0, 0, 0] ++ zeros 8, 0⟩)) ∧
    Serves .pkFrameSend 0x0A03
      (fun _ _ q => q.b 0 ≤ 31 ∧ (q.h 2 = 0 ∨ 32768 ≤ q.h 2) ∧ 60 ≤ q.h 4 ∧ q.h 4 ≤ 1518 ∧ q.len = 8 + q.h 4)
      (fun m _ q => (forEach (((List.range 5).filter (q.b 0).testBit).filter m.rxUp) m (fun m l =>
        m.txPut l 0 (q.h 4 + 4) (.host l (q.payload.drop 8)) (if q.h 2 = 0 then .plain else .stamp (q.h 2))), ⟨0, [], 0⟩)) ∧
    Serves .pkFrameSend 0x0A03 (fun _ _ q => 8 ≤ q.len ∧ 31 < q.b 0) (fun m _ _ => m.err 0x0102 0) ∧
    Serves .pkFrameSend 0x0A03 (fun _ _ q => 8 ≤ q.len ∧ q.b 0 ≤ 31 ∧ q.h 2 ≠ 0 ∧ q.h 2 < 32768) (fun m _ _ => m.err 0x0102 2) ∧
    Serves .pkFrameSend 0x0A03
      (fun _ _ q => 8 ≤ q.len ∧ q.b 0 ≤ 31 ∧ (q.h 2 = 0 ∨ 32768 ≤ q.h 2) ∧ (q.h 4 < 60 ∨ 1518 < q.h 4))
      (fun m _ _ => m.err 0x0102 4) ∧
    (∀ (m : Mach) l c n x p,
      (m.txHeld l + max 64 n ≤ 32768 → m.txPut l c n x p =
        { m with txq := m.txq ++ [{ lane := l, cls := c, octets := max 64 n, frame := x, post := p }] }) ∧
      (32768 < m.txHeld l + max 64 n → m.txPut l c n x p = m)) ∧
    (∀ (m : Mach) l,
      (m.rxUp l = false → m.txLane l = { m with txq := m.txq.filter (fun f => f.lane ≠ l) }) ∧
      (∀ f, m.rxUp l = true → Mach.txNext m.txq l = some f → SMap.get? m.txEnd l = none →
        m.txLane l = ({ m with txq := m.txq.erase f, txEnd := SMap.put m.txEnd l (m.mon + tm (m.txTime l f.octets)) } : Mach).txGo l f)))

/-- Time and pair: TIME_GET gives LTC, MON and status of one tick; TIME_STEP arms the step and stays pending, of a past frame ends with
ST_BAD_PARAM and while one is armed with ST_STATE; TIME_ACCEPT takes HOLD's new path, outside HOLD ST_STATE; PAIR_STATUS gives the
pair's registers; PAIR_SWITCH, where R598 allows it, announces the switch frame and stays pending, else ST_STATE; PAIR_RESYNC on a
STANDBY sends SYNC_REQ, else ST_STATE; FEED_PROVE starts a proof and stays pending, ends with ST_STATE unless the other feed is PRESENT
or PROVEN, or with the refusal of the activity (R723). -/
def Obligations.TimeAndPairRequests : Prop :=
  Serves .pkTimeGet 0x0601 (fun _ _ q => q.len = 0) (fun m _ _ =>
    (m, ⟨0, beBytes 8 m.ltc.toNat ++ beBytes 4 (m.tb.ltc.toNat % 2 ^ 32) ++ beBytes 8 m.mon.toNat ++ beBytes 4 (m.peek .tbStat).toNat ++
      beBytes 4 (m.peek .tbOffset).toNat, 0⟩)) ∧
  Serves .pkTimeStep 0x0602
    (fun m _ q => q.len = 16 ∧ q.b 0 ≤ 1 ∧ q.b 1 ≤ 1 ∧ (q.b 1 = 1 → m.fseqPast (wd (q.d 12)) = false) ∧
      m.flag .tbStepCtrl F.tbStepCtrl_ARM = false)
    (fun m _ q =>
      let m := ((m.wr .tbStepAmtHi (wd (q.d 4))).wr .tbStepAmtLo (wd (q.d 8))).wr .tbStepFseq (wd (q.d 12))
      let m := ((m.setF .tbStepCtrl F.tbStepCtrl_MODE (q.b 0)).setF .tbStepCtrl F.tbStepCtrl_USE_FSEQ (q.b 1)).setF .tbStepCtrl
        F.tbStepCtrl_ARM 1
      (m.updTb (fun t => { t with stepWaiter := some q.waiter }), ⟨1, [], 0⟩)) ∧
  Serves .pkTimeStep 0x0602
    (fun m _ q => q.len = 16 ∧ q.b 0 ≤ 1 ∧ q.b 1 = 1 ∧ m.fseqPast (wd (q.d 12)) = true) (fun m _ _ => m.err 0x0102 12) ∧
  Serves .pkTimeStep 0x0602
    (fun m _ q => q.len = 16 ∧ q.b 0 ≤ 1 ∧ q.b 1 ≤ 1 ∧ (q.b 1 = 1 → m.fseqPast (wd (q.d 12)) = false) ∧
      m.flag .tbStepCtrl F.tbStepCtrl_ARM = true)
    (fun m _ _ => m.err 0x0208) ∧
  Serves .pkTimeAccept 0x0603 (fun m _ q => q.len = 0 ∧ m.tb.st ≠ .hold) (fun m _ _ => m.err 0x0208) ∧
  Serves .pkPairSwitch 0x0702 (fun m _ q => q.len = 0 ∧ m.switchOk = false) (fun m _ _ => m.err 0x0208) ∧
  Serves .pkPairResync 0x0703 (fun m _ q => q.len = 0 ∧ m.pair.role ≠ .standby) (fun m _ _ => m.err 0x0208) ∧
  Serves .pkFeedProve 0x0704
    (fun m _ q => q.len = 4 ∧ q.b 0 ≤ 1 ∧ (m.feed (1 - q.b 0)).st ≠ .present ∧ (m.feed (1 - q.b 0)).st ≠ .proven)
    (fun m _ _ => m.err 0x0208) ∧
  (∀ e l, Serves .pkFeedProve 0x0704
    (fun m _ q => q.len = 4 ∧ q.b 0 ≤ 1 ∧ ((m.feed (1 - q.b 0)).st = .present ∨ (m.feed (1 - q.b 0)).st = .proven) ∧
      m.maintBroken 7 (q.b 0) = e :: l)
    (fun m _ _ => m.err e.1 e.2)) ∧
  Serves .pkTimeAccept 0x0603 (fun m _ q => q.len = 0 ∧ m.tb.st = .hold) (fun m _ _ => (m.rrAccept, ⟨0, [], 0⟩)) ∧
  Serves .pkPairStatus 0x0701 (fun _ _ q => q.len = 0) (fun m _ _ =>
    (m, ⟨0, [Reg.pairStat, Reg.pairClaimOwn, Reg.pairClaimPeer, Reg.pairMirF, Reg.pwrStat].flatMap (fun r =>
      beBytes 4 (m.peek r).toNat), 0⟩)) ∧
  Serves .pkPairSwitch 0x0702 (fun m _ q => q.len = 0 ∧ m.switchOk = true) (fun m _ q =>
    (m.updPair (fun p => { p with switchTag := some m.switchTagOf, switchWait := p.switchWait ++ [q.waiter] }), ⟨1, [], 0⟩)) ∧
  Serves .pkPairResync 0x0703 (fun m _ q => q.len = 0 ∧ m.pair.role = .standby) (fun m _ _ => (m.syncReqSend, ⟨0, [], 0⟩)) ∧
  Serves .pkFeedProve 0x0704
    (fun m _ q => q.len = 4 ∧ q.b 0 ≤ 1 ∧ ((m.feed (1 - q.b 0)).st = .present ∨ (m.feed (1 - q.b 0)).st = .proven) ∧
      m.maintBroken 7 (q.b 0) = [])
    (fun m x q => (m.proveBegin (q.b 0) x.num (some q.waiter), ⟨1, [], 0⟩)) ∧
  (∀ (m : Mach) f n w x, m.maintTake 7 f n w = .ok x →
    m.proveBegin f n w = x.2.updFeed f (fun y => { y with st := .proving, proveMon := x.2.mon }))

/-- Maintenance: MAINT_START of an activity without a bar of its own and without conflict takes the tokens, begins it and answers its
handle, else it ends with the bar's status, or in conflict with the holder's handle and activity (R723), and with 16 running with
ST_STATE; MAINT_END undoes and ends an activity that runs; MAINT_LIST lists them; OUT_TEST drives an output of its group for a time, of
another handle or output ends with ST_BAD_PARAM; RESTART is noted, to be carried out once its reply is delivered. -/
def Obligations.MaintenanceRequests : Prop :=
  (∀ g, Serves .pkMaintStart 0x0801
    (fun m x q => q.len = 8 ∧ (1 ≤ q.b 0 ∧ q.b 0 ≤ 5 ∨ q.b 0 = 9) ∧ m.maintBar (q.b 0) (q.h 2) (q.d 4) = none ∧
      m.maintTake (q.b 0) (q.h 2) x.num none = .ok g)
    (fun _ x q => (g.2.maintBegin (q.b 0) (q.h 2) (q.d 4) x.num g.1, ⟨0, beBytes 2 g.1 ++ [0, 0], 0⟩))) ∧
  (∀ (m : Mach) a t n w, m.maintHolder a t = none → m.cmd.maint.length < 16 →
    m.maintTake a t n w = .ok (m.nextHandle, ({ m with cmd := { m.cmd with
      maint := m.cmd.maint ++ [{ handle := m.nextHandle, act := a, target := t, session := n, waiter := w }],
      lastHandle := m.nextHandle } } : Mach).emitW .maintStart m.nextHandle [wd (m.nextHandle * 65536 + a)])) ∧
  (∀ (m : Mach) a t n w x, m.maintHolder a t = some x → m.maintTake a t n w = .error (0x0201, x.handle * 65536 + x.act)) ∧
  (∀ (m : Mach) a t n w, m.maintHolder a t = none → 16 ≤ m.cmd.maint.length → m.maintTake a t n w = .error (0x0208, 0)) ∧
  (∀ e, Serves .pkMaintStart 0x0801
    (fun m x q => q.len = 8 ∧ (1 ≤ q.b 0 ∧ q.b 0 ≤ 5 ∨ q.b 0 = 9) ∧ (m.maintBar (q.b 0) (q.h 2) (q.d 4) = some e ∨
      m.maintBar (q.b 0) (q.h 2) (q.d 4) = none ∧ m.maintTake (q.b 0) (q.h 2) x.num none = .error e))
    (fun m _ _ => m.err e.1 e.2)) ∧
  Serves .pkMaintStart 0x0801 (fun _ _ q => q.len = 8 ∧ (q.b 0 = 0 ∨ 5 < q.b 0) ∧ q.b 0 ≠ 9) (fun m _ _ => m.err 0x0102 0) ∧
  Serves .pkMaintEnd 0x0802 (fun m _ q => q.len = 4 ∧ m.maintOf (q.h 0) = none) (fun m _ _ => m.err 0x0102 0) ∧
  Serves .pkOutTest 0x0804
    (fun m _ q => q.len = 8 ∧ q.b 2 ≤ 15 ∧ q.b 3 ≤ 1 ∧ 1 ≤ q.h 4 ∧ q.h 4 ≤ 5000 ∧
      (∀ a, m.maintOf (q.h 0) = some a → a.act ≠ 1 ∨ (groupOuts a.target).contains (q.b 2) = false))
    (fun m _ _ => m.err 0x0102 0) ∧
  Serves .pkRestart 0x0805 (fun _ _ q => q.len = 4 ∧ 1 < q.b 0) (fun m _ _ => m.err 0x0102 0) ∧
  (∀ a, Serves .pkMaintEnd 0x0802 (fun m _ q => q.len = 4 ∧ m.maintOf (q.h 0) = some a)
    (fun m _ _ => ((m.maintUndo a).maintEnd a 0x0205, ⟨0, [], 0⟩))) ∧
  Serves .pkMaintList 0x0803 (fun _ _ q => q.len = 0) (fun m _ _ =>
    (m, ⟨0, beBytes 2 m.cmd.maint.length ++ [0, 0] ++ m.cmd.maint.flatMap (fun x =>
      beBytes 2 x.handle ++ beBytes 1 x.act ++ [0] ++ beBytes 2 x.target ++ beBytes 2 x.session), 0⟩)) ∧
  (∀ a, Serves .pkOutTest 0x0804
    (fun m _ q => q.len = 8 ∧ q.b 2 ≤ 15 ∧ q.b 3 ≤ 1 ∧ 1 ≤ q.h 4 ∧ q.h 4 ≤ 5000 ∧ m.maintOf (q.h 0) = some a ∧ a.act = 1 ∧
      (groupOuts a.target).contains (q.b 2) = true)
    (fun m _ q => (m.outTest (q.h 0) (q.b 2) (decide (q.b 3 = 1)) (q.h 4), ⟨0, [], 0⟩))) ∧
  Serves .pkRestart 0x0805 (fun _ _ q => q.len = 4 ∧ q.b 0 ≤ 1)
    (fun m _ q => ({ m with start := { m.start with restartWait := some (q.b 0) } }, ⟨0, [], 0⟩))

/-- Roles, firmware and attestation: ROLE_CHALLENGE gives the session a nonce; a response that verifies grants the role and clears the
failures, one that fails, or during lockout, ends with ST_AUTH, the fifth failure in a row beginning a lockout of 60 s (R752); ROLE_DROP
ends the role; a firmware segment is kept, the last, verified, goes into the slot not active and ends the staging, else ST_DENIED with
the result; FW_ACTIVATE makes a verified staged slot the next one, without one ST_STATE; ATTEST uses one index and answers the report's
first octets, without an index left HSS_EXHAUSTED is logged with ST_STATE (R745); CERT_READ gives the bundle from 0; SEAL burns its fuse
where R754 allows it, else ends with ST_DENIED when burned, ST_STATE without a key or in production. -/
def Obligations.SecurityRequests : Prop :=
  Serves .pkRoleChallenge 0x0901 (fun _ _ q => q.len = 0) (fun m x _ =>
    let (v, m) := m.freeVal
    (m.updSess x.num (fun s => { s with nonce := some (v % 2 ^ 256, m.mon) }), ⟨0, beBytes 32 (v % 2 ^ 256), 0⟩)) ∧
  (∀ m', Serves .pkRoleResponse 0x0902
    (fun m x q => (q.len = 104 ∨ q.len = 8 ∧ q.b 4 = 255) ∧ q.b 0 = 1 ∧ m.roleLocked = false ∧ m.roleRespond x 1 (q.b 4) (q.payload.drop 8) = (true, m'))
    (fun _ _ _ => (m', ⟨0, [1, 0, 0, 0], 0⟩))) ∧
  (∀ (m : Mach) s key sig n t, s.nonce = some (n, t) → m.since t ≤ 60000000000 → key ≠ 255 →
    (m.updSess s.num (fun s => { s with nonce := none })).mkeyOk key = true →
    Config.ecdsaVerify ((m.updSess s.num (fun s => { s with nonce := none })).mkey key) (Config.sha384 (beBytes 4 0x474C4D52 ++
      beBytes 32 n ++ beBytes 4 (m.rd .idSerialHi).toNat ++ beBytes 4 (m.rd .idSerialLo).toNat ++ beBytes 2 s.num ++ beBytes 1 1)) sig
      = true →
    m.roleRespond s 1 key sig = (true, (((m.updSess s.num (fun s => { s with nonce := none })).updSec (fun x => { x with fails := 0 })).updSess
      s.num (fun s => { s with maint := true, roleKey := key })))) ∧
  (∀ m', Serves .pkRoleResponse 0x0902
    (fun m x q => (q.len = 104 ∨ q.len = 8 ∧ q.b 4 = 255) ∧ q.b 0 = 1 ∧ m.roleLocked = false ∧ m.roleRespond x 1 (q.b 4) (q.payload.drop 8) = (false, m'))
    (fun _ _ _ => m'.err 0x0207)) ∧
  Serves .pkRoleResponse 0x0902
    (fun m _ q => (q.len = 104 ∨ q.len = 8 ∧ q.b 4 = 255) ∧ q.b 0 = 1 ∧ m.roleLocked = true) (fun m _ _ => m.err 0x0207) ∧
  (∀ (m : Mach) s key sig, s.nonce = none → key ≠ 255 →
    m.roleRespond s 1 key sig = (false, (m.updSess s.num (fun s => { s with nonce := none })).roleFailed s.num)) ∧
  (∀ (m : Mach) num, m.roleFailed num =
    let m := (m.bump .secAuthFail F.secAuthFail_VALUE 1).emit .roleFail num
    if 4 ≤ m.sec.fails then
      (m.updSec (fun s => { s with fails := 0, lockEnd := some (m.mon + 60000000000) })).setF .secStat F.secStat_LOCKOUT 1
    else m.updSec (fun s => { s with fails := m.sec.fails + 1 })) ∧
  Serves .pkRoleDrop 0x0903 (fun _ _ q => q.len = 0)
    (fun m x _ => (m.updSess x.num (fun s => { s with maint := false, roleKey := 255 }), ⟨0, [], 0⟩)) ∧
  (∀ s, Serves .pkFwStage 0x0904
    (fun _ x q => 12 ≤ q.len ∧ 1 ≤ q.b 0 ∧ q.b 0 ≤ 4 ∧ q.d 8 ≠ 0 ∧
      Mach.segTake x 2 (q.b 0) 0 (q.d 4) (q.d 8) (q.payload.drop 12) 4 8 = .ok s ∧ s.data.length < q.d 4)
    (fun m x _ => (m.xferSet x.num 2 (some s), ⟨0, beBytes 4 s.data.length, 0⟩))) ∧
  (∀ s, Serves .pkFwStage 0x0904
    (fun m x q => 12 ≤ q.len ∧ 1 ≤ q.b 0 ∧ q.b 0 ≤ 4 ∧ q.d 8 ≠ 0 ∧
      Mach.segTake x 2 (q.b 0) 0 (q.d 4) (q.d 8) (q.payload.drop 12) 4 8 = .ok s ∧ s.data.length = q.d 4 ∧
      verifyImage s.data (q.b 0) (m.imgKind (q.b 0)).svnMin = 0)
    (fun m x q => ((m.stageEnd (q.b 0) s.data).2.fwStageEnd x.num 0, ⟨0, beBytes 4 (q.d 4), 0⟩))) ∧
  (∀ s, Serves .pkFwStage 0x0904
    (fun m x q => 12 ≤ q.len ∧ 1 ≤ q.b 0 ∧ q.b 0 ≤ 4 ∧ q.d 8 ≠ 0 ∧
      Mach.segTake x 2 (q.b 0) 0 (q.d 4) (q.d 8) (q.payload.drop 12) 4 8 = .ok s ∧ s.data.length = q.d 4 ∧
      verifyImage s.data (q.b 0) (m.imgKind (q.b 0)).svnMin ≠ 0)
    (fun m x q => ((m.stageEnd (q.b 0) s.data).2.fwStageEnd x.num 0x0202).err 0x0202
      (verifyImage s.data (q.b 0) (m.imgKind (q.b 0)).svnMin))) ∧
  Serves .pkFwActivate 0x0905
    (fun m _ q => q.len = 4 ∧ 1 ≤ q.b 0 ∧ q.b 0 ≤ 4 ∧ (∀ i, (m.imgKind (q.b 0)).staged = some i →
      (Mach.ImgKind.slot (m.imgKind (q.b 0)) i).verified = false))
    (fun m _ _ => m.err 0x0208) ∧
  (∀ i, Serves .pkFwActivate 0x0905
    (fun m _ q => q.len = 4 ∧ 1 ≤ q.b 0 ∧ q.b 0 ≤ 4 ∧ (m.imgKind (q.b 0)).staged = some i ∧
      (Mach.ImgKind.slot (m.imgKind (q.b 0)) i).verified = true)
    (fun m _ q => ((m.updImg (q.b 0) (fun x => { x with active := i })).setF (.secImg (q.b 0)) F.secImg_STAGED 2, ⟨0, [], 0⟩))) ∧
  (∀ l m', Serves .pkAttest 0x0906
    (fun m _ q => q.len = 56 ∧ q.d 0 = 0 ∧ m.attest (q.payload.drop 8) = some (l, m') ∧ 4088 ≤ l.length)
    (fun _ x _ =>
      let m := m'.updSess x.num (fun s => { s with report := some l })
      (m.xferSet x.num 3 (if 4088 < l.length then some (outXfer 3 l.length 4088) else none),
        ⟨0, beBytes 4 l.length ++ [0, 0, 0, 0] ++ l.take 4088, 0⟩))) ∧
  Serves .pkAttest 0x0906 (fun m _ q => q.len = 56 ∧ q.d 0 = 0 ∧ 4096 * 1024 ≤ m.sec.q)
    (fun m _ _ => (m.emit .hssExhausted 0).err 0x0208) ∧
  (∀ (m : Mach) n, 4096 * 1024 ≤ m.sec.q → m.attest n = none) ∧
  (∀ (m : Mach) n, m.sec.q < 4096 * 1024 → ∃ l m', m.attest n = some (l, m') ∧ m'.sec.q = m.sec.q + 1) ∧
  Serves .pkCertRead 0x0907 (fun _ _ q => q.len = 4 ∧ q.d 0 = 0) (fun m x _ =>
    let l := Config.certBundle
    (m.xferSet x.num 4 (if min 4092 l.length < l.length then some (outXfer 4 l.length (min 4092 l.length)) else none),
      ⟨0, beBytes 4 l.length ++ l.take 4092, 0⟩)) ∧
  Serves .pkSeal 0x0908 (fun _ _ q => q.len = 4 ∧ q.d 0 ≠ 0x5345414C) (fun m _ _ => m.err 0x0102 0) ∧
  Serves .pkSeal 0x0908 (fun m _ q => q.len = 4 ∧ q.d 0 = 0x5345414C ∧ m.flag .secStat F.secStat_SEALED = true)
    (fun m _ _ => m.err 0x0202) ∧
  Serves .pkSeal 0x0908
    (fun m _ q => q.len = 4 ∧ q.d 0 = 0x5345414C ∧ m.flag .secStat F.secStat_SEALED = false ∧ m.sealable = false)
    (fun m _ _ => m.err 0x0208) ∧
  (∀ m : Mach, m.sealable =
    (decide (m.fld .secMkeyCtrl F.secMkeyCtrl_LOADED ≠ 0) && !m.flag .glbStat F.glbStat_PRODUCTION)) ∧
  Serves .pkSeal 0x0908
    (fun m _ q => q.len = 4 ∧ q.d 0 = 0x5345414C ∧ m.flag .secStat F.secStat_SEALED = false ∧ m.sealable = true)
    (fun m _ _ => ((m.setF .secStat F.secStat_SEALED 1).setF .glbStat F.glbStat_SEALED 1, ⟨0, [], 0⟩))

/-- The log writer: the record at the head of the FIFO is written, to the skein in use or to the pocket, and notified; a verify mismatch or
a controller error of a skein first fences it, counts an error of its bank and moves logging; EV_CLEARED then clears the log and ends
its activity; with an empty FIFO nothing happens. EV_OVERFLOW with the number lost and the first one's LTC enters once 64 entries or
fewer wait (R634). A repeat entry out of its window closes, a changed one is rewritten once 10 ms have passed. Reading and clearing the
log: a write of EVR_CURSOR latches the record of that RSEQ in the log selected, and a read of EVR_WINDOW_15 the next one; a record not
there leaves zeros and the reason 1 older, 2 newer or the log empty, 3 the log fenced; a clear takes a maintenance activity and enters
EV_CLEARED, in the general entries, the reserved ones, or deferred until one frees, so that it is never lost. -/
def Obligations.EventLog : Prop :=
  ((∀ res off, Acts (.eventRecordWritten res off) (fun m => m.recs.fifo = []) (fun m => m)) ∧
    (∀ res off e rest, Acts (.eventRecordWritten res off)
      (fun m => m.recs.fifo = e :: rest ∧ e.ev ≠ .evCleared ∧ (res = 0 ∨ m.recs.active = 2)) (fun m =>
      let m := (m.updRecs (fun r => { r with fifo := rest })).skeinPut e
      let m := match m.written e.uid with
        | some x => m.noteEv x
        | none => m
      m.overflowOut)) ∧
    (∀ off e rest, Acts (.eventRecordWritten 0 off) (fun m => m.recs.fifo = e :: rest ∧ e.ev = .evCleared) (fun m =>
      let m := (m.updRecs (fun r => { r with fifo := rest })).skeinPut e
      let m := match m.written e.uid with
        | some x => m.noteEv x
        | none => m
      ((m.logCleared e.uid).maintEndOf 8 0 0).overflowOut)) ∧
    (∀ off e rest, Acts (.eventRecordWritten 1 off) (fun m => m.recs.fifo = e :: rest ∧ e.ev ≠ .evCleared ∧ m.recs.active ≠ 2) (fun m =>
      let m := ((m.updRecs (fun r => { r with fifo := rest })).mediaFault .mramVerify off).skeinPut e
      let m := match m.written e.uid with
        | some x => m.noteEv x
        | none => m
      m.overflowOut)) ∧
    (∀ off e rest, Acts (.eventRecordWritten 2 off) (fun m => m.recs.fifo = e :: rest ∧ e.ev ≠ .evCleared ∧ m.recs.active ≠ 2) (fun m =>
      let m := ((m.updRecs (fun r => { r with fifo := rest })).mediaFault .mramCtl off).skeinPut e
      let m := match m.written e.uid with
        | some x => m.noteEv x
        | none => m
      m.overflowOut)) ∧
    (∀ (m : Mach) s off, m.mediaFault s off =
      let a := m.recs.active
      let m := (m.updRecs (fun r => if a = 0 then { r with fencedA := true } else { r with fencedSpare := true })).pickSkein
      ((m.setF .evrStat F.evrStat_MEDIA_FAULT 1).domErr (43 + a) s).mediaLog a off true) ∧
    (∀ (m : Mach) e, m.recs.active = 0 → m.skeinPut e = m.updRecs (fun r => { r with
      skeinA := ringPut skeinCap r.skeinA { e with rseq := r.nextRseq }, nextRseq := r.nextRseq + 1 })) ∧
    (∀ (m : Mach) e, m.recs.active = 1 → m.skeinPut e = m.updRecs (fun r => { r with
      spare := ringPut spareCap r.spare { e with rseq := r.nextRseq }, nextRseq := r.nextRseq + 1 })) ∧
    (∀ (m : Mach) e, m.recs.active = 2 → m.skeinPut e = m.pocketPut e true) ∧
    (∀ m : Mach, m.recs.lostN = 0 ∨ 64 < m.recs.fifo.length → m.overflowOut = m) ∧
    (∀ m : Mach, m.recs.lostN ≠ 0 → m.recs.lostN < 2 ^ 32 → m.recs.fifo.length ≤ 64 →
      m.overflowOut =
        (((m.uidNext).fifoPut (m.newRec .evOverflow 0
          [wd m.recs.lostN, (m.recs.lostFirst >>> 32).setWidth 32, m.recs.lostFirst.setWidth 32] false false)).updRecs
          (fun r => { r with lostN := 0, lostFirst := 0 }))) ∧
    Acts .repeatEntryClose
      (fun m => ∀ r ∈ m.recs.rpt, m.since r.lastMon ≤ msNs (m.fld .evrCtrl F.evrCtrl_REPEAT_WIN)) (fun m => m) ∧
    (∀ r, Acts .repeatEntryClose
      (fun m => m.recs.rpt = [r] ∧ msNs (m.fld .evrCtrl F.evrCtrl_REPEAT_WIN) < m.since r.lastMon) (fun m => m.rptClose r)) ∧
    Acts .repeatRewrite (fun m => ∀ r ∈ m.recs.rpt, r.changed = false ∨ m.since r.rewriteMon < 10000000) (fun m => m) ∧
    (∀ r, Acts .repeatRewrite (fun m => m.recs.rpt = [r] ∧ r.changed = true ∧ 10000000 ≤ m.since r.rewriteMon)
      (fun m => (m.recUpd r.uid (Mach.RptEntry.put r)).updRecs (fun x => { x with rpt := [{ r with changed := false, rewriteMon := m.mon }] })))) ∧
  ((∀ ses x w, Acts (.evrCursorWrite ses w) (fun m => m.mayWrite x ses .evrCursor w)
      (fun m => (m.stored .evrCursor w).evrLatch (m.newWord .evrCursor w))) ∧
    (∀ ses x, Acts (.evrWindowRead ses) (fun m => m.sess ses = some x ∧ m.start.recovery = false)
      (fun m => m.evrLatch (m.rd .evrCursor + 1))) ∧
    (∀ (m : Mach) n l e, (m.wr .evrCursor n).selLog ((m.wr .evrCursor n).fld .evrSel F.evrSel_SRC) = (l, false) →
      l.find? (fun e => e.rseq = n) = some e →
      m.evrLatch n = (forEach (List.range 16) (m.wr .evrCursor n) (fun x w =>
        x.wr (.evrWindow w) (wd (beAt ((m.wr .evrCursor n).recNow e).bytes (4 * w) 4)))).setF .evrSel F.evrSel_CUR_STATE 0) ∧
    (∀ (m : Mach) n l, (m.wr .evrCursor n).selLog ((m.wr .evrCursor n).fld .evrSel F.evrSel_SRC) = (l, true) →
      m.evrLatch n = (forEach (List.range 16) (m.wr .evrCursor n) (fun x w =>
        x.wr (.evrWindow w) (wd (beAt (zeros 64) (4 * w) 4)))).setF .evrSel F.evrSel_CUR_STATE 3) ∧
    (∀ (m : Mach) n l e, (m.wr .evrCursor n).selLog ((m.wr .evrCursor n).fld .evrSel F.evrSel_SRC) = (l, false) →
      l.find? (fun e => e.rseq = n) = none → l.getLast? = some e → 0 < sdiff32 n e.rseq →
      m.evrLatch n = (forEach (List.range 16) (m.wr .evrCursor n) (fun x w =>
        x.wr (.evrWindow w) (wd (beAt (zeros 64) (4 * w) 4)))).setF .evrSel F.evrSel_CUR_STATE 2) ∧
    (∀ (m : Mach) n l e, (m.wr .evrCursor n).selLog ((m.wr .evrCursor n).fld .evrSel F.evrSel_SRC) = (l, false) →
      l.find? (fun e => e.rseq = n) = none → l.getLast? = some e → ¬0 < sdiff32 n e.rseq →
      m.evrLatch n = (forEach (List.range 16) (m.wr .evrCursor n) (fun x w =>
        x.wr (.evrWindow w) (wd (beAt (zeros 64) (4 * w) 4)))).setF .evrSel F.evrSel_CUR_STATE 1) ∧
    (∀ (m : Mach) n, (m.wr .evrCursor n).selLog ((m.wr .evrCursor n).fld .evrSel F.evrSel_SRC) = ([], false) →
      m.evrLatch n = (forEach (List.range 16) (m.wr .evrCursor n) (fun x w =>
        x.wr (.evrWindow w) (wd (beAt (zeros 64) (4 * w) 4)))).setF .evrSel F.evrSel_CUR_STATE 2) ∧
    (∀ ses x, Acts (.evrCtrlClear ses) (fun m => m.mayWrite x ses .evrCtrl (m.withFields .evrCtrl [(F.evrCtrl_CLEAR, 1)]))
      (fun m => (m.stored .evrCtrl (m.withFields .evrCtrl [(F.evrCtrl_CLEAR, 1)])).evrClear x.num none)) ∧
    (∀ (m : Mach) num n m', m.maintTake 8 0 num none = .ok (n, m') → m.evrClear num none = m'.clearEnter num) ∧
    (∀ (m : Mach) num, m.fifoGen < 192 → m.clearEnter num = (m.uidNext).fifoPut (m.newRec .evCleared num [] false false)) ∧
    (∀ (m : Mach) num, 192 ≤ m.fifoGen → m.fifoRes < 64 →
      m.clearEnter num = (m.uidNext).fifoPut (m.newRec .evCleared num [] false true)) ∧
    (∀ (m : Mach) num, 192 ≤ m.fifoGen → 64 ≤ m.fifoRes →
      m.clearEnter num = (m.uidNext).updRecs (fun r => { r with deferred := r.deferred ++ [m.newRec .evCleared num [] false true] })))

/-- The disturbance recorder: MANUAL triggers at the next frame while EN is 1; EN arms or, cleared, stores the record in progress and ends
everything that runs; CLEAR deletes every record as a maintenance activity; a record whose last row and copy are done is stored and the
recorder arms again, keeping the rows before it where it does, before that nothing happens. -/
def Obligations.DisturbanceRecorder : Prop :=
  (∀ ses x, Acts (.drCtrlManual ses)
    (fun m => m.mayWrite x ses .drCtrl (m.withFields .drCtrl [(F.drCtrl_MANUAL, 1)]))
    (fun m =>
      let w := m.withFields .drCtrl [(F.drCtrl_MANUAL, 1)]
      (m.stored .drCtrl w).drWritten { session := x.num, maint := x.maint } (m.rd .drCtrl) w (m.newWord .drCtrl w))) ∧
  (∀ ses x, Acts (.drCtrlClear ses)
    (fun m => m.mayWrite x ses .drCtrl (m.withFields .drCtrl [(F.drCtrl_CLEAR, 1)]))
    (fun m =>
      let w := m.withFields .drCtrl [(F.drCtrl_CLEAR, 1)]
      (m.stored .drCtrl w).drWritten { session := x.num, maint := x.maint } (m.rd .drCtrl) w (m.newWord .drCtrl w))) ∧
  (∀ ses x w, Acts (.drEnable ses w) (fun m => m.mayWrite x ses .drCtrl w)
    (fun m => (m.stored .drCtrl w).drWritten { session := x.num, maint := x.maint } (m.rd .drCtrl) w (m.newWord .drCtrl w))) ∧
  (∀ (m : Mach) who old w new, F.drCtrl_EN.get old = F.drCtrl_EN.get new → F.drCtrl_MANUAL.get w = 1 → F.drCtrl_CLEAR.get w = 0 →
    F.drCtrl_OVERWRITE.get old = F.drCtrl_OVERWRITE.get new → m.drWritten who old w new = m.drManual who.session) ∧
  (∀ (m : Mach) who old w new, F.drCtrl_EN.get old = F.drCtrl_EN.get new → F.drCtrl_MANUAL.get w = 0 → F.drCtrl_CLEAR.get w = 1 →
    F.drCtrl_OVERWRITE.get old = F.drCtrl_OVERWRITE.get new → m.drWritten who old w new = m.drClearRun who.session none) ∧
  (∀ (m : Mach) who old w new, F.drCtrl_EN.get old ≠ F.drCtrl_EN.get new → F.drCtrl_MANUAL.get w = 0 → F.drCtrl_CLEAR.get w = 0 →
    m.drWritten who old w new = m.drEnWritten) ∧
  (∀ m : Mach, m.flag .drCtrl F.drCtrl_EN = true →
    m.drEnWritten = (m.updDr (fun d => { d with trRing := [], trStopped := false, trStopAt := none, trRec := none })).drArm) ∧
  (∀ m : Mach, m.flag .drCtrl F.drCtrl_EN = false →
    m.drEnWritten = (m.drStore).updDr (fun d =>
      { d with armed := false, ring := [], held := [], trigPend := [], trRing := [], trStopped := false, trStopAt := none, trRec := none })) ∧
  (∀ (m : Mach) num n m', m.maintTake 8 1 num none = .ok (n, m') → m.drClearRun num none = (m'.drClear).maintEndOf 8 1 0) ∧
  (∀ m : Mach, m.drClear =
    (m.updDr (fun d => { d with run := none, stored := [], armed := false, held := [], ring := [] })).drArm) ∧
  (∀ (m : Mach) n, m.flag .drCtrl F.drCtrl_EN = true → m.fr.started = true →
    m.drManual n = m.updDr (fun d => { d with
      trigPend := d.trigPend ++ [{ kind := 3, arg := n, fseq := m.fr.fseq + 1, ltc := m.ltc, test := false }] })) ∧
  (∀ (m : Mach) n, m.flag .drCtrl F.drCtrl_EN = false → m.drManual n = m) ∧
  Acts .drRecordEnd (fun m => m.recs.dr.run = none) (fun m => m) ∧
  (∀ r, Acts .drRecordEnd (fun m => m.recs.dr.run = some r ∧ (r.done = false ∨ 0 < sdiff32 r.want r.endFseq ∨
    m.recs.dr.trRec = some r.body.recNo)) (fun m => m)) ∧
  (∀ r, Acts .drRecordEnd (fun m => m.recs.dr.run = some r ∧ r.done = true ∧ sdiff32 r.want r.endFseq ≤ 0 ∧
    m.recs.dr.trRec ≠ some r.body.recNo ∧ m.drFinish.recs.dr.armed = true)
    (fun m => (m.drFinish).updDr (fun d => { d with ring := m.recs.dr.ring }))) ∧
  (∀ r, Acts .drRecordEnd (fun m => m.recs.dr.run = some r ∧ r.done = true ∧ sdiff32 r.want r.endFseq ≤ 0 ∧
    m.recs.dr.trRec ≠ some r.body.recNo ∧ m.drFinish.recs.dr.armed = false)
    (fun m => m.drFinish))

/-- Transports: STATUS answers the status word; WRITE answers it and takes a whole packet while RX_READY, else counts it; READ clocks the
head packet out, zeros beyond its end or with none waiting, and delivers it with its last byte; a datagram for CMD_IP and UDP_PORT with
UDP on and SVC UP enters, a fragment, one of wrong length or with the queue full is counted, any other does nothing; NOTIFYs of UDP
sessions are sent again once 100 ms old, to where the session's last request came from (R667); a session without a request for SESS_TMO
ends. -/
def Obligations.Transports : Prop :=
  ActsLive .hpStatus (fun _ => True) (fun m => m.send (.hp m.hpStatus [])) ∧
  (∀ l, ActsLive (.hpWrite l) (fun m => m.hpStatus.getLsbD 31 = true ∧ pktOk l = true)
    (fun m => (m.send (.hp m.hpStatus [])).rxPut (rawOf false 0 0 l))) ∧
  (∀ l, ActsLive (.hpWrite l) (fun m => m.hpStatus.getLsbD 31 = false ∨ pktOk l = false)
    (fun m => (m.send (.hp m.hpStatus [])).bump .cmdCntDisc F.cmdCntDisc_COUNT 1)) ∧
  (∀ n, ActsLive (.hpRead n) (fun m => m.cmd.hpOut = []) (fun m => m.send (.hp m.hpStatus (zeros n)))) ∧
  (∀ n p l, ActsLive (.hpRead n) (fun m => m.start.phase ≠ 0 ∧ m.cmd.hpOut = p :: l ∧ n < p.len)
    (fun m => m.send (.hp m.hpStatus ((p.bytes ++ zeros n).take n)))) ∧
  (∀ n p l, ActsLive (.hpRead n) (fun m => m.start.phase ≠ 0 ∧ m.cmd.hpOut = p :: l ∧ p.len ≤ n)
    (fun m => (m.send (.hp m.hpStatus ((p.bytes ++ zeros n).take n))).hpDelivered p)) ∧
  (∀ (m : Mach) p, p.notify = true → m.hpDelivered p =
    (({ m with cmd := { m.cmd with hpOut := m.cmd.hpOut.tail } } : Mach).setIrq).updSess p.session (fun s => { s with nseqAck := p.seq })) ∧
  (∀ (m : Mach) p, p.notify = false → m.hpDelivered p =
    ({ m with cmd := { m.cmd with hpOut := m.cmd.hpOut.tail } } : Mach).setIrq) ∧
  (∀ dst dport src sport l, Acts (.udpDatagramReceive dst dport src sport false l)
    (fun m => m.start.recovery = false ∧ m.flag .cmdCfg F.cmdCfg_UDP_EN = true ∧ m.svcUp = true ∧
      m.rd .cmdIp = dst ∧ m.fld .cmdCfg F.cmdCfg_UDP_PORT = dport ∧ m.cmd.rx.length < 3 ∧ pktOk l = true)
    (fun m => m.rxPut (rawOf true src sport l))) ∧
  (∀ dst dport src sport frag l, Acts (.udpDatagramReceive dst dport src sport frag l)
    (fun m => m.start.recovery = false ∧ m.flag .cmdCfg F.cmdCfg_UDP_EN = true ∧ m.svcUp = true ∧
      m.rd .cmdIp = dst ∧ m.fld .cmdCfg F.cmdCfg_UDP_PORT = dport ∧ (frag = true ∨ 3 ≤ m.cmd.rx.length ∨ pktOk l = false))
    (fun m => m.bump .cmdCntDisc F.cmdCntDisc_COUNT 1)) ∧
  (∀ dst dport src sport frag l, Acts (.udpDatagramReceive dst dport src sport frag l)
    (fun m => m.rd .cmdIp ≠ dst ∨ m.fld .cmdCfg F.cmdCfg_UDP_PORT ≠ dport ∨
      m.start.recovery = true ∨ m.flag .cmdCfg F.cmdCfg_UDP_EN = false ∨ m.svcUp = false) (fun m => m)) ∧
  Acts .notifyResend (fun m => ∀ p ∈ m.cmd.udpNotes, m.since p.sentMon < 100000000) (fun m => m) ∧
  (∀ p, Acts .notifyResend (fun m => m.cmd.udpNotes = [p] ∧ 100000000 ≤ m.since p.sentMon)
    (fun m => ({ m with cmd := { m.cmd with udpNotes := [{ p with sentMon := m.mon }] } } : Mach).send (.udp
      (match m.sess p.session with
        | some s => { p with ip := s.nip, port := s.nport }
        | none => p)))) ∧
  Acts .sessionTimeout
    (fun m => ∀ s ∈ m.sessions, m.since s.lastReq < m.fld .cmdCfg F.cmdCfg_SESS_TMO * 1000000000) (fun m => m) ∧
  (∀ s, Acts .sessionTimeout
    (fun m => m.sessions = [s] ∧ m.fld .cmdCfg F.cmdCfg_SESS_TMO * 1000000000 ≤ m.since s.lastReq) (fun m => m.sessEnd s.num))

/-- Register accesses of an open session: an accepted write of a listed address stores the word and does what follows, and after one of the
addresses of R674 the UDP sessions end; a write that a rule refuses changes nothing, but for SUB_SET_FULL with ST_STATE, nor one of an
address no block lists, before features are accepted or in recovery. A read of a counter that reading clears clears it, but for the
increments of its own instant, which it does not show either (R14); of another register RC_COUNTER_READ does nothing. FRM_COUNT latches
FSEQ; the low word of an energy counter its high word, published, of a bay OFF the one kept. D_ALIGN is written with the other fields as
they are. -/
def Obligations.RegisterAccesses : Prop :=
  (∀ ses x a w r, Acts (.registerWrite ses a w)
    (fun m => Reg.ofAddr a = some r ∧ a % 4 = 0 ∧ a < 0xE0000 ∧ Mach.endsUdp a = false ∧ m.mayWrite x ses r w)
    (fun m => m.regPut { session := x.num, maint := x.maint } r w)) ∧
  (∀ ses x a w r, Acts (.registerWrite ses a w)
    (fun m => Reg.ofAddr a = some r ∧ a % 4 = 0 ∧ a < 0xE0000 ∧ Mach.endsUdp a = true ∧ m.mayWrite x ses r w)
    (fun m => (m.regPut { session := x.num, maint := x.maint } r w).afterReply x.num 2)) ∧
  (∀ ses a w, Acts (.registerWrite ses a w) (fun _ => Reg.ofAddr a = none) (fun m => m)) ∧
  (∀ ses a w, Acts (.registerWrite ses a w) (fun m => m.sess ses = none) (fun m => m)) ∧
  (∀ ses a w x r e, Acts (.registerWrite ses a w)
    (fun m => Reg.ofAddr a = some r ∧ m.sess ses = some x ∧ e.1 ≠ 0x0208 ∧
      m.regCheck { session := x.num, maint := x.maint } r w = some e) (fun m => m)) ∧
  (∀ ses a w x r e, Acts (.registerWrite ses a w)
    (fun m => Reg.ofAddr a = some r ∧ a % 4 = 0 ∧ a < 0xE0000 ∧ m.sess ses = some x ∧ m.start.recovery = false ∧
      m.flag .glbStat F.glbStat_FEAT_DONE = true ∧ e.1 = 0x0208 ∧
      m.regCheck { session := x.num, maint := x.maint } r w = some e) (fun m => m.setFullMark r w)) ∧
  (∀ (m : Mach) r w, (∀ s, r ≠ .svsCfg s) → (∀ g, r ≠ .gsubCfg g) → m.setFullMark r w = m) ∧
  (∀ ses a w, Acts (.registerWrite ses a w)
    (fun m => m.start.recovery = true ∨ m.flag .glbStat F.glbStat_FEAT_DONE = false) (fun m => m)) ∧
  (∀ ses x a r, Acts (.rcCounterRead ses a)
    (fun m => m.sess ses = some x ∧ m.start.recovery = false ∧ Reg.ofAddr a = some r ∧ Mach.hasRc a = true)
    (fun m => (m.regReadAt r).2)) ∧
  (∀ ses a, Acts (.rcCounterRead ses a) (fun _ => Mach.hasRc a = false) (fun m => m)) ∧
  (∀ ses a, Acts (.rcCounterRead ses a) (fun m => m.sess ses = none ∨ m.start.recovery = true) (fun m => m)) ∧
  (∀ m : Mach, SMap.get? m.freshC Reg.evrLost.addr = none →
    m.regReadAt .evrLost = (m.peek .evrLost, m.wr .evrLost (F.evrLost_COUNT.set (m.rd .evrLost) 0))) ∧
  (∀ (m : Mach) a b, SMap.get? m.freshC Reg.evrLost.addr = some (a, b) →
    m.regReadAt .evrLost = (Reg.evrLost.rcFrom (m.peek .evrLost) a,
      { (m.wr .evrLost (Reg.evrLost.rcFrom (F.evrLost_COUNT.set (m.rd .evrLost) 0) b)) with
        freshC := SMap.put m.freshC Reg.evrLost.addr (F.evrLost_COUNT.set (m.rd .evrLost) 0, b) })) ∧
  (∀ m : Mach, SMap.get? m.freshC Reg.hltCarFails.addr = none →
    m.regReadAt .hltCarFails = (m.peek .hltCarFails, m.wr .hltCarFails (F.hltCarFails_COUNT.set (m.rd .hltCarFails) 0))) ∧
  (∀ ses x, Acts (.frmCountRead ses) (fun m => m.sess ses = some x ∧ m.start.recovery = false)
    (fun m => m.wr .frmSeqLatch m.fr.fseq)) ∧
  (∀ ses x b k, Acts (.energyLowRead ses b k)
    (fun m => m.sess ses = some x ∧ m.start.recovery = false ∧ b < 32 ∧ k < 4 ∧ (m.bay b).mode ≠ 0)
    (fun m => m.wr (.bayEnergy b (2 * k + 1)) (wd ((m.bay b).pub.energy.getD k 0 / 2 ^ 64)))) ∧
  (∀ ses x b k, Acts (.energyLowRead ses b k)
    (fun m => m.sess ses = some x ∧ m.start.recovery = false ∧ b < 32 ∧ k < 4 ∧ (m.bay b).mode = 0)
    (fun m => m.wr (.bayEnergy b (2 * k + 1)) (wd ((m.bay b).d.energy.getD k 0 / 2 ^ 64)))) ∧
  (∀ ses x d, Acts (.dAlignWrite ses d)
    (fun m => m.mayWrite x ses .frmCfg (m.withFields .frmCfg [(F.frmCfg_D_ALIGN, d)]))
    (fun m => m.stored .frmCfg (m.withFields .frmCfg [(F.frmCfg_D_ALIGN, d)])))

/-- Unfencing and retest: an accepted request clears the window, and puts domains 0 to 38 into RETEST and others, logged, back into service,
where a lane trains or parks, outputs wait for a command, an input group starts with filtered OFF, a port resets and a subscription
starts again (R711). A passed retest of an engine with a verified image gives the unit back: a bay engine its bay by a move from the
next frame on, a task STOPPED, the zone engine a fresh start without orders; a failed one, or one without an image, counts an error,
fences it again and is logged; without RETEST nothing happens. A scrub under way ends its activity, counting its errors. -/
def Obligations.UnfenceAndRetest : Prop :=
  (∀ ses x w, Acts (.hltUnfenceRequest ses w) (fun m => m.mayWrite x ses .hltUnfence w ∧ F.hltUnfence_REQ.get w = 1)
    (fun m => (m.stored .hltUnfence w).unfence (F.hltUnfence_DOMAIN.get w))) ∧
  (∀ (m : Mach) d, d ≤ 38 → m.unfence d = m.setDom d { m.dom d with errs := [], st := 2 }) ∧
  (∀ (m : Mach) d, 38 < d → m.unfence d =
    ((m.setDom d { m.dom d with errs := [], st := 0 }).emit .domUnfenced d).unfenceUnit d) ∧
  (∀ (m : Mach) d,
    (d < 39 ∨ 43 ≤ d ∧ d < 45 → m.unfenceUnit d = m) ∧
    (39 ≤ d → d < 43 → m.unfenceUnit d = m.laneUnfence (d - 39)) ∧
    (m.unfenceUnit 45 = forEach ((List.range 8).filter m.cmdOn) m (fun m y => m.updDo y (fun x => { x with wait := true }))) ∧
    (m.unfenceUnit 46 = forEach ([8, 9, 10, 11].filter m.cmdOn) m (fun m y => m.updDo y (fun x => { x with wait := true }))) ∧
    (m.unfenceUnit 47 = m) ∧
    (48 ≤ d → d < 52 → m.unfenceUnit d = forEach ((List.range 8).map (· + 8 * (d - 48))) m (fun m x =>
      m.updDi x (fun y => { y with tension := 0, filt := false }))) ∧
    (52 ≤ d → d < 68 → m.unfenceUnit d = if m.portEn (d - 52) then m.portReset (d - 52) else m) ∧
    (68 ≤ d → m.unfenceUnit d = m.updSub (d - 68) (fun x =>
      if x.st = 0 then x else { x with st := 1, wasLost := false, hist := [], run := 0, ents := [] }))) ∧
  (∀ d p, Acts (.retestDone d p) (fun m => d < 132 ∧ (m.dom d).st ≠ 2) (fun m => m)) ∧
  (∀ d, Acts (.retestDone d true) (fun m => d < 132 ∧ (m.dom d).st = 2 ∧ m.domImage d = true)
    (fun m => ((m.setDom d { m.dom d with st := 0 }).emit .domUnfenced d).retestBack d)) ∧
  (∀ d p, Acts (.retestDone d p) (fun m => d < 132 ∧ (m.dom d).st = 2 ∧ (p = false ∨ m.domImage d = false))
    (fun m =>
      let x := m.dom d
      let m := m.setDom d { x with st := 1, errs := m.inWindow x.errs ++ [m.mon], total := x.total + 1, fenceLtc := m.ltc }
      (m.emitW .domFenced d [wd ErrSrc.carTest.code]).emit .domRetestFail d)) ∧
  ErrSrc.carTest.code = 4 ∧
  (∀ (m : Mach) d, m.domImage d = m.start.booted.contains (if d < 35 then 3 else 2)) ∧
  (∀ (m : Mach) d, d < 32 → m.retestBack d =
    { m with fr := { m.fr with moves := m.fr.moves.filter (fun v => v.bay ≠ d) ++
      [{ bay := d, dst := d, why := .retest, copied := (m.bay d).unprot, notBefore := m.fr.fseq + 1 }] } }) ∧
  (∀ (m : Mach) d, d = 32 ∨ d = 33 → m.retestBack d = m) ∧
  (∀ (m : Mach) d, 35 ≤ d → d < 39 → (m.tasks[d - 35]?).map (·.st) = some .fenced → m.retestBack d =
    (m.setTask (d - 35) .stopped).emit .logicUnfenced (d - 35)) ∧
  (∀ m : Mach, m.retestBack 34 =
    { m with zone := { m.zone with d := ZoneD.init, next := none, after := none, res := { m.zone.res with orders := [], zsiBlk := [] } },
             fr := { m.fr with zeBack := true } }) ∧
  (∀ b n, Acts (.mramScrubDone b n) (fun m => b < 2 ∧ m.maintOn 5 b = false) (fun m => m)) ∧
  (∀ b n, Acts (.mramScrubDone b n) (fun m => b < 2 ∧ m.maintOn 5 b = true)
    (fun m => ((List.range n).foldl (fun (m : Mach) _ => m.domErr (43 + b) .mramCtl) m).maintEndOf 5 b 0))

/-- The carousel: a slot is due each PERIOD while it runs; its subject is the one NEXT_REQ named, else the next of the rotation, whose round
counts at BE0. JE1 and, where nothing takes it, JE0 are tested while they carry no bay; a fenced subject, a paused carousel or a fenced
JE0 leave the slot at that; a subject whose bay is OFF is tested in place, one whose bay is enabled is first handed to JE0. A passed
test gives a bay on JE0 back; a failed one counts an error, fences the engine, is logged, and moves a bay on JE0 to JE1 where that is
free. Without a test under way nothing happens. -/
def Obligations.Carousel : Prop :=
  Acts .carouselSlot
    (fun m => m.hlth.car.running = false ∨ m.since m.hlth.car.slotMon < m.fld .hltCarCtrl F.hltCarCtrl_PERIOD * 1000000000) (fun m => m) ∧
  (∀ e, Acts .carouselSlot
    (fun m => m.hlth.car.running = true ∧ m.fld .hltCarCtrl F.hltCarCtrl_PERIOD * 1000000000 ≤ m.since m.hlth.car.slotMon ∧
      m.hlth.car.nextReq = some e)
    (fun m =>
      let p := m.cmd.maint.any (fun x => decide (x.act = 4))
      (m.updCar (fun c => { c with paused := p, nextReq := none })).carSlotOf e)) ∧
  Acts .carouselSlot
    (fun m => m.hlth.car.running = true ∧ m.fld .hltCarCtrl F.hltCarCtrl_PERIOD * 1000000000 ≤ m.since m.hlth.car.slotMon ∧
      m.hlth.car.nextReq = none ∧ m.hlth.car.rotEng ≠ 0)
    (fun m =>
      let p := m.cmd.maint.any (fun x => decide (x.act = 4))
      (m.updCar (fun c => { c with paused := p, rotEng := (m.hlth.car.rotEng + 1) % 32 })).carSlotOf m.hlth.car.rotEng) ∧
  Acts .carouselSlot
    (fun m => m.hlth.car.running = true ∧ m.fld .hltCarCtrl F.hltCarCtrl_PERIOD * 1000000000 ≤ m.since m.hlth.car.slotMon ∧
      m.hlth.car.nextReq = none ∧ m.hlth.car.rotEng = 0)
    (fun m =>
      let p := m.cmd.maint.any (fun x => decide (x.act = 4))
      let m := m.updCar (fun c => { c with paused := p, rotEng := 1 })
      (m.setF .hltCarStat F.hltCarStat_ROT ((m.fld .hltCarStat F.hltCarStat_ROT + 1) % 256)).carSlotOf 0) ∧
  (∀ (m : Mach) e,
    let y := (m.updCar (fun c => { c with slot := e, slotMon := m.mon, phase := 0 })).jugglerTest 33
    (32 ≤ e ∨ y.fenced e = true ∨ y.hlth.car.paused = true ∨ y.fenced 32 = true ∨ y.carriesFenced 32 = true →
      m.carSlotOf e = y.jugglerTest 32) ∧
    (e < 32 → y.fenced e = false → y.hlth.car.paused = false → y.fenced 32 = false → y.carriesFenced 32 = false →
      ((y.bayOn 32).isSome = true ∨ (∃ v ∈ y.fr.moves, v.dst = 32 ∨ v.bay = e) → m.carSlotOf e = y) ∧
      (y.bayOn 32 = none → (∀ v ∈ y.fr.moves, v.dst ≠ 32 ∧ v.bay ≠ e) →
        ((y.bay e).mode = 0 → m.carSlotOf e = ((y.carTest e).updCar (fun c => { c with phase := 2 })).jugglerTest 32) ∧
        ((y.bay e).mode ≠ 0 → m.carSlotOf e =
          (y.addMove { bay := e, dst := 32, why := .carousel, copied := false, notBefore := y.fr.fseq + 1 }).updCar
            (fun c => { c with phase := 1 }))))) ∧
  (∀ (m : Mach) j, (m.bayOn j = none → m.jugglerTest j = m.carTest j) ∧ (∀ b, m.bayOn j = some b → m.jugglerTest j = m)) ∧
  (∀ (m : Mach) e, ((m.dom e).st = 0 → m.carTest e = m.setDom e { m.dom e with st := 3 }) ∧ ((m.dom e).st ≠ 0 → m.carTest e = m)) ∧
  (∀ e p, Acts (.carouselTestDone e p) (fun m => e < 34 ∧ (m.dom e).st ≠ 3) (fun m => m)) ∧
  (∀ e, Acts (.carouselTestDone e true) (fun m => e < 32 ∧ (m.dom e).st = 3 ∧ m.engOf e = 32)
    (fun m => ((m.setDom e { m.dom e with st := 0 }).addMove
      { bay := e, dst := e, why := .carReturn, copied := false, notBefore := m.fr.fseq + 1 }).updCar (fun c => { c with phase := 3 }))) ∧
  (∀ e, Acts (.carouselTestDone e true) (fun m => e < 34 ∧ (m.dom e).st = 3 ∧ (32 ≤ e ∨ m.engOf e ≠ 32) ∧ e = m.hlth.car.slot)
    (fun m => (m.setDom e { m.dom e with st := 0 }).updCar (fun c => { c with phase := 0 }))) ∧
  (∀ e, Acts (.carouselTestDone e true) (fun m => e < 34 ∧ (m.dom e).st = 3 ∧ (32 ≤ e ∨ m.engOf e ≠ 32) ∧ e ≠ m.hlth.car.slot)
    (fun m => m.setDom e { m.dom e with st := 0 })) ∧
  (∀ e, Acts (.carouselTestDone e false) (fun m => e < 34 ∧ (m.dom e).st = 3)
    (fun m =>
      let r := m.carFail e
      let r := if e = r.hlth.car.slot then r.updCar (fun c => { c with phase := 0 }) else r
      if e < 32 ∧ m.engOf e = 32 ∧ r.fenced 33 = false ∧ r.bayOn 33 = none then
        r.addMove { bay := e, dst := 33, why := .carFail, copied := false, notBefore := r.fr.fseq + 1 }
      else r)) ∧
  (∀ (m : Mach) e, m.carFail e =
    (let m := m.setDom e { m.dom e with st := 0, errs := m.inWindow (m.dom e).errs ++ [m.mon], total := (m.dom e).total + 1 }
     let m := (m.fenceNow e .carTest).emit .carFail e
     (m.bump .hltCarFails F.hltCarFails_COUNT 1).setF .hltCarStat F.hltCarStat_LAST_FAIL e)) ∧
  (∀ ses x w, Acts (.carouselNextReq ses w) (fun m => m.mayWrite x ses .hltCarCtrl w ∧ F.hltCarCtrl_NEXT_REQ.get w = 1)
    (fun m => (m.stored .hltCarCtrl w).carNext)) ∧
  (∀ ses x w, Acts (.carouselNextReq ses w) (fun m => m.mayWrite x ses .hltCarCtrl w ∧ F.hltCarCtrl_NEXT_REQ.get w = 0)
    (fun m => m.stored .hltCarCtrl w))

/-- Watchdog, temperatures, test bus and roles: the watchdog counts N errors; the four temperatures, in 8 bits each, are reported, with
TEMP_HIGH once one is at 115 degrees or more and TEMP_OK once all are below 105 again, between these only the word (R784); a write of
ATB_n_CTRL is stored; a lockout ends with its 60 s, a session's nonce expires when older than 60 s; word 23 loads a key slot; a
revocation marks the key and takes the roles it granted, with the activities of their sessions (R753); MVDD_FAULT is logged. -/
def Obligations.HealthAndSecurityEvents : Prop :=
  Acts .rmcWatchdog (fun _ => True) (fun m => m.rmcErr (m.fld .hltWin F.hltWin_N)) ∧
  (∀ a b c d, Acts (.tempRead [a, b, c, d])
    (fun m => (∀ v ∈ [a, b, c, d], -128 ≤ v ∧ v ≤ 127) ∧
      (m.hlth.tempHigh = false ∧ (∀ v ∈ [a, b, c, d], v < 115) ∨ m.hlth.tempHigh = true ∧ (∃ v ∈ [a, b, c, d], 105 ≤ v)))
    (fun m => m.wr .hltTemp (wd (((toBits 8 a * 256 + toBits 8 b) * 256 + toBits 8 c) * 256 + toBits 8 d)))) ∧
  (∀ a b c d, Acts (.tempRead [a, b, c, d])
    (fun m => (∀ v ∈ [a, b, c, d], -128 ≤ v ∧ v ≤ 127) ∧ (∃ v ∈ [a, b, c, d], 115 ≤ v) ∧ m.hlth.tempHigh = false)
    (fun m => ((m.wr .hltTemp (wd (((toBits 8 a * 256 + toBits 8 b) * 256 + toBits 8 c) * 256 + toBits 8 d))).updHlth
      (fun h => { h with tempHigh := true })).emit .tempHigh 0)) ∧
  (∀ a b c d, Acts (.tempRead [a, b, c, d])
    (fun m => (∀ v ∈ [a, b, c, d], -128 ≤ v ∧ v < 105) ∧ m.hlth.tempHigh = true)
    (fun m => ((m.wr .hltTemp (wd (((toBits 8 a * 256 + toBits 8 b) * 256 + toBits 8 c) * 256 + toBits 8 d))).updHlth
      (fun h => { h with tempHigh := false })).emit .tempOk 0)) ∧
  (∀ ses x n w, Acts (.atbCtrlWrite ses n w) (fun m => n < 2 ∧ m.mayWrite x ses (.atbCtrl n) w) (fun m => m.stored (.atbCtrl n) w)) ∧
  (∀ t, Acts .roleLockoutEnd (fun m => m.sec.lockEnd = some t ∧ m.roleLocked = false)
    (fun m => (m.updSec (fun s => { s with lockEnd := none })).setF .secStat F.secStat_LOCKOUT 0)) ∧
  Acts .roleLockoutEnd (fun m => m.sec.lockEnd = none ∨ m.roleLocked = true) (fun m => m) ∧
  (∀ s n t, Acts .roleNonceExpiry (fun m => m.sessions = [s] ∧ s.nonce = some (n, t) ∧ 60000000000 < m.since t)
    (fun m => m.updSess s.num (fun s => { s with nonce := none }))) ∧
  (∀ s n t, Acts .roleNonceExpiry (fun m => m.sessions = [s] ∧ s.nonce = some (n, t) ∧ m.since t ≤ 60000000000) (fun m => m)) ∧
  (∀ ses x k w, Acts (.mkeyLoad ses k w) (fun m => k < 4 ∧ m.mayWrite x ses (.secMkey k 23) w)
    (fun m =>
      let m := m.stored (.secMkey k 23) w
      m.setF .secMkeyCtrl F.secMkeyCtrl_LOADED (m.fld .secMkeyCtrl F.secMkeyCtrl_LOADED ||| 2 ^ k))) ∧
  (∀ ses x w, Acts (.mkeyRevoke ses w) (fun m => m.mayWrite x ses .secMkeyCtrl w)
    (fun m => forEach ((List.range 4).filter (F.secMkeyCtrl_REVOKE.get w).testBit) (m.stored .secMkeyCtrl w)
      (fun m k => m.mkeyRevoke k))) ∧
  (∀ (m : Mach) k, m.mkeyRevoke k =
    let m := m.setF .secMkeyCtrl F.secMkeyCtrl_REVOKED (m.fld .secMkeyCtrl F.secMkeyCtrl_REVOKED ||| 2 ^ k)
    forEach (m.sessions.filter (fun s => s.maint && decide (s.roleKey = k))) m (fun m s =>
      let m := m.updSess s.num (fun s => { s with maint := false, roleKey := 255 })
      forEach (m.cmd.maint.filter (fun x => x.session = s.num)) m (fun m x => m.maintStop x))) ∧
  ActsLive .mvddFault (fun _ => True) (fun m => m.emit .mvddFault 0)

/-- Power and reset: POWER_ON restarts in HARDWARE with the strap as given and errors counted anew; a restart leaves no session and no
waiting record, keeps logs, images and start record, and starts the clocks at 0 with the field supply in lockout; RST_N low restarts and
holds the block until its release. The end of HARDWARE boots: without a verified SEC image the part stays in HARDWARE, else it shows the
HSS index, checks the MRAM and the programs, fences what failed its BIST and every engine without a verified image, starts SVC and
enters HOST, where a restart by command gives the kind; later it does nothing. -/
def Obligations.PowerAndReset : Prop :=
  (∀ psA mvA mvB okA okB s, exec (.powerOn psA mvA mvB okA okB) s = .next { s with m := (s.m.powerOn psA mvA mvB okA okB).setFault }) ∧
  (∀ (m : Mach) psA mvA mvB okA okB,
    let r := m.powerOn psA mvA mvB okA okB
    r.start = Start.init ∧ r.inReset = false ∧ r.hlth.doms = [] ∧ r.pins.psA = psA ∧ r.pins.ready = false) ∧
  (∀ m : Mach, m.forcedTasks = [] → ∀ n k,
    let r := m.restart n k
    r.sessions = [] ∧ r.recs.skeinA = m.recs.skeinA ∧ r.recs.spare = m.recs.spare ∧ r.recs.fifo = [] ∧ r.nv.retA = m.nv.retA ∧
      r.nv.retB = m.nv.retB ∧ r.nv.srA = m.nv.srA ∧ r.tb.ltc = 0 ∧ r.tb.mon = 0 ∧ r.fio.band = 3) ∧
  (∀ s, exec .rstNAssert s = .next { s with m := s.m.rstAssert }) ∧
  (∀ m : Mach, m.rstAssert.inReset = true ∧ m.rstAssert.start = { Start.init with cause := 1 }) ∧
  (∀ psA s, s.m.inReset = true → exec (.rstNRelease psA) s =
    .next { s with m := ({ s.m with inReset := false, pins := { s.m.pins with psA := psA } } : Mach).setFault }) ∧
  (∀ psA s, s.m.inReset = false → exec (.rstNRelease psA) s = .next { s with m := s.m.setFault }) ∧
  (∀ x, ActsLive (.hardwarePhaseDone x) (fun m => m.start.phase ≠ 0) (fun m => m)) ∧
  (∀ x, ActsLive (.hardwarePhaseDone x) (fun m => m.start.phase = 0 ∧ (m.boot x.badImg).imgBooted 4 = false)
    (fun m => m.boot x.badImg)) ∧
  (∀ x, ActsLive (.hardwarePhaseDone x) (fun m => m.start.phase = 0 ∧ (m.boot x.badImg).imgBooted 4 = true)
    (fun m =>
      let m := ((m.boot x.badImg).hssRestart).mramCheck x
      let m := forEach (List.range 4) m (fun m t => m.progBoot t (x.badProg.contains t))
      (((forEach (m.bistFails x) m (fun m d => m.fenceNow d .carTest)).laneEn 4).setPhase 1).kindAsked)) ∧
  (∀ (m : Mach) x, m.bistFails x =
    ((List.range 39).filter (fun d => !m.domImage d) ++ x.bist).filter (fun d => decide (d < 132))) ∧
  (∀ (m : Mach) n, m.setPhase n = { m with start := { m.start with phase := n, phaseMon := m.mon } }) ∧
  (∀ m : Mach, m.start.restartKind = none ∨ m.start.recovery = true → m.kindAsked = m) ∧
  (∀ m : Mach, m.start.restartKind = some 0 → m.start.recovery = false → m.kindAsked = m.kindFix 2) ∧
  (∀ m : Mach, m.start.restartKind = some 1 → m.start.recovery = false → m.kindAsked = m.kindFix 1)

/-- The start phases: the first non-zero KIND in HOST fixes the restart kind, cold where a warm start finds no valid image (R442); an
accepted GO ends CONFIG at the next trigger; TIME_WAIT passing in TIME sets NO_TIME with START_NO_TIME, before that nothing; BAY_WAIT
passing in BAYS gives up the bays not ready, before that nothing. The retentive image is written each RET_PERIOD once the kind is set,
into the banks in service, first A and then B (R43), with which its SEQ is shown, and after a hold-up the start record. -/
def Obligations.StartPhases : Prop :=
  (∀ ses x k, Acts (.startKindWrite ses k)
    (fun m => m.mayWrite x ses .startCtrl (m.withFields .startCtrl [(F.startCtrl_KIND, k), (F.startCtrl_GO, 0)]))
    (fun m =>
      let w := m.withFields .startCtrl [(F.startCtrl_KIND, k), (F.startCtrl_GO, 0)]
      let new := m.newWord .startCtrl w
      let m := (m.wr .startCtrl (F.startCtrl_KIND.set new (F.startCtrl_KIND.get (m.rd .startCtrl)))).kindFix (F.startCtrl_KIND.get new)
      if F.startCtrl_GO.get w = 1 then m.startGo else m)) ∧
  (∀ (m : Mach) k, m.start.phase = 1 → m.start.kindEff = 0 → (k = 1 ∨ k = 2) →
    m.kindFix k = (m.kindSet k).setF .startCtrl F.startCtrl_KIND k) ∧
  (∀ (m : Mach) k, m.start.phase ≠ 1 → m.kindFix k = m) ∧
  (∀ (m : Mach) a, m.retPick = (0, a) → m.nv.retA = none ∧ m.nv.retB = none) ∧
  (∀ m : Mach, m.nv.retA = none → m.nv.retB = none → m.kindSet 2 =
    (({ m with start := { m.start with kindEff := 1, phase := 2, phaseMon := m.mon } } : Mach).emit .retInvalid 0).initCold
      none) ∧
  (∀ ses x, Acts (.startGo ses)
    (fun m => m.start.phase ≠ 1 ∧ m.mayWrite x ses .startCtrl (m.withFields .startCtrl [(F.startCtrl_GO, 1)]))
    (fun m =>
      let w := m.withFields .startCtrl [(F.startCtrl_GO, 1)]
      let m := m.wr .startCtrl (F.startCtrl_KIND.set (m.newWord .startCtrl w) (F.startCtrl_KIND.get (m.rd .startCtrl)))
      { m with start := { m.start with goPend := true } })) ∧
  Acts .timeWaitExpiry
    (fun m => m.start.phase = 3 ∧ m.flag .startStat F.startStat_NO_TIME = false ∧
      m.fld .startCtrl F.startCtrl_TIME_WAIT * 100000000 ≤ m.since m.start.phaseMon)
    (fun m => (m.setF .startStat F.startStat_NO_TIME 1).emit .startNoTime 0) ∧
  Acts .timeWaitExpiry
    (fun m => m.start.phase ≠ 3 ∨ m.flag .startStat F.startStat_NO_TIME = true ∨
      m.since m.start.phaseMon < m.fld .startCtrl F.startCtrl_TIME_WAIT * 100000000) (fun m => m) ∧
  Acts .bayWaitExpiry
    (fun m => m.start.phase ≠ 5 ∨ m.since m.start.phaseMon < m.fld .startCtrl F.startCtrl_BAY_WAIT * 100000000) (fun m => m) ∧
  Acts .bayWaitExpiry
    (fun m => m.start.phase = 5 ∧ m.fld .startCtrl F.startCtrl_BAY_WAIT * 100000000 ≤ m.since m.start.phaseMon)
    (fun m => forEach ((List.range 32).filter (fun b =>
      decide (m.modeReq b ≠ 0) && decide ((m.bay b).mode = 0) && !m.bayReady b)) m (fun m b => m.giveUp b)) ∧
  (∀ (m : Mach) b, m.giveUp b =
    (((m.wr .startBayfail (m.rd .startBayfail ||| wd (2 ^ b))).setF .startStat F.startStat_BAY_FAIL 1).setF (.bayCtrl b) F.bayCtrl_MODE
      0).emit .bayStartFail b) ∧
  Acts .retImageWrite
    (fun m => m.start.kindEff ≠ 0 ∧ m.nv.writing = none ∧ msNs (m.fld .logRetCtrl F.logRetCtrl_RET_PERIOD) ≤ m.since m.nv.lastMon ∧
      m.fenced 43 = false ∧ m.fenced 44 = false)
    (fun m => { m with nv := { m.nv with writing := some (m.retImage, [0, 1], false), lastMon := m.mon, nextSeq := m.nv.nextSeq + 1 } }) ∧
  Acts .retImageWrite (fun m => m.start.kindEff = 0 ∨ m.nv.writing ≠ none) (fun m => m) ∧
  Acts .retImageWriteDone (fun m => m.nv.writing = none) (fun m => m) ∧
  Acts .retImageWrite
    (fun m => m.start.kindEff ≠ 0 ∧ m.nv.writing = none ∧ msNs (m.fld .logRetCtrl F.logRetCtrl_RET_PERIOD) ≤ m.since m.nv.lastMon ∧
      m.fenced 43 = false ∧ m.fenced 44 = true)
    (fun m => { m with nv := { m.nv with writing := some (m.retImage, [0], false), lastMon := m.mon, nextSeq := m.nv.nextSeq + 1 } }) ∧
  Acts .retImageWrite
    (fun m => m.start.kindEff ≠ 0 ∧ m.nv.writing = none ∧ msNs (m.fld .logRetCtrl F.logRetCtrl_RET_PERIOD) ≤ m.since m.nv.lastMon ∧
      m.fenced 43 = true ∧ m.fenced 44 = false)
    (fun m => { m with nv := { m.nv with writing := some (m.retImage, [1], false), lastMon := m.mon, nextSeq := m.nv.nextSeq + 1 } }) ∧
  Acts .retImageWrite (fun m => m.since m.nv.lastMon < msNs (m.fld .logRetCtrl F.logRetCtrl_RET_PERIOD)) (fun m => m) ∧
  (∀ i b l h, Acts .retImageWriteDone (fun m => m.nv.writing = some (i, 0 :: b :: l, h) ∧ m.fenced 43 = false)
    (fun m => { m with nv := { m.nv with retA := some i, writing := some (i, b :: l, h) } })) ∧
  (∀ i, Acts .retImageWriteDone (fun m => m.nv.writing = some (i, [1], false) ∧ m.fenced 44 = false)
    (fun m => ({ m with nv := { m.nv with retB := some i, writing := none } } : Mach).wr .logRetSeq i.seq)) ∧
  (∀ i, Acts .retImageWriteDone (fun m => m.nv.writing = some (i, [0], false) ∧ m.fenced 43 = false)
    (fun m => ({ m with nv := { m.nv with retA := some i, writing := none } } : Mach).wr .logRetSeq i.seq)) ∧
  (∀ i, Acts .retImageWriteDone (fun m => m.nv.writing = some (i, [1], true) ∧ m.fenced 44 = false)
    (fun m => (({ m with nv := { m.nv with retB := some i, writing := none } } : Mach).wr .logRetSeq i.seq).startRec true))
end

