-- ==== Sys2Proof/Laws/Acts.lean ====
section
/-! SUPPORT. How the two shapes of a command's meaning (live, awake) answer, and what an accepted register write comes to. -/

namespace Sys2Proof.Machine

/-- A meaning that runs awake, on a block that is up. -/
theorem onM_awake {m : Mach} (h : m.up) (F : Mach → Mach) (q : List Instr) :
    onM (Mach.awake F) { pending := q, m := m } = .next (State.settled { pending := q, m := m } (F m)) := by
  simp [onM, Mach.awake, Mach.live, State.settled, h.1, h.2]

/-- A meaning that runs live, on a block not held in reset. -/
theorem onM_live {m : Mach} (h : m.inReset = false) (F : Mach → Mach) (q : List Instr) :
    onM (Mach.live F) { pending := q, m := m } = .next (State.settled { pending := q, m := m } (F m)) := by
  simp [onM, Mach.live, State.settled, h]

/-- An effect shown for a meaning that runs awake. -/
theorem Acts.of_awake {i : Instr} {P : Mach → Prop} {F f : Mach → Mach} (he : ∀ s, exec i s = onM (Mach.awake F) s)
    (h : ∀ m : Mach, m.up → P m → F m = f m) : Acts i P f := by
  intro s hu hp
  rw [he s, onM_awake hu F, h s.m hu hp]

/-- An effect shown for a meaning that runs live. -/
theorem Acts.of_live {i : Instr} {P : Mach → Prop} {F f : Mach → Mach} (he : ∀ s, exec i s = onM (Mach.live F) s)
    (h : ∀ m : Mach, m.up → P m → F m = f m) : Acts i P f := by
  intro s hu hp
  rw [he s, onM_live hu.1 F, h s.m hu hp]

theorem ActsLive.of_live {i : Instr} {P : Mach → Prop} {F f : Mach → Mach} (he : ∀ s, exec i s = onM (Mach.live F) s)
    (h : ∀ m : Mach, m.inReset = false → P m → F m = f m) : ActsLive i P f := by
  intro s hu hp
  rw [he s, onM_live hu F, h s.m hu hp]

/-- The condition of an operand that names a part of the block. -/
@[simp] theorem only_true (f : Mach → Mach) (m : Mach) : Mach.only true f m = f m := rfl

/-- A register write that no rule refuses is carried out. -/
theorem hostPut_ok {m : Mach} {x : Session} {ses : Nat} {r : Reg} {w : Word} (hu : m.up) (h : m.mayWrite x ses r w)
    (he : Mach.endsUdp r.addr = false) : m.hostPut ses r w = m.regPut { session := x.num, maint := x.maint } r w := by
  obtain ⟨hs, hr, hf, hc⟩ := h
  simp [Mach.hostPut, hs, Mach.hostMay, Mach.hostDone, Mach.regWriteAt, hu.2, hr, hf, hc, he]

/-- A register read by an open session is carried out. -/
theorem hostGet_ok {m : Mach} {x : Session} {ses : Nat} {r : Reg} (hu : m.up) (hs : m.sess ses = some x)
    (hr : m.start.recovery = false) : m.hostGet ses r = (m.regReadAt r).2 := by
  simp [Mach.hostGet, hs, hu.2, hr]

end Sys2Proof.Machine
end

