-- ==== Sys2Proof/Laws/Maps.lean ====
section
/-! SUPPORT. Sparse maps and the register file: what reading gives after a write, and that the canonical form is kept. -/

namespace Sys2Proof

theorem SMap.get?_put_same {α : Type} (m : SMap α) (a : Nat) (x : α) : SMap.get? (SMap.put m a x) a = some x := by
  induction m with
  | nil => simp [SMap.put, SMap.get?]
  | cons p m ih =>
    obtain ⟨k, v⟩ := p
    by_cases h1 : a < k
    · simp [SMap.put, SMap.get?, h1]
    · by_cases h2 : a = k
      · subst h2; simp [SMap.put, SMap.get?]
      · simp [SMap.put, SMap.get?, h1, h2, Ne.symm h2, ih]

theorem SMap.get?_put_ne {α : Type} (m : SMap α) (a b : Nat) (x : α) (h : b ≠ a) :
    SMap.get? (SMap.put m a x) b = SMap.get? m b := by
  induction m with
  | nil => simp [SMap.put, SMap.get?, Ne.symm h]
  | cons p m ih =>
    obtain ⟨k, v⟩ := p
    by_cases h1 : a < k
    · simp [SMap.put, h1, SMap.get?, Ne.symm h]
    · by_cases h2 : a = k
      · subst h2; simp [SMap.put, SMap.get?, Ne.symm h]
      · simp [SMap.put, SMap.get?, h1, h2, ih]

theorem SMap.get?_del_same {α : Type} (m : SMap α) (a : Nat) : SMap.get? (SMap.del m a) a = none := by
  induction m with
  | nil => rfl
  | cons p m ih =>
    obtain ⟨k, v⟩ := p
    by_cases h : k = a
    · subst h; simpa [SMap.del] using ih
    · simpa [SMap.del, SMap.get?, h] using ih

theorem SMap.get?_del_ne {α : Type} (m : SMap α) (a b : Nat) (hb : b ≠ a) : SMap.get? (SMap.del m a) b = SMap.get? m b := by
  induction m with
  | nil => rfl
  | cons p m ih =>
    obtain ⟨k, v⟩ := p
    by_cases h : k = a
    · subst h; simpa [SMap.del, SMap.get?, Ne.symm hb] using ih
    · by_cases h2 : k = b
      · subst h2; simp [SMap.del, SMap.get?, h]
      · simpa [SMap.del, SMap.get?, h, h2] using ih

theorem SMap.getD_put_same {α : Type} (m : SMap α) (a : Nat) (d x : α) : SMap.getD (SMap.put m a x) a d = x := by
  simp [SMap.getD, SMap.get?_put_same]

theorem SMap.getD_put_ne {α : Type} (m : SMap α) (a b : Nat) (d x : α) (h : b ≠ a) :
    SMap.getD (SMap.put m a x) b d = SMap.getD m b d := by
  simp [SMap.getD, SMap.get?_put_ne m a b x h]

theorem SMap.getD_putD_same {α : Type} [DecidableEq α] (m : SMap α) (a : Nat) (d x : α) : SMap.getD (SMap.putD m d a x) a d = x := by
  unfold SMap.putD
  split
  · rename_i h; simp [SMap.getD, SMap.get?_del_same, h]
  · exact SMap.getD_put_same m a d x

theorem SMap.getD_putD_ne {α : Type} [DecidableEq α] (m : SMap α) (a b : Nat) (d e x : α) (h : b ≠ a) :
    SMap.getD (SMap.putD m d a x) b e = SMap.getD m b e := by
  unfold SMap.putD
  split
  · simp [SMap.getD, SMap.get?_del_ne m a b h]
  · exact SMap.getD_put_ne m a b e x h

/-- Every key of a map is above k. -/
def SMap.above {α : Type} (k : Nat) (m : SMap α) : Prop := ∀ p ∈ m, k < p.1

theorem SMap.rising_cons {α : Type} {k : Nat} {v : α} {m : SMap α} :
    SMap.rising ((k, v) :: m) = true ↔ SMap.above k m ∧ SMap.rising m = true := by
  induction m generalizing k v with
  | nil => simp [SMap.rising, SMap.above]
  | cons q m ih =>
    obtain ⟨k', v'⟩ := q
    rw [show SMap.rising ((k, v) :: (k', v') :: m) = (decide (k < k') && SMap.rising ((k', v') :: m)) from rfl]
    simp only [Bool.and_eq_true, decide_eq_true_eq]
    constructor
    · rintro ⟨h1, h2⟩
      refine ⟨?_, h2⟩
      intro p hp
      rcases List.mem_cons.mp hp with rfl | hp
      · exact h1
      · exact Nat.lt_trans h1 ((ih.mp h2).1 p hp)
    · rintro ⟨h1, h2⟩
      exact ⟨h1 _ List.mem_cons_self, h2⟩

theorem SMap.above_put {α : Type} (k a : Nat) (x : α) (m : SMap α) (h : SMap.above k m) (ha : k < a) : SMap.above k (SMap.put m a x) := by
  induction m with
  | nil => intro p hp; rcases List.mem_cons.mp hp with rfl | hp; exact ha; cases hp
  | cons q m ih =>
    obtain ⟨k', v'⟩ := q
    have h' : SMap.above k m := fun p hp => h p (List.mem_cons_of_mem _ hp)
    have hk : k < k' := h _ List.mem_cons_self
    unfold SMap.put
    split
    · intro p hp; rcases List.mem_cons.mp hp with rfl | hp; exact ha; exact h p hp
    · split
      · intro p hp; rcases List.mem_cons.mp hp with rfl | hp; exact hk; exact h' p hp
      · intro p hp; rcases List.mem_cons.mp hp with rfl | hp; exact hk; exact ih h' p hp

/-- Setting a key keeps the canonical form. -/
theorem SMap.rising_put {α : Type} (m : SMap α) (a : Nat) (x : α) (h : SMap.rising m = true) : SMap.rising (SMap.put m a x) = true := by
  induction m with
  | nil => rfl
  | cons q m ih =>
    obtain ⟨k, v⟩ := q
    obtain ⟨h1, h2⟩ := SMap.rising_cons.mp h
    unfold SMap.put
    split
    · rename_i hl
      refine SMap.rising_cons.mpr ⟨?_, h⟩
      intro p hp
      rcases List.mem_cons.mp hp with rfl | hp
      · exact hl
      · exact Nat.lt_trans hl (h1 p hp)
    · split
      · exact SMap.rising_cons.mpr ⟨h1, h2⟩
      · exact SMap.rising_cons.mpr ⟨SMap.above_put k a x m h1 (by omega), ih h2⟩

/-- Leaving entries out keeps the canonical form. -/
theorem SMap.rising_filter {α : Type} (m : SMap α) (f : Nat × α → Bool) (h : SMap.rising m = true) : SMap.rising (m.filter f) = true := by
  induction m with
  | nil => rfl
  | cons q m ih =>
    obtain ⟨k, v⟩ := q
    obtain ⟨h1, h2⟩ := SMap.rising_cons.mp h
    rw [List.filter_cons]
    split
    · exact SMap.rising_cons.mpr ⟨fun p hp => h1 p (List.mem_filter.mp hp).1, ih h2⟩
    · exact ih h2

/-- Setting a key, or leaving it out, keeps the canonical form. -/
theorem SMap.rising_putD {α : Type} [DecidableEq α] (m : SMap α) (d : α) (a : Nat) (x : α) (h : SMap.rising m = true) :
    SMap.rising (SMap.putD m d a x) = true := by
  unfold SMap.putD
  split
  · exact SMap.rising_filter m _ h
  · exact SMap.rising_put m a x h

end Sys2Proof
end

