-- ==== Sys2Proof/Laws/Emit.lean ====
section
/-! SUPPORT. What an event may change when it is logged and notified: the recorders, the command interface's queues and their pin, what is
handed out, and the three registers that count events and NOTIFYs. -/

namespace Sys2Proof.Machine.Mach

theorem rd_wr_same (m : Mach) (r : Reg) (w : Word) : (m.wr r w).rd r = w := SMap.getD_putD_same _ _ _ _

theorem rd_wr_ne (m : Mach) (r r' : Reg) (w : Word) (h : r'.addr ≠ r.addr) : (m.wr r w).rd r' = m.rd r' :=
  SMap.getD_putD_ne _ _ _ _ _ _ h

theorem rd_fresh1Add (m : Mach) (r r' : Reg) (f : Fld) (v : Nat) : (m.fresh1Add r f v).rd r' = m.rd r' := by
  unfold fresh1Add; split <;> rfl

theorem rd_setF_same (m : Mach) (r : Reg) (f : Fld) (v : Nat) : (m.setF r f v).rd r = f.set (m.rd r) v := rd_wr_same _ _ _

theorem rd_setF_ne (m : Mach) (r r' : Reg) (f : Fld) (v : Nat) (h : r'.addr ≠ r.addr) : (m.setF r f v).rd r' = m.rd r' :=
  (rd_wr_ne _ _ _ _ h).trans (rd_fresh1Add _ _ _ _ _)

/-- A register that logging may change. -/
def logReg (r : Reg) : Prop := r.addr = Reg.evrStat.addr ∨ r.addr = Reg.evrLost.addr ∨ r.addr = Reg.cmdCntNlost.addr

/-- x is m after logging; HP_IRQ_N is as it was, with the output queue as it was, or follows the queue. -/
def Logs (m x : Mach) : Prop :=
  ∃ rg f1 fc rc cm b st,
    x = { m with regs := rg, fresh1 := f1, freshC := fc, recs := rc, cmd := cm, pins := { m.pins with hpIrqN := b }, sent := st } ∧
    (∀ r, ¬logReg r → SMap.getD rg r.addr r.init = m.rd r) ∧
    (b = m.pins.hpIrqN ∧ cm.hpOut = m.cmd.hpOut ∨ b = !(cm.hpOut.any (fun p => p.notify)))

theorem Logs.refl (m : Mach) : Logs m m :=
  ⟨m.regs, m.fresh1, m.freshC, m.recs, m.cmd, m.pins.hpIrqN, m.sent, rfl, fun _ _ => rfl, Or.inl ⟨rfl, rfl⟩⟩

theorem Logs.trans {m x y : Mach} (h1 : Logs m x) (h2 : Logs x y) : Logs m y := by
  obtain ⟨a, f, g, b, c, d, e, rfl, k1, j1⟩ := h1
  obtain ⟨a', f', g', b', c', d', e', rfl, k2, j2⟩ := h2
  refine ⟨a', f', g', b', c', d', e', rfl, fun r hr => (k2 r hr).trans (k1 r hr), ?_⟩
  rcases j2 with ⟨h1, h2⟩ | h
  · rcases j1 with ⟨h3, h4⟩ | h3
    · exact Or.inl ⟨h1.trans h3, h2.trans h4⟩
    · refine Or.inr ?_
      rw [h1, h2]
      exact h3
  · exact Or.inr h

theorem Logs.recs (m : Mach) (rc : Recs) : Logs m { m with recs := rc } := 
  ⟨m.regs, m.fresh1, m.freshC, rc, m.cmd, m.pins.hpIrqN, m.sent, rfl, fun _ _ => rfl, Or.inl ⟨rfl, rfl⟩⟩

theorem Logs.cmd (m : Mach) (c : Cmd) (h : c.hpOut = m.cmd.hpOut) : Logs m { m with cmd := c } :=
  ⟨m.regs, m.fresh1, m.freshC, m.recs, c, m.pins.hpIrqN, m.sent, rfl, fun _ _ => rfl, Or.inl ⟨rfl, h⟩⟩

theorem Logs.queue (m : Mach) (c : Cmd) : Logs m (({ m with cmd := c } : Mach).setIrq) :=
  ⟨m.regs, m.fresh1, m.freshC, m.recs, c, _, m.sent, rfl, fun _ _ => rfl, Or.inr rfl⟩

theorem Logs.wr (m : Mach) (r : Reg) (w : Word) (h : logReg r) : Logs m (m.wr r w) := by
  refine ⟨(m.wr r w).regs, m.fresh1, m.freshC, m.recs, m.cmd, m.pins.hpIrqN, m.sent, rfl, fun r' hr => ?_, Or.inl ⟨rfl, rfl⟩⟩
  refine rd_wr_ne m r r' w (fun he => hr ?_)
  unfold logReg at h ⊢
  rw [he]; exact h

theorem Logs.fresh (m : Mach) (a : SMap Word) (b : SMap (Word × Word)) : Logs m { m with fresh1 := a, freshC := b } :=
  ⟨m.regs, a, b, m.recs, m.cmd, m.pins.hpIrqN, m.sent, rfl, fun _ _ => rfl, Or.inl ⟨rfl, rfl⟩⟩

theorem Logs.setF (m : Mach) (r : Reg) (f : Fld) (v : Nat) (h : logReg r) : Logs m (m.setF r f v) := by
  unfold Mach.setF
  refine Logs.trans ?_ (Logs.wr _ _ _ h)
  unfold Mach.fresh1Add
  split
  · exact Logs.fresh m _ m.freshC
  · exact Logs.refl m

theorem Logs.bump (m : Mach) (r : Reg) (f : Fld) (n : Nat) (h : logReg r) : Logs m (m.bump r f n) := by
  unfold Mach.bump
  refine Logs.trans ?_ (Logs.setF _ _ _ _ h)
  unfold Mach.freshCAdd
  split
  · exact Logs.fresh m m.fresh1 _
  · exact Logs.refl m

theorem Logs.sent (m : Mach) (s : Sent) : Logs m (m.send s) := 
  ⟨m.regs, m.fresh1, m.freshC, m.recs, m.cmd, m.pins.hpIrqN, m.sent ++ [s], rfl, fun _ _ => rfl, Or.inl ⟨rfl, rfl⟩⟩

theorem Logs.foldl {α : Type} (f : Mach → α → Mach) (h : ∀ m a, Logs m (f m a)) (l : List α) (m : Mach) : Logs m (forEach l m f) := by
  induction l generalizing m with
  | nil => exact Logs.refl m
  | cons a l ih => exact (h m a).trans (ih (f m a))

theorem Logs.notePut (m : Mach) (s : Session) (c : Bool) (k : Nat) (b : List Byte) : Logs m (m.notePut s c k b) := by
  unfold Mach.notePut
  simp only []
  split
  · exact (Logs.cmd m _ rfl).trans ((Logs.cmd _ _ rfl).trans (Logs.sent _ _))
  · exact (Logs.cmd m _ rfl).trans (Logs.queue _ _)

theorem Logs.notify (m : Mach) (s : Session) (c : Bool) (k : Nat) (b : List Byte) : Logs m (m.notify s c k b) := by
  unfold Mach.notify
  split
  · exact Logs.notePut m s c k b
  · exact (Logs.cmd m _ rfl).trans (Logs.bump _ _ _ _ (Or.inr (Or.inr rfl)))

theorem Logs.noteEv (m : Mach) (e : EvRec) : Logs m (m.noteEv e) := by
  unfold Mach.noteEv Mach.notifyAll
  refine Logs.foldl _ (fun m s => ?_) _ _
  split
  · exact Logs.notify _ _ _ _ _
  · exact Logs.refl _

theorem Logs.fifoPut (m : Mach) (e : EvRec) : Logs m (m.fifoPut e) := by
  unfold Mach.fifoPut
  simp only []
  split
  · exact (Logs.recs m _).trans (Logs.setF _ _ _ _ (Or.inl rfl))
  · exact Logs.recs m _

theorem Logs.rptClose (m : Mach) (r : RptEntry) : Logs m (m.rptClose r) := by
  unfold Mach.rptClose
  simp only []
  split
  · exact (Logs.recs m _).trans (Logs.recs _ _)
  · split
    · exact ((Logs.recs m _).trans (Logs.recs _ _)).trans (Logs.noteEv _ _)
    · exact (Logs.recs m _).trans (Logs.recs _ _)

theorem Logs.rptOpen (m : Mach) (e : EvRec) : Logs m (m.rptOpen e) := by
  unfold Mach.rptOpen
  split
  · exact Logs.refl m
  · refine Logs.trans ?_ (Logs.recs _ _)
    split
    · exact Logs.refl m
    · split
      · exact Logs.rptClose m _
      · exact Logs.refl m

theorem Logs.rptPassed (m : Mach) (e : Ev) (n : Nat) : Logs m (m.rptPassed e n) := by
  unfold Mach.rptPassed
  split
  · exact Logs.rptClose m _
  · exact Logs.refl m

theorem Logs.emitNew (m : Mach) (e : Ev) (n : Nat) (w : List Word) (t : Bool) : Logs m (m.emitNew e n w t) := by
  unfold Mach.emitNew
  split
  · simp only []
    split
    · exact (Logs.recs m _).trans (Logs.fifoPut _ _)
    · exact ((Logs.recs m _).trans (Logs.fifoPut _ _)).trans (Logs.rptOpen _ _)
  · exact ((Logs.bump m _ _ _ (Or.inr (Or.inl rfl))).trans (Logs.setF _ _ _ _ (Or.inl rfl))).trans (Logs.recs _ _)

/-- All that an event's logging may change. -/
theorem Logs.emitT (m : Mach) (e : Ev) (n : Nat) (w : List Word) (t : Bool) : Logs m (m.emitT e n w t) := by
  unfold Mach.emitT
  simp only []
  split
  · exact Logs.recs m _
  · exact (Logs.rptPassed m _ _).trans (Logs.emitNew _ _ _ _ _)

theorem Logs.emit (m : Mach) (e : Ev) (n : Nat) : Logs m (m.emit e n) := Logs.emitT m e n [] false

end Sys2Proof.Machine.Mach
end

