-- ==== Sys2Proof/Laws/Link.lean ====
section
/-! SUPPORT. What the links at work, the PRBS counters and the measurement of FL_P leave alone: INC and the registers that show and govern
it, the pins, the command interface. -/

namespace Sys2Proof.Machine.Mach

/-- x has INC, its registers, the pins and the command interface of m. -/
def KeepsInc (m x : Mach) : Prop :=
  x.pins = m.pins ∧ x.cmd = m.cmd ∧ x.tb.inc = m.tb.inc ∧ x.tb.st = m.tb.st ∧ x.rd .tbIncInt = m.rd .tbIncInt ∧ x.rd .tbCtrl = m.rd .tbCtrl

theorem KeepsInc.refl (m : Mach) : KeepsInc m m := ⟨rfl, rfl, rfl, rfl, rfl, rfl⟩

theorem KeepsInc.trans {m x y : Mach} (h1 : KeepsInc m x) (h2 : KeepsInc x y) : KeepsInc m y := by
  obtain ⟨a1, a2, a3, a4, a5, a6⟩ := h1
  obtain ⟨b1, b2, b3, b4, b5, b6⟩ := h2
  exact ⟨b1.trans a1, b2.trans a2, b3.trans a3, b4.trans a4, b5.trans a5, b6.trans a6⟩

theorem KeepsInc.foldl {α : Type} (f : Mach → α → Mach) (l : List α) (h : ∀ m a, a ∈ l → KeepsInc m (f m a)) (m : Mach) :
    KeepsInc m (forEach l m f) := by
  induction l generalizing m with
  | nil => exact KeepsInc.refl m
  | cons a l ih => exact (h m a List.mem_cons_self).trans (ih (fun m b hb => h m b (List.mem_cons_of_mem _ hb)) (f m a))

theorem KeepsInc.wr (m : Mach) (r : Reg) (w : Word) (h1 : r.addr ≠ Reg.tbIncInt.addr) (h2 : r.addr ≠ Reg.tbCtrl.addr) : KeepsInc m (m.wr r w) :=
  ⟨rfl, rfl, rfl, rfl, rd_wr_ne _ _ _ _ h1.symm, rd_wr_ne _ _ _ _ h2.symm⟩

theorem KeepsInc.setF (m : Mach) (r : Reg) (f : Fld) (v : Nat) (h1 : r.addr ≠ Reg.tbIncInt.addr) (h2 : r.addr ≠ Reg.tbCtrl.addr) :
    KeepsInc m (m.setF r f v) := by
  unfold Mach.setF
  refine KeepsInc.trans ?_ (KeepsInc.wr _ _ _ h1 h2)
  unfold Mach.fresh1Add
  split
  · exact ⟨rfl, rfl, rfl, rfl, rfl, rfl⟩
  · exact KeepsInc.refl m

theorem KeepsInc.bump (m : Mach) (r : Reg) (f : Fld) (n : Nat) (h1 : r.addr ≠ Reg.tbIncInt.addr) (h2 : r.addr ≠ Reg.tbCtrl.addr) :
    KeepsInc m (m.bump r f n) := by
  unfold Mach.bump
  refine KeepsInc.trans ?_ (KeepsInc.setF _ _ _ _ h1 h2)
  unfold Mach.freshCAdd
  split
  · exact ⟨rfl, rfl, rfl, rfl, rfl, rfl⟩
  · exact KeepsInc.refl m

theorem KeepsInc.tsqPut (m : Mach) (l id : Nat) (t : Time) : KeepsInc m (m.tsqPut l id t) := by
  unfold Mach.tsqPut
  simp only []
  split
  · exact KeepsInc.bump _ _ _ _ (by simp only [Reg.addr]; omega) (by simp only [Reg.addr]; omega)
  · exact ⟨rfl, rfl, rfl, rfl, rfl, rfl⟩

theorem KeepsInc.send (m : Mach) (x : Sent) : KeepsInc m (m.send x) := ⟨rfl, rfl, rfl, rfl, rfl, rfl⟩

theorem KeepsInc.txPut (m : Mach) (l c n : Nat) (x : Sent) (p : TxPost) : KeepsInc m (m.txPut l c n x p) := by
  unfold Mach.txPut
  split
  · exact KeepsInc.refl m
  · exact ⟨rfl, rfl, rfl, rfl, rfl, rfl⟩

theorem KeepsInc.updPtp (m : Mach) (l : Nat) (f : PtpPort → PtpPort) : KeepsInc m (m.updPtp l f) := ⟨rfl, rfl, rfl, rfl, rfl, rfl⟩

theorem KeepsInc.txGo (m : Mach) (l : Nat) (f : TxFrame) : KeepsInc m (m.txGo l f) := by
  unfold Mach.txGo
  simp only []
  refine (KeepsInc.bump m (.mac l 1) F.mac_COUNT 1 (by simp only [Reg.addr]; omega) (by simp only [Reg.addr]; omega)).trans ?_
  split
  · exact KeepsInc.send _ _
  · exact (KeepsInc.send _ _).trans (KeepsInc.tsqPut _ _ _ _)
  · refine (KeepsInc.send _ f.frame).trans (KeepsInc.trans ?_ (KeepsInc.updPtp _ _ _))
    split
    · exact KeepsInc.bump _ _ _ _ (by simp only [Reg.addr]; omega) (by simp only [Reg.addr]; omega)
    · exact KeepsInc.refl _
  · split
    · exact KeepsInc.send _ _
    · exact (KeepsInc.send _ _).trans (KeepsInc.txPut _ _ _ _ _ _)
  · split
    · exact KeepsInc.send _ _
    · exact (KeepsInc.send _ _).trans (KeepsInc.txPut _ _ _ _ _ _)

theorem KeepsInc.txLane (m : Mach) (l : Nat) : KeepsInc m (m.txLane l) := by
  unfold Mach.txLane
  split
  · exact ⟨rfl, rfl, rfl, rfl, rfl, rfl⟩
  · split
    · exact KeepsInc.refl m
    · split
      · exact KeepsInc.refl m
      · exact KeepsInc.trans (x := { m with txq := _, txEnd := _ }) ⟨rfl, rfl, rfl, rfl, rfl, rfl⟩ (KeepsInc.txGo _ _ _)

theorem KeepsInc.pairTx1 (m : Mach) : KeepsInc m m.pairTx1 := by
  unfold Mach.pairTx1
  split
  · exact KeepsInc.refl m
  · simp only []
    split
    · exact ⟨rfl, rfl, rfl, rfl, rfl, rfl⟩
    · split
      · exact KeepsInc.refl m
      · exact ⟨rfl, rfl, rfl, rfl, rfl, rfl⟩

/-- The lanes and the pair link at work leave INC, its registers, the pins and the command interface alone. -/
theorem KeepsInc.linkServe (m : Mach) : KeepsInc m m.linkServe := by
  unfold Mach.linkServe
  refine KeepsInc.trans (x := m.txServe) ?_ ?_
  · unfold Mach.txServe
    split
    · exact KeepsInc.refl m
    · exact KeepsInc.foldl _ _ (fun m l _ => KeepsInc.txLane m l) m
  · unfold Mach.pairServe
    refine KeepsInc.trans (x := m.txServe.creditsBack) ?_ (KeepsInc.foldl _ _ (fun m _ _ => KeepsInc.pairTx1 m) _)
    unfold Mach.creditsBack
    simp only []
    refine KeepsInc.foldl _ _ (fun _ _ _ => ?_) _
    exact ⟨rfl, rfl, rfl, rfl, rfl, rfl⟩

theorem KeepsInc.linkTick (m : Mach) : KeepsInc m m.linkTick := by
  unfold Mach.linkTick
  split
  · exact KeepsInc.refl m
  · exact KeepsInc.linkServe m

theorem KeepsInc.prbsTick (m : Mach) : KeepsInc m m.prbsTick := by
  unfold Mach.prbsTick
  refine KeepsInc.foldl _ _ (fun m l hl => ?_) m
  split
  · unfold Mach.prbsShow
    have : l < 4 := by simpa using hl
    refine KeepsInc.trans (KeepsInc.trans (x := m.updLane l _) ⟨rfl, rfl, rfl, rfl, rfl, rfl⟩ (KeepsInc.wr _ _ _ ?_ ?_)) (KeepsInc.wr _ _ _ ?_ ?_)
    all_goals simp only [Reg.addr]; omega
  · exact KeepsInc.refl m

theorem KeepsInc.flpMin (m : Mach) : KeepsInc m m.flpMin := by
  unfold Mach.flpMin
  split
  · exact KeepsInc.setF _ _ _ _ (by simp only [Reg.addr]; omega) (by simp only [Reg.addr]; omega)
  · exact KeepsInc.refl m

end Sys2Proof.Machine.Mach
end

