-- ==== Sys2Proof/Laws/Logic.lean ====
section
/-! SUPPORT. How a native instruction of a logic task answers (R425): from its operation to its effect on the task's cycle. -/

namespace Sys2Proof.Machine

/-- A native instruction without an operand condition, from what its operation computes. -/
theorem LogicActs.of {i : Instr} {t op area idx : Nat} {F f : LCtx → LCtx}
    (he : ∀ s, exec i s = onM (Mach.awake (fun m => m.runOp t op area idx F)) s)
    (h : ∀ l, F l = f l) : LogicActs i t op area idx f := by
  intro ht x c
  refine Acts.of_awake he (fun m hu hp => ?_)
  obtain ⟨h1, h2, h3, h4, h5, p, h6, h7⟩ := hp
  unfold Mach.runOp
  rw [h1]
  refine (if_neg (by simp [h2, h3, h4])).trans ?_
  rw [h5, h6]
  refine (if_pos h7).trans ?_
  rw [h]

/-- A meaning whose operand condition holds. -/
theorem exec_only {c : Bool} {F : Mach → Mach} (h : c = true) (s : State) : onM (Mach.awake (Mach.only c F)) s = onM (Mach.awake F) s := by
  subst h; rfl

/-- A native instruction with an area and an index. -/
theorem LogicActs.of1 {i : Instr} {t op area idx : Nat} {F f : LCtx → LCtx}
    (he : ∀ s, exec i s = onM (Mach.awake (Mach.only (wfTask t && wfArea area && wfIdx idx) (fun m => m.runOp t op area idx F))) s) (h1 : area < 16) (h2 : idx < 2 ^ 20)
    (h : ∀ l, F l = f l) : LogicActs i t op area idx f := by
  intro ht
  exact LogicActs.of (fun s => (he s).trans (exec_only (by simp [wfTask, wfArea, wfIdx, Nat.blt_eq]; omega) s)) h ht

/-- A native instruction with an index. -/
theorem LogicActs.of2 {i : Instr} {t op area idx : Nat} {F f : LCtx → LCtx}
    (he : ∀ s, exec i s = onM (Mach.awake (Mach.only (wfTask t && wfIdx idx) (fun m => m.runOp t op area idx F))) s)  (h2 : idx < 2 ^ 20)
    (h : ∀ l, F l = f l) : LogicActs i t op area idx f := by
  intro ht
  exact LogicActs.of (fun s => (he s).trans (exec_only (by simp [wfTask, wfArea, wfIdx, Nat.blt_eq]; omega) s)) h ht

/-- A native instruction without an operand. -/
theorem LogicActs.of3 {i : Instr} {t op area idx : Nat} {F f : LCtx → LCtx}
    (he : ∀ s, exec i s = onM (Mach.awake (Mach.only (wfTask t) (fun m => m.runOp t op area idx F))) s)
    (h : ∀ l, F l = f l) : LogicActs i t op area idx f := by
  intro ht
  exact LogicActs.of (fun s => (he s).trans (exec_only (by simp [wfTask, wfArea, wfIdx, Nat.blt_eq]; omega) s)) h ht

/-- A native instruction under a condition on the block. -/
theorem LogicActs.cond {i : Instr} {t op area idx : Nat} {F : LCtx → LCtx} (h : LogicActs i t op area idx F) (ht : t < 4) (x c) {P : Mach → Prop} {g}
  (hg : ∀ m, P m → (let l := F { m := m, t := t, x := x, c := { c with pc := c.pc + 1 } }
    l.m.updTask t (fun y => { y with cyc := some l.c })) = g m) : Acts i (fun m => m.atOp t op area idx x c ∧ P m) g := by
  intro s hu hp
  rw [h ht x c s hu hp.1, ← hg _ hp.2]

end Sys2Proof.Machine
end

