-- ==== Sys2Proof/Laws/Requests.lean ====
section
/-! SUPPORT. A request taken from a transport while its session is ready runs its opcode at once (R669 to R675). -/

namespace Sys2Proof.Machine

/-- A command whose operand names a part of the block. -/
theorem only_ok {c : Bool} (h : c = true) (f : Mach → Mach) (m : Mach) : Mach.only c f m = f m := by
  subst h; rfl

/-- A packet of a ready session: its opcode's effect on the block with the request taken, then its reply. -/
theorem packet_ok {m : Mach} {x : Session} {op : Nat} {h : Hdr} {p : List Byte} (hu : m.up) (hr : m.ready x op h p)
    (h1 : opListed op = true) {f : Mach → Session → RawReq → Mach × Ans}
    (hf : ∀ m x (q : RawReq), q.op = op → (if q.op < 0x0500 then Mach.runLow m x q else Mach.runHigh m x q) = f m x q) :
    m.packet op h p = (let q := reqOf h op p
      let r := f (m.taken x q) x q
      r.1.served x q r.2) := by
  obtain ⟨r1, r2, r3, r4, r5, r6, r7, r8, r9, r10⟩ := hr
  unfold Mach.packet
  simp only []
  rw [if_neg (by
    rcases hh : h.udp with _ | _
    · simp
    · have := r8 hh; simp [hu.2, r6, this.1, this.2])]
  rw [if_neg (by rw [r1]; simp only [List.length_nil]; have := hu.2; omega)]
  unfold Mach.rxPut
  rw [r1]
  have em : ∀ l, l = ([] : List RawReq) → ({ m with cmd := { m.cmd with rx := l } } : Mach) = m := by
    intro l hl; subst hl; rw [← r1]
  simp only [List.nil_append, List.length_nil, Nat.zero_add]
  unfold Mach.rxRun
  simp only [List.findIdx?_cons, List.findIdx?_nil]
  have hheld : ({ m with cmd := { m.cmd with rx := [reqOf h op p] } } : Mach).reqHeld (reqOf h op p) = false := r4
  rw [hheld]
  simp only [Bool.not_false, if_true, List.getElem?_cons_zero, List.eraseIdx_cons_zero, Mach.rxRun]
  rw [em _ rfl]
  unfold Mach.execReq
  simp only []
  rw [if_neg (by simp [reqOf]), if_neg (by simp [reqOf]), r3]
  simp only []
  have hseq : (reqOf h op p).seq = (x.lastSeq + 1) % 65536 := r5
  rw [if_neg (by rw [hseq]; omega), if_neg (by rw [hseq]; simp)]
  have hop : (reqOf h op p).op = op := rfl
  have e : (m.taken x (reqOf h op p)).runOpcode x (reqOf h op p) = f (m.taken x (reqOf h op p)) x (reqOf h op p) := by
    unfold Mach.runOpcode
    have e1 : (m.taken x (reqOf h op p)).start = m.start := rfl
    have e2 : (m.taken x (reqOf h op p)).flag .glbStat F.glbStat_FEAT_DONE = true := r7
    have e3 : (m.taken x (reqOf h op p)).feat 3 = m.feat 3 := rfl
    rw [if_neg (by simp [hop, h1]), if_neg (by simp [e1, r6, e2]), if_neg (by rw [hop, e3]; intro hc; simp [r10 hc.1] at hc),
      if_neg (by rw [hop]; rcases hm : opMaint op with _ | _ <;> simp_all)]
    exact hf _ _ _ hop
  rw [e]

/-- A command packet's effect from what its opcode does. -/
theorem Serves.of {i : Hdr → List Byte → Instr} {op : Nat} {P : Mach → Session → RawReq → Prop} {f g : Mach → Session → RawReq → Mach × Ans}
    (he : ∀ h p s, exec (i h p) s = onM (Mach.live (Mach.only (wfPayload p) (fun m => m.packet op h p))) s)
    (h1 : opListed op = true)
    (hf : ∀ m x (q : RawReq), q.op = op → (if q.op < 0x0500 then Mach.runLow m x q else Mach.runHigh m x q) = g m x q)
    (hg : ∀ m x q, P m x q → g m x q = f m x q) : Serves i op P f := by
  intro h p x
  refine Acts.of_live (he h p) (fun m hu hp => ?_)
  rw [only_ok (by simp [wfPayload, Nat.ble_eq]; exact hp.1.2.1), packet_ok hu hp.1 h1 hf]
  simp only []
  rw [hg _ _ _ hp.2]

end Sys2Proof.Machine
end

