-- ==== Sys2Proof/Laws/Restart.lean ====
section
/-! SUPPORT. What a restart leaves in the registers (R757, R773, R776). -/

namespace Sys2Proof.Machine

/-- A register that a restart does not keep has its reset value. -/
theorem keep_regs (m : Mach) (r : Reg) (h : keptReg r.addr = false) (h2 : r.addr ≠ Reg.secStat.addr) (h3 : r.addr ≠ Reg.glbStat.addr) :
   m.resetKeep.rd r = r.init := by
  have key : ∀ l : SMap Word, SMap.get? (l.filter (fun r => keptReg r.1)) r.addr = none := by
    intro l
    induction l with
    | nil => rfl
    | cons p l ih =>
      obtain ⟨k, v⟩ := p
      rw [List.filter_cons]
      split
      · rename_i hk
        have : k ≠ r.addr := by intro e; subst e; simp [h] at hk
        simp [SMap.get?, this, ih]
      · exact ih
  have base : SMap.getD (m.regs.filter (fun r => keptReg r.1)) r.addr r.init = r.init := by
    unfold SMap.getD; rw [key]; rfl
  unfold Mach.resetKeep
  simp only []
  split
  · unfold Mach.burnSeal
    rw [Mach.rd_setF_ne _ _ _ _ _ h3, Mach.rd_setF_ne _ _ _ _ _ h2]
    exact base
  · exact base

/-- A restart clears PROT_READY. -/
theorem keep_glb (m : Mach) : m.resetKeep.flag .glbStat F.glbStat_PROT_READY = false := by
  have key : ∀ l : SMap Word, SMap.get? (l.filter (fun r => keptReg r.1)) (Reg.glbStat).addr = none := by
    have h : keptReg (Reg.glbStat).addr = false := by decide +kernel
    intro l
    induction l with
    | nil => rfl
    | cons p l ih =>
      obtain ⟨k, v⟩ := p
      rw [List.filter_cons]
      split
      · rename_i hk
        have : k ≠ (Reg.glbStat).addr := by intro e; subst e; simp [h] at hk
        simp [SMap.get?, this, ih]
      · exact ih
  have base : SMap.getD (m.regs.filter (fun r => keptReg r.1)) (Reg.glbStat).addr (Reg.glbStat).init = (Reg.glbStat).init := by
    unfold SMap.getD; rw [key]; rfl
  unfold Mach.resetKeep
  simp only []
  split
  · unfold Mach.burnSeal Mach.flag Mach.fld
    rw [Mach.rd_setF_same, Mach.rd_setF_ne _ _ _ _ _ (by decide)]
    unfold Mach.rd at *
    rw [base]; decide
  · unfold Mach.flag Mach.fld Mach.rd; rw [base]; decide

/-- After what it keeps is kept, a restart only logs the forces it clears. -/
theorem restart_logs (m : Mach) (c : Nat) (k : Option Nat) : Mach.Logs { m.resetKeep with start := { m.resetKeep.start with cause := c, restartKind := k } } (m.restart c k) := 
  Mach.Logs.foldl _ (fun m _ => Mach.Logs.emit m _ _) _ _

/-- Logging changes no register but those that count events and NOTIFYs. -/
theorem logs_rd {a b : Mach} (h : Mach.Logs a b) (r : Reg) (hr : ¬ Mach.logReg r) : b.rd r = a.rd r := by
  obtain ⟨rg, f1, fc, rc, cm, bb, st, rfl, k, -⟩ := h
  exact k r hr

end Sys2Proof.Machine
end

