-- ==== Sys2Proof/Laws/State.lean ====
section
/-! SUPPORT. One lemma per field per update of the block's state: what each named update leaves as it was. -/

namespace Sys2Proof.Machine.Mach

@[simp] theorem wr_free (m : Mach) (r : Reg) (w : Word) : (m.wr r w).free = m.free := rfl
@[simp] theorem wr_inReset (m : Mach) (r : Reg) (w : Word) : (m.wr r w).inReset = m.inReset := rfl
@[simp] theorem wr_pins (m : Mach) (r : Reg) (w : Word) : (m.wr r w).pins = m.pins := rfl
@[simp] theorem wr_sent (m : Mach) (r : Reg) (w : Word) : (m.wr r w).sent = m.sent := rfl
@[simp] theorem wr_txq (m : Mach) (r : Reg) (w : Word) : (m.wr r w).txq = m.txq := rfl
@[simp] theorem wr_txEnd (m : Mach) (r : Reg) (w : Word) : (m.wr r w).txEnd = m.txEnd := rfl
@[simp] theorem wr_fresh1 (m : Mach) (r : Reg) (w : Word) : (m.wr r w).fresh1 = m.fresh1 := rfl
@[simp] theorem wr_freshC (m : Mach) (r : Reg) (w : Word) : (m.wr r w).freshC = m.freshC := rfl
@[simp] theorem wr_tb (m : Mach) (r : Reg) (w : Word) : (m.wr r w).tb = m.tb := rfl
@[simp] theorem wr_fr (m : Mach) (r : Reg) (w : Word) : (m.wr r w).fr = m.fr := rfl
@[simp] theorem wr_acq (m : Mach) (r : Reg) (w : Word) : (m.wr r w).acq = m.acq := rfl
@[simp] theorem wr_bays (m : Mach) (r : Reg) (w : Word) : (m.wr r w).bays = m.bays := rfl
@[simp] theorem wr_set (m : Mach) (r : Reg) (w : Word) : (m.wr r w).set = m.set := rfl
@[simp] theorem wr_group (m : Mach) (r : Reg) (w : Word) : (m.wr r w).group = m.group := rfl
@[simp] theorem wr_stage (m : Mach) (r : Reg) (w : Word) : (m.wr r w).stage = m.stage := rfl
@[simp] theorem wr_zone (m : Mach) (r : Reg) (w : Word) : (m.wr r w).zone = m.zone := rfl
@[simp] theorem wr_stu (m : Mach) (r : Reg) (w : Word) : (m.wr r w).stu = m.stu := rfl
@[simp] theorem wr_fio (m : Mach) (r : Reg) (w : Word) : (m.wr r w).fio = m.fio := rfl
@[simp] theorem wr_tasks (m : Mach) (r : Reg) (w : Word) : (m.wr r w).tasks = m.tasks := rfl
@[simp] theorem wr_lanes (m : Mach) (r : Reg) (w : Word) : (m.wr r w).lanes = m.lanes := rfl
@[simp] theorem wr_net (m : Mach) (r : Reg) (w : Word) : (m.wr r w).net = m.net := rfl
@[simp] theorem wr_pair (m : Mach) (r : Reg) (w : Word) : (m.wr r w).pair = m.pair := rfl
@[simp] theorem wr_power (m : Mach) (r : Reg) (w : Word) : (m.wr r w).power = m.power := rfl
@[simp] theorem wr_recs (m : Mach) (r : Reg) (w : Word) : (m.wr r w).recs = m.recs := rfl
@[simp] theorem wr_cmd (m : Mach) (r : Reg) (w : Word) : (m.wr r w).cmd = m.cmd := rfl
@[simp] theorem wr_hlth (m : Mach) (r : Reg) (w : Word) : (m.wr r w).hlth = m.hlth := rfl
@[simp] theorem wr_sec (m : Mach) (r : Reg) (w : Word) : (m.wr r w).sec = m.sec := rfl
@[simp] theorem wr_start (m : Mach) (r : Reg) (w : Word) : (m.wr r w).start = m.start := rfl
@[simp] theorem wr_nv (m : Mach) (r : Reg) (w : Word) : (m.wr r w).nv = m.nv := rfl

@[simp] theorem setBay_free (m : Mach) (b : Nat) (x : Bay) : (m.setBay b x).free = m.free := rfl
@[simp] theorem setBay_inReset (m : Mach) (b : Nat) (x : Bay) : (m.setBay b x).inReset = m.inReset := rfl
@[simp] theorem setBay_pins (m : Mach) (b : Nat) (x : Bay) : (m.setBay b x).pins = m.pins := rfl
@[simp] theorem setBay_sent (m : Mach) (b : Nat) (x : Bay) : (m.setBay b x).sent = m.sent := rfl
@[simp] theorem setBay_txq (m : Mach) (b : Nat) (x : Bay) : (m.setBay b x).txq = m.txq := rfl
@[simp] theorem setBay_txEnd (m : Mach) (b : Nat) (x : Bay) : (m.setBay b x).txEnd = m.txEnd := rfl
@[simp] theorem setBay_regs (m : Mach) (b : Nat) (x : Bay) : (m.setBay b x).regs = m.regs := rfl
@[simp] theorem setBay_fresh1 (m : Mach) (b : Nat) (x : Bay) : (m.setBay b x).fresh1 = m.fresh1 := rfl
@[simp] theorem setBay_freshC (m : Mach) (b : Nat) (x : Bay) : (m.setBay b x).freshC = m.freshC := rfl
@[simp] theorem setBay_tb (m : Mach) (b : Nat) (x : Bay) : (m.setBay b x).tb = m.tb := rfl
@[simp] theorem setBay_fr (m : Mach) (b : Nat) (x : Bay) : (m.setBay b x).fr = m.fr := rfl
@[simp] theorem setBay_acq (m : Mach) (b : Nat) (x : Bay) : (m.setBay b x).acq = m.acq := rfl
@[simp] theorem setBay_set (m : Mach) (b : Nat) (x : Bay) : (m.setBay b x).set = m.set := rfl
@[simp] theorem setBay_group (m : Mach) (b : Nat) (x : Bay) : (m.setBay b x).group = m.group := rfl
@[simp] theorem setBay_stage (m : Mach) (b : Nat) (x : Bay) : (m.setBay b x).stage = m.stage := rfl
@[simp] theorem setBay_zone (m : Mach) (b : Nat) (x : Bay) : (m.setBay b x).zone = m.zone := rfl
@[simp] theorem setBay_stu (m : Mach) (b : Nat) (x : Bay) : (m.setBay b x).stu = m.stu := rfl
@[simp] theorem setBay_fio (m : Mach) (b : Nat) (x : Bay) : (m.setBay b x).fio = m.fio := rfl
@[simp] theorem setBay_tasks (m : Mach) (b : Nat) (x : Bay) : (m.setBay b x).tasks = m.tasks := rfl
@[simp] theorem setBay_lanes (m : Mach) (b : Nat) (x : Bay) : (m.setBay b x).lanes = m.lanes := rfl
@[simp] theorem setBay_net (m : Mach) (b : Nat) (x : Bay) : (m.setBay b x).net = m.net := rfl
@[simp] theorem setBay_pair (m : Mach) (b : Nat) (x : Bay) : (m.setBay b x).pair = m.pair := rfl
@[simp] theorem setBay_power (m : Mach) (b : Nat) (x : Bay) : (m.setBay b x).power = m.power := rfl
@[simp] theorem setBay_recs (m : Mach) (b : Nat) (x : Bay) : (m.setBay b x).recs = m.recs := rfl
@[simp] theorem setBay_cmd (m : Mach) (b : Nat) (x : Bay) : (m.setBay b x).cmd = m.cmd := rfl
@[simp] theorem setBay_hlth (m : Mach) (b : Nat) (x : Bay) : (m.setBay b x).hlth = m.hlth := rfl
@[simp] theorem setBay_sec (m : Mach) (b : Nat) (x : Bay) : (m.setBay b x).sec = m.sec := rfl
@[simp] theorem setBay_start (m : Mach) (b : Nat) (x : Bay) : (m.setBay b x).start = m.start := rfl
@[simp] theorem setBay_nv (m : Mach) (b : Nat) (x : Bay) : (m.setBay b x).nv = m.nv := rfl

@[simp] theorem updBay_free (m : Mach) (b : Nat) (f : Bay → Bay) : (m.updBay b f).free = m.free := rfl
@[simp] theorem updBay_inReset (m : Mach) (b : Nat) (f : Bay → Bay) : (m.updBay b f).inReset = m.inReset := rfl
@[simp] theorem updBay_pins (m : Mach) (b : Nat) (f : Bay → Bay) : (m.updBay b f).pins = m.pins := rfl
@[simp] theorem updBay_sent (m : Mach) (b : Nat) (f : Bay → Bay) : (m.updBay b f).sent = m.sent := rfl
@[simp] theorem updBay_txq (m : Mach) (b : Nat) (f : Bay → Bay) : (m.updBay b f).txq = m.txq := rfl
@[simp] theorem updBay_txEnd (m : Mach) (b : Nat) (f : Bay → Bay) : (m.updBay b f).txEnd = m.txEnd := rfl
@[simp] theorem updBay_regs (m : Mach) (b : Nat) (f : Bay → Bay) : (m.updBay b f).regs = m.regs := rfl
@[simp] theorem updBay_fresh1 (m : Mach) (b : Nat) (f : Bay → Bay) : (m.updBay b f).fresh1 = m.fresh1 := rfl
@[simp] theorem updBay_freshC (m : Mach) (b : Nat) (f : Bay → Bay) : (m.updBay b f).freshC = m.freshC := rfl
@[simp] theorem updBay_tb (m : Mach) (b : Nat) (f : Bay → Bay) : (m.updBay b f).tb = m.tb := rfl
@[simp] theorem updBay_fr (m : Mach) (b : Nat) (f : Bay → Bay) : (m.updBay b f).fr = m.fr := rfl
@[simp] theorem updBay_acq (m : Mach) (b : Nat) (f : Bay → Bay) : (m.updBay b f).acq = m.acq := rfl
@[simp] theorem updBay_set (m : Mach) (b : Nat) (f : Bay → Bay) : (m.updBay b f).set = m.set := rfl
@[simp] theorem updBay_group (m : Mach) (b : Nat) (f : Bay → Bay) : (m.updBay b f).group = m.group := rfl
@[simp] theorem updBay_stage (m : Mach) (b : Nat) (f : Bay → Bay) : (m.updBay b f).stage = m.stage := rfl
@[simp] theorem updBay_zone (m : Mach) (b : Nat) (f : Bay → Bay) : (m.updBay b f).zone = m.zone := rfl
@[simp] theorem updBay_stu (m : Mach) (b : Nat) (f : Bay → Bay) : (m.updBay b f).stu = m.stu := rfl
@[simp] theorem updBay_fio (m : Mach) (b : Nat) (f : Bay → Bay) : (m.updBay b f).fio = m.fio := rfl
@[simp] theorem updBay_tasks (m : Mach) (b : Nat) (f : Bay → Bay) : (m.updBay b f).tasks = m.tasks := rfl
@[simp] theorem updBay_lanes (m : Mach) (b : Nat) (f : Bay → Bay) : (m.updBay b f).lanes = m.lanes := rfl
@[simp] theorem updBay_net (m : Mach) (b : Nat) (f : Bay → Bay) : (m.updBay b f).net = m.net := rfl
@[simp] theorem updBay_pair (m : Mach) (b : Nat) (f : Bay → Bay) : (m.updBay b f).pair = m.pair := rfl
@[simp] theorem updBay_power (m : Mach) (b : Nat) (f : Bay → Bay) : (m.updBay b f).power = m.power := rfl
@[simp] theorem updBay_recs (m : Mach) (b : Nat) (f : Bay → Bay) : (m.updBay b f).recs = m.recs := rfl
@[simp] theorem updBay_cmd (m : Mach) (b : Nat) (f : Bay → Bay) : (m.updBay b f).cmd = m.cmd := rfl
@[simp] theorem updBay_hlth (m : Mach) (b : Nat) (f : Bay → Bay) : (m.updBay b f).hlth = m.hlth := rfl
@[simp] theorem updBay_sec (m : Mach) (b : Nat) (f : Bay → Bay) : (m.updBay b f).sec = m.sec := rfl
@[simp] theorem updBay_start (m : Mach) (b : Nat) (f : Bay → Bay) : (m.updBay b f).start = m.start := rfl
@[simp] theorem updBay_nv (m : Mach) (b : Nat) (f : Bay → Bay) : (m.updBay b f).nv = m.nv := rfl

@[simp] theorem updEng_free (m : Mach) (e : Nat) (f : Eng → Eng) : (m.updEng e f).free = m.free := rfl
@[simp] theorem updEng_inReset (m : Mach) (e : Nat) (f : Eng → Eng) : (m.updEng e f).inReset = m.inReset := rfl
@[simp] theorem updEng_pins (m : Mach) (e : Nat) (f : Eng → Eng) : (m.updEng e f).pins = m.pins := rfl
@[simp] theorem updEng_sent (m : Mach) (e : Nat) (f : Eng → Eng) : (m.updEng e f).sent = m.sent := rfl
@[simp] theorem updEng_txq (m : Mach) (e : Nat) (f : Eng → Eng) : (m.updEng e f).txq = m.txq := rfl
@[simp] theorem updEng_txEnd (m : Mach) (e : Nat) (f : Eng → Eng) : (m.updEng e f).txEnd = m.txEnd := rfl
@[simp] theorem updEng_regs (m : Mach) (e : Nat) (f : Eng → Eng) : (m.updEng e f).regs = m.regs := rfl
@[simp] theorem updEng_fresh1 (m : Mach) (e : Nat) (f : Eng → Eng) : (m.updEng e f).fresh1 = m.fresh1 := rfl
@[simp] theorem updEng_freshC (m : Mach) (e : Nat) (f : Eng → Eng) : (m.updEng e f).freshC = m.freshC := rfl
@[simp] theorem updEng_tb (m : Mach) (e : Nat) (f : Eng → Eng) : (m.updEng e f).tb = m.tb := rfl
@[simp] theorem updEng_acq (m : Mach) (e : Nat) (f : Eng → Eng) : (m.updEng e f).acq = m.acq := rfl
@[simp] theorem updEng_bays (m : Mach) (e : Nat) (f : Eng → Eng) : (m.updEng e f).bays = m.bays := rfl
@[simp] theorem updEng_set (m : Mach) (e : Nat) (f : Eng → Eng) : (m.updEng e f).set = m.set := rfl
@[simp] theorem updEng_group (m : Mach) (e : Nat) (f : Eng → Eng) : (m.updEng e f).group = m.group := rfl
@[simp] theorem updEng_stage (m : Mach) (e : Nat) (f : Eng → Eng) : (m.updEng e f).stage = m.stage := rfl
@[simp] theorem updEng_zone (m : Mach) (e : Nat) (f : Eng → Eng) : (m.updEng e f).zone = m.zone := rfl
@[simp] theorem updEng_stu (m : Mach) (e : Nat) (f : Eng → Eng) : (m.updEng e f).stu = m.stu := rfl
@[simp] theorem updEng_fio (m : Mach) (e : Nat) (f : Eng → Eng) : (m.updEng e f).fio = m.fio := rfl
@[simp] theorem updEng_tasks (m : Mach) (e : Nat) (f : Eng → Eng) : (m.updEng e f).tasks = m.tasks := rfl
@[simp] theorem updEng_lanes (m : Mach) (e : Nat) (f : Eng → Eng) : (m.updEng e f).lanes = m.lanes := rfl
@[simp] theorem updEng_net (m : Mach) (e : Nat) (f : Eng → Eng) : (m.updEng e f).net = m.net := rfl
@[simp] theorem updEng_pair (m : Mach) (e : Nat) (f : Eng → Eng) : (m.updEng e f).pair = m.pair := rfl
@[simp] theorem updEng_power (m : Mach) (e : Nat) (f : Eng → Eng) : (m.updEng e f).power = m.power := rfl
@[simp] theorem updEng_recs (m : Mach) (e : Nat) (f : Eng → Eng) : (m.updEng e f).recs = m.recs := rfl
@[simp] theorem updEng_cmd (m : Mach) (e : Nat) (f : Eng → Eng) : (m.updEng e f).cmd = m.cmd := rfl
@[simp] theorem updEng_hlth (m : Mach) (e : Nat) (f : Eng → Eng) : (m.updEng e f).hlth = m.hlth := rfl
@[simp] theorem updEng_sec (m : Mach) (e : Nat) (f : Eng → Eng) : (m.updEng e f).sec = m.sec := rfl
@[simp] theorem updEng_start (m : Mach) (e : Nat) (f : Eng → Eng) : (m.updEng e f).start = m.start := rfl
@[simp] theorem updEng_nv (m : Mach) (e : Nat) (f : Eng → Eng) : (m.updEng e f).nv = m.nv := rfl

@[simp] theorem setEng_free (m : Mach) (b e : Nat) : (m.setEng b e).free = m.free := rfl
@[simp] theorem setEng_inReset (m : Mach) (b e : Nat) : (m.setEng b e).inReset = m.inReset := rfl
@[simp] theorem setEng_pins (m : Mach) (b e : Nat) : (m.setEng b e).pins = m.pins := rfl
@[simp] theorem setEng_sent (m : Mach) (b e : Nat) : (m.setEng b e).sent = m.sent := rfl
@[simp] theorem setEng_txq (m : Mach) (b e : Nat) : (m.setEng b e).txq = m.txq := rfl
@[simp] theorem setEng_txEnd (m : Mach) (b e : Nat) : (m.setEng b e).txEnd = m.txEnd := rfl
@[simp] theorem setEng_regs (m : Mach) (b e : Nat) : (m.setEng b e).regs = m.regs := rfl
@[simp] theorem setEng_fresh1 (m : Mach) (b e : Nat) : (m.setEng b e).fresh1 = m.fresh1 := rfl
@[simp] theorem setEng_freshC (m : Mach) (b e : Nat) : (m.setEng b e).freshC = m.freshC := rfl
@[simp] theorem setEng_tb (m : Mach) (b e : Nat) : (m.setEng b e).tb = m.tb := rfl
@[simp] theorem setEng_acq (m : Mach) (b e : Nat) : (m.setEng b e).acq = m.acq := rfl
@[simp] theorem setEng_bays (m : Mach) (b e : Nat) : (m.setEng b e).bays = m.bays := rfl
@[simp] theorem setEng_set (m : Mach) (b e : Nat) : (m.setEng b e).set = m.set := rfl
@[simp] theorem setEng_group (m : Mach) (b e : Nat) : (m.setEng b e).group = m.group := rfl
@[simp] theorem setEng_stage (m : Mach) (b e : Nat) : (m.setEng b e).stage = m.stage := rfl
@[simp] theorem setEng_zone (m : Mach) (b e : Nat) : (m.setEng b e).zone = m.zone := rfl
@[simp] theorem setEng_stu (m : Mach) (b e : Nat) : (m.setEng b e).stu = m.stu := rfl
@[simp] theorem setEng_fio (m : Mach) (b e : Nat) : (m.setEng b e).fio = m.fio := rfl
@[simp] theorem setEng_tasks (m : Mach) (b e : Nat) : (m.setEng b e).tasks = m.tasks := rfl
@[simp] theorem setEng_lanes (m : Mach) (b e : Nat) : (m.setEng b e).lanes = m.lanes := rfl
@[simp] theorem setEng_net (m : Mach) (b e : Nat) : (m.setEng b e).net = m.net := rfl
@[simp] theorem setEng_pair (m : Mach) (b e : Nat) : (m.setEng b e).pair = m.pair := rfl
@[simp] theorem setEng_power (m : Mach) (b e : Nat) : (m.setEng b e).power = m.power := rfl
@[simp] theorem setEng_recs (m : Mach) (b e : Nat) : (m.setEng b e).recs = m.recs := rfl
@[simp] theorem setEng_cmd (m : Mach) (b e : Nat) : (m.setEng b e).cmd = m.cmd := rfl
@[simp] theorem setEng_hlth (m : Mach) (b e : Nat) : (m.setEng b e).hlth = m.hlth := rfl
@[simp] theorem setEng_sec (m : Mach) (b e : Nat) : (m.setEng b e).sec = m.sec := rfl
@[simp] theorem setEng_start (m : Mach) (b e : Nat) : (m.setEng b e).start = m.start := rfl
@[simp] theorem setEng_nv (m : Mach) (b e : Nat) : (m.setEng b e).nv = m.nv := rfl

@[simp] theorem updPort_free (m : Mach) (p : Nat) (f : Port → Port) : (m.updPort p f).free = m.free := rfl
@[simp] theorem updPort_inReset (m : Mach) (p : Nat) (f : Port → Port) : (m.updPort p f).inReset = m.inReset := rfl
@[simp] theorem updPort_pins (m : Mach) (p : Nat) (f : Port → Port) : (m.updPort p f).pins = m.pins := rfl
@[simp] theorem updPort_sent (m : Mach) (p : Nat) (f : Port → Port) : (m.updPort p f).sent = m.sent := rfl
@[simp] theorem updPort_txq (m : Mach) (p : Nat) (f : Port → Port) : (m.updPort p f).txq = m.txq := rfl
@[simp] theorem updPort_txEnd (m : Mach) (p : Nat) (f : Port → Port) : (m.updPort p f).txEnd = m.txEnd := rfl
@[simp] theorem updPort_regs (m : Mach) (p : Nat) (f : Port → Port) : (m.updPort p f).regs = m.regs := rfl
@[simp] theorem updPort_fresh1 (m : Mach) (p : Nat) (f : Port → Port) : (m.updPort p f).fresh1 = m.fresh1 := rfl
@[simp] theorem updPort_freshC (m : Mach) (p : Nat) (f : Port → Port) : (m.updPort p f).freshC = m.freshC := rfl
@[simp] theorem updPort_tb (m : Mach) (p : Nat) (f : Port → Port) : (m.updPort p f).tb = m.tb := rfl
@[simp] theorem updPort_fr (m : Mach) (p : Nat) (f : Port → Port) : (m.updPort p f).fr = m.fr := rfl
@[simp] theorem updPort_bays (m : Mach) (p : Nat) (f : Port → Port) : (m.updPort p f).bays = m.bays := rfl
@[simp] theorem updPort_set (m : Mach) (p : Nat) (f : Port → Port) : (m.updPort p f).set = m.set := rfl
@[simp] theorem updPort_group (m : Mach) (p : Nat) (f : Port → Port) : (m.updPort p f).group = m.group := rfl
@[simp] theorem updPort_stage (m : Mach) (p : Nat) (f : Port → Port) : (m.updPort p f).stage = m.stage := rfl
@[simp] theorem updPort_zone (m : Mach) (p : Nat) (f : Port → Port) : (m.updPort p f).zone = m.zone := rfl
@[simp] theorem updPort_stu (m : Mach) (p : Nat) (f : Port → Port) : (m.updPort p f).stu = m.stu := rfl
@[simp] theorem updPort_fio (m : Mach) (p : Nat) (f : Port → Port) : (m.updPort p f).fio = m.fio := rfl
@[simp] theorem updPort_tasks (m : Mach) (p : Nat) (f : Port → Port) : (m.updPort p f).tasks = m.tasks := rfl
@[simp] theorem updPort_lanes (m : Mach) (p : Nat) (f : Port → Port) : (m.updPort p f).lanes = m.lanes := rfl
@[simp] theorem updPort_net (m : Mach) (p : Nat) (f : Port → Port) : (m.updPort p f).net = m.net := rfl
@[simp] theorem updPort_pair (m : Mach) (p : Nat) (f : Port → Port) : (m.updPort p f).pair = m.pair := rfl
@[simp] theorem updPort_power (m : Mach) (p : Nat) (f : Port → Port) : (m.updPort p f).power = m.power := rfl
@[simp] theorem updPort_recs (m : Mach) (p : Nat) (f : Port → Port) : (m.updPort p f).recs = m.recs := rfl
@[simp] theorem updPort_cmd (m : Mach) (p : Nat) (f : Port → Port) : (m.updPort p f).cmd = m.cmd := rfl
@[simp] theorem updPort_hlth (m : Mach) (p : Nat) (f : Port → Port) : (m.updPort p f).hlth = m.hlth := rfl
@[simp] theorem updPort_sec (m : Mach) (p : Nat) (f : Port → Port) : (m.updPort p f).sec = m.sec := rfl
@[simp] theorem updPort_start (m : Mach) (p : Nat) (f : Port → Port) : (m.updPort p f).start = m.start := rfl
@[simp] theorem updPort_nv (m : Mach) (p : Nat) (f : Port → Port) : (m.updPort p f).nv = m.nv := rfl

@[simp] theorem updSub_free (m : Mach) (n : Nat) (f : Sub → Sub) : (m.updSub n f).free = m.free := rfl
@[simp] theorem updSub_inReset (m : Mach) (n : Nat) (f : Sub → Sub) : (m.updSub n f).inReset = m.inReset := rfl
@[simp] theorem updSub_pins (m : Mach) (n : Nat) (f : Sub → Sub) : (m.updSub n f).pins = m.pins := rfl
@[simp] theorem updSub_sent (m : Mach) (n : Nat) (f : Sub → Sub) : (m.updSub n f).sent = m.sent := rfl
@[simp] theorem updSub_txq (m : Mach) (n : Nat) (f : Sub → Sub) : (m.updSub n f).txq = m.txq := rfl
@[simp] theorem updSub_txEnd (m : Mach) (n : Nat) (f : Sub → Sub) : (m.updSub n f).txEnd = m.txEnd := rfl
@[simp] theorem updSub_regs (m : Mach) (n : Nat) (f : Sub → Sub) : (m.updSub n f).regs = m.regs := rfl
@[simp] theorem updSub_fresh1 (m : Mach) (n : Nat) (f : Sub → Sub) : (m.updSub n f).fresh1 = m.fresh1 := rfl
@[simp] theorem updSub_freshC (m : Mach) (n : Nat) (f : Sub → Sub) : (m.updSub n f).freshC = m.freshC := rfl
@[simp] theorem updSub_tb (m : Mach) (n : Nat) (f : Sub → Sub) : (m.updSub n f).tb = m.tb := rfl
@[simp] theorem updSub_fr (m : Mach) (n : Nat) (f : Sub → Sub) : (m.updSub n f).fr = m.fr := rfl
@[simp] theorem updSub_bays (m : Mach) (n : Nat) (f : Sub → Sub) : (m.updSub n f).bays = m.bays := rfl
@[simp] theorem updSub_set (m : Mach) (n : Nat) (f : Sub → Sub) : (m.updSub n f).set = m.set := rfl
@[simp] theorem updSub_group (m : Mach) (n : Nat) (f : Sub → Sub) : (m.updSub n f).group = m.group := rfl
@[simp] theorem updSub_stage (m : Mach) (n : Nat) (f : Sub → Sub) : (m.updSub n f).stage = m.stage := rfl
@[simp] theorem updSub_zone (m : Mach) (n : Nat) (f : Sub → Sub) : (m.updSub n f).zone = m.zone := rfl
@[simp] theorem updSub_stu (m : Mach) (n : Nat) (f : Sub → Sub) : (m.updSub n f).stu = m.stu := rfl
@[simp] theorem updSub_fio (m : Mach) (n : Nat) (f : Sub → Sub) : (m.updSub n f).fio = m.fio := rfl
@[simp] theorem updSub_tasks (m : Mach) (n : Nat) (f : Sub → Sub) : (m.updSub n f).tasks = m.tasks := rfl
@[simp] theorem updSub_lanes (m : Mach) (n : Nat) (f : Sub → Sub) : (m.updSub n f).lanes = m.lanes := rfl
@[simp] theorem updSub_net (m : Mach) (n : Nat) (f : Sub → Sub) : (m.updSub n f).net = m.net := rfl
@[simp] theorem updSub_pair (m : Mach) (n : Nat) (f : Sub → Sub) : (m.updSub n f).pair = m.pair := rfl
@[simp] theorem updSub_power (m : Mach) (n : Nat) (f : Sub → Sub) : (m.updSub n f).power = m.power := rfl
@[simp] theorem updSub_recs (m : Mach) (n : Nat) (f : Sub → Sub) : (m.updSub n f).recs = m.recs := rfl
@[simp] theorem updSub_cmd (m : Mach) (n : Nat) (f : Sub → Sub) : (m.updSub n f).cmd = m.cmd := rfl
@[simp] theorem updSub_hlth (m : Mach) (n : Nat) (f : Sub → Sub) : (m.updSub n f).hlth = m.hlth := rfl
@[simp] theorem updSub_sec (m : Mach) (n : Nat) (f : Sub → Sub) : (m.updSub n f).sec = m.sec := rfl
@[simp] theorem updSub_start (m : Mach) (n : Nat) (f : Sub → Sub) : (m.updSub n f).start = m.start := rfl
@[simp] theorem updSub_nv (m : Mach) (n : Nat) (f : Sub → Sub) : (m.updSub n f).nv = m.nv := rfl

@[simp] theorem setDom_free (m : Mach) (d : Nat) (x : Dom) : (m.setDom d x).free = m.free := rfl
@[simp] theorem setDom_inReset (m : Mach) (d : Nat) (x : Dom) : (m.setDom d x).inReset = m.inReset := rfl
@[simp] theorem setDom_pins (m : Mach) (d : Nat) (x : Dom) : (m.setDom d x).pins = m.pins := rfl
@[simp] theorem setDom_sent (m : Mach) (d : Nat) (x : Dom) : (m.setDom d x).sent = m.sent := rfl
@[simp] theorem setDom_txq (m : Mach) (d : Nat) (x : Dom) : (m.setDom d x).txq = m.txq := rfl
@[simp] theorem setDom_txEnd (m : Mach) (d : Nat) (x : Dom) : (m.setDom d x).txEnd = m.txEnd := rfl
@[simp] theorem setDom_regs (m : Mach) (d : Nat) (x : Dom) : (m.setDom d x).regs = m.regs := rfl
@[simp] theorem setDom_fresh1 (m : Mach) (d : Nat) (x : Dom) : (m.setDom d x).fresh1 = m.fresh1 := rfl
@[simp] theorem setDom_freshC (m : Mach) (d : Nat) (x : Dom) : (m.setDom d x).freshC = m.freshC := rfl
@[simp] theorem setDom_tb (m : Mach) (d : Nat) (x : Dom) : (m.setDom d x).tb = m.tb := rfl
@[simp] theorem setDom_fr (m : Mach) (d : Nat) (x : Dom) : (m.setDom d x).fr = m.fr := rfl
@[simp] theorem setDom_acq (m : Mach) (d : Nat) (x : Dom) : (m.setDom d x).acq = m.acq := rfl
@[simp] theorem setDom_bays (m : Mach) (d : Nat) (x : Dom) : (m.setDom d x).bays = m.bays := rfl
@[simp] theorem setDom_set (m : Mach) (d : Nat) (x : Dom) : (m.setDom d x).set = m.set := rfl
@[simp] theorem setDom_group (m : Mach) (d : Nat) (x : Dom) : (m.setDom d x).group = m.group := rfl
@[simp] theorem setDom_stage (m : Mach) (d : Nat) (x : Dom) : (m.setDom d x).stage = m.stage := rfl
@[simp] theorem setDom_zone (m : Mach) (d : Nat) (x : Dom) : (m.setDom d x).zone = m.zone := rfl
@[simp] theorem setDom_stu (m : Mach) (d : Nat) (x : Dom) : (m.setDom d x).stu = m.stu := rfl
@[simp] theorem setDom_fio (m : Mach) (d : Nat) (x : Dom) : (m.setDom d x).fio = m.fio := rfl
@[simp] theorem setDom_tasks (m : Mach) (d : Nat) (x : Dom) : (m.setDom d x).tasks = m.tasks := rfl
@[simp] theorem setDom_lanes (m : Mach) (d : Nat) (x : Dom) : (m.setDom d x).lanes = m.lanes := rfl
@[simp] theorem setDom_net (m : Mach) (d : Nat) (x : Dom) : (m.setDom d x).net = m.net := rfl
@[simp] theorem setDom_pair (m : Mach) (d : Nat) (x : Dom) : (m.setDom d x).pair = m.pair := rfl
@[simp] theorem setDom_power (m : Mach) (d : Nat) (x : Dom) : (m.setDom d x).power = m.power := rfl
@[simp] theorem setDom_recs (m : Mach) (d : Nat) (x : Dom) : (m.setDom d x).recs = m.recs := rfl
@[simp] theorem setDom_cmd (m : Mach) (d : Nat) (x : Dom) : (m.setDom d x).cmd = m.cmd := rfl
@[simp] theorem setDom_sec (m : Mach) (d : Nat) (x : Dom) : (m.setDom d x).sec = m.sec := rfl
@[simp] theorem setDom_start (m : Mach) (d : Nat) (x : Dom) : (m.setDom d x).start = m.start := rfl
@[simp] theorem setDom_nv (m : Mach) (d : Nat) (x : Dom) : (m.setDom d x).nv = m.nv := rfl

@[simp] theorem updDo_free (m : Mach) (y : Nat) (f : Do → Do) : (m.updDo y f).free = m.free := rfl
@[simp] theorem updDo_inReset (m : Mach) (y : Nat) (f : Do → Do) : (m.updDo y f).inReset = m.inReset := rfl
@[simp] theorem updDo_pins (m : Mach) (y : Nat) (f : Do → Do) : (m.updDo y f).pins = m.pins := rfl
@[simp] theorem updDo_sent (m : Mach) (y : Nat) (f : Do → Do) : (m.updDo y f).sent = m.sent := rfl
@[simp] theorem updDo_txq (m : Mach) (y : Nat) (f : Do → Do) : (m.updDo y f).txq = m.txq := rfl
@[simp] theorem updDo_txEnd (m : Mach) (y : Nat) (f : Do → Do) : (m.updDo y f).txEnd = m.txEnd := rfl
@[simp] theorem updDo_regs (m : Mach) (y : Nat) (f : Do → Do) : (m.updDo y f).regs = m.regs := rfl
@[simp] theorem updDo_fresh1 (m : Mach) (y : Nat) (f : Do → Do) : (m.updDo y f).fresh1 = m.fresh1 := rfl
@[simp] theorem updDo_freshC (m : Mach) (y : Nat) (f : Do → Do) : (m.updDo y f).freshC = m.freshC := rfl
@[simp] theorem updDo_tb (m : Mach) (y : Nat) (f : Do → Do) : (m.updDo y f).tb = m.tb := rfl
@[simp] theorem updDo_fr (m : Mach) (y : Nat) (f : Do → Do) : (m.updDo y f).fr = m.fr := rfl
@[simp] theorem updDo_acq (m : Mach) (y : Nat) (f : Do → Do) : (m.updDo y f).acq = m.acq := rfl
@[simp] theorem updDo_bays (m : Mach) (y : Nat) (f : Do → Do) : (m.updDo y f).bays = m.bays := rfl
@[simp] theorem updDo_set (m : Mach) (y : Nat) (f : Do → Do) : (m.updDo y f).set = m.set := rfl
@[simp] theorem updDo_group (m : Mach) (y : Nat) (f : Do → Do) : (m.updDo y f).group = m.group := rfl
@[simp] theorem updDo_stage (m : Mach) (y : Nat) (f : Do → Do) : (m.updDo y f).stage = m.stage := rfl
@[simp] theorem updDo_zone (m : Mach) (y : Nat) (f : Do → Do) : (m.updDo y f).zone = m.zone := rfl
@[simp] theorem updDo_stu (m : Mach) (y : Nat) (f : Do → Do) : (m.updDo y f).stu = m.stu := rfl
@[simp] theorem updDo_tasks (m : Mach) (y : Nat) (f : Do → Do) : (m.updDo y f).tasks = m.tasks := rfl
@[simp] theorem updDo_lanes (m : Mach) (y : Nat) (f : Do → Do) : (m.updDo y f).lanes = m.lanes := rfl
@[simp] theorem updDo_net (m : Mach) (y : Nat) (f : Do → Do) : (m.updDo y f).net = m.net := rfl
@[simp] theorem updDo_pair (m : Mach) (y : Nat) (f : Do → Do) : (m.updDo y f).pair = m.pair := rfl
@[simp] theorem updDo_power (m : Mach) (y : Nat) (f : Do → Do) : (m.updDo y f).power = m.power := rfl
@[simp] theorem updDo_recs (m : Mach) (y : Nat) (f : Do → Do) : (m.updDo y f).recs = m.recs := rfl
@[simp] theorem updDo_cmd (m : Mach) (y : Nat) (f : Do → Do) : (m.updDo y f).cmd = m.cmd := rfl
@[simp] theorem updDo_hlth (m : Mach) (y : Nat) (f : Do → Do) : (m.updDo y f).hlth = m.hlth := rfl
@[simp] theorem updDo_sec (m : Mach) (y : Nat) (f : Do → Do) : (m.updDo y f).sec = m.sec := rfl
@[simp] theorem updDo_start (m : Mach) (y : Nat) (f : Do → Do) : (m.updDo y f).start = m.start := rfl
@[simp] theorem updDo_nv (m : Mach) (y : Nat) (f : Do → Do) : (m.updDo y f).nv = m.nv := rfl

@[simp] theorem updDi_free (m : Mach) (x : Nat) (f : Di → Di) : (m.updDi x f).free = m.free := rfl
@[simp] theorem updDi_inReset (m : Mach) (x : Nat) (f : Di → Di) : (m.updDi x f).inReset = m.inReset := rfl
@[simp] theorem updDi_pins (m : Mach) (x : Nat) (f : Di → Di) : (m.updDi x f).pins = m.pins := rfl
@[simp] theorem updDi_sent (m : Mach) (x : Nat) (f : Di → Di) : (m.updDi x f).sent = m.sent := rfl
@[simp] theorem updDi_txq (m : Mach) (x : Nat) (f : Di → Di) : (m.updDi x f).txq = m.txq := rfl
@[simp] theorem updDi_txEnd (m : Mach) (x : Nat) (f : Di → Di) : (m.updDi x f).txEnd = m.txEnd := rfl
@[simp] theorem updDi_regs (m : Mach) (x : Nat) (f : Di → Di) : (m.updDi x f).regs = m.regs := rfl
@[simp] theorem updDi_fresh1 (m : Mach) (x : Nat) (f : Di → Di) : (m.updDi x f).fresh1 = m.fresh1 := rfl
@[simp] theorem updDi_freshC (m : Mach) (x : Nat) (f : Di → Di) : (m.updDi x f).freshC = m.freshC := rfl
@[simp] theorem updDi_tb (m : Mach) (x : Nat) (f : Di → Di) : (m.updDi x f).tb = m.tb := rfl
@[simp] theorem updDi_fr (m : Mach) (x : Nat) (f : Di → Di) : (m.updDi x f).fr = m.fr := rfl
@[simp] theorem updDi_acq (m : Mach) (x : Nat) (f : Di → Di) : (m.updDi x f).acq = m.acq := rfl
@[simp] theorem updDi_bays (m : Mach) (x : Nat) (f : Di → Di) : (m.updDi x f).bays = m.bays := rfl
@[simp] theorem updDi_set (m : Mach) (x : Nat) (f : Di → Di) : (m.updDi x f).set = m.set := rfl
@[simp] theorem updDi_group (m : Mach) (x : Nat) (f : Di → Di) : (m.updDi x f).group = m.group := rfl
@[simp] theorem updDi_stage (m : Mach) (x : Nat) (f : Di → Di) : (m.updDi x f).stage = m.stage := rfl
@[simp] theorem updDi_zone (m : Mach) (x : Nat) (f : Di → Di) : (m.updDi x f).zone = m.zone := rfl
@[simp] theorem updDi_stu (m : Mach) (x : Nat) (f : Di → Di) : (m.updDi x f).stu = m.stu := rfl
@[simp] theorem updDi_tasks (m : Mach) (x : Nat) (f : Di → Di) : (m.updDi x f).tasks = m.tasks := rfl
@[simp] theorem updDi_lanes (m : Mach) (x : Nat) (f : Di → Di) : (m.updDi x f).lanes = m.lanes := rfl
@[simp] theorem updDi_net (m : Mach) (x : Nat) (f : Di → Di) : (m.updDi x f).net = m.net := rfl
@[simp] theorem updDi_pair (m : Mach) (x : Nat) (f : Di → Di) : (m.updDi x f).pair = m.pair := rfl
@[simp] theorem updDi_power (m : Mach) (x : Nat) (f : Di → Di) : (m.updDi x f).power = m.power := rfl
@[simp] theorem updDi_recs (m : Mach) (x : Nat) (f : Di → Di) : (m.updDi x f).recs = m.recs := rfl
@[simp] theorem updDi_cmd (m : Mach) (x : Nat) (f : Di → Di) : (m.updDi x f).cmd = m.cmd := rfl
@[simp] theorem updDi_hlth (m : Mach) (x : Nat) (f : Di → Di) : (m.updDi x f).hlth = m.hlth := rfl
@[simp] theorem updDi_sec (m : Mach) (x : Nat) (f : Di → Di) : (m.updDi x f).sec = m.sec := rfl
@[simp] theorem updDi_start (m : Mach) (x : Nat) (f : Di → Di) : (m.updDi x f).start = m.start := rfl
@[simp] theorem updDi_nv (m : Mach) (x : Nat) (f : Di → Di) : (m.updDi x f).nv = m.nv := rfl

@[simp] theorem updLane_free (m : Mach) (l : Nat) (f : Lane → Lane) : (m.updLane l f).free = m.free := rfl
@[simp] theorem updLane_inReset (m : Mach) (l : Nat) (f : Lane → Lane) : (m.updLane l f).inReset = m.inReset := rfl
@[simp] theorem updLane_pins (m : Mach) (l : Nat) (f : Lane → Lane) : (m.updLane l f).pins = m.pins := rfl
@[simp] theorem updLane_sent (m : Mach) (l : Nat) (f : Lane → Lane) : (m.updLane l f).sent = m.sent := rfl
@[simp] theorem updLane_txq (m : Mach) (l : Nat) (f : Lane → Lane) : (m.updLane l f).txq = m.txq := rfl
@[simp] theorem updLane_txEnd (m : Mach) (l : Nat) (f : Lane → Lane) : (m.updLane l f).txEnd = m.txEnd := rfl
@[simp] theorem updLane_regs (m : Mach) (l : Nat) (f : Lane → Lane) : (m.updLane l f).regs = m.regs := rfl
@[simp] theorem updLane_fresh1 (m : Mach) (l : Nat) (f : Lane → Lane) : (m.updLane l f).fresh1 = m.fresh1 := rfl
@[simp] theorem updLane_freshC (m : Mach) (l : Nat) (f : Lane → Lane) : (m.updLane l f).freshC = m.freshC := rfl
@[simp] theorem updLane_tb (m : Mach) (l : Nat) (f : Lane → Lane) : (m.updLane l f).tb = m.tb := rfl
@[simp] theorem updLane_fr (m : Mach) (l : Nat) (f : Lane → Lane) : (m.updLane l f).fr = m.fr := rfl
@[simp] theorem updLane_acq (m : Mach) (l : Nat) (f : Lane → Lane) : (m.updLane l f).acq = m.acq := rfl
@[simp] theorem updLane_bays (m : Mach) (l : Nat) (f : Lane → Lane) : (m.updLane l f).bays = m.bays := rfl
@[simp] theorem updLane_set (m : Mach) (l : Nat) (f : Lane → Lane) : (m.updLane l f).set = m.set := rfl
@[simp] theorem updLane_group (m : Mach) (l : Nat) (f : Lane → Lane) : (m.updLane l f).group = m.group := rfl
@[simp] theorem updLane_stage (m : Mach) (l : Nat) (f : Lane → Lane) : (m.updLane l f).stage = m.stage := rfl
@[simp] theorem updLane_zone (m : Mach) (l : Nat) (f : Lane → Lane) : (m.updLane l f).zone = m.zone := rfl
@[simp] theorem updLane_stu (m : Mach) (l : Nat) (f : Lane → Lane) : (m.updLane l f).stu = m.stu := rfl
@[simp] theorem updLane_fio (m : Mach) (l : Nat) (f : Lane → Lane) : (m.updLane l f).fio = m.fio := rfl
@[simp] theorem updLane_tasks (m : Mach) (l : Nat) (f : Lane → Lane) : (m.updLane l f).tasks = m.tasks := rfl
@[simp] theorem updLane_net (m : Mach) (l : Nat) (f : Lane → Lane) : (m.updLane l f).net = m.net := rfl
@[simp] theorem updLane_pair (m : Mach) (l : Nat) (f : Lane → Lane) : (m.updLane l f).pair = m.pair := rfl
@[simp] theorem updLane_power (m : Mach) (l : Nat) (f : Lane → Lane) : (m.updLane l f).power = m.power := rfl
@[simp] theorem updLane_recs (m : Mach) (l : Nat) (f : Lane → Lane) : (m.updLane l f).recs = m.recs := rfl
@[simp] theorem updLane_cmd (m : Mach) (l : Nat) (f : Lane → Lane) : (m.updLane l f).cmd = m.cmd := rfl
@[simp] theorem updLane_hlth (m : Mach) (l : Nat) (f : Lane → Lane) : (m.updLane l f).hlth = m.hlth := rfl
@[simp] theorem updLane_sec (m : Mach) (l : Nat) (f : Lane → Lane) : (m.updLane l f).sec = m.sec := rfl
@[simp] theorem updLane_start (m : Mach) (l : Nat) (f : Lane → Lane) : (m.updLane l f).start = m.start := rfl
@[simp] theorem updLane_nv (m : Mach) (l : Nat) (f : Lane → Lane) : (m.updLane l f).nv = m.nv := rfl

@[simp] theorem updSta_free (m : Mach) (e : Nat) (f : Sta → Sta) : (m.updSta e f).free = m.free := rfl
@[simp] theorem updSta_inReset (m : Mach) (e : Nat) (f : Sta → Sta) : (m.updSta e f).inReset = m.inReset := rfl
@[simp] theorem updSta_pins (m : Mach) (e : Nat) (f : Sta → Sta) : (m.updSta e f).pins = m.pins := rfl
@[simp] theorem updSta_sent (m : Mach) (e : Nat) (f : Sta → Sta) : (m.updSta e f).sent = m.sent := rfl
@[simp] theorem updSta_txq (m : Mach) (e : Nat) (f : Sta → Sta) : (m.updSta e f).txq = m.txq := rfl
@[simp] theorem updSta_txEnd (m : Mach) (e : Nat) (f : Sta → Sta) : (m.updSta e f).txEnd = m.txEnd := rfl
@[simp] theorem updSta_regs (m : Mach) (e : Nat) (f : Sta → Sta) : (m.updSta e f).regs = m.regs := rfl
@[simp] theorem updSta_fresh1 (m : Mach) (e : Nat) (f : Sta → Sta) : (m.updSta e f).fresh1 = m.fresh1 := rfl
@[simp] theorem updSta_freshC (m : Mach) (e : Nat) (f : Sta → Sta) : (m.updSta e f).freshC = m.freshC := rfl
@[simp] theorem updSta_tb (m : Mach) (e : Nat) (f : Sta → Sta) : (m.updSta e f).tb = m.tb := rfl
@[simp] theorem updSta_fr (m : Mach) (e : Nat) (f : Sta → Sta) : (m.updSta e f).fr = m.fr := rfl
@[simp] theorem updSta_acq (m : Mach) (e : Nat) (f : Sta → Sta) : (m.updSta e f).acq = m.acq := rfl
@[simp] theorem updSta_bays (m : Mach) (e : Nat) (f : Sta → Sta) : (m.updSta e f).bays = m.bays := rfl
@[simp] theorem updSta_set (m : Mach) (e : Nat) (f : Sta → Sta) : (m.updSta e f).set = m.set := rfl
@[simp] theorem updSta_group (m : Mach) (e : Nat) (f : Sta → Sta) : (m.updSta e f).group = m.group := rfl
@[simp] theorem updSta_stage (m : Mach) (e : Nat) (f : Sta → Sta) : (m.updSta e f).stage = m.stage := rfl
@[simp] theorem updSta_zone (m : Mach) (e : Nat) (f : Sta → Sta) : (m.updSta e f).zone = m.zone := rfl
@[simp] theorem updSta_stu (m : Mach) (e : Nat) (f : Sta → Sta) : (m.updSta e f).stu = m.stu := rfl
@[simp] theorem updSta_fio (m : Mach) (e : Nat) (f : Sta → Sta) : (m.updSta e f).fio = m.fio := rfl
@[simp] theorem updSta_tasks (m : Mach) (e : Nat) (f : Sta → Sta) : (m.updSta e f).tasks = m.tasks := rfl
@[simp] theorem updSta_lanes (m : Mach) (e : Nat) (f : Sta → Sta) : (m.updSta e f).lanes = m.lanes := rfl
@[simp] theorem updSta_pair (m : Mach) (e : Nat) (f : Sta → Sta) : (m.updSta e f).pair = m.pair := rfl
@[simp] theorem updSta_power (m : Mach) (e : Nat) (f : Sta → Sta) : (m.updSta e f).power = m.power := rfl
@[simp] theorem updSta_recs (m : Mach) (e : Nat) (f : Sta → Sta) : (m.updSta e f).recs = m.recs := rfl
@[simp] theorem updSta_cmd (m : Mach) (e : Nat) (f : Sta → Sta) : (m.updSta e f).cmd = m.cmd := rfl
@[simp] theorem updSta_hlth (m : Mach) (e : Nat) (f : Sta → Sta) : (m.updSta e f).hlth = m.hlth := rfl
@[simp] theorem updSta_sec (m : Mach) (e : Nat) (f : Sta → Sta) : (m.updSta e f).sec = m.sec := rfl
@[simp] theorem updSta_start (m : Mach) (e : Nat) (f : Sta → Sta) : (m.updSta e f).start = m.start := rfl
@[simp] theorem updSta_nv (m : Mach) (e : Nat) (f : Sta → Sta) : (m.updSta e f).nv = m.nv := rfl

@[simp] theorem updHlth_free (m : Mach) (f : Hlth → Hlth) : (m.updHlth f).free = m.free := rfl
@[simp] theorem updHlth_inReset (m : Mach) (f : Hlth → Hlth) : (m.updHlth f).inReset = m.inReset := rfl
@[simp] theorem updHlth_pins (m : Mach) (f : Hlth → Hlth) : (m.updHlth f).pins = m.pins := rfl
@[simp] theorem updHlth_sent (m : Mach) (f : Hlth → Hlth) : (m.updHlth f).sent = m.sent := rfl
@[simp] theorem updHlth_txq (m : Mach) (f : Hlth → Hlth) : (m.updHlth f).txq = m.txq := rfl
@[simp] theorem updHlth_txEnd (m : Mach) (f : Hlth → Hlth) : (m.updHlth f).txEnd = m.txEnd := rfl
@[simp] theorem updHlth_regs (m : Mach) (f : Hlth → Hlth) : (m.updHlth f).regs = m.regs := rfl
@[simp] theorem updHlth_fresh1 (m : Mach) (f : Hlth → Hlth) : (m.updHlth f).fresh1 = m.fresh1 := rfl
@[simp] theorem updHlth_freshC (m : Mach) (f : Hlth → Hlth) : (m.updHlth f).freshC = m.freshC := rfl
@[simp] theorem updHlth_tb (m : Mach) (f : Hlth → Hlth) : (m.updHlth f).tb = m.tb := rfl
@[simp] theorem updHlth_fr (m : Mach) (f : Hlth → Hlth) : (m.updHlth f).fr = m.fr := rfl
@[simp] theorem updHlth_acq (m : Mach) (f : Hlth → Hlth) : (m.updHlth f).acq = m.acq := rfl
@[simp] theorem updHlth_bays (m : Mach) (f : Hlth → Hlth) : (m.updHlth f).bays = m.bays := rfl
@[simp] theorem updHlth_set (m : Mach) (f : Hlth → Hlth) : (m.updHlth f).set = m.set := rfl
@[simp] theorem updHlth_group (m : Mach) (f : Hlth → Hlth) : (m.updHlth f).group = m.group := rfl
@[simp] theorem updHlth_stage (m : Mach) (f : Hlth → Hlth) : (m.updHlth f).stage = m.stage := rfl
@[simp] theorem updHlth_zone (m : Mach) (f : Hlth → Hlth) : (m.updHlth f).zone = m.zone := rfl
@[simp] theorem updHlth_stu (m : Mach) (f : Hlth → Hlth) : (m.updHlth f).stu = m.stu := rfl
@[simp] theorem updHlth_fio (m : Mach) (f : Hlth → Hlth) : (m.updHlth f).fio = m.fio := rfl
@[simp] theorem updHlth_tasks (m : Mach) (f : Hlth → Hlth) : (m.updHlth f).tasks = m.tasks := rfl
@[simp] theorem updHlth_lanes (m : Mach) (f : Hlth → Hlth) : (m.updHlth f).lanes = m.lanes := rfl
@[simp] theorem updHlth_net (m : Mach) (f : Hlth → Hlth) : (m.updHlth f).net = m.net := rfl
@[simp] theorem updHlth_pair (m : Mach) (f : Hlth → Hlth) : (m.updHlth f).pair = m.pair := rfl
@[simp] theorem updHlth_power (m : Mach) (f : Hlth → Hlth) : (m.updHlth f).power = m.power := rfl
@[simp] theorem updHlth_recs (m : Mach) (f : Hlth → Hlth) : (m.updHlth f).recs = m.recs := rfl
@[simp] theorem updHlth_cmd (m : Mach) (f : Hlth → Hlth) : (m.updHlth f).cmd = m.cmd := rfl
@[simp] theorem updHlth_sec (m : Mach) (f : Hlth → Hlth) : (m.updHlth f).sec = m.sec := rfl
@[simp] theorem updHlth_start (m : Mach) (f : Hlth → Hlth) : (m.updHlth f).start = m.start := rfl
@[simp] theorem updHlth_nv (m : Mach) (f : Hlth → Hlth) : (m.updHlth f).nv = m.nv := rfl

@[simp] theorem updPair_free (m : Mach) (f : Pair → Pair) : (m.updPair f).free = m.free := rfl
@[simp] theorem updPair_inReset (m : Mach) (f : Pair → Pair) : (m.updPair f).inReset = m.inReset := rfl
@[simp] theorem updPair_pins (m : Mach) (f : Pair → Pair) : (m.updPair f).pins = m.pins := rfl
@[simp] theorem updPair_sent (m : Mach) (f : Pair → Pair) : (m.updPair f).sent = m.sent := rfl
@[simp] theorem updPair_txq (m : Mach) (f : Pair → Pair) : (m.updPair f).txq = m.txq := rfl
@[simp] theorem updPair_txEnd (m : Mach) (f : Pair → Pair) : (m.updPair f).txEnd = m.txEnd := rfl
@[simp] theorem updPair_regs (m : Mach) (f : Pair → Pair) : (m.updPair f).regs = m.regs := rfl
@[simp] theorem updPair_fresh1 (m : Mach) (f : Pair → Pair) : (m.updPair f).fresh1 = m.fresh1 := rfl
@[simp] theorem updPair_freshC (m : Mach) (f : Pair → Pair) : (m.updPair f).freshC = m.freshC := rfl
@[simp] theorem updPair_tb (m : Mach) (f : Pair → Pair) : (m.updPair f).tb = m.tb := rfl
@[simp] theorem updPair_fr (m : Mach) (f : Pair → Pair) : (m.updPair f).fr = m.fr := rfl
@[simp] theorem updPair_acq (m : Mach) (f : Pair → Pair) : (m.updPair f).acq = m.acq := rfl
@[simp] theorem updPair_bays (m : Mach) (f : Pair → Pair) : (m.updPair f).bays = m.bays := rfl
@[simp] theorem updPair_set (m : Mach) (f : Pair → Pair) : (m.updPair f).set = m.set := rfl
@[simp] theorem updPair_group (m : Mach) (f : Pair → Pair) : (m.updPair f).group = m.group := rfl
@[simp] theorem updPair_stage (m : Mach) (f : Pair → Pair) : (m.updPair f).stage = m.stage := rfl
@[simp] theorem updPair_zone (m : Mach) (f : Pair → Pair) : (m.updPair f).zone = m.zone := rfl
@[simp] theorem updPair_stu (m : Mach) (f : Pair → Pair) : (m.updPair f).stu = m.stu := rfl
@[simp] theorem updPair_fio (m : Mach) (f : Pair → Pair) : (m.updPair f).fio = m.fio := rfl
@[simp] theorem updPair_tasks (m : Mach) (f : Pair → Pair) : (m.updPair f).tasks = m.tasks := rfl
@[simp] theorem updPair_lanes (m : Mach) (f : Pair → Pair) : (m.updPair f).lanes = m.lanes := rfl
@[simp] theorem updPair_net (m : Mach) (f : Pair → Pair) : (m.updPair f).net = m.net := rfl
@[simp] theorem updPair_power (m : Mach) (f : Pair → Pair) : (m.updPair f).power = m.power := rfl
@[simp] theorem updPair_recs (m : Mach) (f : Pair → Pair) : (m.updPair f).recs = m.recs := rfl
@[simp] theorem updPair_cmd (m : Mach) (f : Pair → Pair) : (m.updPair f).cmd = m.cmd := rfl
@[simp] theorem updPair_hlth (m : Mach) (f : Pair → Pair) : (m.updPair f).hlth = m.hlth := rfl
@[simp] theorem updPair_sec (m : Mach) (f : Pair → Pair) : (m.updPair f).sec = m.sec := rfl
@[simp] theorem updPair_start (m : Mach) (f : Pair → Pair) : (m.updPair f).start = m.start := rfl
@[simp] theorem updPair_nv (m : Mach) (f : Pair → Pair) : (m.updPair f).nv = m.nv := rfl

@[simp] theorem updTb_free (m : Mach) (f : Tb → Tb) : (m.updTb f).free = m.free := rfl
@[simp] theorem updTb_inReset (m : Mach) (f : Tb → Tb) : (m.updTb f).inReset = m.inReset := rfl
@[simp] theorem updTb_pins (m : Mach) (f : Tb → Tb) : (m.updTb f).pins = m.pins := rfl
@[simp] theorem updTb_sent (m : Mach) (f : Tb → Tb) : (m.updTb f).sent = m.sent := rfl
@[simp] theorem updTb_txq (m : Mach) (f : Tb → Tb) : (m.updTb f).txq = m.txq := rfl
@[simp] theorem updTb_txEnd (m : Mach) (f : Tb → Tb) : (m.updTb f).txEnd = m.txEnd := rfl
@[simp] theorem updTb_regs (m : Mach) (f : Tb → Tb) : (m.updTb f).regs = m.regs := rfl
@[simp] theorem updTb_fresh1 (m : Mach) (f : Tb → Tb) : (m.updTb f).fresh1 = m.fresh1 := rfl
@[simp] theorem updTb_freshC (m : Mach) (f : Tb → Tb) : (m.updTb f).freshC = m.freshC := rfl
@[simp] theorem updTb_fr (m : Mach) (f : Tb → Tb) : (m.updTb f).fr = m.fr := rfl
@[simp] theorem updTb_acq (m : Mach) (f : Tb → Tb) : (m.updTb f).acq = m.acq := rfl
@[simp] theorem updTb_bays (m : Mach) (f : Tb → Tb) : (m.updTb f).bays = m.bays := rfl
@[simp] theorem updTb_set (m : Mach) (f : Tb → Tb) : (m.updTb f).set = m.set := rfl
@[simp] theorem updTb_group (m : Mach) (f : Tb → Tb) : (m.updTb f).group = m.group := rfl
@[simp] theorem updTb_stage (m : Mach) (f : Tb → Tb) : (m.updTb f).stage = m.stage := rfl
@[simp] theorem updTb_zone (m : Mach) (f : Tb → Tb) : (m.updTb f).zone = m.zone := rfl
@[simp] theorem updTb_stu (m : Mach) (f : Tb → Tb) : (m.updTb f).stu = m.stu := rfl
@[simp] theorem updTb_fio (m : Mach) (f : Tb → Tb) : (m.updTb f).fio = m.fio := rfl
@[simp] theorem updTb_tasks (m : Mach) (f : Tb → Tb) : (m.updTb f).tasks = m.tasks := rfl
@[simp] theorem updTb_lanes (m : Mach) (f : Tb → Tb) : (m.updTb f).lanes = m.lanes := rfl
@[simp] theorem updTb_net (m : Mach) (f : Tb → Tb) : (m.updTb f).net = m.net := rfl
@[simp] theorem updTb_pair (m : Mach) (f : Tb → Tb) : (m.updTb f).pair = m.pair := rfl
@[simp] theorem updTb_power (m : Mach) (f : Tb → Tb) : (m.updTb f).power = m.power := rfl
@[simp] theorem updTb_recs (m : Mach) (f : Tb → Tb) : (m.updTb f).recs = m.recs := rfl
@[simp] theorem updTb_cmd (m : Mach) (f : Tb → Tb) : (m.updTb f).cmd = m.cmd := rfl
@[simp] theorem updTb_hlth (m : Mach) (f : Tb → Tb) : (m.updTb f).hlth = m.hlth := rfl
@[simp] theorem updTb_sec (m : Mach) (f : Tb → Tb) : (m.updTb f).sec = m.sec := rfl
@[simp] theorem updTb_start (m : Mach) (f : Tb → Tb) : (m.updTb f).start = m.start := rfl
@[simp] theorem updTb_nv (m : Mach) (f : Tb → Tb) : (m.updTb f).nv = m.nv := rfl

@[simp] theorem updSess_free (m : Mach) (n : Nat) (f : Session → Session) : (m.updSess n f).free = m.free := rfl
@[simp] theorem updSess_inReset (m : Mach) (n : Nat) (f : Session → Session) : (m.updSess n f).inReset = m.inReset := rfl
@[simp] theorem updSess_pins (m : Mach) (n : Nat) (f : Session → Session) : (m.updSess n f).pins = m.pins := rfl
@[simp] theorem updSess_sent (m : Mach) (n : Nat) (f : Session → Session) : (m.updSess n f).sent = m.sent := rfl
@[simp] theorem updSess_txq (m : Mach) (n : Nat) (f : Session → Session) : (m.updSess n f).txq = m.txq := rfl
@[simp] theorem updSess_txEnd (m : Mach) (n : Nat) (f : Session → Session) : (m.updSess n f).txEnd = m.txEnd := rfl
@[simp] theorem updSess_regs (m : Mach) (n : Nat) (f : Session → Session) : (m.updSess n f).regs = m.regs := rfl
@[simp] theorem updSess_fresh1 (m : Mach) (n : Nat) (f : Session → Session) : (m.updSess n f).fresh1 = m.fresh1 := rfl
@[simp] theorem updSess_freshC (m : Mach) (n : Nat) (f : Session → Session) : (m.updSess n f).freshC = m.freshC := rfl
@[simp] theorem updSess_tb (m : Mach) (n : Nat) (f : Session → Session) : (m.updSess n f).tb = m.tb := rfl
@[simp] theorem updSess_fr (m : Mach) (n : Nat) (f : Session → Session) : (m.updSess n f).fr = m.fr := rfl
@[simp] theorem updSess_acq (m : Mach) (n : Nat) (f : Session → Session) : (m.updSess n f).acq = m.acq := rfl
@[simp] theorem updSess_bays (m : Mach) (n : Nat) (f : Session → Session) : (m.updSess n f).bays = m.bays := rfl
@[simp] theorem updSess_set (m : Mach) (n : Nat) (f : Session → Session) : (m.updSess n f).set = m.set := rfl
@[simp] theorem updSess_group (m : Mach) (n : Nat) (f : Session → Session) : (m.updSess n f).group = m.group := rfl
@[simp] theorem updSess_stage (m : Mach) (n : Nat) (f : Session → Session) : (m.updSess n f).stage = m.stage := rfl
@[simp] theorem updSess_zone (m : Mach) (n : Nat) (f : Session → Session) : (m.updSess n f).zone = m.zone := rfl
@[simp] theorem updSess_stu (m : Mach) (n : Nat) (f : Session → Session) : (m.updSess n f).stu = m.stu := rfl
@[simp] theorem updSess_fio (m : Mach) (n : Nat) (f : Session → Session) : (m.updSess n f).fio = m.fio := rfl
@[simp] theorem updSess_tasks (m : Mach) (n : Nat) (f : Session → Session) : (m.updSess n f).tasks = m.tasks := rfl
@[simp] theorem updSess_lanes (m : Mach) (n : Nat) (f : Session → Session) : (m.updSess n f).lanes = m.lanes := rfl
@[simp] theorem updSess_net (m : Mach) (n : Nat) (f : Session → Session) : (m.updSess n f).net = m.net := rfl
@[simp] theorem updSess_pair (m : Mach) (n : Nat) (f : Session → Session) : (m.updSess n f).pair = m.pair := rfl
@[simp] theorem updSess_power (m : Mach) (n : Nat) (f : Session → Session) : (m.updSess n f).power = m.power := rfl
@[simp] theorem updSess_recs (m : Mach) (n : Nat) (f : Session → Session) : (m.updSess n f).recs = m.recs := rfl
@[simp] theorem updSess_hlth (m : Mach) (n : Nat) (f : Session → Session) : (m.updSess n f).hlth = m.hlth := rfl
@[simp] theorem updSess_sec (m : Mach) (n : Nat) (f : Session → Session) : (m.updSess n f).sec = m.sec := rfl
@[simp] theorem updSess_start (m : Mach) (n : Nat) (f : Session → Session) : (m.updSess n f).start = m.start := rfl
@[simp] theorem updSess_nv (m : Mach) (n : Nat) (f : Session → Session) : (m.updSess n f).nv = m.nv := rfl

@[simp] theorem updRecs_free (m : Mach) (f : Recs → Recs) : (m.updRecs f).free = m.free := rfl
@[simp] theorem updRecs_inReset (m : Mach) (f : Recs → Recs) : (m.updRecs f).inReset = m.inReset := rfl
@[simp] theorem updRecs_pins (m : Mach) (f : Recs → Recs) : (m.updRecs f).pins = m.pins := rfl
@[simp] theorem updRecs_sent (m : Mach) (f : Recs → Recs) : (m.updRecs f).sent = m.sent := rfl
@[simp] theorem updRecs_txq (m : Mach) (f : Recs → Recs) : (m.updRecs f).txq = m.txq := rfl
@[simp] theorem updRecs_txEnd (m : Mach) (f : Recs → Recs) : (m.updRecs f).txEnd = m.txEnd := rfl
@[simp] theorem updRecs_regs (m : Mach) (f : Recs → Recs) : (m.updRecs f).regs = m.regs := rfl
@[simp] theorem updRecs_fresh1 (m : Mach) (f : Recs → Recs) : (m.updRecs f).fresh1 = m.fresh1 := rfl
@[simp] theorem updRecs_freshC (m : Mach) (f : Recs → Recs) : (m.updRecs f).freshC = m.freshC := rfl
@[simp] theorem updRecs_tb (m : Mach) (f : Recs → Recs) : (m.updRecs f).tb = m.tb := rfl
@[simp] theorem updRecs_fr (m : Mach) (f : Recs → Recs) : (m.updRecs f).fr = m.fr := rfl
@[simp] theorem updRecs_acq (m : Mach) (f : Recs → Recs) : (m.updRecs f).acq = m.acq := rfl
@[simp] theorem updRecs_bays (m : Mach) (f : Recs → Recs) : (m.updRecs f).bays = m.bays := rfl
@[simp] theorem updRecs_set (m : Mach) (f : Recs → Recs) : (m.updRecs f).set = m.set := rfl
@[simp] theorem updRecs_group (m : Mach) (f : Recs → Recs) : (m.updRecs f).group = m.group := rfl
@[simp] theorem updRecs_stage (m : Mach) (f : Recs → Recs) : (m.updRecs f).stage = m.stage := rfl
@[simp] theorem updRecs_zone (m : Mach) (f : Recs → Recs) : (m.updRecs f).zone = m.zone := rfl
@[simp] theorem updRecs_stu (m : Mach) (f : Recs → Recs) : (m.updRecs f).stu = m.stu := rfl
@[simp] theorem updRecs_fio (m : Mach) (f : Recs → Recs) : (m.updRecs f).fio = m.fio := rfl
@[simp] theorem updRecs_tasks (m : Mach) (f : Recs → Recs) : (m.updRecs f).tasks = m.tasks := rfl
@[simp] theorem updRecs_lanes (m : Mach) (f : Recs → Recs) : (m.updRecs f).lanes = m.lanes := rfl
@[simp] theorem updRecs_net (m : Mach) (f : Recs → Recs) : (m.updRecs f).net = m.net := rfl
@[simp] theorem updRecs_pair (m : Mach) (f : Recs → Recs) : (m.updRecs f).pair = m.pair := rfl
@[simp] theorem updRecs_power (m : Mach) (f : Recs → Recs) : (m.updRecs f).power = m.power := rfl
@[simp] theorem updRecs_cmd (m : Mach) (f : Recs → Recs) : (m.updRecs f).cmd = m.cmd := rfl
@[simp] theorem updRecs_hlth (m : Mach) (f : Recs → Recs) : (m.updRecs f).hlth = m.hlth := rfl
@[simp] theorem updRecs_sec (m : Mach) (f : Recs → Recs) : (m.updRecs f).sec = m.sec := rfl
@[simp] theorem updRecs_start (m : Mach) (f : Recs → Recs) : (m.updRecs f).start = m.start := rfl
@[simp] theorem updRecs_nv (m : Mach) (f : Recs → Recs) : (m.updRecs f).nv = m.nv := rfl

@[simp] theorem updSec_free (m : Mach) (f : SecSt → SecSt) : (m.updSec f).free = m.free := rfl
@[simp] theorem updSec_inReset (m : Mach) (f : SecSt → SecSt) : (m.updSec f).inReset = m.inReset := rfl
@[simp] theorem updSec_pins (m : Mach) (f : SecSt → SecSt) : (m.updSec f).pins = m.pins := rfl
@[simp] theorem updSec_sent (m : Mach) (f : SecSt → SecSt) : (m.updSec f).sent = m.sent := rfl
@[simp] theorem updSec_txq (m : Mach) (f : SecSt → SecSt) : (m.updSec f).txq = m.txq := rfl
@[simp] theorem updSec_txEnd (m : Mach) (f : SecSt → SecSt) : (m.updSec f).txEnd = m.txEnd := rfl
@[simp] theorem updSec_regs (m : Mach) (f : SecSt → SecSt) : (m.updSec f).regs = m.regs := rfl
@[simp] theorem updSec_fresh1 (m : Mach) (f : SecSt → SecSt) : (m.updSec f).fresh1 = m.fresh1 := rfl
@[simp] theorem updSec_freshC (m : Mach) (f : SecSt → SecSt) : (m.updSec f).freshC = m.freshC := rfl
@[simp] theorem updSec_tb (m : Mach) (f : SecSt → SecSt) : (m.updSec f).tb = m.tb := rfl
@[simp] theorem updSec_fr (m : Mach) (f : SecSt → SecSt) : (m.updSec f).fr = m.fr := rfl
@[simp] theorem updSec_acq (m : Mach) (f : SecSt → SecSt) : (m.updSec f).acq = m.acq := rfl
@[simp] theorem updSec_bays (m : Mach) (f : SecSt → SecSt) : (m.updSec f).bays = m.bays := rfl
@[simp] theorem updSec_set (m : Mach) (f : SecSt → SecSt) : (m.updSec f).set = m.set := rfl
@[simp] theorem updSec_group (m : Mach) (f : SecSt → SecSt) : (m.updSec f).group = m.group := rfl
@[simp] theorem updSec_stage (m : Mach) (f : SecSt → SecSt) : (m.updSec f).stage = m.stage := rfl
@[simp] theorem updSec_zone (m : Mach) (f : SecSt → SecSt) : (m.updSec f).zone = m.zone := rfl
@[simp] theorem updSec_stu (m : Mach) (f : SecSt → SecSt) : (m.updSec f).stu = m.stu := rfl
@[simp] theorem updSec_fio (m : Mach) (f : SecSt → SecSt) : (m.updSec f).fio = m.fio := rfl
@[simp] theorem updSec_tasks (m : Mach) (f : SecSt → SecSt) : (m.updSec f).tasks = m.tasks := rfl
@[simp] theorem updSec_lanes (m : Mach) (f : SecSt → SecSt) : (m.updSec f).lanes = m.lanes := rfl
@[simp] theorem updSec_net (m : Mach) (f : SecSt → SecSt) : (m.updSec f).net = m.net := rfl
@[simp] theorem updSec_pair (m : Mach) (f : SecSt → SecSt) : (m.updSec f).pair = m.pair := rfl
@[simp] theorem updSec_power (m : Mach) (f : SecSt → SecSt) : (m.updSec f).power = m.power := rfl
@[simp] theorem updSec_recs (m : Mach) (f : SecSt → SecSt) : (m.updSec f).recs = m.recs := rfl
@[simp] theorem updSec_cmd (m : Mach) (f : SecSt → SecSt) : (m.updSec f).cmd = m.cmd := rfl
@[simp] theorem updSec_hlth (m : Mach) (f : SecSt → SecSt) : (m.updSec f).hlth = m.hlth := rfl
@[simp] theorem updSec_start (m : Mach) (f : SecSt → SecSt) : (m.updSec f).start = m.start := rfl
@[simp] theorem updSec_nv (m : Mach) (f : SecSt → SecSt) : (m.updSec f).nv = m.nv := rfl

@[simp] theorem send_free (m : Mach) (x : Sent) : (m.send x).free = m.free := rfl
@[simp] theorem send_inReset (m : Mach) (x : Sent) : (m.send x).inReset = m.inReset := rfl
@[simp] theorem send_pins (m : Mach) (x : Sent) : (m.send x).pins = m.pins := rfl
@[simp] theorem send_txq (m : Mach) (x : Sent) : (m.send x).txq = m.txq := rfl
@[simp] theorem send_txEnd (m : Mach) (x : Sent) : (m.send x).txEnd = m.txEnd := rfl
@[simp] theorem send_regs (m : Mach) (x : Sent) : (m.send x).regs = m.regs := rfl
@[simp] theorem send_fresh1 (m : Mach) (x : Sent) : (m.send x).fresh1 = m.fresh1 := rfl
@[simp] theorem send_freshC (m : Mach) (x : Sent) : (m.send x).freshC = m.freshC := rfl
@[simp] theorem send_tb (m : Mach) (x : Sent) : (m.send x).tb = m.tb := rfl
@[simp] theorem send_fr (m : Mach) (x : Sent) : (m.send x).fr = m.fr := rfl
@[simp] theorem send_acq (m : Mach) (x : Sent) : (m.send x).acq = m.acq := rfl
@[simp] theorem send_bays (m : Mach) (x : Sent) : (m.send x).bays = m.bays := rfl
@[simp] theorem send_set (m : Mach) (x : Sent) : (m.send x).set = m.set := rfl
@[simp] theorem send_group (m : Mach) (x : Sent) : (m.send x).group = m.group := rfl
@[simp] theorem send_stage (m : Mach) (x : Sent) : (m.send x).stage = m.stage := rfl
@[simp] theorem send_zone (m : Mach) (x : Sent) : (m.send x).zone = m.zone := rfl
@[simp] theorem send_stu (m : Mach) (x : Sent) : (m.send x).stu = m.stu := rfl
@[simp] theorem send_fio (m : Mach) (x : Sent) : (m.send x).fio = m.fio := rfl
@[simp] theorem send_tasks (m : Mach) (x : Sent) : (m.send x).tasks = m.tasks := rfl
@[simp] theorem send_lanes (m : Mach) (x : Sent) : (m.send x).lanes = m.lanes := rfl
@[simp] theorem send_net (m : Mach) (x : Sent) : (m.send x).net = m.net := rfl
@[simp] theorem send_pair (m : Mach) (x : Sent) : (m.send x).pair = m.pair := rfl
@[simp] theorem send_power (m : Mach) (x : Sent) : (m.send x).power = m.power := rfl
@[simp] theorem send_recs (m : Mach) (x : Sent) : (m.send x).recs = m.recs := rfl
@[simp] theorem send_cmd (m : Mach) (x : Sent) : (m.send x).cmd = m.cmd := rfl
@[simp] theorem send_hlth (m : Mach) (x : Sent) : (m.send x).hlth = m.hlth := rfl
@[simp] theorem send_sec (m : Mach) (x : Sent) : (m.send x).sec = m.sec := rfl
@[simp] theorem send_start (m : Mach) (x : Sent) : (m.send x).start = m.start := rfl
@[simp] theorem send_nv (m : Mach) (x : Sent) : (m.send x).nv = m.nv := rfl

@[simp] theorem setIrq_free (m : Mach) : (m.setIrq).free = m.free := rfl
@[simp] theorem setIrq_inReset (m : Mach) : (m.setIrq).inReset = m.inReset := rfl
@[simp] theorem setIrq_sent (m : Mach) : (m.setIrq).sent = m.sent := rfl
@[simp] theorem setIrq_txq (m : Mach) : (m.setIrq).txq = m.txq := rfl
@[simp] theorem setIrq_txEnd (m : Mach) : (m.setIrq).txEnd = m.txEnd := rfl
@[simp] theorem setIrq_regs (m : Mach) : (m.setIrq).regs = m.regs := rfl
@[simp] theorem setIrq_fresh1 (m : Mach) : (m.setIrq).fresh1 = m.fresh1 := rfl
@[simp] theorem setIrq_freshC (m : Mach) : (m.setIrq).freshC = m.freshC := rfl
@[simp] theorem setIrq_tb (m : Mach) : (m.setIrq).tb = m.tb := rfl
@[simp] theorem setIrq_fr (m : Mach) : (m.setIrq).fr = m.fr := rfl
@[simp] theorem setIrq_acq (m : Mach) : (m.setIrq).acq = m.acq := rfl
@[simp] theorem setIrq_bays (m : Mach) : (m.setIrq).bays = m.bays := rfl
@[simp] theorem setIrq_set (m : Mach) : (m.setIrq).set = m.set := rfl
@[simp] theorem setIrq_group (m : Mach) : (m.setIrq).group = m.group := rfl
@[simp] theorem setIrq_stage (m : Mach) : (m.setIrq).stage = m.stage := rfl
@[simp] theorem setIrq_zone (m : Mach) : (m.setIrq).zone = m.zone := rfl
@[simp] theorem setIrq_stu (m : Mach) : (m.setIrq).stu = m.stu := rfl
@[simp] theorem setIrq_fio (m : Mach) : (m.setIrq).fio = m.fio := rfl
@[simp] theorem setIrq_tasks (m : Mach) : (m.setIrq).tasks = m.tasks := rfl
@[simp] theorem setIrq_lanes (m : Mach) : (m.setIrq).lanes = m.lanes := rfl
@[simp] theorem setIrq_net (m : Mach) : (m.setIrq).net = m.net := rfl
@[simp] theorem setIrq_pair (m : Mach) : (m.setIrq).pair = m.pair := rfl
@[simp] theorem setIrq_power (m : Mach) : (m.setIrq).power = m.power := rfl
@[simp] theorem setIrq_recs (m : Mach) : (m.setIrq).recs = m.recs := rfl
@[simp] theorem setIrq_cmd (m : Mach) : (m.setIrq).cmd = m.cmd := rfl
@[simp] theorem setIrq_hlth (m : Mach) : (m.setIrq).hlth = m.hlth := rfl
@[simp] theorem setIrq_sec (m : Mach) : (m.setIrq).sec = m.sec := rfl
@[simp] theorem setIrq_start (m : Mach) : (m.setIrq).start = m.start := rfl
@[simp] theorem setIrq_nv (m : Mach) : (m.setIrq).nv = m.nv := rfl

@[simp] theorem setFault_free (m : Mach) : (m.setFault).free = m.free := rfl
@[simp] theorem setFault_inReset (m : Mach) : (m.setFault).inReset = m.inReset := rfl
@[simp] theorem setFault_sent (m : Mach) : (m.setFault).sent = m.sent := rfl
@[simp] theorem setFault_txq (m : Mach) : (m.setFault).txq = m.txq := rfl
@[simp] theorem setFault_txEnd (m : Mach) : (m.setFault).txEnd = m.txEnd := rfl
@[simp] theorem setFault_regs (m : Mach) : (m.setFault).regs = m.regs := rfl
@[simp] theorem setFault_fresh1 (m : Mach) : (m.setFault).fresh1 = m.fresh1 := rfl
@[simp] theorem setFault_freshC (m : Mach) : (m.setFault).freshC = m.freshC := rfl
@[simp] theorem setFault_tb (m : Mach) : (m.setFault).tb = m.tb := rfl
@[simp] theorem setFault_fr (m : Mach) : (m.setFault).fr = m.fr := rfl
@[simp] theorem setFault_acq (m : Mach) : (m.setFault).acq = m.acq := rfl
@[simp] theorem setFault_bays (m : Mach) : (m.setFault).bays = m.bays := rfl
@[simp] theorem setFault_set (m : Mach) : (m.setFault).set = m.set := rfl
@[simp] theorem setFault_group (m : Mach) : (m.setFault).group = m.group := rfl
@[simp] theorem setFault_stage (m : Mach) : (m.setFault).stage = m.stage := rfl
@[simp] theorem setFault_zone (m : Mach) : (m.setFault).zone = m.zone := rfl
@[simp] theorem setFault_stu (m : Mach) : (m.setFault).stu = m.stu := rfl
@[simp] theorem setFault_fio (m : Mach) : (m.setFault).fio = m.fio := rfl
@[simp] theorem setFault_tasks (m : Mach) : (m.setFault).tasks = m.tasks := rfl
@[simp] theorem setFault_lanes (m : Mach) : (m.setFault).lanes = m.lanes := rfl
@[simp] theorem setFault_net (m : Mach) : (m.setFault).net = m.net := rfl
@[simp] theorem setFault_pair (m : Mach) : (m.setFault).pair = m.pair := rfl
@[simp] theorem setFault_power (m : Mach) : (m.setFault).power = m.power := rfl
@[simp] theorem setFault_recs (m : Mach) : (m.setFault).recs = m.recs := rfl
@[simp] theorem setFault_cmd (m : Mach) : (m.setFault).cmd = m.cmd := rfl
@[simp] theorem setFault_hlth (m : Mach) : (m.setFault).hlth = m.hlth := rfl
@[simp] theorem setFault_sec (m : Mach) : (m.setFault).sec = m.sec := rfl
@[simp] theorem setFault_start (m : Mach) : (m.setFault).start = m.start := rfl
@[simp] theorem setFault_nv (m : Mach) : (m.setFault).nv = m.nv := rfl

@[simp] theorem instantOver_free (m : Mach) : (m.instantOver).free = m.free := rfl
@[simp] theorem instantOver_inReset (m : Mach) : (m.instantOver).inReset = m.inReset := rfl
@[simp] theorem instantOver_pins (m : Mach) : (m.instantOver).pins = m.pins := rfl
@[simp] theorem instantOver_sent (m : Mach) : (m.instantOver).sent = m.sent := rfl
@[simp] theorem instantOver_txq (m : Mach) : (m.instantOver).txq = m.txq := rfl
@[simp] theorem instantOver_txEnd (m : Mach) : (m.instantOver).txEnd = m.txEnd := rfl
@[simp] theorem instantOver_regs (m : Mach) : (m.instantOver).regs = m.regs := rfl
@[simp] theorem instantOver_tb (m : Mach) : (m.instantOver).tb = m.tb := rfl
@[simp] theorem instantOver_fr (m : Mach) : (m.instantOver).fr = m.fr := rfl
@[simp] theorem instantOver_acq (m : Mach) : (m.instantOver).acq = m.acq := rfl
@[simp] theorem instantOver_bays (m : Mach) : (m.instantOver).bays = m.bays := rfl
@[simp] theorem instantOver_set (m : Mach) : (m.instantOver).set = m.set := rfl
@[simp] theorem instantOver_group (m : Mach) : (m.instantOver).group = m.group := rfl
@[simp] theorem instantOver_stage (m : Mach) : (m.instantOver).stage = m.stage := rfl
@[simp] theorem instantOver_zone (m : Mach) : (m.instantOver).zone = m.zone := rfl
@[simp] theorem instantOver_stu (m : Mach) : (m.instantOver).stu = m.stu := rfl
@[simp] theorem instantOver_fio (m : Mach) : (m.instantOver).fio = m.fio := rfl
@[simp] theorem instantOver_tasks (m : Mach) : (m.instantOver).tasks = m.tasks := rfl
@[simp] theorem instantOver_lanes (m : Mach) : (m.instantOver).lanes = m.lanes := rfl
@[simp] theorem instantOver_net (m : Mach) : (m.instantOver).net = m.net := rfl
@[simp] theorem instantOver_pair (m : Mach) : (m.instantOver).pair = m.pair := rfl
@[simp] theorem instantOver_power (m : Mach) : (m.instantOver).power = m.power := rfl
@[simp] theorem instantOver_recs (m : Mach) : (m.instantOver).recs = m.recs := rfl
@[simp] theorem instantOver_cmd (m : Mach) : (m.instantOver).cmd = m.cmd := rfl
@[simp] theorem instantOver_hlth (m : Mach) : (m.instantOver).hlth = m.hlth := rfl
@[simp] theorem instantOver_sec (m : Mach) : (m.instantOver).sec = m.sec := rfl
@[simp] theorem instantOver_start (m : Mach) : (m.instantOver).start = m.start := rfl
@[simp] theorem instantOver_nv (m : Mach) : (m.instantOver).nv = m.nv := rfl

@[simp] theorem setF_free (m : Mach) (r : Reg) (f : Fld) (v : Nat) : (m.setF r f v).free = m.free := by unfold setF fresh1Add; split <;> rfl
@[simp] theorem setF_inReset (m : Mach) (r : Reg) (f : Fld) (v : Nat) : (m.setF r f v).inReset = m.inReset := by unfold setF fresh1Add; split <;> rfl
@[simp] theorem setF_pins (m : Mach) (r : Reg) (f : Fld) (v : Nat) : (m.setF r f v).pins = m.pins := by unfold setF fresh1Add; split <;> rfl
@[simp] theorem setF_sent (m : Mach) (r : Reg) (f : Fld) (v : Nat) : (m.setF r f v).sent = m.sent := by unfold setF fresh1Add; split <;> rfl
@[simp] theorem setF_txq (m : Mach) (r : Reg) (f : Fld) (v : Nat) : (m.setF r f v).txq = m.txq := by unfold setF fresh1Add; split <;> rfl
@[simp] theorem setF_txEnd (m : Mach) (r : Reg) (f : Fld) (v : Nat) : (m.setF r f v).txEnd = m.txEnd := by unfold setF fresh1Add; split <;> rfl
@[simp] theorem setF_freshC (m : Mach) (r : Reg) (f : Fld) (v : Nat) : (m.setF r f v).freshC = m.freshC := by unfold setF fresh1Add; split <;> rfl
@[simp] theorem setF_tb (m : Mach) (r : Reg) (f : Fld) (v : Nat) : (m.setF r f v).tb = m.tb := by unfold setF fresh1Add; split <;> rfl
@[simp] theorem setF_fr (m : Mach) (r : Reg) (f : Fld) (v : Nat) : (m.setF r f v).fr = m.fr := by unfold setF fresh1Add; split <;> rfl
@[simp] theorem setF_acq (m : Mach) (r : Reg) (f : Fld) (v : Nat) : (m.setF r f v).acq = m.acq := by unfold setF fresh1Add; split <;> rfl
@[simp] theorem setF_bays (m : Mach) (r : Reg) (f : Fld) (v : Nat) : (m.setF r f v).bays = m.bays := by unfold setF fresh1Add; split <;> rfl
@[simp] theorem setF_set (m : Mach) (r : Reg) (f : Fld) (v : Nat) : (m.setF r f v).set = m.set := by unfold setF fresh1Add; split <;> rfl
@[simp] theorem setF_group (m : Mach) (r : Reg) (f : Fld) (v : Nat) : (m.setF r f v).group = m.group := by unfold setF fresh1Add; split <;> rfl
@[simp] theorem setF_stage (m : Mach) (r : Reg) (f : Fld) (v : Nat) : (m.setF r f v).stage = m.stage := by unfold setF fresh1Add; split <;> rfl
@[simp] theorem setF_zone (m : Mach) (r : Reg) (f : Fld) (v : Nat) : (m.setF r f v).zone = m.zone := by unfold setF fresh1Add; split <;> rfl
@[simp] theorem setF_stu (m : Mach) (r : Reg) (f : Fld) (v : Nat) : (m.setF r f v).stu = m.stu := by unfold setF fresh1Add; split <;> rfl
@[simp] theorem setF_fio (m : Mach) (r : Reg) (f : Fld) (v : Nat) : (m.setF r f v).fio = m.fio := by unfold setF fresh1Add; split <;> rfl
@[simp] theorem setF_tasks (m : Mach) (r : Reg) (f : Fld) (v : Nat) : (m.setF r f v).tasks = m.tasks := by unfold setF fresh1Add; split <;> rfl
@[simp] theorem setF_lanes (m : Mach) (r : Reg) (f : Fld) (v : Nat) : (m.setF r f v).lanes = m.lanes := by unfold setF fresh1Add; split <;> rfl
@[simp] theorem setF_net (m : Mach) (r : Reg) (f : Fld) (v : Nat) : (m.setF r f v).net = m.net := by unfold setF fresh1Add; split <;> rfl
@[simp] theorem setF_pair (m : Mach) (r : Reg) (f : Fld) (v : Nat) : (m.setF r f v).pair = m.pair := by unfold setF fresh1Add; split <;> rfl
@[simp] theorem setF_power (m : Mach) (r : Reg) (f : Fld) (v : Nat) : (m.setF r f v).power = m.power := by unfold setF fresh1Add; split <;> rfl
@[simp] theorem setF_recs (m : Mach) (r : Reg) (f : Fld) (v : Nat) : (m.setF r f v).recs = m.recs := by unfold setF fresh1Add; split <;> rfl
@[simp] theorem setF_cmd (m : Mach) (r : Reg) (f : Fld) (v : Nat) : (m.setF r f v).cmd = m.cmd := by unfold setF fresh1Add; split <;> rfl
@[simp] theorem setF_hlth (m : Mach) (r : Reg) (f : Fld) (v : Nat) : (m.setF r f v).hlth = m.hlth := by unfold setF fresh1Add; split <;> rfl
@[simp] theorem setF_sec (m : Mach) (r : Reg) (f : Fld) (v : Nat) : (m.setF r f v).sec = m.sec := by unfold setF fresh1Add; split <;> rfl
@[simp] theorem setF_start (m : Mach) (r : Reg) (f : Fld) (v : Nat) : (m.setF r f v).start = m.start := by unfold setF fresh1Add; split <;> rfl
@[simp] theorem setF_nv (m : Mach) (r : Reg) (f : Fld) (v : Nat) : (m.setF r f v).nv = m.nv := by unfold setF fresh1Add; split <;> rfl

@[simp] theorem bump_free (m : Mach) (r : Reg) (f : Fld) (n : Nat) : (m.bump r f n).free = m.free := by rw [bump, setF_free]; unfold freshCAdd; split <;> rfl
@[simp] theorem bump_inReset (m : Mach) (r : Reg) (f : Fld) (n : Nat) : (m.bump r f n).inReset = m.inReset := by rw [bump, setF_inReset]; unfold freshCAdd; split <;> rfl
@[simp] theorem bump_pins (m : Mach) (r : Reg) (f : Fld) (n : Nat) : (m.bump r f n).pins = m.pins := by rw [bump, setF_pins]; unfold freshCAdd; split <;> rfl
@[simp] theorem bump_sent (m : Mach) (r : Reg) (f : Fld) (n : Nat) : (m.bump r f n).sent = m.sent := by rw [bump, setF_sent]; unfold freshCAdd; split <;> rfl
@[simp] theorem bump_txq (m : Mach) (r : Reg) (f : Fld) (n : Nat) : (m.bump r f n).txq = m.txq := by rw [bump, setF_txq]; unfold freshCAdd; split <;> rfl
@[simp] theorem bump_txEnd (m : Mach) (r : Reg) (f : Fld) (n : Nat) : (m.bump r f n).txEnd = m.txEnd := by rw [bump, setF_txEnd]; unfold freshCAdd; split <;> rfl
@[simp] theorem bump_tb (m : Mach) (r : Reg) (f : Fld) (n : Nat) : (m.bump r f n).tb = m.tb := by rw [bump, setF_tb]; unfold freshCAdd; split <;> rfl
@[simp] theorem bump_fr (m : Mach) (r : Reg) (f : Fld) (n : Nat) : (m.bump r f n).fr = m.fr := by rw [bump, setF_fr]; unfold freshCAdd; split <;> rfl
@[simp] theorem bump_acq (m : Mach) (r : Reg) (f : Fld) (n : Nat) : (m.bump r f n).acq = m.acq := by rw [bump, setF_acq]; unfold freshCAdd; split <;> rfl
@[simp] theorem bump_bays (m : Mach) (r : Reg) (f : Fld) (n : Nat) : (m.bump r f n).bays = m.bays := by rw [bump, setF_bays]; unfold freshCAdd; split <;> rfl
@[simp] theorem bump_set (m : Mach) (r : Reg) (f : Fld) (n : Nat) : (m.bump r f n).set = m.set := by rw [bump, setF_set]; unfold freshCAdd; split <;> rfl
@[simp] theorem bump_group (m : Mach) (r : Reg) (f : Fld) (n : Nat) : (m.bump r f n).group = m.group := by rw [bump, setF_group]; unfold freshCAdd; split <;> rfl
@[simp] theorem bump_stage (m : Mach) (r : Reg) (f : Fld) (n : Nat) : (m.bump r f n).stage = m.stage := by rw [bump, setF_stage]; unfold freshCAdd; split <;> rfl
@[simp] theorem bump_zone (m : Mach) (r : Reg) (f : Fld) (n : Nat) : (m.bump r f n).zone = m.zone := by rw [bump, setF_zone]; unfold freshCAdd; split <;> rfl
@[simp] theorem bump_stu (m : Mach) (r : Reg) (f : Fld) (n : Nat) : (m.bump r f n).stu = m.stu := by rw [bump, setF_stu]; unfold freshCAdd; split <;> rfl
@[simp] theorem bump_fio (m : Mach) (r : Reg) (f : Fld) (n : Nat) : (m.bump r f n).fio = m.fio := by rw [bump, setF_fio]; unfold freshCAdd; split <;> rfl
@[simp] theorem bump_tasks (m : Mach) (r : Reg) (f : Fld) (n : Nat) : (m.bump r f n).tasks = m.tasks := by rw [bump, setF_tasks]; unfold freshCAdd; split <;> rfl
@[simp] theorem bump_lanes (m : Mach) (r : Reg) (f : Fld) (n : Nat) : (m.bump r f n).lanes = m.lanes := by rw [bump, setF_lanes]; unfold freshCAdd; split <;> rfl
@[simp] theorem bump_net (m : Mach) (r : Reg) (f : Fld) (n : Nat) : (m.bump r f n).net = m.net := by rw [bump, setF_net]; unfold freshCAdd; split <;> rfl
@[simp] theorem bump_pair (m : Mach) (r : Reg) (f : Fld) (n : Nat) : (m.bump r f n).pair = m.pair := by rw [bump, setF_pair]; unfold freshCAdd; split <;> rfl
@[simp] theorem bump_power (m : Mach) (r : Reg) (f : Fld) (n : Nat) : (m.bump r f n).power = m.power := by rw [bump, setF_power]; unfold freshCAdd; split <;> rfl
@[simp] theorem bump_recs (m : Mach) (r : Reg) (f : Fld) (n : Nat) : (m.bump r f n).recs = m.recs := by rw [bump, setF_recs]; unfold freshCAdd; split <;> rfl
@[simp] theorem bump_cmd (m : Mach) (r : Reg) (f : Fld) (n : Nat) : (m.bump r f n).cmd = m.cmd := by rw [bump, setF_cmd]; unfold freshCAdd; split <;> rfl
@[simp] theorem bump_hlth (m : Mach) (r : Reg) (f : Fld) (n : Nat) : (m.bump r f n).hlth = m.hlth := by rw [bump, setF_hlth]; unfold freshCAdd; split <;> rfl
@[simp] theorem bump_sec (m : Mach) (r : Reg) (f : Fld) (n : Nat) : (m.bump r f n).sec = m.sec := by rw [bump, setF_sec]; unfold freshCAdd; split <;> rfl
@[simp] theorem bump_start (m : Mach) (r : Reg) (f : Fld) (n : Nat) : (m.bump r f n).start = m.start := by rw [bump, setF_start]; unfold freshCAdd; split <;> rfl
@[simp] theorem bump_nv (m : Mach) (r : Reg) (f : Fld) (n : Nat) : (m.bump r f n).nv = m.nv := by rw [bump, setF_nv]; unfold freshCAdd; split <;> rfl

@[simp] theorem txPut_free (m : Mach) (l c n : Nat) (x : Sent) (p : TxPost) : (m.txPut l c n x p).free = m.free := by unfold txPut; split <;> rfl
@[simp] theorem txPut_inReset (m : Mach) (l c n : Nat) (x : Sent) (p : TxPost) : (m.txPut l c n x p).inReset = m.inReset := by unfold txPut; split <;> rfl
@[simp] theorem txPut_pins (m : Mach) (l c n : Nat) (x : Sent) (p : TxPost) : (m.txPut l c n x p).pins = m.pins := by unfold txPut; split <;> rfl
@[simp] theorem txPut_sent (m : Mach) (l c n : Nat) (x : Sent) (p : TxPost) : (m.txPut l c n x p).sent = m.sent := by unfold txPut; split <;> rfl
@[simp] theorem txPut_txEnd (m : Mach) (l c n : Nat) (x : Sent) (p : TxPost) : (m.txPut l c n x p).txEnd = m.txEnd := by unfold txPut; split <;> rfl
@[simp] theorem txPut_regs (m : Mach) (l c n : Nat) (x : Sent) (p : TxPost) : (m.txPut l c n x p).regs = m.regs := by unfold txPut; split <;> rfl
@[simp] theorem txPut_fresh1 (m : Mach) (l c n : Nat) (x : Sent) (p : TxPost) : (m.txPut l c n x p).fresh1 = m.fresh1 := by unfold txPut; split <;> rfl
@[simp] theorem txPut_freshC (m : Mach) (l c n : Nat) (x : Sent) (p : TxPost) : (m.txPut l c n x p).freshC = m.freshC := by unfold txPut; split <;> rfl
@[simp] theorem txPut_tb (m : Mach) (l c n : Nat) (x : Sent) (p : TxPost) : (m.txPut l c n x p).tb = m.tb := by unfold txPut; split <;> rfl
@[simp] theorem txPut_fr (m : Mach) (l c n : Nat) (x : Sent) (p : TxPost) : (m.txPut l c n x p).fr = m.fr := by unfold txPut; split <;> rfl
@[simp] theorem txPut_acq (m : Mach) (l c n : Nat) (x : Sent) (p : TxPost) : (m.txPut l c n x p).acq = m.acq := by unfold txPut; split <;> rfl
@[simp] theorem txPut_bays (m : Mach) (l c n : Nat) (x : Sent) (p : TxPost) : (m.txPut l c n x p).bays = m.bays := by unfold txPut; split <;> rfl
@[simp] theorem txPut_set (m : Mach) (l c n : Nat) (x : Sent) (p : TxPost) : (m.txPut l c n x p).set = m.set := by unfold txPut; split <;> rfl
@[simp] theorem txPut_group (m : Mach) (l c n : Nat) (x : Sent) (p : TxPost) : (m.txPut l c n x p).group = m.group := by unfold txPut; split <;> rfl
@[simp] theorem txPut_stage (m : Mach) (l c n : Nat) (x : Sent) (p : TxPost) : (m.txPut l c n x p).stage = m.stage := by unfold txPut; split <;> rfl
@[simp] theorem txPut_zone (m : Mach) (l c n : Nat) (x : Sent) (p : TxPost) : (m.txPut l c n x p).zone = m.zone := by unfold txPut; split <;> rfl
@[simp] theorem txPut_stu (m : Mach) (l c n : Nat) (x : Sent) (p : TxPost) : (m.txPut l c n x p).stu = m.stu := by unfold txPut; split <;> rfl
@[simp] theorem txPut_fio (m : Mach) (l c n : Nat) (x : Sent) (p : TxPost) : (m.txPut l c n x p).fio = m.fio := by unfold txPut; split <;> rfl
@[simp] theorem txPut_tasks (m : Mach) (l c n : Nat) (x : Sent) (p : TxPost) : (m.txPut l c n x p).tasks = m.tasks := by unfold txPut; split <;> rfl
@[simp] theorem txPut_lanes (m : Mach) (l c n : Nat) (x : Sent) (p : TxPost) : (m.txPut l c n x p).lanes = m.lanes := by unfold txPut; split <;> rfl
@[simp] theorem txPut_net (m : Mach) (l c n : Nat) (x : Sent) (p : TxPost) : (m.txPut l c n x p).net = m.net := by unfold txPut; split <;> rfl
@[simp] theorem txPut_pair (m : Mach) (l c n : Nat) (x : Sent) (p : TxPost) : (m.txPut l c n x p).pair = m.pair := by unfold txPut; split <;> rfl
@[simp] theorem txPut_power (m : Mach) (l c n : Nat) (x : Sent) (p : TxPost) : (m.txPut l c n x p).power = m.power := by unfold txPut; split <;> rfl
@[simp] theorem txPut_recs (m : Mach) (l c n : Nat) (x : Sent) (p : TxPost) : (m.txPut l c n x p).recs = m.recs := by unfold txPut; split <;> rfl
@[simp] theorem txPut_cmd (m : Mach) (l c n : Nat) (x : Sent) (p : TxPost) : (m.txPut l c n x p).cmd = m.cmd := by unfold txPut; split <;> rfl
@[simp] theorem txPut_hlth (m : Mach) (l c n : Nat) (x : Sent) (p : TxPost) : (m.txPut l c n x p).hlth = m.hlth := by unfold txPut; split <;> rfl
@[simp] theorem txPut_sec (m : Mach) (l c n : Nat) (x : Sent) (p : TxPost) : (m.txPut l c n x p).sec = m.sec := by unfold txPut; split <;> rfl
@[simp] theorem txPut_start (m : Mach) (l c n : Nat) (x : Sent) (p : TxPost) : (m.txPut l c n x p).start = m.start := by unfold txPut; split <;> rfl
@[simp] theorem txPut_nv (m : Mach) (l c n : Nat) (x : Sent) (p : TxPost) : (m.txPut l c n x p).nv = m.nv := by unfold txPut; split <;> rfl

end Sys2Proof.Machine.Mach
end

