-- ==== Sys2Proof/Tests/Slice0.lean ====
section
/-! SUPPORT. Tests: a witness for the conditions of the obligations,
    clause by clause (a clause whose condition rests on an opaque constant of
Config has none, but for MKEY_LOAD, whose witness names it); ill-formed commands refused; worked examples of the spec. -/

open Sys2Proof Sys2Proof.Machine
set_option maxRecDepth 4000
namespace Sys2Proof.Tests
/-- A session with the maintenance role. -/
def x1 : Session :=
  { num := 1, udp := false, ip := 0, port := 0, nip := 0, nport := 0, lastSeq := 0, nseq := 0, nseqAck := 0, maint := true, roleKey := 0,
    evtMask := 0, flags := 0, nonce := none, reply := none, lastReq := 0, lost := 0, xfers := [], report := none }
/-- An instant n ns before MON of blk. -/
def ago (n : Nat) : Time := 10000000000000 - BitVec.ofNat 64 n
/-- The block 10 000 s after reset, READY, with one session, at the trigger of a frame. -/
def blk : Mach :=
  { (Mach.init.setF .glbStat F.glbStat_FEAT_DONE 1).setF .glbStat F.glbStat_PROT_READY 1 with
    start := { Start.init with phase := 6, kindEff := 2 }, tb := { Tb.init with mon := ago 0, ltc := (ago 0).setWidth 96 <<< 32 },
    fr := { Frame.init with started := true, sec := 10000, trigMon := ago 0, trigLtc := ago 0 },
    cmd := { Cmd.init with slots := [some x1, none, none, none], lastNum := 1 } }
/-- The same n ns after the trigger. -/
def trig (n : Nat) : Mach := { blk with fr := { blk.fr with trigMon := ago n, trigLtc := ago n } }
/-- The same after the cut-off, with the samples released. -/
def run (n : Nat) : Mach := { trig n with fr := { (trig n).fr with cutOff := true, setDone := true } }
/-- The same past the bays' deadline. -/
def late (n : Nat) : Mach := { run n with fr := { (run n).fr with deadline := true, zeReleased := true } }
/-- The same with the flags read. -/
def bind (n : Nat) : Mach := { late n with fr := { (late n).fr with arcRead := true } }
/-- The same with the field supply NORMAL. -/
def w0 : Mach := { blk with fio := { blk.fio with band := 0 } }
/-- The same with the pair feature. -/
def wp : Mach := blk.wr (.glbFeatAcc 0) 8
/-- A bay's released inputs. -/
def inp : BayIn :=
  { fseq := 0, slots := [], set := [], group := 0, test := false,
    img := { filt := 0, valid := 0, rb := 0, pts := [], goose := [], bf := 0, openLoad := 0, test := false },
    mon := 0, demand := false, clrMot := 0, clrEnergy := false, own := false }
/-- An ASDU. -/
def asdu : Asdu := { confRev := 0, idCrc := 0, smpCnt := 0, smpSynch := 2, gm := none, vals := [] }
/-- A class A stitch. -/
def stitch7 : Stitch :=
  { id := 7, st := .opened, src := .host ⟨1, 0, 0⟩, acts := [], bay := none, obj := none, close := false, parts := [], prepSent := false,
    b := 0, tc := 0, castMon := 0, selTmo := 0, prepDl := 0, commitDl := 0, bindLtc := 0, opWaiter := none, remote := 0 }
/-- A program of one instruction. -/
def prog3 (op a i : Nat) : Prog :=
  { hdr := { format := 0, nCode := 1, nK := 8, mBits := 64, nT := 1, nC := 1, nE := 8, nInst := 0, eRet := 0, mRetLo := 0, mRetHi := 0,
             tRet := 0, cRet := 0 },
    code := [instrWord op a i], k := [], inst := [], e := [], crc := 0, bytes := [] }
/-- A cycle of it, begun at t. -/
def cycAt (t : Time) : Cycle :=
  { monS := t, snap := { start := [], oper := [], meas := [], filt := 0, valid := 0, low := 0, rb := 0, pts := [], goose := [], sys := [],
                         bay0 := [], bf := [], fseq := 0 },
    work := { m := [], t := [], c := [], e := [] }, out := { q := [], pts := [], memb := [], bf := [], cmd := [] }, acc := false, wacc := 0,
    stack := [], pc := 0, arith := false, wrote := [] }
/-- The same with a value in WACC. -/
def cyc3 (v : Word) : Cycle := { cycAt (ago 0) with wacc := v }
/-- Task 3 in that cycle. -/
def task3 (op a i : Nat) (v : Word) : Task := { Task.init with st := .run, prog := some (prog3 op a i), cyc := some (cyc3 v) }
/-- The block with task 3 in that cycle. -/
def run3 (op a i : Nat) (v : Word) : Mach := { blk with tasks := [Task.init, Task.init, Task.init, task3 op a i v] }
/-- A HOLD. -/
def holdS : HoldSt := { entered := 0, tStart := 0, oldPath := 0, news := [], offs := [], backCnt := 0, dev := none }
/-- The block with PTP on both ports. -/
def ptpB : Mach := ((blk.updLane 0 (fun x => { x with st := .up })).updLane 1 (fun x =>
    { x with st := .up })).setF .tbCtrl F.tbCtrl_PTP_EN 1
/-- The same with a request sent 1 s ago and a stamp queue. -/
def ptpQ (q : List (Nat × Time)) : Mach :=
  (ptpB.updPtp 1 (fun p => { p with reqMon := some (ago 1000000000) })).updTb (fun t => { t with tsq := [[], q, [], []] })
/-- A frame on lane 3. -/
def frm : MacFrame :=
  { lane := 3, fcs := true, cut := false, len := 1528, tag := none, double := false, dst := 0, src := 0, etype := 0x88B8, red := none,
    bytes := [], body := .other }
/-- The block with GOOSE subscription 127. -/
def gooB : Mach := blk.setF (.gsubCfg 127) F.gsubCfg_EN 1
/-- A block with swap group 3's banks loaded. -/
def swg3 : Mach :=
  let b := ((List.range 64).map (fun _ => (65536 : Int)), (List.range 160).map (fun _ => (0 : Int)))
  { blk with acq := { blk.acq with swgs := [(3, { bankA := some b, bankB := some b, swapAt := none })] } }

/-- The block with GLX on and station 255 (DEVID 9) in a state. -/
def staB (x : Sta) : Mach :=
  let m := (blk.setF .netCtrl F.netCtrl_GLX_EN 1).setF (.staCfg 255) F.staCfg_DEVID 9
  ((m.setF (.staCfg 255) F.staCfg_LANE 1).updLane 1 (fun x => { x with st := .up })).updSta 255 (fun _ => x)
/-- A station of no points. -/
def sta0 : Sta :=
  { st := .waiting, layout := some ⟨0, 0, 0, 0⟩, mac := 7, lastInput := ago 0, lastFrame := ago 0, seq := none, vals := [], errs := [],
    leftLive := none }
/-- The header of a frame of DEVID 9 with n octets. -/
def gh (n : Nat) : GlxHdr :=
  { ver := 1, flags := 128, resv := 0, dst := 0, src := 9, seq := 1, len := n, claim := 0, stitch := 7, mac := 7, lane := 1 }
/-- A report entry. -/
def coal0 : Coal :=
  { code := 1, subject := 1, firstLtc := 0, lastLtc := 0, lastMon := ago 0, count := 1, nOther := 0, bitmap := [], reporter := 9 }
/-- The block of a pair in a role. -/
def pairB (r : Role) : Mach :=
  ((wp.updPair (fun p => { p with role := r })).updLane 2 (fun x => { x with st := .up })).setF (.lnCfg 2) F.lnCfg_ROLE 1
/-- A heartbeat of an ACTIVE peer. -/
def hb0 : Hb := { role := .active, sync := true, m2Pending := false, switchAnn := false, claim := 0x0001F000, switchTag := 0, tag := 0 }
/-- An M0 set. -/
def m0s : M0Set :=
  { tag := 0, mon := 0, latch := [], bays := [], zone := Zone.init, cmds := 0, opens := [], lastId := 0, tasks := [], outs := [] }
/-- Data of a task. -/
def rd0 : RetData := { crc := 0, k := [], m := [], t := [], c := [], e := [] }

/-- BIST passed, every image and area read back well. -/
def hw0 : HwDone := { bist := [], badProg := [], badImg := [], badRet := [], badSr := [] }
/-- A retentive image. -/
def img0 : RetImg :=
  { seq := 1, ltc := 0, locked := true, fseq := 0,
    prot := { set := [], group := [], regs := [], outLatch := [], theta := [], mot := [], energy := [] }, tasks := [] }
/-- A disturbance record whose last row is stored. -/
def drun : DrRun :=
  { body := { recNo := 1, test := false, linked := false, trMissed := false, damaged := false, step := false, preShort := false,
              prevRec := 0, trigKind := 3, trigArg := 0, nTrig := 1, trigLtc := 0, trigFseq := 0, firstFseq := 0, nPre := 0,
              firstInstant := 0, dAlign := 0, stepFseq := 0, stepEff := 0, trFirst := 0, trPorts := 0, rows := [], tr := [],
              anTable := [], binTable := [], blocks := [] },
    endFseq := 0, want := 0, done := true }

/-- The header of the session's next request. -/
def hd : Hdr := { udp := false, ip := 0, port := 0, session := 1, seq := 1 }
/-- A session on UDP, its header, and the block with it. -/
def xU : Session := { x1 with udp := true }
def hdU : Hdr := { hd with udp := true }
def udpB : Mach :=
  { ((blk.setF .cmdCfg F.cmdCfg_UDP_EN 1).setF .svcCfg F.svcCfg_EN 1).updLane 4 (fun x => { x with st := .up }) with cmd := { blk.cmd with slots := [some xU, none, none, none] } }
/-- A session that stages an image, and the block with it. -/
def x2 : Session := { x1 with xfers := [{ kind := 2, target := 4, format := 0, total := 9, data := [1, 2, 3, 4] }] }
def stgB : Mach := { blk with cmd := { blk.cmd with slots := [some x2, none, none, none] } }
/-- An image of one END. -/
def progImg : List Byte :=
  let l := beBytes 4 0x474C5047 ++ [0, 1, 0, 0, 0, 0, 0, 1] ++ zeros 23 ++ [1] ++ zeros 28 ++ [0x7F, 0, 0, 0]
  l ++ beBytes 4 (crc32c l).toNat
/-- The block in frame 100 with subscription 63 waiting, sixteen samples around now kept. -/
def svB : Mach :=
  ({ blk with fr := { blk.fr with fseq := 100 } } : Mach).updSub 63 (fun x => { x with st := 1, hist := (List.range 16).map (fun i =>
    { cnt := 15 - i, t := ((10000007500000 : Nat) : Rat) - i * 1000000, vals := [], sim := false, bridged := false, tq := false, arr := 0 }) })
/-- A block that is up meets P. -/
def Met (P : Mach → Prop) (m : Mach) : Prop := m.up ∧ P m
/-- A block out of reset meets P. -/
def MetLive (P : Mach → Prop) (m : Mach) : Prop := m.inReset = false ∧ P m
/-- A request with the payload p is ready on m and meets P. -/
def Ready (op : Nat) (p : List Byte) (m : Mach) (P : Mach → Session → RawReq → Prop) : Prop :=
  m.up ∧ m.ready x1 op hd p ∧ P (m.taken x1 (reqOf hd op p)) x1 (reqOf hd op p)
/-- What holds of the one thing found holds of all found. -/
theorem all_some {α : Type} {p : α → Prop} {o : Option α} {a : α} (h : o = some a) (hp : p a) : ∀ t, o = some t → p t := by
  intro t ht; rw [h] at ht; cases ht; exact hp
/-- What nothing is found for holds of all found. -/
theorem all_none {α : Type} {p : α → Prop} {o : Option α} (h : o = none) : ∀ t, o = some t → p t := by
  intro t ht; rw [h] at ht; cases ht

/-- RegisterAddresses: each clause's conditions are met. -/
theorem witness_RegisterAddresses :
    Ready 0x0101 (beBytes 4 0xDFFFC ++ beBytes 4 0x20000) (blk) (fun _ _ q => q.len = 8 ∧ 1 ≤ q.h 4 ∧ q.h 4 ≤ 1024 ∧
        (q.d 0 % 4 ≠ 0 ∨ 0xE0000 < q.d 0 + 4 * q.h 4)) ∧
    Ready 0x0102 (beBytes 4 2 ++ beBytes 4 0x10000 ++ beBytes 4 0) (blk) (fun _ _ q => 1 ≤ q.h 4 ∧ q.h 4 ≤ 1022 ∧ q.len = 8 + 4 * q.h 4 ∧
        (q.d 0 % 4 ≠ 0 ∨ 0xE0000 < q.d 0 + 4 * q.h 4)) ∧
    Ready 0x0103 (beBytes 4 0xE0000 ++ zeros 8) (blk) (fun _ _ q => q.len = 12 ∧ (q.d 0 % 4 ≠ 0 ∨ 0xE0000 < q.d 0 + 4)) := by
  refine ⟨?_, ?_, ?_⟩
  · repeat' apply And.intro
    all_goals first | decide +kernel | rfl
  · repeat' apply And.intro
    all_goals first | decide +kernel | rfl
  · repeat' apply And.intro
    all_goals first | decide +kernel | rfl

/-- FrameTriggerAndCutOff: each clause's conditions are met. -/
theorem witness_FrameTriggerAndCutOff :
    MetLive (fun m => m.frameDue = true) ({ blk with fr := { blk.fr with sec := 9999, fcnt := 14399 } }) ∧
    MetLive (fun m => m.ltc.toNat < targetNs m.nextFrame) (blk) ∧
    Met (fun m => m.fr.started = true ∧ m.fr.guard = false ∧ m.fr.cutOff = false ∧ 6000 ≤ m.tau) (trig 6000) ∧
    Met (fun m => m.fr.started = false ∨ m.fr.guard = true ∨ m.fr.cutOff = true ∨ m.tau < 6000) (trig 5999) := by
  refine ⟨?_, ?_, ?_, ?_⟩
  · repeat' apply And.intro
    all_goals first | decide +kernel | rfl
  · repeat' apply And.intro
    all_goals first | decide +kernel | rfl
  · repeat' apply And.intro
    all_goals first | decide +kernel | rfl
  · repeat' apply And.intro
    all_goals first | decide +kernel | rfl

/-- BayEngineFrame: each clause's conditions are met. -/
theorem witness_BayEngineFrame :
    Met (fun m => m.fr.started = true ∧ m.fr.guard = false ∧ m.fr.cutOff = true ∧ m.fr.setDone = false ∧
        m.tau ≤ 8000) ({ blk with fr := { blk.fr with cutOff := true } }) ∧
    ((fun e b i => Met (fun m => e < 34 ∧ m.fr.cutOff = true ∧ m.fr.setDone = true ∧ m.bayOn e = some b ∧ m.tau ≤ 44000 ∧
        m.fr.deadline = false ∧ m.fenced e = false ∧ (m.bay b).comp = some i ∧
        i.fseq = m.fr.fseq) ((run 44000).updBay 31 (fun x => { x with comp := some inp }))) (31) (31) (inp)) ∧
    ((fun e b i => Met (fun m => e < 34 ∧ m.fr.cutOff = true ∧ m.fr.setDone = true ∧ m.bayOn e = some b ∧ m.fr.deadline = true ∧
        m.fenced e = false ∧ (m.bay b).comp = some i ∧
        i.fseq = m.fr.fseq) ((late 44001).updBay 31 (fun x => { x with comp := some inp }))) (31) (31) (inp)) ∧
    Met (fun m => m.fr.started = true ∧ m.fr.guard = false ∧ m.fr.cutOff = true ∧ m.fr.setDone = true ∧ m.fr.deadline = false ∧
        44000 ≤ m.tau) (run 44000) := by
  refine ⟨?_, ?_, ?_, ?_⟩
  · repeat' apply And.intro
    all_goals first | decide +kernel | rfl
  · repeat' apply And.intro
    all_goals first | decide +kernel | rfl
  · repeat' apply And.intro
    all_goals first | decide +kernel | rfl
  · repeat' apply And.intro
    all_goals first | decide +kernel | rfl

/-- ZoneFrameAndArcReading: each clause's conditions are met. -/
theorem witness_ZoneFrameAndArcReading :
    ((fun d r nr => Met (fun m => m.fr.deadline = true ∧ m.zone.next = some (d, r, nr) ∧ m.fenced 34 = false ∧ r.fseq = m.fr.fseq ∧
        m.fr.zeLate = false ∧ m.tau ≤ 56000) ({ late 56000 with zone := { blk.zone with next := some (ZoneD.init, ZRes.none, 0) } })) (ZoneD.init) (ZRes.none) (0)) ∧
    ((fun d r nr => Met (fun m => m.fr.deadline = true ∧ m.zone.next = some (d, r, nr) ∧ m.fenced 34 = false ∧ r.fseq = m.fr.fseq ∧
        m.fr.zeLate = true ∧ m.fr.binding = true) ({ { late 56001 with zone := { blk.zone with next := some (ZoneD.init, ZRes.none, 0) } } with fr := { (late 56001).fr with zeLate := true, binding := true } })) (ZoneD.init) (ZRes.none) (0)) ∧
    Met (fun m => m.fr.started = true ∧ m.fr.guard = false ∧ m.fr.arcRead = false ∧ 48000 ≤ m.tau) (trig 48000) ∧
    ((fun b p (xs : List Int) c k => Met (fun m => b < 32 ∧ p < 16 ∧ c < 3 ∧ k < 4 ∧ (m.port p).st = .run ∧ m.fenced (52 + p) = false ∧
        m.slotOnPort b c p = true ∧ m.zcfg 0x54 k 0 = 1 ∧ (maskOf (m.zcfg 0x54 k 3)).testBit b = true ∧
        m.arcOver k b c p xs = true) ({ ((((blk.setF (.slotMap 31 2) F.slotMap_KIND 1).setF (.slotMap 31 2) F.slotMap_PORT 15).updPort 15 (fun x => { x with st := .run })) : Mach).wr (.slotScale 31 2) 0x3F800000 with set := setPut (setPut blk.set 32 0 (pidOf 0x54 3 0) 1) 32 0 (pidOf 0x54 3 3) (-2147483648) })) (31) (15) (List.replicate 9 8388607) (2) (3)) ∧
    ((fun b p (xs : List Int) => Met (fun m => b < 32 ∧ p < 16 ∧
        ∀ c k, c < 3 → k < 4 → m.slotOnPort b c p = true → m.zcfg 0x54 k 0 = 1 → (maskOf (m.zcfg 0x54 k 3)).testBit b = true → m.arcOver k b c p xs = false) (blk)) (31) (15) ([])) := by
  refine ⟨?_, ?_, ?_, ?_, ?_⟩
  · repeat' apply And.intro
    all_goals first | decide +kernel | rfl
  · repeat' apply And.intro
    all_goals first | decide +kernel | rfl
  · repeat' apply And.intro
    all_goals first | decide +kernel | rfl
  · repeat' apply And.intro
    all_goals first | decide +kernel | rfl
  · exact ⟨⟨rfl, by decide⟩, by decide, by decide,
      fun c k hc hk _ h => absurd h (by rcases (show k = 0 ∨ k = 1 ∨ k = 2 ∨ k = 3 by omega) with rfl | rfl | rfl | rfl <;> decide +kernel)⟩

/-- StitchBindingBindsTheFrame: each clause's conditions are met. -/
theorem witness_StitchBindingBindsTheFrame :
    Met (fun m => m.fr.started = true ∧ m.fr.guard = false ∧ m.fr.binding = false ∧ m.fr.bindHeld = false ∧ 56000 ≤ m.tau ∧
        m.fr.deadline = true ∧ m.fr.arcRead = true) ({ bind 56000 with fr := { (bind 56000).fr with zeDone := true } }) ∧
    Met (fun m => m.fr.started = false ∨ m.fr.guard = true ∨ m.fr.binding = true ∨ m.fr.bindHeld = true ∨ m.tau < 56000) (bind 55999) := by
  refine ⟨?_, ?_⟩
  · repeat' apply And.intro
    all_goals first | decide +kernel | rfl
  · repeat' apply And.intro
    all_goals first | decide +kernel | rfl

/-- BindingCompleteAndGuardInterval: each clause's conditions are met. -/
theorem witness_BindingCompleteAndGuardInterval :
    Met (fun m => m.fr.binding = true ∧ m.fr.bound = false) ({ bind 62000 with fr := { (bind 62000).fr with binding := true } }) ∧
    Met (fun m => (m.fr.binding = false ∨ m.fr.bound = true) ∧
        m.fr.bindPend = true) ({ trig 1000 with fr := { (trig 1000).fr with binding := true, bound := true, bindPend := true } }) ∧
    Met (fun m => (m.fr.binding = false ∨ m.fr.bound = true) ∧ m.fr.bindPend = false) (bind 56000) ∧
    Met (fun m => m.fr.started = true ∧ m.fr.guard = false ∧ 62000 ≤ m.tau ∧
        (m.fr.binding = true ∨ m.fr.bindHeld = true)) ({ bind 62000 with fr := { (bind 62000).fr with bindHeld := true } }) ∧
    Met (fun m => m.fr.started = false ∨ m.fr.guard = true ∨ m.tau < 62000) (trig 61999) ∧
    ((fun b => Met (fun m => b < 32 ∧ m.fr.guard = true ∧ (m.bay b).comp = none ∧
        (m.bay b).wait = none) ({ blk with fr := { blk.fr with guard := true } })) (31)) ∧
    ((fun b => Met (fun m => b < 32 ∧
        (m.fr.guard = false ∨ (m.bay b).comp.isSome = true ∨ (m.bay b).wait.isSome = true)) ({ blk.updBay 31 (fun x => { x with comp := some inp }) with fr := { blk.fr with guard := true } })) (31)) := by
  refine ⟨?_, ?_, ?_, ?_, ?_, ?_, ?_⟩
  · repeat' apply And.intro
    all_goals first | decide +kernel | rfl
  · repeat' apply And.intro
    all_goals first | decide +kernel | rfl
  · repeat' apply And.intro
    all_goals first | decide +kernel | rfl
  · repeat' apply And.intro
    all_goals first | decide +kernel | rfl
  · repeat' apply And.intro
    all_goals first | decide +kernel | rfl
  · repeat' apply And.intro
    all_goals first | decide +kernel | rfl
  · repeat' apply And.intro
    all_goals first | decide +kernel | rfl

/-- VcoreStepAndSramErrors: each clause's conditions are met. -/
theorem witness_VcoreStepAndSramErrors :
    ((fun (r : Rat) => Met (fun m => m.fr.vcoreOn = true ∧ 144 ≤ m.fr.vcoreCnt ∧ m.fr.worst = some r ∧
        (r < 1 / 4 → m.fld .vcoreStat F.vcoreStat_VCORE_MV ≠ 900)) ({ blk.setF .vcoreStat F.vcoreStat_VCORE_MV 895 with fr := { blk.fr with vcoreOn := true, vcoreCnt := 144, worst := some (1 / 5) } })) (1 / 5)) ∧
    ((fun (r : Rat) => Met (fun m => m.fr.vcoreOn = true ∧ 144 ≤ m.fr.vcoreCnt ∧ m.fr.worst = some r ∧ r < 1 / 4 ∧
        m.fld .vcoreStat F.vcoreStat_VCORE_MV = 900) ({ blk.setF .vcoreStat F.vcoreStat_VCORE_MV 900 with fr := { blk.fr with vcoreOn := true, vcoreCnt := 144, worst := some (1 / 5) } })) (1 / 5)) ∧
    Met (fun m => m.fr.vcoreOn = true ∧ 144 ≤ m.fr.vcoreCnt ∧
        m.fr.worst = none) ({ blk.setF .vcoreStat F.vcoreStat_VCORE_MV 900 with fr := { blk.fr with vcoreOn := true, vcoreCnt := 144, worst := none } }) ∧
    Met (fun m => m.fr.vcoreOn = false ∨ m.fr.vcoreCnt < 144) ({ blk.setF .vcoreStat F.vcoreStat_VCORE_MV 900 with fr := { blk.fr with vcoreOn := true, vcoreCnt := 143, worst := some (1 / 5) } }) ∧
    ((fun (r : SramRegion) d => Met (fun m => wfRegion r = true ∧ m.sramOwner r = .dom d ∧ d < 132) (blk)) (.engineLocal 31) (31)) ∧
    ((fun (r : SramRegion) d => Met (fun m => wfRegion r = true ∧ m.sramOwner r = .dom d ∧ d < 132) (blk)) (.bayResult 31) (31)) ∧
    ((fun (r : SramRegion) => Met (fun m => wfRegion r = true ∧ m.sramOwner r = .rmc) (blk)) (.alignRing)) ∧
    ((fun (r : SramRegion) => Met (fun m => wfRegion r = true ∧ m.sramOwner r = .rmc) (blk)) (.systemTables)) ∧
    ((fun (r : SramRegion) => Met (fun m => wfRegion r = true ∧ m.sramOwner r = .sec) (blk)) (.secPrivate)) := by
  refine ⟨?_, ?_, ?_, ?_, ?_, ?_, ?_, ?_, ?_⟩
  · repeat' apply And.intro
    all_goals first | decide +kernel | rfl
  · repeat' apply And.intro
    all_goals first | decide +kernel | rfl
  · repeat' apply And.intro
    all_goals first | decide +kernel | rfl
  · repeat' apply And.intro
    all_goals first | decide +kernel | rfl
  · repeat' apply And.intro
    all_goals first | decide +kernel | rfl
  · repeat' apply And.intro
    all_goals first | decide +kernel | rfl
  · repeat' apply And.intro
    all_goals first | decide +kernel | rfl
  · repeat' apply And.intro
    all_goals first | decide +kernel | rfl
  · repeat' apply And.intro
    all_goals first | decide +kernel | rfl

/-- ModulatorClocksAndPorts: each clause's conditions are met. -/
theorem witness_ModulatorClocksAndPorts :
    ((fun ses x w => Met (fun m => m.mayWrite x ses .acqCtrl w) (blk)) (1) (x1) ((blk.rd .acqCtrl))) ∧
    ((fun c => Met (fun m => c < 2 ∧ m.mclkEn c = true ∧
        m.flag .acqStat (Mach.mclkLockF c) = false) (((blk.setF .acqCtrl F.acqCtrl_MCLK0_EN 1).setF .acqCtrl F.acqCtrl_MCLK1_EN 1))) (1)) ∧
    ((fun c => Met (fun m => c < 2 ∧
        (m.mclkEn c = false ∨ m.flag .acqStat (Mach.mclkLockF c) = true)) (((blk.setF .acqCtrl F.acqCtrl_MCLK0_EN 1).setF .acqCtrl F.acqCtrl_MCLK1_EN 1).setF .acqStat F.acqStat_MCLK1_LOCK 1)) (1)) ∧
    ((fun c => Met (fun m => c < 2 ∧ m.mclkEn c = true ∧
        m.flag .acqStat (Mach.mclkLockF c) = true) (((blk.setF .acqCtrl F.acqCtrl_MCLK0_EN 1).setF .acqCtrl F.acqCtrl_MCLK1_EN 1).setF .acqStat F.acqStat_MCLK0_LOCK 1)) (0)) ∧
    ((fun c => Met (fun m => c < 2 ∧
        (m.mclkEn c = false ∨ m.flag .acqStat (Mach.mclkLockF c) = false)) (((blk.setF .acqCtrl F.acqCtrl_MCLK0_EN 1).setF .acqCtrl F.acqCtrl_MCLK1_EN 1))) (0)) ∧
    ((fun p => Met (fun m => p < 16 ∧ m.portEn p = true ∧ m.fenced (52 + p) = false ∧ m.clkLocked p = true ∧ (m.port p).st ≠ .stuck ∧
        (m.port p).st ≠ .off) ((((blk.setF (.modCfg 15) F.modCfg_EN 1).setF .acqStat F.acqStat_MCLK0_LOCK 1).updPort 15 (fun x =>
        { x with st := .run })))) (15)) ∧
    ((fun p => Met (fun m => p < 16 ∧ m.portEn p = true ∧ m.fenced (52 + p) = false ∧
        (m.port p).st = .stuck) ((((blk.setF (.modCfg 15) F.modCfg_EN 1).setF .acqStat F.acqStat_MCLK0_LOCK 1).updPort 15 (fun x =>
        { x with st := .stuck })))) (15)) ∧
    ((fun p => Met (fun m => p < 16 ∧
        (m.portEn p = false ∨ m.fenced (52 + p) = true ∨ (m.port p).st ≠ .stuck)) ((((blk.setF (.modCfg 15) F.modCfg_EN 1).setF .acqStat F.acqStat_MCLK0_LOCK 1).updPort 15 (fun x => { x with st := .run })))) (15)) ∧
    ((fun ses x p w => Met (fun m => p < 16 ∧ m.mayWrite x ses (.modCfg p) w ∧ F.modCfg_EN.get (m.rd (.modCfg p)) = 0 ∧
        F.modCfg_EN.get (m.newWord (.modCfg p) w) = 1 ∧ 4 ≤ m.start.phase ∧
        m.fenced (52 + p) = false) (blk)) (1) (x1) (15) (F.modCfg_EN.set (blk.rd (.modCfg 15)) 1)) ∧
    ((fun ses x p w => Met (fun m => p < 16 ∧ m.mayWrite x ses (.modCfg p) w ∧ F.modCfg_EN.get (m.rd (.modCfg p)) = 0 ∧
        F.modCfg_EN.get (m.newWord (.modCfg p) w) = 1 ∧
        (m.start.phase < 4 ∨ m.fenced (52 + p) = true)) ({ blk with start := { blk.start with phase := 3 } })) (1) (x1) (15) (F.modCfg_EN.set (blk.rd (.modCfg 15)) 1)) ∧
    ((fun ses x p w => Met (fun m => p < 16 ∧ m.mayWrite x ses (.modCfg p) w ∧ F.modCfg_EN.get (m.rd (.modCfg p)) = 1 ∧
        F.modCfg_EN.get (m.newWord (.modCfg p) w) = 0) ((((blk.setF (.modCfg 15) F.modCfg_EN 1).setF .acqStat F.acqStat_MCLK0_LOCK 1).updPort 15 (fun x => { x with st := .run })))) (1) (x1) (15) ((blk.rd (.modCfg 15)))) ∧
    ((fun ses x p w => Met (fun m => p < 16 ∧ m.mayWrite x ses (.modGain p) w) (blk)) (1) (x1) (15) ((blk.rd (.modGain 15)))) ∧
    ((fun ses x p w => Met (fun m => p < 16 ∧ m.mayWrite x ses (.modOffset p) w) (blk)) (1) (x1) (15) (0)) := by
  refine ⟨?_, ?_, ?_, ?_, ?_, ?_, ?_, ?_, ?_, ?_, ?_, ?_, ?_⟩
  · repeat' apply And.intro
    all_goals first | decide +kernel | rfl
  · repeat' apply And.intro
    all_goals first | decide +kernel | rfl
  · repeat' apply And.intro
    all_goals first | decide +kernel | rfl
  · repeat' apply And.intro
    all_goals first | decide +kernel | rfl
  · repeat' apply And.intro
    all_goals first | decide +kernel | rfl
  · repeat' apply And.intro
    all_goals first | decide +kernel | rfl
  · repeat' apply And.intro
    all_goals first | decide +kernel | rfl
  · repeat' apply And.intro
    all_goals first | decide +kernel | rfl
  · repeat' apply And.intro
    all_goals first | decide +kernel | rfl
  · repeat' apply And.intro
    all_goals first | decide +kernel | rfl
  · repeat' apply And.intro
    all_goals first | decide +kernel | rfl
  · repeat' apply And.intro
    all_goals first | decide +kernel | rfl
  · repeat' apply And.intro
    all_goals first | decide +kernel | rfl

/-- CoefficientAccessAndSwap: each clause's conditions are met. -/
theorem witness_CoefficientAccessAndSwap :
    ((fun ses x w => Met (fun m => m.mayWrite x ses .coefData w) ((blk.setF .coefAddr F.coefAddr_BANK 1))) (1) (x1) (0)) ∧
    ((fun ses x => Met (fun m => m.sess ses = some x ∧ m.start.recovery = false) (blk)) (1) (x1)) ∧
    ((fun ses x g w => Met (fun m => g < 4 ∧
        m.mayWrite x ses (.swgCtrl g) w) ((swg3.wr (.swgFseq 3) 1))) (1) (x1) (3) (F.swgCtrl_ARM.set (F.swgCtrl_USE_FSEQ.set 0 1) 1)) := by
  refine ⟨?_, ?_, ?_⟩
  · repeat' apply And.intro
    all_goals first | decide +kernel | rfl
  · repeat' apply And.intro
    all_goals first | decide +kernel | rfl
  · repeat' apply And.intro
    all_goals first | decide +kernel | rfl

/-- SampledValues: each clause's conditions are met. -/
theorem witness_SampledValues :
    ((fun ln mac appid l n => Met (fun m => ln < 4 ∧ m.ethUp ln = true ∧ m.subFor false mac appid = some n ∧ (m.sub n).st ≠ 0 ∧
        m.fenced (68 + n) = false ∧ 0 < l.length ∧
        l.length ≤ 8) ((({ blk with net := { blk.net with table := [(5, { set := 0, goose := false, idx := 63, mac := 7, appid := 0x4000 })] } } : Mach).updSub 63 (fun x => { x with st := 2 })).updLane 1 (fun x => { x with st := .up }))) (1) (7) (0x4000) ([asdu]) (63)) ∧
    ((fun ln mac appid => Met (fun m => ln < 4 ∧
        (m.ethUp ln = false ∨ m.subFor false mac appid = none)) (blk.updLane 1 (fun x => { x with st := .up }))) (1) (7) (0x4000)) ∧
    (∃ e, Met (fun m => 63 < 64 ∧ (m.sub 63).st ≠ 0 ∧ m.fenced (68 + 63) = false ∧
        (m.sub 63).ents.any (fun e => decide (e.fseq = svB.fr.fseq + 5)) = false ∧ m.resample 63 (svB.fr.fseq + 5) = some e) svB) ∧
    ((fun n k => Met (fun m => n < 64 ∧ ((m.sub n).st = 0 ∨ m.fenced (68 + n) = true ∨ m.resample n k = none)) (blk)) (63) (0)) ∧
    ((fun n => Met (fun m => n < 64 ∧ (m.sub n).st = 2 ∧
        m.fld (.svsCfg n) F.svsCfg_STREAM_TMO * 100000 ≤ m.since (m.sub n).lastMon) (blk.updSub 63 (fun x =>
        { x with st := 2, lastMon := ago (blk.fld (.svsCfg 63) F.svsCfg_STREAM_TMO * 100000) }))) (63)) ∧
    ((fun n => Met (fun m => n < 64 ∧
        ((m.sub n).st ≠ 2 ∨ m.since (m.sub n).lastMon < m.fld (.svsCfg n) F.svsCfg_STREAM_TMO * 100000)) (blk.updSub 63 (fun x =>
        { x with st := 2, lastMon := ago (blk.fld (.svsCfg 63) F.svsCfg_STREAM_TMO * 100000 - 1) }))) (63)) ∧
    ((fun ses x n w => Met (fun m => n < 64 ∧ m.mayWrite x ses (.svsCfg n) w ∧ F.svsCfg_EN.get (m.rd (.svsCfg n)) = 0 ∧
        F.svsCfg_EN.get (m.newWord (.svsCfg n) w) = 1 ∧ 4 ≤ m.start.phase) (blk)) (1) (x1) (63) (F.svsCfg_EN.set (blk.rd (.svsCfg 63)) 1)) ∧
    ((fun ses x n w => Met (fun m => n < 64 ∧ m.mayWrite x ses (.svsCfg n) w ∧ F.svsCfg_EN.get (m.rd (.svsCfg n)) = 0 ∧
        F.svsCfg_EN.get (m.newWord (.svsCfg n) w) = 1 ∧
        m.start.phase < 4) ({ blk with start := { blk.start with phase := 3 } })) (1) (x1) (63) (F.svsCfg_EN.set (blk.rd (.svsCfg 63)) 1)) := by
  refine ⟨?_, ?_, ?_, ?_, ?_, ?_, ?_, ?_⟩
  · repeat' apply And.intro
    all_goals first | decide +kernel | rfl
  · repeat' apply And.intro
    all_goals first | decide +kernel | rfl
  · obtain ⟨e, he⟩ := Option.isSome_iff_exists.mp (by decide +kernel : (svB.resample 63 (svB.fr.fseq + 5)).isSome = true)
    exact ⟨e, ⟨rfl, by decide⟩, by decide, by decide, by decide +kernel, by decide +kernel, he⟩
  · repeat' apply And.intro
    all_goals first | decide +kernel | rfl
  · repeat' apply And.intro
    all_goals first | decide +kernel | rfl
  · repeat' apply And.intro
    all_goals first | decide +kernel | rfl
  · repeat' apply And.intro
    all_goals first | decide +kernel | rfl
  · repeat' apply And.intro
    all_goals first | decide +kernel | rfl

/-- CalibrationAndTransientRing: each clause's conditions are met. -/
theorem witness_CalibrationAndTransientRing :
    ((fun p (k : CalRun) => Met (fun m => p < 16 ∧ (m.port p).cal = some k ∧ 0 < k.n ∧
        k.n ≤ k.frames) (blk.updPort 15 (fun x =>
        { x with cal := some { session := 1, handle := 1, n := 2, sum := 5, sumSq := 25, frames := 2, tests := [], relied := [] } }))) (15) ({ session := 1, handle := 1, n := 2, sum := 5, sumSq := 25, frames := 2, tests := [], relied := [] })) ∧
    ((fun p => Met (fun m => p < 16 ∧
        ∀ k, (m.port p).cal = some k → k.n = 0 ∨ k.frames < k.n) (blk.updPort 15 (fun x =>
        { x with cal := some { session := 1, handle := 1, n := 2, sum := 5, sumSq := 25, frames := 1, tests := [], relied := [] } }))) (15)) ∧
    Met (fun m => m.recs.dr.trStopAt = some 0) (blk.updDr (fun d => { d with trStopAt := some 0 })) ∧
    Met (fun m => m.recs.dr.trStopAt ≠ some 0) (blk.updDr (fun d => { d with trStopAt := some 1 })) ∧
    ((fun n => Met (fun m => m.recs.dr.trStopped = true ∧
        m.recs.dr.trRec = some n) (blk.updDr (fun d => { d with trStopped := true, trRec := some 1 }))) (1)) := by
  refine ⟨?_, ?_, ?_, ?_, ?_⟩
  · repeat' apply And.intro
    all_goals first | decide +kernel | rfl
  · exact ⟨⟨rfl, by decide⟩, by decide,
      all_some (a := { session := 1, handle := 1, n := 2, sum := 5, sumSq := 25, frames := 1, tests := [], relied := [] }) (by decide +kernel) (by decide +kernel)⟩
  · repeat' apply And.intro
    all_goals first | decide +kernel | rfl
  · repeat' apply And.intro
    all_goals first | decide +kernel | rfl
  · repeat' apply And.intro
    all_goals first | decide +kernel | rfl

/-- BayRegisterWrites: each clause's conditions are met. -/
theorem witness_BayRegisterWrites :
    ((fun ses x b k => Met (fun m => b < 32 ∧ k < 3 ∧ m.mayWrite x ses (.bayCtrl b) (m.withFields (.bayCtrl b) [(F.bayCtrl_MODE, k)]) ∧
        F.bayCtrl_CLR_ENERGY.get (m.withFields (.bayCtrl b) [(F.bayCtrl_MODE, k)]) = 0) (blk)) (1) (x1) (31) (0)) ∧
    ((fun ses x b => Met (fun m => b < 32 ∧ m.mayWrite x ses (.bayCtrl b) (m.withFields (.bayCtrl b) [(F.bayCtrl_CLR_ENERGY, 1)]) ∧
        F.bayCtrl_CLR_ENERGY.get (m.withFields (.bayCtrl b) [(F.bayCtrl_CLR_ENERGY, 1)]) ≠ 0) (blk)) (1) (x1) (31)) ∧
    ((fun ses x b w => Met (fun m => b < 32 ∧ m.mayWrite x ses (.bayLatch b) w) (blk)) (1) (x1) (31) (0)) ∧
    ((fun ses x b => Met (fun m => b < 32 ∧ m.mayWrite x ses (.bayMotCtrl b) 4) ({ blk with set := [(setKey 31 0 0, 1)] })) (1) (x1) (31)) ∧
    ((fun ses x b => Met (fun m => b < 32 ∧ m.mayWrite x ses (.bayMotCtrl b) 2) ({ blk with set := [(setKey 31 0 0, 1)] })) (1) (x1) (31)) ∧
    ((fun ses x b => Met (fun m => b < 32 ∧
        m.mayWrite x ses (.bayMotCtrl b) 1) (({ blk with set := [(setKey 31 0 0, 1)] } : Mach).updBay 31 (fun x =>
        { x with mode := 1 }))) (1) (x1) (31)) := by
  refine ⟨?_, ?_, ?_, ?_, ?_, ?_⟩
  · repeat' apply And.intro
    all_goals first | decide +kernel | rfl
  · repeat' apply And.intro
    all_goals first | decide +kernel | rfl
  · repeat' apply And.intro
    all_goals first | decide +kernel | rfl
  · repeat' apply And.intro
    all_goals first | decide +kernel | rfl
  · repeat' apply And.intro
    all_goals first | decide +kernel | rfl
  · repeat' apply And.intro
    all_goals first | decide +kernel | rfl

/-- StitchInstantsAndRepetitions: each clause's conditions are met. -/
theorem witness_StitchInstantsAndRepetitions :
    ((fun id t => Met (fun m => m.passive = false ∧ m.stitch id = some t ∧ t.parts ≠ [] ∧ t.prepSent = true ∧ t.st = .prepared ∧
        t.b ≤ m.ltc) ({ blk with stu := { blk.stu with opens := [{ stitch7 with parts := [(9, true)], prepSent := true, st := .prepared, b := blk.ltc }] } })) (7) ({ stitch7 with parts := [(9, true)], prepSent := true, st := .prepared, b := blk.ltc })) ∧
    ((fun id t => Met (fun m => m.passive = false ∧ m.stitch id = some t ∧ t.parts ≠ [] ∧ t.prepSent = true ∧ t.st ≠ .prepared ∧
        t.st ≠ .bound ∧ t.b ≤ m.ltc) ({ blk with stu := { blk.stu with opens := [{ stitch7 with parts := [(9, true)], prepSent := true, st := .staged, b := blk.ltc }] } })) (7) ({ stitch7 with parts := [(9, true)], prepSent := true, st := .staged, b := blk.ltc })) ∧
    ((fun id => Met (fun m => ∀ t,
        m.stitch id = some t → m.passive = true ∨ t.parts = [] ∨ t.prepSent = false ∨ t.st = .bound ∨ m.ltc < t.b) ({ blk with stu := { blk.stu with opens := [{ stitch7 with parts := [(9, true)], prepSent := true, st := .prepared, b := blk.ltc + 1 }] } })) (7)) ∧
    ((fun id t => Met (fun m => m.passive = false ∧ m.stitch id = some t ∧ t.st = .bound ∧
        t.tc ≤ m.ltc) ({ blk with stu := { blk.stu with opens := [{ stitch7 with st := .bound, tc := blk.ltc }] } })) (7) ({ stitch7 with st := .bound, tc := blk.ltc })) ∧
    ((fun id => Met (fun m => ∀ t,
        m.stitch id = some t → m.passive = true ∨ t.st ≠ .bound ∨ m.ltc < t.tc) ({ blk with stu := { blk.stu with opens := [{ stitch7 with st := .bound, tc := blk.ltc + 1 }] } })) (7)) ∧
    ((fun id t => Met (fun m => m.stitch id = some t ∧ t.st = .opened ∧ t.obj.isSome = true ∧
        t.selTmo * 1000000000 ≤ m.since t.castMon) ({ blk with stu := { blk.stu with opens := [{ stitch7 with st := .opened, obj := some ⟨0, 0, 0⟩, selTmo := 30, castMon := ago 30000000000 }] } })) (7) ({ stitch7 with st := .opened, obj := some ⟨0, 0, 0⟩, selTmo := 30, castMon := ago 30000000000 })) ∧
    ((fun id => Met (fun m => ∀ t,
        m.stitch id = some t → t.st ≠ .opened ∨ t.obj = none ∨ m.since t.castMon < t.selTmo * 1000000000) ({ blk with stu := { blk.stu with opens := [{ stitch7 with st := .opened, obj := some ⟨0, 0, 0⟩, selTmo := 30, castMon := ago 29999999999 }] } })) (7)) ∧
    ((fun id a => Met (fun m => m.stu.aborts.find? (fun a => a.stitch = id) = some a ∧ m.ltc < a.tc ∧
        usNs 250 ≤ m.since a.lastMon) ({ blk with stu := { blk.stu with aborts := [{ stitch := 7, parts := [(9, 1)], tc := blk.ltc + 1, lastMon := ago 250000 }] } })) (7) ({ stitch := 7, parts := [(9, 1)], tc := blk.ltc + 1, lastMon := ago 250000 })) ∧
    ((fun id a => Met (fun m => m.stu.aborts.find? (fun a => a.stitch = id) = some a ∧
        a.tc ≤ m.ltc) ({ blk with stu := { blk.stu with aborts := [{ stitch := 7, parts := [(9, 1)], tc := blk.ltc, lastMon := ago 250000 }] } })) (7) ({ stitch := 7, parts := [(9, 1)], tc := blk.ltc, lastMon := ago 250000 })) ∧
    ((fun id => Met (fun m => ∀ a, m.stu.aborts.find? (fun a => a.stitch = id) = some a → m.ltc < a.tc ∧
        m.since a.lastMon < usNs 250) ({ blk with stu := { blk.stu with aborts := [{ stitch := 7, parts := [(9, 1)], tc := blk.ltc + 1, lastMon := ago 249999 }] } })) (7)) ∧
    ((fun d p c => Met (fun m => m.stu.cmds.find? (fun c => decide (c.devid = d ∧ c.point = p)) = some c ∧ c.sent < 20 ∧
        usNs 250 ≤ m.since c.lastMon) ({ blk with stu := { blk.stu with cmds := [{ stitch := 7, devid := 9, point := 3, val := 1, seq := 0, test := false, sent := 19, lastMon := ago 250000 }] } })) (9) (3) ({ stitch := 7, devid := 9, point := 3, val := 1, seq := 0, test := false, sent := 19, lastMon := ago 250000 })) ∧
    ((fun d p c => Met (fun m => m.stu.cmds.find? (fun c => decide (c.devid = d ∧ c.point = p)) = some c ∧ 20 ≤ c.sent ∧
        usNs 250 ≤ m.since c.lastMon) ({ blk with stu := { blk.stu with cmds := [{ stitch := 7, devid := 9, point := 3, val := 1, seq := 0, test := false, sent := 20, lastMon := ago 250000 }] } })) (9) (3) ({ stitch := 7, devid := 9, point := 3, val := 1, seq := 0, test := false, sent := 20, lastMon := ago 250000 })) ∧
    ((fun d p => Met (fun m => ∀ c, m.stu.cmds.find? (fun c => decide (c.devid = d ∧
        c.point = p)) = some c → m.since c.lastMon < usNs 250) ({ blk with stu := { blk.stu with cmds := [{ stitch := 7, devid := 9, point := 3, val := 1, seq := 0, test := false, sent := 20, lastMon := ago 249999 }] } })) (9) (3)) ∧
    ((fun b => Met (fun _ => b < 32) (blk)) (31)) ∧
    Met (fun _ => True) (blk) := by
  refine ⟨?_, ?_, ?_, ?_, ?_, ?_, ?_, ?_, ?_, ?_, ?_, ?_, ?_, ?_, ?_⟩
  · repeat' apply And.intro
    all_goals first | decide +kernel | rfl
  · repeat' apply And.intro
    all_goals first | decide +kernel | rfl
  · exact ⟨⟨rfl, by decide⟩,
      all_some (a := { stitch7 with parts := [(9, true)], prepSent := true, st := .prepared, b := blk.ltc + 1 }) (by decide +kernel) (by decide +kernel)⟩
  · repeat' apply And.intro
    all_goals first | decide +kernel | rfl
  · exact ⟨⟨rfl, by decide⟩, all_some (a := { stitch7 with st := .bound, tc := blk.ltc + 1 }) (by decide +kernel) (by decide +kernel)⟩
  · repeat' apply And.intro
    all_goals first | decide +kernel | rfl
  · exact ⟨⟨rfl, by decide⟩,
      all_some (a := { stitch7 with st := .opened, obj := some ⟨0, 0, 0⟩, selTmo := 30, castMon := ago 29999999999 }) (by decide +kernel) (by decide +kernel)⟩
  · repeat' apply And.intro
    all_goals first | decide +kernel | rfl
  · repeat' apply And.intro
    all_goals first | decide +kernel | rfl
  · exact ⟨⟨rfl, by decide⟩,
      all_some (a := { stitch := 7, parts := [(9, 1)], tc := blk.ltc + 1, lastMon := ago 249999 }) (by decide +kernel) (by decide +kernel)⟩
  · repeat' apply And.intro
    all_goals first | decide +kernel | rfl
  · repeat' apply And.intro
    all_goals first | decide +kernel | rfl
  · exact ⟨⟨rfl, by decide⟩,
      all_some (a := { stitch := 7, devid := 9, point := 3, val := 1, seq := 0, test := false, sent := 20, lastMon := ago 249999 }) (by decide +kernel) (by decide +kernel)⟩
  · repeat' apply And.intro
    all_goals first | decide +kernel | rfl
  · repeat' apply And.intro
    all_goals first | decide +kernel | rfl

/-- FieldInputsAndDiagnostics: each clause's conditions are met. -/
theorem witness_FieldInputsAndDiagnostics :
    ((fun x => MetLive (fun _ => x < 32) (w0)) (31)) ∧
    ((fun x => MetLive (fun _ => x < 32) (w0)) (31)) ∧
    ((fun x => MetLive (fun _ => x < 32) (w0)) (31)) ∧
    MetLive (fun m => (∀ t, m.fio.scanMon = some t → msNs 10 ≤ m.since t) ∧
        m.fio.band = 0) ({ w0 with fio := { w0.fio with scanMon := some (ago 10000000), band := 0 } }) ∧
    MetLive (fun m => (∀ t, m.fio.scanMon = some t → msNs 10 ≤ m.since t) ∧
        m.fio.band ≠ 0) ({ w0 with fio := { w0.fio with scanMon := some (ago 10000000), band := 1 } }) ∧
    ((fun t => MetLive (fun m => m.fio.scanMon = some t ∧
        m.since t < msNs 10) ({ w0 with fio := { w0.fio with scanMon := some (ago 9999999), band := 0 } })) (ago 9999999)) ∧
    ((fun y (p : Nat × Time) => MetLive (fun m => y < 16 ∧ m.fio.obsPend.find? (fun p => p.1 = y) = some p ∧
        msNs 1 ≤ m.since p.2) ({ w0 with fio := { w0.fio with obsPend := [(15, ago 1000000)] } })) (15) ((15, ago 1000000))) ∧
    ((fun y => MetLive (fun m => y < 16 ∧
        ∀ p, m.fio.obsPend.find? (fun p =>
        p.1 = y) = some p → m.since p.2 < msNs 1) ({ w0 with fio := { w0.fio with obsPend := [(15, ago 999999)] } })) (15)) ∧
    ((fun y us => MetLive (fun m => y < 16 ∧ 1000 ≤ us ∧
        m.conducts y = true) (w0.updDo 15 (fun x => { x with cmdA := true, parked := false, retries := 3 }))) (15) (1000)) ∧
    ((fun y us => MetLive (fun m => y < 16 ∧
        (us < 1000 ∨ m.conducts y = false)) (w0.updDo 15 (fun x => { x with cmdA := true, parked := false }))) (15) (999)) ∧
    ((fun y => MetLive (fun m => y < 16 ∧ (m.doSt y).heldOff = true ∧ (m.doSt y).dead = false ∧ m.cmdOn y = true ∧
        (m.doSt y).retries < 3 ∧
        msNs (if y < 12 then 100 else 10) ≤ m.since (m.doSt y).shortMon) (w0.updDo 11 (fun x =>
        { x with cmdA := true, parked := false, heldOff := true, retries := 2, shortMon := ago 100000000 }))) (11)) ∧
    ((fun y => MetLive (fun m => y < 16 ∧
        ((m.doSt y).heldOff = false ∨ (m.doSt y).dead = true ∨ m.cmdOn y = false ∨ 3 ≤ (m.doSt y).retries ∨ m.since (m.doSt y).shortMon < msNs (if y < 12 then 100 else 10))) (w0.updDo 12 (fun x => { x with cmdA := true, parked := false, heldOff := true, retries := 3, shortMon := ago 10000000 }))) (12)) ∧
    ((fun y us ma => MetLive (fun m => y < 16 ∧ 10000 ≤ us ∧ ma < 3 ∧ m.conducts y = true ∧
        m.fio.band = 0) (w0.updDo 15 (fun x => { x with cmdA := true, parked := false }))) (15) (10000) (2)) ∧
    ((fun y us ma => MetLive (fun m => y < 16 ∧
        (us < 10000 ∨ 3 ≤ ma ∨ m.conducts y = false ∨ m.fio.band ≠ 0)) (w0.updDo 15 (fun x =>
        { x with cmdA := true, parked := false }))) (15) (10000) (3)) ∧
    ((fun y => MetLive (fun m => 12 ≤ y ∧ y < 16 ∧
        m.conducts y = true) (w0.updDo 12 (fun x => { x with cmdA := true, parked := false }))) (12)) ∧
    ((fun y => MetLive (fun m => y < 16 ∧
        (y < 12 ∨ m.conducts y = false)) (w0.updDo 11 (fun x => { x with cmdA := true, parked := false }))) (11)) := by
  refine ⟨?_, ?_, ?_, ?_, ?_, ?_, ?_, ?_, ?_, ?_, ?_, ?_, ?_, ?_, ?_, ?_⟩
  · repeat' apply And.intro
    all_goals first | decide +kernel | rfl
  · repeat' apply And.intro
    all_goals first | decide +kernel | rfl
  · repeat' apply And.intro
    all_goals first | decide +kernel | rfl
  · exact ⟨rfl, all_some (a := ago 10000000) (by decide +kernel) (by decide +kernel), by decide⟩
  · exact ⟨rfl, all_some (a := ago 10000000) (by decide +kernel) (by decide +kernel), by decide⟩
  · repeat' apply And.intro
    all_goals first | decide +kernel | rfl
  · repeat' apply And.intro
    all_goals first | decide +kernel | rfl
  · exact ⟨rfl, by decide, all_some (a := (15, ago 999999)) (by decide +kernel) (by decide +kernel)⟩
  · repeat' apply And.intro
    all_goals first | decide +kernel | rfl
  · repeat' apply And.intro
    all_goals first | decide +kernel | rfl
  · repeat' apply And.intro
    all_goals first | decide +kernel | rfl
  · repeat' apply And.intro
    all_goals first | decide +kernel | rfl
  · repeat' apply And.intro
    all_goals first | decide +kernel | rfl
  · repeat' apply And.intro
    all_goals first | decide +kernel | rfl
  · repeat' apply And.intro
    all_goals first | decide +kernel | rfl
  · repeat' apply And.intro
    all_goals first | decide +kernel | rfl

/-- FieldSupplyBands: each clause's conditions are met. -/
theorem witness_FieldSupplyBands :
    MetLive (fun _ => True) ({ w0 with fio := { w0.fio with band := 0, flpMon := ago 9000000 } }) ∧
    MetLive (fun _ => True) ({ w0 with fio := { w0.fio with band := 1, flpMon := ago 9000000 } }) ∧
    MetLive (fun _ => True) ({ w0 with fio := { w0.fio with band := 2, flpMon := ago 9000000 } }) ∧
    MetLive (fun _ => True) ({ w0 with fio := { w0.fio with band := 2, flpMon := ago 9000000 } }) ∧
    MetLive (fun _ => True) ({ w0 with fio := { w0.fio with band := 3, flpMon := ago 9000000 } }) ∧
    MetLive (fun _ => True) ({ w0 with fio := { w0.fio with band := 1, flpMon := ago 9000000 } }) := by
  refine ⟨?_, ?_, ?_, ?_, ?_, ?_⟩
  · repeat' apply And.intro
    all_goals first | decide +kernel | rfl
  · repeat' apply And.intro
    all_goals first | decide +kernel | rfl
  · repeat' apply And.intro
    all_goals first | decide +kernel | rfl
  · repeat' apply And.intro
    all_goals first | decide +kernel | rfl
  · repeat' apply And.intro
    all_goals first | decide +kernel | rfl
  · repeat' apply And.intro
    all_goals first | decide +kernel | rfl

/-- OutputConfigurationAndTest: each clause's conditions are met. -/
theorem witness_OutputConfigurationAndTest :
    ((fun ses x y w => Met (fun m => y < 16 ∧ m.mayWrite x ses (.doCfg y) w) (blk)) (1) (x1) (11) ((blk.rd (.doCfg 11)))) ∧
    Met (fun m => ∃ o ∈ m.cmd.outTests,
        (o.2.2.2 - m.mon).toInt ≤ 0) ({ blk with cmd := { blk.cmd with outTests := [(1, 0, true, blk.mon)] } }) ∧
    Met (fun m => ∀ o ∈ m.cmd.outTests,
        0 < (o.2.2.2 - m.mon).toInt) ({ blk with cmd := { blk.cmd with outTests := [(1, 0, true, blk.mon + 1)] } }) := by
  refine ⟨?_, ?_, ?_⟩
  · repeat' apply And.intro
    all_goals first | decide +kernel | rfl
  · exact ⟨⟨rfl, by decide⟩, _, List.mem_singleton.mpr rfl, by decide +kernel⟩
  · exact ⟨⟨rfl, by decide⟩, fun o ho => by rcases List.mem_singleton.mp ho with rfl; decide +kernel⟩

/-- LogicWordArithmetic: each clause's conditions are met. -/
theorem witness_LogicWordArithmetic :
    ((fun t a i x c => Met (fun m => m.atOp t 0x26 a i x c ∧
        (LCtx.word ⟨m, t, x, { c with pc := c.pc + 1 }⟩ a i).toInt = 0) ((run3 0x26 15 0 7))) (3) (15) (0) ((task3 0x26 15 0 7)) ((cyc3 7))) ∧
    ((fun t a i x c => Met (fun m => m.atOp t 0x26 a i x c ∧ (LCtx.word ⟨m, t, x, { c with pc := c.pc + 1 }⟩ a i).toInt ≠ 0 ∧
        Int.tdiv c.wacc.toInt (LCtx.word ⟨m, t, x,
        { c with pc := c.pc + 1 }⟩ a i).toInt ≤ 2147483647) ((run3 0x26 15 5 7))) (3) (15) (5) ((task3 0x26 15 5 7)) ((cyc3 7))) ∧
    ((fun t a i x c => Met (fun m => m.atOp t 0x26 a i x c ∧ (LCtx.word ⟨m, t, x, { c with pc := c.pc + 1 }⟩ a i).toInt ≠ 0 ∧
        2147483647 < Int.tdiv c.wacc.toInt (LCtx.word ⟨m, t, x,
        { c with pc := c.pc + 1 }⟩ a i).toInt) ((run3 0x26 15 0xFFFFF 0x80000000))) (3) (15) (0xFFFFF) ((task3 0x26 15 0xFFFFF 0x80000000)) ((cyc3 0x80000000))) ∧
    ((fun t a i x c n => Met (fun m => m.atOp t 0x2B a i x c ∧
        (LCtx.word ⟨m, t, x, { c with pc := c.pc + 1 }⟩ a i).toInt = n) ((run3 0x2B 15 31 1))) (3) (15) (31) ((task3 0x2B 15 31 1)) ((cyc3 1)) (31)) ∧
    ((fun t a i x c n => Met (fun m => m.atOp t 0x2C a i x c ∧
        (LCtx.word ⟨m, t, x, { c with pc := c.pc + 1 }⟩ a i).toInt = n) ((run3 0x2C 15 31 1))) (3) (15) (31) ((task3 0x2C 15 31 1)) ((cyc3 1)) (31)) := by
  refine ⟨?_, ?_, ?_, ?_, ?_⟩
  · exact ⟨⟨rfl, by decide⟩, ⟨rfl, rfl, rfl, rfl, rfl, _, rfl, rfl⟩, by decide +kernel⟩
  · exact ⟨⟨rfl, by decide⟩, ⟨rfl, rfl, rfl, rfl, rfl, _, rfl, rfl⟩, by decide +kernel, by decide +kernel⟩
  · exact ⟨⟨rfl, by decide⟩, ⟨rfl, rfl, rfl, rfl, rfl, _, rfl, rfl⟩, by decide +kernel, by decide +kernel⟩
  · exact ⟨⟨rfl, by decide⟩, ⟨rfl, rfl, rfl, rfl, rfl, _, rfl, rfl⟩, by decide +kernel⟩
  · exact ⟨⟨rfl, by decide⟩, ⟨rfl, rfl, rfl, rfl, rfl, _, rfl, rfl⟩, by decide +kernel⟩

/-- LogicCycle: each clause's conditions are met. -/
theorem witness_LogicCycle :
    ((fun t (x : Machine.Task) => Met (fun m => m.tasks[t]? = some x ∧ x.runAtReady = false ∧ x.st = .run ∧ x.cyc = none ∧
        m.passive = false ∧ m.fenced (35 + t) = false ∧
        (x.lastOverrun = true ∨ x.first ≠ 0 ∨ F.leCtrl_CYC_MIN.get (m.rd (.leCtrl t)) * 100000 ≤ m.since x.lastSnap)) ({ blk with tasks := [Task.init, Task.init, Task.init, { task3 0x7F 0 0 0 with cyc := none, first := 0, lastOverrun := false, lastSnap := ago (F.leCtrl_CYC_MIN.get (blk.rd (.leCtrl 3)) * 100000) }] })) (3) ({ task3 0x7F 0 0 0 with cyc := none, first := 0, lastOverrun := false, lastSnap := ago (F.leCtrl_CYC_MIN.get (blk.rd (.leCtrl 3)) * 100000) })) ∧
    ((fun t (x : Machine.Task) => Met (fun m => m.tasks[t]? = some x ∧ x.runAtReady = false ∧ x.st = .run ∧ x.cyc = none ∧
        m.passive = false ∧ m.fenced (35 + t) = false ∧ x.lastOverrun = false ∧ x.first = 0 ∧
        m.since x.lastSnap < F.leCtrl_CYC_MIN.get (m.rd (.leCtrl t)) * 100000) (({ blk with tasks := [Task.init, Task.init, Task.init, { task3 0x7F 0 0 0 with cyc := none, first := 0, lastOverrun := false, lastSnap := ago 0 }] } : Mach).setF (.leCtrl 3) F.leCtrl_CYC_MIN 1)) (3) ({ task3 0x7F 0 0 0 with cyc := none, first := 0, lastOverrun := false, lastSnap := ago 0 })) ∧
    ((fun t (x : Machine.Task) => Met (fun m => m.tasks[t]? = some x ∧
        (x.runAtReady = false ∨ m.flag .glbStat F.glbStat_PROT_READY = false ∨ x.st ≠ .loaded) ∧
        (x.st ≠ .run ∨ x.cyc ≠ none ∨ m.passive = true ∨ m.fenced (35 + t) = true)) ({ blk with tasks := [Task.init, Task.init, Task.init, { task3 0x7F 0 0 0 with st := .stopped }] })) (3) ({ task3 0x7F 0 0 0 with st := .stopped })) ∧
    ((fun t (x : Machine.Task) => Met (fun m => m.tasks[t]? = some x ∧ x.runAtReady = true ∧
        m.flag .glbStat F.glbStat_PROT_READY = true ∧ x.st = .loaded ∧ x.cyc = none ∧ x.first ≠ 0 ∧ m.passive = false ∧
        m.fenced (35 + t) = false) ({ blk with tasks := [Task.init, Task.init, Task.init, { task3 0x7F 0 0 0 with st := .loaded, runAtReady := true, cyc := none, first := 1 }] })) (3) ({ task3 0x7F 0 0 0 with st := .loaded, runAtReady := true, cyc := none, first := 1 })) ∧
    ((fun t (x : Machine.Task) (c : Cycle) (p : Prog) => Met (fun m => m.tasks[t]? = some x ∧ x.st = .run ∧ m.passive = false ∧
        m.fenced (35 + t) = false ∧ x.cyc = some c ∧ x.prog = some p ∧
        p.code[c.pc]? = some (instrWord 0x7F 0 0)) ((run3 0x7F 0 0 0))) (3) ((task3 0x7F 0 0 0)) ((cyc3 0)) ((prog3 0x7F 0 0))) ∧
    ((fun t (x : Machine.Task) => Met (fun m => m.tasks[t]? = some x ∧
        (x.st ≠ .run ∨ m.passive = true ∨ m.fenced (35 + t) = true ∨ x.cyc = none ∨ x.prog = none ∨ ∃ c p, x.cyc = some c ∧
        x.prog = some p ∧ p.code[c.pc]? ≠ some (instrWord 0x7F 0 0))) ({ blk with tasks := [Task.init, Task.init, Task.init, { task3 0x40 0 0 0 with st := .run }] })) (3) ({ task3 0x40 0 0 0 with st := .run })) ∧
    ((fun t (x : Machine.Task) (c : Cycle) => Met (fun m => m.tasks[t]? = some x ∧ x.cyc = some c ∧ x.stopWait = none ∧
        F.leCtrl_CYC_MAX.get x.ctrl * 100000 ≤ m.since c.monS ∧
        (F.leCtrl_OVR_STOP.get x.ctrl = 0 ∨ x.ovrRun + 1 < F.leCtrl_OVR_STOP.get x.ctrl)) ({ blk with tasks := [Task.init, Task.init, Task.init, { task3 0x7F 0 0 0 with ctrl := F.leCtrl_OVR_STOP.set (blk.rd (.leCtrl 3)) 3, ovrRun := 1, cyc := some (cycAt (ago (F.leCtrl_CYC_MAX.get (F.leCtrl_OVR_STOP.set (blk.rd (.leCtrl 3)) 3) * 100000))) }] })) (3) ({ task3 0x7F 0 0 0 with ctrl := F.leCtrl_OVR_STOP.set (blk.rd (.leCtrl 3)) 3, ovrRun := 1, cyc := some (cycAt (ago (F.leCtrl_CYC_MAX.get (F.leCtrl_OVR_STOP.set (blk.rd (.leCtrl 3)) 3) * 100000))) }) ((cycAt (ago (F.leCtrl_CYC_MAX.get (F.leCtrl_OVR_STOP.set (blk.rd (.leCtrl 3)) 3) * 100000))))) ∧
    ((fun t (x : Machine.Task) (c : Cycle) => Met (fun m => m.tasks[t]? = some x ∧ x.cyc = some c ∧ x.stopWait = none ∧
        F.leCtrl_CYC_MAX.get x.ctrl * 100000 ≤ m.since c.monS ∧ F.leCtrl_OVR_STOP.get x.ctrl ≠ 0 ∧
        F.leCtrl_OVR_STOP.get x.ctrl ≤ x.ovrRun + 1) ({ blk with tasks := [Task.init, Task.init, Task.init, { task3 0x7F 0 0 0 with ctrl := F.leCtrl_OVR_STOP.set (blk.rd (.leCtrl 3)) 3, ovrRun := 2, cyc := some (cycAt (ago (F.leCtrl_CYC_MAX.get (F.leCtrl_OVR_STOP.set (blk.rd (.leCtrl 3)) 3) * 100000))) }] })) (3) ({ task3 0x7F 0 0 0 with ctrl := F.leCtrl_OVR_STOP.set (blk.rd (.leCtrl 3)) 3, ovrRun := 2, cyc := some (cycAt (ago (F.leCtrl_CYC_MAX.get (F.leCtrl_OVR_STOP.set (blk.rd (.leCtrl 3)) 3) * 100000))) }) ((cycAt (ago (F.leCtrl_CYC_MAX.get (F.leCtrl_OVR_STOP.set (blk.rd (.leCtrl 3)) 3) * 100000))))) ∧
    ((fun t (x : Machine.Task) (c : Cycle) w => Met (fun m => m.tasks[t]? = some x ∧ x.cyc = some c ∧ x.stopWait = some w ∧
        F.leCtrl_CYC_MAX.get x.ctrl * 100000 ≤ m.since c.monS ∧
        (F.leCtrl_OVR_STOP.get x.ctrl = 0 ∨ x.ovrRun + 1 < F.leCtrl_OVR_STOP.get x.ctrl)) ({ blk with tasks := [Task.init, Task.init, Task.init, { task3 0x7F 0 0 0 with ctrl := F.leCtrl_OVR_STOP.set (blk.rd (.leCtrl 3)) 3, ovrRun := 1, stopWait := some ⟨1, 0, 0⟩, cyc := some (cycAt (ago (F.leCtrl_CYC_MAX.get (F.leCtrl_OVR_STOP.set (blk.rd (.leCtrl 3)) 3) * 100000))) }] })) (3) ({ task3 0x7F 0 0 0 with ctrl := F.leCtrl_OVR_STOP.set (blk.rd (.leCtrl 3)) 3, ovrRun := 1, stopWait := some ⟨1, 0, 0⟩, cyc := some (cycAt (ago (F.leCtrl_CYC_MAX.get (F.leCtrl_OVR_STOP.set (blk.rd (.leCtrl 3)) 3) * 100000))) }) ((cycAt (ago (F.leCtrl_CYC_MAX.get (F.leCtrl_OVR_STOP.set (blk.rd (.leCtrl 3)) 3) * 100000)))) (⟨1, 0, 0⟩)) ∧
    ((fun t (x : Machine.Task) => Met (fun m => m.tasks[t]? = some x ∧ (x.cyc = none ∨ ∃ c, x.cyc = some c ∧
        m.since c.monS < F.leCtrl_CYC_MAX.get x.ctrl * 100000)) ({ blk with tasks := [Task.init, Task.init, Task.init, { task3 0x7F 0 0 0 with ctrl := 0x10000 }] })) (3) ({ task3 0x7F 0 0 0 with ctrl := 0x10000 })) := by
  refine ⟨?_, ?_, ?_, ?_, ?_, ?_, ?_, ?_, ?_, ?_⟩
  · repeat' apply And.intro
    all_goals first | decide +kernel | rfl
  · repeat' apply And.intro
    all_goals first | decide +kernel | rfl
  · repeat' apply And.intro
    all_goals first | decide +kernel | rfl
  · repeat' apply And.intro
    all_goals first | decide +kernel | rfl
  · repeat' apply And.intro
    all_goals first | decide +kernel | rfl
  · exact ⟨⟨rfl, by decide⟩, rfl, Or.inr (Or.inr (Or.inr (Or.inr (Or.inr ⟨_, _, rfl, rfl, by decide +kernel⟩))))⟩
  · repeat' apply And.intro
    all_goals first | decide +kernel | rfl
  · repeat' apply And.intro
    all_goals first | decide +kernel | rfl
  · repeat' apply And.intro
    all_goals first | decide +kernel | rfl
  · exact ⟨⟨rfl, by decide⟩, rfl, Or.inr ⟨_, rfl, by decide +kernel⟩⟩

/-- TimeRegisters: each clause's conditions are met. -/
theorem witness_TimeRegisters :
    ((fun ses x w => Met (fun m => m.mayWrite x ses .tbIncFrac w) ((blk.setF .tbCtrl F.tbCtrl_SERVO_EN 0))) (1) (x1) (0)) ∧
    ((fun ses x => Met (fun m => m.sess ses = some x ∧ m.start.recovery = false) (blk)) (1) (x1)) ∧
    ((fun ses x w => Met (fun m => m.mayWrite x ses .tbCtrl w) (blk)) (1) (x1) ((blk.rd .tbCtrl))) ∧
    ((fun ses x w => Met (fun m => m.mayWrite x ses .tbStepCtrl w ∧
        F.tbStepCtrl_ARM.get (m.newWord .tbStepCtrl w) = 1) (blk)) (1) (x1) (F.tbStepCtrl_ARM.set 0 1)) ∧
    ((fun ses x w => Met (fun m => m.mayWrite x ses .tbStepCtrl w ∧ F.tbStepCtrl_ARM.get (m.rd .tbStepCtrl) = 1 ∧
        F.tbStepCtrl_ARM.get (m.newWord .tbStepCtrl w) = 0) (blk.setF .tbStepCtrl F.tbStepCtrl_ARM 1)) (1) (x1) (0)) ∧
    ((fun ses x w => Met (fun m => m.mayWrite x ses .tbStepCtrl w ∧ F.tbStepCtrl_ARM.get (m.rd .tbStepCtrl) = 0 ∧
        F.tbStepCtrl_ARM.get (m.newWord .tbStepCtrl w) = 0) (blk)) (1) (x1) (0)) ∧
    ((fun ses x => Met (fun m => m.mayWrite x ses .tbRrCtrl (m.withFields .tbRrCtrl [(F.tbRrCtrl_ACCEPT,
        1)])) ((blk.updTb (fun t => { t with st := .hold, hold := some holdS })))) (1) (x1)) ∧
    ((fun ses x n w => Met (fun m => n < 8 ∧ m.mayWrite x ses (.trgCtrl n) w ∧
        F.trgCtrl_ARM.get (m.newWord (.trgCtrl n) w) = 1) (blk)) (1) (x1) (7) (F.trgCtrl_ARM.set 0 1)) ∧
    ((fun ses x n w => Met (fun m => n < 8 ∧ m.mayWrite x ses (.trgCtrl n) w ∧
        F.trgCtrl_ARM.get (m.newWord (.trgCtrl n) w) = 0) (blk)) (1) (x1) (7) (0)) ∧
    ((fun ses x l e => Met (fun m => l < 5 ∧ m.sess ses = some x ∧ m.start.recovery = false ∧
        m.tsqHead l = some e) (blk.updTb (fun t => { t with tsq := [[], [], [], [(0x8001, 5)]] }))) (1) (x1) (3) ((0x8001, 5))) ∧
    ((fun ses x l => Met (fun m => l < 5 ∧ m.sess ses = some x ∧ m.start.recovery = false ∧ m.tsqHead l = none) (blk)) (1) (x1) (4)) := by
  refine ⟨?_, ?_, ?_, ?_, ?_, ?_, ?_, ?_, ?_, ?_, ?_⟩
  · repeat' apply And.intro
    all_goals first | decide +kernel | rfl
  · repeat' apply And.intro
    all_goals first | decide +kernel | rfl
  · repeat' apply And.intro
    all_goals first | decide +kernel | rfl
  · repeat' apply And.intro
    all_goals first | decide +kernel | rfl
  · repeat' apply And.intro
    all_goals first | decide +kernel | rfl
  · repeat' apply And.intro
    all_goals first | decide +kernel | rfl
  · repeat' apply And.intro
    all_goals first | decide +kernel | rfl
  · repeat' apply And.intro
    all_goals first | decide +kernel | rfl
  · repeat' apply And.intro
    all_goals first | decide +kernel | rfl
  · repeat' apply And.intro
    all_goals first | decide +kernel | rfl
  · repeat' apply And.intro
    all_goals first | decide +kernel | rfl

/-- TriggersPpsAndIrig: each clause's conditions are met. -/
theorem witness_TriggersPpsAndIrig :
    ((fun n => Met (fun m => n < 8 ∧ m.flag (.trgCtrl n) F.trgCtrl_ARM = true ∧
        0 ≤ ((m.ltc.setWidth 32) - m.rd (.trgTarget n)).toInt) ((blk.setF (.trgCtrl 7) F.trgCtrl_ARM 1).wr (.trgTarget 7) (blk.ltc.setWidth 32))) (7)) ∧
    ((fun n => Met (fun m =>
        m.flag (.trgCtrl n) F.trgCtrl_ARM = false ∨ ((m.ltc.setWidth 32) - m.rd (.trgTarget n)).toInt < 0) ((blk.setF (.trgCtrl 7) F.trgCtrl_ARM 1).wr (.trgTarget 7) (blk.ltc.setWidth 32 + 1))) (7)) ∧
    Met (fun _ => True) (blk) ∧
    ((fun t => Met (fun m => m.tb.ppsLast = some t ∧ 999990000 ≤ m.since t ∧ m.since t ≤ 1000010000 ∧
        m.srcQual .irig = false) (blk.updTb (fun t => { t with ppsLast := some (ago 999990000) }))) (ago 999990000)) ∧
    Met (fun m => (∀ t, m.tb.ppsLast = some t → m.since t < 999990000 ∨ 1000010000 < m.since t) ∧
        m.srcQual .irig = false) (blk.updTb (fun t => { t with ppsLast := some (ago 1000010001) })) ∧
    ((fun t s i => Met (fun m => m.tb.ppsLast = some t ∧ (m.since t < 999990000 ∨ 1000010000 < m.since t) ∧ m.srcQual .irig = true ∧
        m.tb.irigLast = some (s,
        i)) (blk.updTb (fun t =>
        { t with ppsLast := some (ago 1000010001), qual := [.irig], irigLast := some (10000, ago 0) }))) (ago 1000010001) (10000) (ago 0)) ∧
    ((fun t => Met (fun m => m.tb.ppsLast = some t ∧
        2000000000 ≤ m.since t) (blk.updTb (fun t => { t with ppsLast := some (ago 2000000000) }))) (ago 2000000000)) ∧
    Met (fun m => ∀ t, m.tb.ppsLast = some t → m.since t < 2000000000) (blk.updTb (fun t => { t with ppsLast := some (ago 1999999999) })) ∧
    ((fun (f : IrigFrame) q => Met (fun m => f.ok = true ∧ f.year = true ∧ f.tq = some q ∧ q ≤ m.fld .tbIrig F.tbIrig_TQ_MAX ∧
        f.leap = 0 ∧ m.tb.leap = 0 ∧
        m.tb.irigLast = none) (blk)) ({ ok := true, sec := 10001, s60 := false, year := true, tq := some 0, loc := 0, leap := 0, edge := 0 }) (0)) ∧
    ((fun (f : IrigFrame) => Met (fun m => f.ok = false ∧
        m.tb.irigMiss = 0) (blk)) ({ ok := false, sec := 10001, s60 := false, year := true, tq := some 0, loc := 0, leap := 0, edge := 0 })) ∧
    ((fun (f : IrigFrame) => Met (fun m => f.ok = false ∧
        1 ≤ m.tb.irigMiss) (blk.updTb (fun t =>
        { t with irigMiss := 1 }))) ({ ok := false, sec := 10001, s60 := false, year := true, tq := some 0, loc := 0, leap := 0, edge := 0 })) ∧
    ((fun x => Met (fun m => m.tb.irigLast = some x ∧
        2000000000 ≤ m.since x.2) (blk.updTb (fun t => { t with irigLast := some (0, ago 2000000000) }))) ((0, ago 2000000000))) ∧
    Met (fun m => ∀ x, m.tb.irigLast = some x → m.since x.2 < 2000000000) (blk.updTb (fun t =>
        { t with irigLast := some (0, ago 1999999999) })) := by
  refine ⟨?_, ?_, ?_, ?_, ?_, ?_, ?_, ?_, ?_, ?_, ?_, ?_, ?_⟩
  · repeat' apply And.intro
    all_goals first | decide +kernel | rfl
  · repeat' apply And.intro
    all_goals first | decide +kernel | rfl
  · repeat' apply And.intro
    all_goals first | decide +kernel | rfl
  · repeat' apply And.intro
    all_goals first | decide +kernel | rfl
  · exact ⟨⟨rfl, by decide⟩, all_some (a := ago 1000010001) (by decide +kernel) (by decide +kernel), by decide +kernel⟩
  · repeat' apply And.intro
    all_goals first | decide +kernel | rfl
  · repeat' apply And.intro
    all_goals first | decide +kernel | rfl
  · exact ⟨⟨rfl, by decide⟩, all_some (a := (ago 1999999999)) (by decide +kernel) (by decide +kernel)⟩
  · repeat' apply And.intro
    all_goals first | decide +kernel | rfl
  · repeat' apply And.intro
    all_goals first | decide +kernel | rfl
  · repeat' apply And.intro
    all_goals first | decide +kernel | rfl
  · repeat' apply And.intro
    all_goals first | decide +kernel | rfl
  · exact ⟨⟨rfl, by decide⟩, all_some (a := (0, ago 1999999999)) (by decide +kernel) (by decide +kernel)⟩

/-- PtpMessages: each clause's conditions are met. -/
theorem witness_PtpMessages :
    ((fun p (a : Announce) => Met (fun m => p < 2 ∧ m.ptpOn p = true ∧ m.srcEn .ptp = true ∧
        a.domain = m.fld .tbPtpCfg F.tbPtpCfg_DOMAIN ∧ (m.tb.gm = none ∨ ∃ g, m.tb.gm = some g ∧ g.id ≠ a.gm ∧
        a.rank < g.rank)) (ptpB.setF .tbPtpCfg F.tbPtpCfg_DOMAIN 0)) (1) ({ domain := 0, gm := 5, rank := 9, utc := none })) ∧
    ((fun p (a : Announce) (g : Gm) => Met (fun m => p < 2 ∧ m.tb.gm = some g ∧ g.id = a.gm ∧ m.ptpOn p = true ∧ m.srcEn .ptp = true ∧
        a.domain = m.fld .tbPtpCfg F.tbPtpCfg_DOMAIN) (((ptpB.setF .tbPtpCfg F.tbPtpCfg_DOMAIN 0).updTb (fun t =>
        { t with gm := some { id := 5, rank := 9, syncNs := 125000000 } })))) (1) ({ domain := 0, gm := 5, rank := 9, utc := some 37 }) ({ id := 5, rank := 9, syncNs := 125000000 })) ∧
    ((fun p (a : Announce) => Met (fun m => p < 2 ∧
        (m.ptpOn p = false ∨ m.srcEn .ptp = false ∨ a.domain ≠ m.fld .tbPtpCfg F.tbPtpCfg_DOMAIN ∨ ∃ g, m.tb.gm = some g ∧ g.id ≠ a.gm ∧
        g.rank ≤ a.rank)) (((ptpB.setF .tbPtpCfg F.tbPtpCfg_DOMAIN 0).updTb (fun t =>
        { t with gm := some { id := 5, rank := 9, syncNs := 125000000 } })))) (1) ({ domain := 0, gm := 6, rank := 9, utc := none })) ∧
    Met (fun m => m.srcQual .ptp = true ∧
        ∀ p, p < 2 → ∀ t, (m.ptp p).announceMon = some t → 3000000000 ≤ m.since t) (((ptpB.updPtp 0 (fun p =>
        { p with announceMon := some (ago 3000000000) })).updPtp 1 (fun p =>
        { p with announceMon := some (ago 3000000000) })).updTb (fun t => { t with qual := [.ptp] })) ∧
    Met (fun m => m.srcQual .ptp = false ∨ ∃ p t, p < 2 ∧ (m.ptp p).announceMon = some t ∧
        m.since t < 3000000000) ((ptpB.updPtp 1 (fun p => { p with announceMon := some (ago 2999999999) })).updTb (fun t =>
        { t with qual := [.ptp] })) ∧
    ((fun p (x : SyncMsg) (g : Gm) => Met (fun m => p < 2 ∧ m.tb.gm = some g ∧ m.ptpOn p = true ∧ m.srcEn .ptp = true ∧
        x.domain = m.fld .tbPtpCfg F.tbPtpCfg_DOMAIN ∧
        x.src = g.id) (((ptpB.setF .tbPtpCfg F.tbPtpCfg_DOMAIN 0).updTb (fun t =>
        { t with gm := some { id := 5, rank := 9, syncNs := 125000000 } })))) (1) ({ domain := 0, src := 5, seq := 1, twoStep := false, logInt := -3, origin := 0, corr := 0, rx := 0 }) ({ id := 5, rank := 9, syncNs := 125000000 })) ∧
    ((fun p (x : SyncMsg) => Met (fun m => p < 2 ∧
        (m.ptpOn p = false ∨ m.srcEn .ptp = false ∨ x.domain ≠ m.fld .tbPtpCfg F.tbPtpCfg_DOMAIN ∨ ∀ g,
        m.tb.gm = some g → x.src ≠ g.id)) (((ptpB.setF .tbPtpCfg F.tbPtpCfg_DOMAIN 0).updTb (fun t =>
        { t with gm := some { id := 5, rank := 9, syncNs := 125000000 } })))) (1) ({ domain := 0, src := 6, seq := 1, twoStep := false, logInt := -3, origin := 0, corr := 0, rx := 0 })) ∧
    ((fun p (x : SyncMsg) (g : Gm) rx corr => Met (fun m => p < 2 ∧ m.tb.gm = some g ∧ (m.ptp p).pendSync = some (x.seq, rx, corr) ∧
        m.ptpOn p = true ∧ x.domain = m.fld .tbPtpCfg F.tbPtpCfg_DOMAIN ∧
        x.src = g.id) (((ptpB.setF .tbPtpCfg F.tbPtpCfg_DOMAIN 0).updTb (fun t =>
        { t with gm := some { id := 5, rank := 9, syncNs := 125000000 } })).updPtp 1 (fun p =>
        { p with pendSync := some (1, 0, 0) }))) (1) ({ domain := 0, src := 5, seq := 1, twoStep := false, logInt := -3, origin := 0, corr := 0, rx := 0 }) ({ id := 5, rank := 9, syncNs := 125000000 }) (0) (0)) ∧
    ((fun p (x : SyncMsg) => Met (fun m => p < 2 ∧
        (m.ptpOn p = false ∨ x.domain ≠ m.fld .tbPtpCfg F.tbPtpCfg_DOMAIN ∨ (∀ g, m.tb.gm = some g → x.src ≠ g.id) ∨ ∀ q rx corr,
        (m.ptp p).pendSync = some (q, rx,
        corr) → x.seq ≠ q)) (((ptpB.setF .tbPtpCfg F.tbPtpCfg_DOMAIN 0).updTb (fun t =>
        { t with gm := some { id := 5, rank := 9, syncNs := 125000000 } })).updPtp 1 (fun p =>
        { p with pendSync := some (1, 0, 0) }))) (1) ({ domain := 0, src := 5, seq := 2, twoStep := false, logInt := -3, origin := 0, corr := 0, rx := 0 })) ∧
    ((fun (g : Gm) t => Met (fun m => m.tb.gm = some g ∧ (m.ptp m.ptpPort).syncMon = some t ∧ 3 * m.syncNs ≤ m.since t ∧
        m.ptpSyncMiss (1 - m.ptpPort) = false) ((((ptpB.setF .tbPtpCfg F.tbPtpCfg_DOMAIN 0).updTb (fun t =>
        { t with gm := some { id := 5, rank := 9, syncNs := 125000000 } })).updPtp 0 (fun p =>
        { p with syncMon := some (ago 375000000) })).updPtp 1 (fun p =>
        { p with syncMon := some (ago 0) }))) ({ id := 5, rank := 9, syncNs := 125000000 }) (ago 375000000)) ∧
    ((fun (g : Gm) t => Met (fun m => m.tb.gm = some g ∧ (m.ptp m.ptpPort).syncMon = some t ∧ 3 * m.syncNs ≤ m.since t ∧
        m.ptpSyncMiss (1 - m.ptpPort) = true) ((((ptpB.setF .tbPtpCfg F.tbPtpCfg_DOMAIN 0).updTb (fun t =>
        { t with gm := some { id := 5, rank := 9, syncNs := 125000000 } })).updPtp 0 (fun p =>
        { p with syncMon := some (ago 375000000) })))) ({ id := 5, rank := 9, syncNs := 125000000 }) (ago 375000000)) ∧
    ((fun (g : Gm) t => Met (fun m => m.tb.gm = some g ∧ (m.ptp m.ptpPort).syncMon = none ∧ (m.ptp m.ptpPort).announceMon = some t ∧
        3 * m.syncNs ≤ m.since t ∧
        m.ptpSyncMiss (1 - m.ptpPort) = true) (((ptpB.setF .tbPtpCfg F.tbPtpCfg_DOMAIN 0).updTb (fun t =>
        { t with gm := some { id := 5, rank := 9, syncNs := 125000000 } })).updPtp 0 (fun p =>
        { p with announceMon := some (ago 375000000) }))) ({ id := 5, rank := 9, syncNs := 125000000 }) (ago 375000000)) ∧
    Met (fun m => m.tb.gm = none ∨ (∃ t, (m.ptp m.ptpPort).syncMon = some t ∧
        m.since t < 3 * m.syncNs) ∨ ((m.ptp m.ptpPort).syncMon = none ∧
        ∀ t, (m.ptp m.ptpPort).announceMon = some t → m.since t < 3 * m.syncNs)) (((ptpB.setF .tbPtpCfg F.tbPtpCfg_DOMAIN 0).updTb (fun t => { t with gm := some { id := 5, rank := 9, syncNs := 125000000 } })).updPtp 0 (fun p => { p with syncMon := some (ago 374999999) })) ∧
    ((fun p => Met (fun m => p < 2 ∧ m.ptpOn p = true ∧
        (∀ t, (m.ptp p).reqMon = some t → 1000000000 ≤ m.since t)) (ptpQ (List.replicate 16 (0, 0)))) (1)) ∧
    ((fun p => Met (fun m => m.ptpOn p = false ∨ ∃ t, (m.ptp p).reqMon = some t ∧
        m.since t < 1000000000) (ptpB.updPtp 1 (fun p => { p with reqMon := some (ago 999999999) }))) (1)) ∧
    ((fun p (r : PdResp) t1 => Met (fun m => p < 2 ∧ (m.ptp p).pdReq = some (r.seq, t1) ∧ m.ptpOn p = true ∧
        r.twoStep = false) (ptpB.updPtp 1 (fun p =>
        { p with pdReq := some (4, 0) }))) (1) ({ seq := 4, twoStep := false, stamp := 0, corr := 0, rx := 0 }) (0)) ∧
    ((fun p (r : PdResp) t1 => Met (fun m => p < 2 ∧ (m.ptp p).pdReq = some (r.seq, t1) ∧ m.ptpOn p = true ∧
        r.twoStep = true) (ptpB.updPtp 1 (fun p =>
        { p with pdReq := some (4, 0) }))) (1) ({ seq := 4, twoStep := true, stamp := 0, corr := 0, rx := 0 }) (0)) ∧
    ((fun p (r : PdResp) => Met (fun m => p < 2 ∧
        (m.ptpOn p = false ∨ ∀ t1, (m.ptp p).pdReq ≠ some (r.seq,
        t1))) (ptpB.updPtp 1 (fun p =>
        { p with pdReq := some (4, 0) }))) (1) ({ seq := 5, twoStep := false, stamp := 0, corr := 0, rx := 0 })) ∧
    ((fun p (r : PdResp) rt t2 => Met (fun m => p < 2 ∧ (m.ptp p).pdResp = some (r.seq, rt, t2) ∧
        m.ptpOn p = true) (ptpB.updPtp 1 (fun p =>
        { p with pdResp := some (4, 0, 0) }))) (1) ({ seq := 4, twoStep := true, stamp := 0, corr := 0, rx := 0 }) (0) (0)) ∧
    ((fun p (r : PdResp) => Met (fun m => p < 2 ∧
        (m.ptpOn p = false ∨ ∀ rt t2, (m.ptp p).pdResp ≠ some (r.seq, rt,
        t2))) (ptpB.updPtp 1 (fun p =>
        { p with pdResp := some (4, 0, 0) }))) (1) ({ seq := 5, twoStep := true, stamp := 0, corr := 0, rx := 0 })) ∧
    ((fun p => Met (fun m => p < 2 ∧ m.ptpOn p = true) (ptpB)) (1)) ∧
    ((fun p => Met (fun m => m.ptpOn p = false) (blk)) (1)) ∧
    ((fun p => Met (fun m => p < 2 ∧ m.ptpOn p = true ∧ m.acts = true ∧ m.flag .tbCtrl F.tbCtrl_MASTER_EN = true ∧ m.tb.src ≠ some .ptp ∧
        (∀ t, (m.ptp p).mSync = some t → 1000000000 / 2 ^ ((16 - m.fld .tbPtpCfg F.tbPtpCfg_LOG_SYNC) % 16) ≤ m.since t) ∧
        ∃ t, (m.ptp p).mAnn = some t ∧
        m.since t < 1000000000) ((ptpB.setF .tbCtrl F.tbCtrl_MASTER_EN 1).updPtp 1 (fun p =>
        { p with mSync := some (ago 1000000000), mAnn := some (ago 999999999) }))) (1)) ∧
    ((fun p => Met (fun m => p < 2 ∧ m.ptpOn p = true ∧ m.acts = true ∧ m.flag .tbCtrl F.tbCtrl_MASTER_EN = true ∧ m.tb.src ≠ some .ptp ∧
        (∀ t, (m.ptp p).mSync = some t → 1000000000 / 2 ^ ((16 - m.fld .tbPtpCfg F.tbPtpCfg_LOG_SYNC) % 16) ≤ m.since t) ∧
        (∀ t, (m.ptp p).mAnn = some t → 1000000000 ≤ m.since t)) ((ptpB.setF .tbCtrl F.tbCtrl_MASTER_EN 1).updPtp 1 (fun p =>
        { p with mSync := some (ago 1000000000), mAnn := some (ago 1000000000) }))) (1)) ∧
    ((fun p => Met (fun m => m.flag .tbCtrl F.tbCtrl_MASTER_EN = false ∨ m.acts = false ∨ m.tb.src = some .ptp ∨ m.ptpOn p = false ∨ ∃ t,
        (m.ptp p).mSync = some t ∧
        m.since t < 1000000000 / 2 ^ ((16 - m.fld .tbPtpCfg F.tbPtpCfg_LOG_SYNC) % 16)) ((ptpB.setF .tbCtrl F.tbCtrl_MASTER_EN 1).updPtp 1 (fun p => { p with mSync := some (ago 0) }))) (1)) := by
  refine ⟨?_, ?_, ?_, ?_, ?_, ?_, ?_, ?_, ?_, ?_, ?_, ?_, ?_, ?_, ?_, ?_, ?_, ?_, ?_, ?_, ?_, ?_, ?_, ?_, ?_⟩
  · repeat' apply And.intro
    all_goals first | decide +kernel | rfl
  · repeat' apply And.intro
    all_goals first | decide +kernel | rfl
  · exact ⟨⟨rfl, by decide⟩, by decide, Or.inr (Or.inr (Or.inr ⟨{ id := 5, rank := 9, syncNs := 125000000 }, by decide +kernel,
      by decide, by decide⟩))⟩
  · exact ⟨⟨rfl, by decide⟩, by decide,
      fun p hp t ht => by rcases p with _ | _ | _ <;> first | omega | (injection ht with ht; subst ht; decide +kernel)⟩
  · exact ⟨⟨rfl, by decide⟩, Or.inr ⟨1, ago 2999999999, by decide, by decide +kernel, by decide +kernel⟩⟩
  · repeat' apply And.intro
    all_goals first | decide +kernel | rfl
  · exact ⟨⟨rfl, by decide⟩, by decide,
      Or.inr (Or.inr (Or.inr (all_some (a := { id := 5, rank := 9, syncNs := 125000000 }) (by decide +kernel) (by decide +kernel))))⟩
  · repeat' apply And.intro
    all_goals first | decide +kernel | rfl
  · exact ⟨⟨rfl, by decide⟩, by decide,
      Or.inr (Or.inr (Or.inr (fun q rx corr h => by injection h with h; injection h with h; subst h; decide)))⟩
  · repeat' apply And.intro
    all_goals first | decide +kernel | rfl
  · repeat' apply And.intro
    all_goals first | decide +kernel | rfl
  · repeat' apply And.intro
    all_goals first | decide +kernel | rfl
  · exact ⟨⟨rfl, by decide⟩, Or.inr (Or.inl ⟨ago 374999999, by decide +kernel, by decide +kernel⟩)⟩
  · exact ⟨⟨rfl, by decide⟩, by decide, by decide +kernel, all_some (a := ago 1000000000) (by decide +kernel) (by decide +kernel)⟩
  · exact ⟨⟨rfl, by decide⟩, Or.inr ⟨ago 999999999, by decide +kernel, by decide +kernel⟩⟩
  · repeat' apply And.intro
    all_goals first | decide +kernel | rfl
  · repeat' apply And.intro
    all_goals first | decide +kernel | rfl
  · exact ⟨⟨rfl, by decide⟩, by decide, Or.inr (fun t1 h => by injection h with h; injection h with h; revert h; decide)⟩
  · repeat' apply And.intro
    all_goals first | decide +kernel | rfl
  · exact ⟨⟨rfl, by decide⟩, by decide, Or.inr (fun rt t2 h => by injection h with h; injection h with h; revert h; decide)⟩
  · repeat' apply And.intro
    all_goals first | decide +kernel | rfl
  · repeat' apply And.intro
    all_goals first | decide +kernel | rfl
  · exact ⟨⟨rfl, by decide⟩, by decide, by decide +kernel, by decide +kernel, by decide +kernel, by decide +kernel,
      all_some (a := ago 1000000000) (by decide +kernel) (by decide +kernel), ago 999999999, by decide +kernel, by decide +kernel⟩
  · exact ⟨⟨rfl, by decide⟩, by decide, by decide +kernel, by decide +kernel, by decide +kernel, by decide +kernel,
      all_some (a := ago 1000000000) (by decide +kernel) (by decide +kernel),
        all_some (a := ago 1000000000) (by decide +kernel) (by decide +kernel)⟩
  · exact ⟨⟨rfl, by decide⟩, Or.inr (Or.inr (Or.inr (Or.inr ⟨ago 0, by decide +kernel, by decide +kernel⟩)))⟩

/-- ReRouteHold: each clause's conditions are met. -/
theorem witness_ReRouteHold :
    ((fun (h : HoldSt) => Met (fun m => m.tb.hold = some h ∧ m.fld .tbRrCfg F.tbRrCfg_HOLD_T * 1000000000 ≤ m.since h.tStart ∧
        m.holdOffs h ≠ [] ∧ (ratRound (meanI (m.holdOffs h))).natAbs ≤ 10 * m.fld .tbRrCfg F.tbRrCfg_VERIFY_THR) (blk.updTb (fun t =>
        { t with hold := some ({ holdS with tStart := ago (blk.fld .tbRrCfg F.tbRrCfg_HOLD_T * 1000000000), offs := [(ago 0, 10 * blk.fld .tbRrCfg F.tbRrCfg_VERIFY_THR)] }) }))) ({ holdS with tStart := ago (blk.fld .tbRrCfg F.tbRrCfg_HOLD_T * 1000000000), offs := [(ago 0, 10 * blk.fld .tbRrCfg F.tbRrCfg_VERIFY_THR)] })) ∧
    ((fun (h : HoldSt) => Met (fun m => m.tb.hold = some h ∧ m.fld .tbRrCfg F.tbRrCfg_HOLD_T * 1000000000 ≤ m.since h.tStart ∧
        m.holdOffs h ≠ [] ∧ 10 * m.fld .tbRrCfg F.tbRrCfg_VERIFY_THR < (ratRound (meanI (m.holdOffs h))).natAbs) (blk.updTb (fun t =>
        { t with hold := some ({ holdS with tStart := ago (blk.fld .tbRrCfg F.tbRrCfg_HOLD_T * 1000000000), offs := [(ago 0, 10 * blk.fld .tbRrCfg F.tbRrCfg_VERIFY_THR + 1)] }) }))) ({ holdS with tStart := ago (blk.fld .tbRrCfg F.tbRrCfg_HOLD_T * 1000000000), offs := [(ago 0, 10 * blk.fld .tbRrCfg F.tbRrCfg_VERIFY_THR + 1)] })) ∧
    ((fun (h : HoldSt) => Met (fun m => m.tb.hold = some h ∧ m.fld .tbRrCfg F.tbRrCfg_HOLD_T * 1000000000 ≤ m.since h.tStart ∧
        m.holdOffs h = []) (blk.updTb (fun t =>
        { t with hold := some ({ holdS with tStart := ago (blk.fld .tbRrCfg F.tbRrCfg_HOLD_T * 1000000000) }) }))) ({ holdS with tStart := ago (blk.fld .tbRrCfg F.tbRrCfg_HOLD_T * 1000000000) })) ∧
    Met (fun m => ∀ h, m.tb.hold = some h → m.since h.tStart < m.fld .tbRrCfg F.tbRrCfg_HOLD_T * 1000000000) (blk.updTb (fun t =>
        { t with hold := some ({ holdS with tStart := ago (blk.fld .tbRrCfg F.tbRrCfg_HOLD_T * 1000000000 - 1) }) })) ∧
    ((fun (h : HoldSt) => Met (fun m => m.tb.hold = some h ∧
        m.fld .tbRrCtrl F.tbRrCtrl_HOLD_MAX * 1000000000 ≤ m.since h.entered) (blk.updTb (fun t =>
        { t with hold := some ({ holdS with entered := ago (blk.fld .tbRrCtrl F.tbRrCtrl_HOLD_MAX * 1000000000) }) }))) ({ holdS with entered := ago (blk.fld .tbRrCtrl F.tbRrCtrl_HOLD_MAX * 1000000000) })) ∧
    Met (fun m => ∀ h, m.tb.hold = some h → m.since h.entered < m.fld .tbRrCtrl F.tbRrCtrl_HOLD_MAX * 1000000000) (blk.updTb (fun t =>
        { t with hold := some ({ holdS with entered := ago (blk.fld .tbRrCtrl F.tbRrCtrl_HOLD_MAX * 1000000000 - 1) }) })) ∧
    ((fun ses x (h : HoldSt) => Met (fun m => m.mayWrite x ses .tbRrCtrl (m.withFields .tbRrCtrl [(F.tbRrCtrl_ACCEPT, 1)]) ∧
        m.tb.hold = some h) ((blk.updTb (fun t => { t with st := .hold, hold := some holdS })))) (1) (x1) (holdS)) := by
  refine ⟨?_, ?_, ?_, ?_, ?_, ?_, ?_⟩
  · repeat' apply And.intro
    all_goals first | decide +kernel | rfl
  · repeat' apply And.intro
    all_goals first | decide +kernel | rfl
  · repeat' apply And.intro
    all_goals first | decide +kernel | rfl
  · exact ⟨⟨rfl, by decide⟩,
      all_some (a := { holdS with tStart := ago (blk.fld .tbRrCfg F.tbRrCfg_HOLD_T * 1000000000 - 1) }) (by decide +kernel) (by decide +kernel)⟩
  · repeat' apply And.intro
    all_goals first | decide +kernel | rfl
  · exact ⟨⟨rfl, by decide⟩,
      all_some (a := { holdS with entered := ago (blk.fld .tbRrCtrl F.tbRrCtrl_HOLD_MAX * 1000000000 - 1) }) (by decide +kernel) (by decide +kernel)⟩
  · repeat' apply And.intro
    all_goals first | decide +kernel | rfl

/-- Lanes: each clause's conditions are met. -/
theorem witness_Lanes :
    ((fun ses x l w => Met (fun m => l < 4 ∧ m.mayWrite x ses (.lnCfg l) w) (blk)) (1) (x1) (3) ((blk.rd (.lnCfg 3)))) ∧
    ((fun l an f => Met (fun m => l < 4 ∧ (m.lane l).st = .train ∧ (an = true ∨ m.laneAn l = false) ∧
        (BitVec.ofNat 16 f).toInt.natAbs ≤ 2000) (blk.updLane 3 (fun x => { x with st := .train }))) (3) (true) (2000)) ∧
    ((fun l an f => Met (fun m => l < 4 ∧ ((m.lane l).st ≠ .train ∨ (an = false ∧
        m.laneAn l = true) ∨ 2000 < (BitVec.ofNat 16 f).toInt.natAbs)) (blk.updLane 3 (fun x =>
        { x with st := .train }))) (3) (true) (2001)) ∧
    ((fun l c => Met (fun m => l < 4 ∧ m.laneCause l c = true ∧
        (m.lane l).st = .align) (blk.updLane 3 (fun x => { x with st := .align }))) (3) (3)) ∧
    ((fun l c => Met (fun m => l < 4 ∧ m.laneCause l c = true ∧
        (m.lane l).st = .up) (blk.updLane 3 (fun x => { x with st := .up }))) (3) (3)) ∧
    ((fun l c => Met (fun m => l < 4 ∧ m.laneCause l c = true ∧
        ((m.lane l).st = .train ∨ (m.lane l).st = .test)) (blk.updLane 3 (fun x => { x with st := .test }))) (3) (1)) ∧
    ((fun l c => Met (fun m => l < 4 ∧
        (m.laneCause l c = false ∨ (m.lane l).st = .off ∨ (m.lane l).st = .fenced)) (blk.updLane 3 (fun x =>
        { x with st := .up }))) (3) (7)) ∧
    ((fun l => Met (fun m => l < 4 ∧ (m.lane l).st = .align ∧
        msNs (m.fld (.lnCfg l) F.lnCfg_UP_HOLD) ≤ m.since (m.lane l).alignMon) (blk.updLane 3 (fun x =>
        { x with st := .align, alignMon := ago (msNs (blk.fld (.lnCfg 3) F.lnCfg_UP_HOLD)) }))) (3)) ∧
    ((fun l => Met (fun m => l < 4 ∧
        ((m.lane l).st ≠ .align ∨ m.since (m.lane l).alignMon < msNs (m.fld (.lnCfg l) F.lnCfg_UP_HOLD))) ((blk.updLane 3 (fun x =>
        { x with st := .align, alignMon := ago 999999 })).setF (.lnCfg 3) F.lnCfg_UP_HOLD 1)) (3)) ∧
    ((fun l => Met (fun m => l < 4 ∧ (m.lane l).st = .train ∧
        msNs 5 ≤ m.since (m.lane l).trainMon) (blk.updLane 3 (fun x => { x with st := .train, trainMon := ago 5000000 }))) (3)) ∧
    ((fun l => Met (fun m => l < 4 ∧
        ((m.lane l).st ≠ .train ∨ m.since (m.lane l).trainMon < msNs 5)) (blk.updLane 3 (fun x =>
        { x with st := .train, trainMon := ago 4999999 }))) (3)) ∧
    ((fun ses x l w => Met (fun m => l < 4 ∧ m.mayWrite x ses (.lnAdapt l) w) (blk)) (1) (x1) (3) (0)) ∧
    ((fun ses x l w => Met (fun m => l < 4 ∧ m.mayWrite x ses (.lnScanCtrl l) w ∧
        F.lnScanCtrl_START.get w = 1) (blk.updLane 3 (fun x =>
        { x with st := .up }))) (1) (x1) (3) (F.lnScanCtrl_START.set (blk.rd (.lnScanCtrl 3)) 1)) ∧
    ((fun l => Met (fun m => l < 4 ∧ (m.lane l).scan = true ∧
        2 ^ (20 + m.fld (.lnScanCtrl l) F.lnScanCtrl_DWELL) ≤ m.laneBits l (m.since (m.lane l).scanMon)) ((blk.updLane 3 (fun x =>
        { x with st := .up, scan := true, scanMon := ago 1048576 })).setF (.lnScanCtrl 3) F.lnScanCtrl_DWELL 0)) (3)) ∧
    ((fun l => Met (fun m =>
        (m.lane l).scan = false ∨ m.laneBits l (m.since (m.lane l).scanMon) < 2 ^ (20 + m.fld (.lnScanCtrl l) F.lnScanCtrl_DWELL)) ((blk.updLane 3 (fun x => { x with st := .up, scan := true, scanMon := ago 100000 })).setF (.lnScanCtrl 3) F.lnScanCtrl_DWELL 0)) (3)) ∧
    ((fun l => Met (fun m => l < 4 ∧ (m.lane l).scan = false ∧ (m.lane l).st ≠ .off ∧ (m.lane l).st ≠ .fenced ∧
        msNs 100 ≤ m.since (m.lane l).eyeMon) (blk.updLane 3 (fun x => { x with st := .up, eyeMon := ago 100000000 }))) (3)) ∧
    ((fun l => Met (fun m =>
        (m.lane l).scan = true ∨ (m.lane l).st = .off ∨ (m.lane l).st = .fenced ∨ m.since (m.lane l).eyeMon < msNs 100) (blk.updLane 3 (fun x => { x with st := .up, eyeMon := ago 99999999 }))) (3)) ∧
    ((fun ses x l w => Met (fun m => l < 4 ∧
        m.mayWrite x ses (.lnPrbsCtrl l) w) (blk.updLane 3 (fun x => { x with st := .test }))) (1) (x1) (3) (F.lnPrbsCtrl_CHK_EN.set 0 1)) ∧
    ((fun l run => Met (fun m => l < 4 ∧ (m.lane l).st = .test ∧ m.flag (.lnPrbsCtrl l) F.lnPrbsCtrl_CHK_EN = true ∧
        64 ≤ run) ((blk.updLane 3 (fun x => { x with st := .test })).setF (.lnPrbsCtrl 3) F.lnPrbsCtrl_CHK_EN 1)) (3) (64)) ∧
    ((fun l run => Met (fun m =>
        (m.lane l).st ≠ .test ∨ m.flag (.lnPrbsCtrl l) F.lnPrbsCtrl_CHK_EN = false ∨ run < 64) ((blk.updLane 3 (fun x =>
        { x with st := .test })).setF (.lnPrbsCtrl 3) F.lnPrbsCtrl_CHK_EN 1)) (3) (63)) ∧
    ((fun l win => Met (fun m => l < 4 ∧ (m.lane l).st = .test ∧ m.flag (.lnPrbsCtrl l) F.lnPrbsCtrl_CHK_EN = true ∧
        m.flag (.lnPrbsStat l) F.lnPrbsStat_SYNC = true ∧
        32 ≤ win) (((blk.updLane 3 (fun x =>
        { x with st := .test })).setF (.lnPrbsCtrl 3) F.lnPrbsCtrl_CHK_EN 1).setF (.lnPrbsStat 3) F.lnPrbsStat_SYNC 1)) (3) (32)) ∧
    ((fun l win => Met (fun m => l < 4 ∧ (m.lane l).st = .test ∧ m.flag (.lnPrbsCtrl l) F.lnPrbsCtrl_CHK_EN = true ∧
        m.flag (.lnPrbsStat l) F.lnPrbsStat_SYNC = true ∧
        win < 32) (((blk.updLane 3 (fun x =>
        { x with st := .test })).setF (.lnPrbsCtrl 3) F.lnPrbsCtrl_CHK_EN 1).setF (.lnPrbsStat 3) F.lnPrbsStat_SYNC 1)) (3) (31)) ∧
    ((fun l => Met (fun m =>
        (m.lane l).st ≠ .test ∨ m.flag (.lnPrbsCtrl l) F.lnPrbsCtrl_CHK_EN = false ∨ m.flag (.lnPrbsStat l) F.lnPrbsStat_SYNC = false) ((blk.updLane 3 (fun x => { x with st := .test })).setF (.lnPrbsCtrl 3) F.lnPrbsCtrl_CHK_EN 1)) (3)) ∧
    ((fun ses x l => Met (fun m => l < 4 ∧
        m.mayWrite x ses (.lnPrbsCtrl l) (m.withFields (.lnPrbsCtrl l) [(F.lnPrbsCtrl_CLR,
        1)])) (blk.updLane 3 (fun x => { x with st := .test }))) (1) (x1) (3)) ∧
    ((fun ses x l => Met (fun m => l < 4 ∧
        m.mayWrite x ses (.lnPrbsCtrl l) (m.withFields (.lnPrbsCtrl l) [(F.lnPrbsCtrl_INJ,
        1)])) (blk.updLane 3 (fun x => { x with st := .test }))) (1) (x1) (3)) := by
  refine ⟨?_, ?_, ?_, ?_, ?_, ?_, ?_, ?_, ?_, ?_, ?_, ?_, ?_, ?_, ?_, ?_, ?_, ?_, ?_, ?_, ?_, ?_, ?_, ?_, ?_⟩
  · repeat' apply And.intro
    all_goals first | decide +kernel | rfl
  · repeat' apply And.intro
    all_goals first | decide +kernel | rfl
  · repeat' apply And.intro
    all_goals first | decide +kernel | rfl
  · repeat' apply And.intro
    all_goals first | decide +kernel | rfl
  · repeat' apply And.intro
    all_goals first | decide +kernel | rfl
  · repeat' apply And.intro
    all_goals first | decide +kernel | rfl
  · repeat' apply And.intro
    all_goals first | decide +kernel | rfl
  · repeat' apply And.intro
    all_goals first | decide +kernel | rfl
  · repeat' apply And.intro
    all_goals first | decide +kernel | rfl
  · repeat' apply And.intro
    all_goals first | decide +kernel | rfl
  · repeat' apply And.intro
    all_goals first | decide +kernel | rfl
  · repeat' apply And.intro
    all_goals first | decide +kernel | rfl
  · repeat' apply And.intro
    all_goals first | decide +kernel | rfl
  · repeat' apply And.intro
    all_goals first | decide +kernel | rfl
  · repeat' apply And.intro
    all_goals first | decide +kernel | rfl
  · repeat' apply And.intro
    all_goals first | decide +kernel | rfl
  · repeat' apply And.intro
    all_goals first | decide +kernel | rfl
  · repeat' apply And.intro
    all_goals first | decide +kernel | rfl
  · repeat' apply And.intro
    all_goals first | decide +kernel | rfl
  · repeat' apply And.intro
    all_goals first | decide +kernel | rfl
  · repeat' apply And.intro
    all_goals first | decide +kernel | rfl
  · repeat' apply And.intro
    all_goals first | decide +kernel | rfl
  · repeat' apply And.intro
    all_goals first | decide +kernel | rfl
  · repeat' apply And.intro
    all_goals first | decide +kernel | rfl
  · repeat' apply And.intro
    all_goals first | decide +kernel | rfl

/-- ReceiveAndGoose: each clause's conditions are met. -/
theorem witness_ReceiveAndGoose :
    ((fun (f : MacFrame) => Met (fun m => m.rxUp f.lane = false) (blk)) (frm)) ∧
    ((fun (f : MacFrame) => Met (fun m => m.rxUp f.lane = true ∧
        f.cut = true) ((blk.updLane 3 (fun x => { x with st := .up })))) ({ frm with cut := true })) ∧
    ((fun (f : MacFrame) => Met (fun m => m.rxUp f.lane = true ∧ f.cut = false ∧
        f.fcs = false) ((blk.updLane 3 (fun x => { x with st := .up })))) ({ frm with fcs := false })) ∧
    ((fun (f : MacFrame) => Met (fun m => m.rxUp f.lane = true ∧ f.cut = false ∧ f.fcs = true ∧
        (f.len < 64 ∨ 1528 < f.len)) ((blk.updLane 3 (fun x => { x with st := .up })))) ({ frm with len := 63 })) ∧
    ((fun (f : MacFrame) => Met (fun m => m.rxUp f.lane = true ∧ f.cut = false ∧ f.fcs = true ∧ 64 ≤ f.len ∧ f.len ≤ 1528 ∧
        f.etype = 0x8808) ((blk.updLane 3 (fun x => { x with st := .up })))) ({ frm with len := 64, etype := 0x8808 })) ∧
    ((fun (f : MacFrame) => Met (fun m => m.rxUp f.lane = true ∧ f.cut = false ∧ f.fcs = true ∧ 64 ≤ f.len ∧ f.len ≤ 1528 ∧
        f.etype ≠ 0x8808 ∧ f.double = true) ((blk.updLane 3 (fun x => { x with st := .up })))) ({ frm with len := 1528, double := true })) ∧
    ((fun (f : MacFrame) l ap (g : GooseMsg) => Met (fun m => f.lane = l ∧ m.rxUp l = true ∧ f.cut = false ∧ f.fcs = true ∧ 64 ≤ f.len ∧
        f.len ≤ 1528 ∧ f.etype = 0x88B8 ∧ f.double = false ∧ f.tag = none ∧ m.dual = false ∧ f.body = .goose ap g ∧
        (m.bump (.mac l 0) F.mac_COUNT 1).dstOk l f.dst = true ∧
        ((m.bump (.mac l 0) F.mac_COUNT 1).subFor true f.dst ap).isSome = true) ({ (blk.updLane 3 (fun x => { x with st := .up })) with net := { blk.net with table := [(5, { set := 0, goose := true, idx := 127, mac := 0xFFFFFFFFFFFF, appid := 1 })] } })) ({ frm with body := .goose 1 { idCrc := 0, confRev := 0, ndsCom := false, sim := false, stNum := 1, sqNum := 0, tal := 100, data := [] }, dst := 0xFFFFFFFFFFFF }) (3) (1) ({ idCrc := 0, confRev := 0, ndsCom := false, sim := false, stNum := 1, sqNum := 0, tal := 100, data := [] })) ∧
    ((fun l => Met (fun m => l < 5 ∧ m.rxUp l = true) ((blk.updLane 4 (fun x => { x with st := .up })))) (4)) ∧
    ((fun l => Met (fun m => m.rxUp l = false) (blk)) (4)) ∧
    ((fun g => Met (fun m => g < 128 ∧ (m.gsub g).live = true ∧
        msNs (m.gsub g).tal ≤ m.since (m.gsub g).lastMon) (blk.updGsub 127 (fun x =>
        { x with live := true, tal := 100, lastMon := ago 100000000 }))) (127)) ∧
    ((fun g => Met (fun m => (m.gsub g).live = false ∨ m.since (m.gsub g).lastMon < msNs (m.gsub g).tal) (blk.updGsub 127 (fun x =>
        { x with live := true, tal := 100, lastMon := ago 99999999 }))) (127)) ∧
    ((fun l e => Met (fun m => l < 5 ∧ m.rxUp l = true ∧
        m.hostMatch l e = true) (((blk.updLane 4 (fun x =>
        { x with st := .up })).setF (.hostf 7) F.hostf_ETYPE 0x88CC).setF (.hostf 7) F.hostf_LANE_MASK 16)) (4) (0x88CC)) ∧
    ((fun l e => Met (fun m => m.rxUp l = false ∨ m.hostMatch l e = false) ((blk.updLane 4 (fun x =>
        { x with st := .up })))) (4) (0x88CC)) := by
  refine ⟨?_, ?_, ?_, ?_, ?_, ?_, ?_, ?_, ?_, ?_, ?_, ?_, ?_⟩
  · repeat' apply And.intro
    all_goals first | decide +kernel | rfl
  · repeat' apply And.intro
    all_goals first | decide +kernel | rfl
  · repeat' apply And.intro
    all_goals first | decide +kernel | rfl
  · repeat' apply And.intro
    all_goals first | decide +kernel | rfl
  · repeat' apply And.intro
    all_goals first | decide +kernel | rfl
  · repeat' apply And.intro
    all_goals first | decide +kernel | rfl
  · repeat' apply And.intro
    all_goals first | decide +kernel | rfl
  · repeat' apply And.intro
    all_goals first | decide +kernel | rfl
  · repeat' apply And.intro
    all_goals first | decide +kernel | rfl
  · repeat' apply And.intro
    all_goals first | decide +kernel | rfl
  · repeat' apply And.intro
    all_goals first | decide +kernel | rfl
  · repeat' apply And.intro
    all_goals first | decide +kernel | rfl
  · repeat' apply And.intro
    all_goals first | decide +kernel | rfl

/-- GooseConfiguration: each clause's conditions are met. -/
theorem witness_GooseConfiguration :
    ((fun ses x g w => Met (fun m => g < 128 ∧
        m.mayWrite x ses (.gsubCfg g) w) (blk)) (1) (x1) (127) (F.gsubCfg_EN.set (blk.rd (.gsubCfg 127)) 1)) ∧
    ((fun ses x p w => Met (fun m => p < 128 ∧ m.mayWrite x ses (.gpubCtrl p) w) (blk)) (1) (x1) (127) ((blk.rd (.gpubCtrl 127)))) ∧
    ((fun p t => Met (fun m => p < 128 ∧ (m.gpub p).nextMon = some t ∧ (t - m.mon).toInt ≤ 0 ∧
        m.flag (.gpubCtrl p) F.gpubCtrl_EN = true ∧
        m.acts = true) ((blk.updGpub 127 (fun x =>
        { x with nextMon := some (ago 0) })).setF (.gpubCtrl 127) F.gpubCtrl_EN 1)) (127) (ago 0)) ∧
    ((fun p => Met (fun m => (∀ t,
        (m.gpub p).nextMon = some t → 0 < (t - m.mon).toInt) ∨ m.flag (.gpubCtrl p) F.gpubCtrl_EN = false ∨ m.acts = false) ((blk.updGpub 127 (fun x => { x with nextMon := some (blk.mon + 1) })).setF (.gpubCtrl 127) F.gpubCtrl_EN 1)) (127)) ∧
    ((fun ses x w => Met (fun m => m.mayWrite x ses .gpubWinData w) (blk)) (1) (x1) (0)) ∧
    ((fun ses x => Met (fun m => m.sess ses = some x ∧ m.start.recovery = false) (blk)) (1) (x1)) := by
  refine ⟨?_, ?_, ?_, ?_, ?_, ?_⟩
  · repeat' apply And.intro
    all_goals first | decide +kernel | rfl
  · repeat' apply And.intro
    all_goals first | decide +kernel | rfl
  · repeat' apply And.intro
    all_goals first | decide +kernel | rfl
  · exact ⟨⟨rfl, by decide⟩, Or.inl (all_some (a := blk.mon + 1) (by decide +kernel) (by decide +kernel))⟩
  · repeat' apply And.intro
    all_goals first | decide +kernel | rfl
  · repeat' apply And.intro
    all_goals first | decide +kernel | rfl

/-- GlxStations: each clause's conditions are met. -/
theorem witness_GlxStations :
    ((fun (h : GlxHdr) => Met (fun m => m.rxUp h.lane = false ∨ m.flag .netCtrl F.netCtrl_GLX_EN = false) (blk)) (gh 30)) ∧
    ((fun (h : GlxHdr) (p : List Byte) t => Met (fun m => m.rxUp h.lane = true ∧ m.flag .netCtrl F.netCtrl_GLX_EN = true ∧
        m.glxOk h t p = false) (staB sta0)) (gh 29) (zeros 30) (1)) ∧
    ((fun (h : GlxHdr) (p : List Byte) => Met (fun m => m.glxTakes h 0x01 p ∧
        m.staOf h.src = none) (staB sta0)) ({ gh 30 with src := 8 }) (zeros 30)) ∧
    ((fun (h : GlxHdr) (p : List Byte) e => Met (fun m => m.glxTakes h 0x01 p ∧ m.staOf h.src = some e ∧
        (m.staLane e h.lane = false ∨ (m.sta e).st = .disabled)) ((staB sta0).updLane 0 (fun x =>
        { x with st := .up }))) ({ gh 30 with lane := 0 }) (zeros 30) (255)) ∧
    ((fun (h : GlxHdr) (p : List Byte) e (l : Layout) => Met (fun m => m.glxTakes h 0x01 p ∧ m.staOf h.src = some e ∧
        m.staLane e h.lane = true ∧ (m.sta e).st = .waiting ∧ l.ok = true) (staB sta0)) (gh 30) (zeros 30) (255) (⟨0, 0, 0, 0⟩)) ∧
    ((fun (h : GlxHdr) (p : List Byte) e (l : Layout) => Met (fun m => m.glxTakes h 0x01 p ∧ m.staOf h.src = some e ∧
        m.staLane e h.lane = true ∧ (m.sta e).st = .waiting ∧
        l.ok = false) (staB sta0)) (gh 30) ([0, 0, 255, 255] ++ zeros 26) (255) (⟨65535, 0, 0, 0⟩)) ∧
    ((fun (h : GlxHdr) (p : List Byte) e => Met (fun m => m.glxTakes h 0x01 p ∧ m.staOf h.src = some e ∧ m.staLane e h.lane = true ∧
        ((m.sta e).st = .admitted ∨ (m.sta e).st = .live ∨ (m.sta e).st = .silent) ∧
        h.mac ≠ (m.sta e).mac) (staB { sta0 with st := .silent })) ({ gh 30 with mac := 8 }) (zeros 30) (255)) ∧
    ((fun (h : GlxHdr) (p : List Byte) e => Met (fun m => m.glxTakes h 0x01 p ∧ m.staOf h.src = some e ∧ m.staLane e h.lane = true ∧
        (m.sta e).st = .admitted ∧ h.mac = (m.sta e).mac) (staB { sta0 with st := .admitted })) (gh 30) (zeros 30) (255)) ∧
    ((fun (h : GlxHdr) (p : List Byte) e (l : Layout) => Met (fun m => m.glxTakes h 0x01 p ∧ m.staOf h.src = some e ∧
        m.staLane e h.lane = true ∧ ((m.sta e).st = .live ∨ (m.sta e).st = .silent) ∧ h.mac = (m.sta e).mac ∧
        (m.sta e).layout = some l) (staB { sta0 with st := .live })) (gh 30) (zeros 30) (255) (⟨0, 0, 0, 0⟩)) ∧
    ((fun (h : GlxHdr) (p : List Byte) e (l : Layout) => Met (fun m => m.glxTakes h 0x01 p ∧ m.staOf h.src = some e ∧
        m.staLane e h.lane = true ∧ ((m.sta e).st = .live ∨ (m.sta e).st = .silent) ∧ h.mac = (m.sta e).mac ∧
        (m.sta e).layout ≠ some l) (staB { sta0 with st := .live, layout := none })) (gh 30) (zeros 30) (255) (⟨0, 0, 0, 0⟩)) ∧
    ((fun (h : GlxHdr) (p : List Byte) e (l : Layout) => Met (fun m => m.glxTakes h 0x10 p ∧ m.glxFrom h = some e ∧
        ((m.staHeard e).sta e).layout = some l ∧
        (((m.staHeard e).sta e).st = .admitted ∨ ((m.staHeard e).sta e).st = .live ∨ ((m.staHeard e).sta e).st = .silent) ∧
        ∀ q, ((m.staHeard e).sta e).seq = some q → 0 < sdiff16 h.seq q) (staB { sta0 with st := .silent, seq := some 0 })) (gh 0) ([]) (255) (⟨0, 0, 0, 0⟩)) ∧
    ((fun (h : GlxHdr) (p : List Byte) e => Met (fun m => m.glxTakes h 0x10 p ∧ m.glxFrom h = some e ∧
        (((m.staHeard e).sta e).layout = none ∨ ((m.staHeard e).sta e).st = .disabled ∨ ((m.staHeard e).sta e).st = .waiting ∨ ∃ q,
        ((m.staHeard e).sta e).seq = some q ∧ sdiff16 h.seq q ≤ 0)) (staB { sta0 with st := .live, seq := some 1 })) (gh 0) ([]) (255)) ∧
    ((fun (h : GlxHdr) (p : List Byte) => Met (fun m => m.glxTakes h 0x10 p ∧
        m.glxFrom h = none) (staB sta0)) ({ gh 0 with src := 8 }) ([])) ∧
    ((fun (h : GlxHdr) (p : List Byte) e => Met (fun m => m.glxTakes h 0x03 p ∧ m.glxFrom h = some e ∧
        (((m.staHeard e).sta e).st = .live ∨ ((m.staHeard e).sta e).st = .silent)) (staB { sta0 with st := .live })) (gh 0) ([]) (255)) ∧
    ((fun (h : GlxHdr) (p : List Byte) e => Met (fun m => m.glxTakes h 0x03 p ∧ m.glxFrom h = some e ∧
        ((m.staHeard e).sta e).st ≠ .live ∧ ((m.staHeard e).sta e).st ≠ .silent) (staB sta0)) (gh 0) ([]) (255)) ∧
    ((fun (h : GlxHdr) (p : List Byte) => Met (fun m => m.glxTakes h 0x03 p ∧
        m.glxFrom h = none) (staB sta0)) ({ gh 0 with src := 8 }) ([])) ∧
    ((fun e => Met (fun m => e < 256 ∧ 100000 * m.fld (.staTime e) F.staTime_LIVE_TMO ≤ m.since (m.sta e).lastInput ∧
        (m.sta e).st = .live) (staB { sta0 with st := .live, lastInput := ago (100000 * blk.fld (.staTime 255) F.staTime_LIVE_TMO) })) (255)) ∧
    ((fun e => Met (fun m => e < 256 ∧ 100000 * m.fld (.staTime e) F.staTime_LIVE_TMO ≤ m.since (m.sta e).lastInput ∧
        (m.sta e).st = .admitted) (staB { sta0 with st := .admitted, lastInput := ago (100000 * blk.fld (.staTime 255) F.staTime_LIVE_TMO) })) (255)) ∧
    ((fun e => Met (fun m => m.since (m.sta e).lastInput < 100000 * m.fld (.staTime e) F.staTime_LIVE_TMO ∨ ((m.sta e).st ≠ .live ∧
        (m.sta e).st ≠ .admitted)) (staB { sta0 with st := .live, lastInput := ago (100000 * blk.fld (.staTime 255) F.staTime_LIVE_TMO - 1) })) (255)) ∧
    ((fun e => Met (fun m => e < 256 ∧ (m.sta e).st = .silent ∧
        1000000000 * m.fld (.staTime e) F.staTime_AGE_T ≤ m.since (m.sta e).lastFrame) (staB { sta0 with st := .silent, lastFrame := ago (1000000000 * blk.fld (.staTime 255) F.staTime_AGE_T) })) (255)) ∧
    ((fun e => Met (fun m =>
        (m.sta e).st ≠ .silent ∨ m.since (m.sta e).lastFrame < 1000000000 * m.fld (.staTime e) F.staTime_AGE_T) (staB { sta0 with st := .silent, lastFrame := ago (1000000000 * blk.fld (.staTime 255) F.staTime_AGE_T - 1) })) (255)) ∧
    ((fun ses x e w => Met (fun m => e < 256 ∧ m.mayWrite x ses (.staCfg e) w) (blk)) (1) (x1) (255) ((blk.rd (.staCfg 255)))) := by
  refine ⟨?_, ?_, ?_, ?_, ?_, ?_, ?_, ?_, ?_, ?_, ?_, ?_, ?_, ?_, ?_, ?_, ?_, ?_, ?_, ?_, ?_, ?_⟩
  · repeat' apply And.intro
    all_goals first | decide +kernel | rfl
  · repeat' apply And.intro
    all_goals first | decide +kernel | rfl
  · repeat' apply And.intro
    all_goals first | decide +kernel | rfl
  · repeat' apply And.intro
    all_goals first | decide +kernel | rfl
  · repeat' apply And.intro
    all_goals first | decide +kernel | rfl
  · repeat' apply And.intro
    all_goals first | decide +kernel | rfl
  · repeat' apply And.intro
    all_goals first | decide +kernel | rfl
  · repeat' apply And.intro
    all_goals first | decide +kernel | rfl
  · repeat' apply And.intro
    all_goals first | decide +kernel | rfl
  · repeat' apply And.intro
    all_goals first | decide +kernel | rfl
  · exact ⟨⟨rfl, by decide⟩, ⟨by decide +kernel, by decide +kernel, by decide +kernel⟩, by decide +kernel, by decide +kernel,
      by decide +kernel, all_some (a := 0) (by decide +kernel) (by decide)⟩
  · exact ⟨⟨rfl, by decide⟩, ⟨by decide +kernel, by decide +kernel, by decide +kernel⟩, by decide +kernel, Or.inr (Or.inr (Or.inr ⟨1,
      by decide +kernel, by decide⟩))⟩
  · repeat' apply And.intro
    all_goals first | decide +kernel | rfl
  · repeat' apply And.intro
    all_goals first | decide +kernel | rfl
  · repeat' apply And.intro
    all_goals first | decide +kernel | rfl
  · repeat' apply And.intro
    all_goals first | decide +kernel | rfl
  · repeat' apply And.intro
    all_goals first | decide +kernel | rfl
  · repeat' apply And.intro
    all_goals first | decide +kernel | rfl
  · repeat' apply And.intro
    all_goals first | decide +kernel | rfl
  · repeat' apply And.intro
    all_goals first | decide +kernel | rfl
  · repeat' apply And.intro
    all_goals first | decide +kernel | rfl
  · repeat' apply And.intro
    all_goals first | decide +kernel | rfl

/-- PartnersAndReports: each clause's conditions are met. -/
theorem witness_PartnersAndReports :
    ((fun (h : GlxHdr) (p : List Byte) (s : Stitch) e => Met (fun m => m.glxTakes h 0x31 p ∧ m.glxFrom h = some e ∧
        (m.staHeard e).glxFrom h = some e ∧ (m.staHeard e).stitch h.stitch = some s ∧ s.prepSent = true ∧ s.st = .staged ∧
        m.ltc < s.b) ({ staB sta0 with stu := { blk.stu with opens := [{ stitch7 with st := .staged, prepSent := true, b := blk.ltc + 1, parts := [(9, false)] }] } })) (gh 0) ([]) ({ stitch7 with st := .staged, prepSent := true, b := blk.ltc + 1, parts := [(9, false)] }) (255)) ∧
    ((fun (h : GlxHdr) (p : List Byte) e => Met (fun m => m.glxTakes h 0x31 p ∧ m.glxFrom h = some e ∧
        ∀ s, (m.staHeard e).stitch h.stitch = some s → s.prepSent = false ∨ s.st ≠ .staged ∨ s.b ≤ m.ltc) ({ staB sta0 with stu := { blk.stu with opens := [{ stitch7 with st := .staged, prepSent := true, b := blk.ltc, parts := [(9, false)] }] } })) (gh 0) ([]) (255)) ∧
    ((fun (h : GlxHdr) (p : List Byte) (s : Stitch) e => Met (fun m => m.glxTakes h 0x32 p ∧ m.glxFrom h = some e ∧
        (m.staHeard e).glxFrom h = some e ∧ (m.staHeard e).stitch h.stitch = some s ∧ s.prepSent = true ∧ s.st = .staged ∧
        s.parts.any (fun x => decide (x.1 = h.src)) = true) ({ staB sta0 with stu := { blk.stu with opens := [{ stitch7 with st := .staged, prepSent := true, b := blk.ltc + 1, parts := [(9, false)] }] } })) (gh 4) (zeros 4) ({ stitch7 with st := .staged, prepSent := true, b := blk.ltc + 1, parts := [(9, false)] }) (255)) ∧
    ((fun (h : GlxHdr) (p : List Byte) e => Met (fun m => m.glxTakes h 0x32 p ∧ m.glxFrom h = some e ∧
        ∀ s, (m.staHeard e).stitch h.stitch = some s → s.prepSent = false ∨ s.st ≠ .staged ∨ s.parts.any (fun x =>
        decide (x.1 = h.src)) = false) ({ staB sta0 with stu := { blk.stu with opens := [{ { stitch7 with st := .staged, prepSent := true, b := blk.ltc + 1, parts := [(9, false)] } with parts := [(8, false)] }] } })) (gh 4) (zeros 4) (255)) ∧
    ((fun (h : GlxHdr) (p : List Byte) e (c : RemCmd) => Met (fun m => m.glxTakes h 0x21 p ∧ m.glxFrom h = some e ∧ beAt p 0 1 = 1 ∧
        (m.staHeard e).stu.cmds.find? (fun c => decide (c.devid = h.src ∧ c.point = beAt p 4 2 ∧
        c.stitch = h.stitch)) = some c) ({ staB sta0 with stu := { blk.stu with cmds := [{ stitch := 7, devid := 9, point := 3, val := 1, seq := 0, test := false, sent := 1, lastMon := 0 }] } })) (gh 8) ([1, 0, 0, 0, 0, 3, 0, 0]) (255) ({ stitch := 7, devid := 9, point := 3, val := 1, seq := 0, test := false, sent := 1, lastMon := 0 })) ∧
    ((fun (h : GlxHdr) (p : List Byte) e => Met (fun m => m.glxTakes h 0x21 p ∧ m.glxFrom h = some e ∧ beAt p 0 1 = 1 ∧
        (m.staHeard e).stu.cmds.find? (fun c => decide (c.devid = h.src ∧ c.point = beAt p 4 2 ∧
        c.stitch = h.stitch)) = none) ({ staB sta0 with stu := { blk.stu with cmds := [{ stitch := 7, devid := 9, point := 3, val := 1, seq := 0, test := false, sent := 1, lastMon := 0 }] } })) (gh 8) ([1, 0, 0, 0, 0, 4, 0, 0]) (255)) ∧
    ((fun (h : GlxHdr) (p : List Byte) k (c : Coal) => Met (fun m => m.glxTakes h 0x40 p ∧ m.glxFrom h = none ∧
        m.coalOf (beAt p 0 2) (beAt p 2 2) = some (k, c) ∧
        m.coalDue c = false) ({ staB sta0 with net := { (staB sta0).net with coal := [(127, coal0)] } })) ({ gh 8 with src := 8 }) ([0,
        1, 0, 1, 0, 0, 0, 0]) (127) (coal0)) ∧
    ((fun (h : GlxHdr) (p : List Byte) k => Met (fun m => m.glxTakes h 0x40 p ∧ m.glxFrom h = none ∧
        m.coalOf (beAt p 0 2) (beAt p 2 2) = none ∧
        (List.range 128).find? (fun k => (SMap.get? m.net.coal k).isNone) = some k) (staB sta0)) ({ gh 8 with src := 8 }) (zeros 8) (0)) ∧
    ((fun k (c : Coal) => Met (fun m => m.net.coal.filter (fun p => m.coalDue p.2) = [(k,
        c)]) ({ blk with net := { blk.net with coal := [(127, { coal0 with lastMon := ago (msNs (blk.fld .coalCfg F.coalCfg_VALUE)) })] } })) (127) ({ coal0 with lastMon := ago (msNs (blk.fld .coalCfg F.coalCfg_VALUE)) })) ∧
    Met (fun m => m.net.coal.filter (fun p =>
        m.coalDue p.2) = []) (({ blk with net := { blk.net with coal := [(127, { coal0 with lastMon := ago 0 })] } } : Mach)) ∧
    Met (fun m => ∀ t, m.net.beaconLast = some t → msNs 5 ≤ m.since t) ({ blk with net := { blk.net with beaconLast := some (ago 5000000) } }) ∧
    ((fun (t : Time) => Met (fun m => m.net.beaconLast = some t ∧
        m.since t < msNs 5) ({ blk with net := { blk.net with beaconLast := some (ago 4999999) } })) (ago 4999999)) ∧
    Met (fun m => m.dual = true ∧
        msNs (m.fld .prpCfg F.prpCfg_LIFE_MS) ≤ m.since m.net.prpLast) (((blk.setF .netCtrl F.netCtrl_PRP 1).updLane 0 (fun x =>
        { x with st := .up })).updNet (fun n => { n with prpLast := ago (msNs (blk.fld .prpCfg F.prpCfg_LIFE_MS)) })) ∧
    Met (fun m => m.dual = false ∨ m.since m.net.prpLast < msNs (m.fld .prpCfg F.prpCfg_LIFE_MS)) ((((blk.setF .netCtrl F.netCtrl_PRP 1).updLane 0 (fun x => { x with st := .up }))).updNet (fun n => { n with prpLast := ago (msNs (blk.fld .prpCfg F.prpCfg_LIFE_MS) - 1) })) ∧
    ((fun l n => Met (fun m => m.rxUp l = true ∧ m.dual = true ∧ m.net.nodes.any (fun p => decide (p.1 = n)) = false ∧
        m.net.nodes.length < 512) (((blk.setF .netCtrl F.netCtrl_PRP 1).updLane 0 (fun x => { x with st := .up })).updNet (fun n =>
        { n with nodes := (List.range 511).map (fun k => (k + 6, 0)) }))) (0) (5)) ∧
    ((fun l n => Met (fun m => m.rxUp l = true ∧ m.dual = true ∧
        m.net.nodes.any (fun p => decide (p.1 = n)) = true) (((blk.setF .netCtrl F.netCtrl_PRP 1).updLane 0 (fun x =>
        { x with st := .up })).updNet (fun n => { n with nodes := [(5, 0)] }))) (0) (5)) ∧
    ((fun l => Met (fun m => m.rxUp l = false ∨ m.dual = false) (blk.setF .netCtrl F.netCtrl_PRP 1)) (0)) ∧
    Met (fun _ => True) ((blk.updNet (fun n => { n with nodes := [(4, ago 1), (5, 0)] }))) := by
  refine ⟨?_, ?_, ?_, ?_, ?_, ?_, ?_, ?_, ?_, ?_, ?_, ?_, ?_, ?_, ?_, ?_, ?_, ?_⟩
  · repeat' apply And.intro
    all_goals first | decide +kernel | rfl
  · exact ⟨⟨rfl, by decide⟩, ⟨by decide +kernel, by decide +kernel, by decide +kernel⟩, by decide +kernel,
      all_some (a := { stitch7 with st := .staged, prepSent := true, b := blk.ltc, parts := [(9, false)] }) (by decide +kernel) (by decide +kernel)⟩
  · repeat' apply And.intro
    all_goals first | decide +kernel | rfl
  · exact ⟨⟨rfl, by decide⟩, ⟨by decide +kernel, by decide +kernel, by decide +kernel⟩, by decide +kernel,
      all_some (a := { { stitch7 with st := .staged, prepSent := true, b := blk.ltc + 1, parts := [(9, false)] } with parts := [(8, false)] }) (by decide +kernel) (by decide +kernel)⟩
  · repeat' apply And.intro
    all_goals first | decide +kernel | rfl
  · repeat' apply And.intro
    all_goals first | decide +kernel | rfl
  · repeat' apply And.intro
    all_goals first | decide +kernel | rfl
  · repeat' apply And.intro
    all_goals first | decide +kernel | rfl
  · repeat' apply And.intro
    all_goals first | decide +kernel | rfl
  · repeat' apply And.intro
    all_goals first | decide +kernel | rfl
  · exact ⟨⟨rfl, by decide⟩, all_some (a := (ago 5000000)) (by decide +kernel) (by decide +kernel)⟩
  · repeat' apply And.intro
    all_goals first | decide +kernel | rfl
  · repeat' apply And.intro
    all_goals first | decide +kernel | rfl
  · repeat' apply And.intro
    all_goals first | decide +kernel | rfl
  · repeat' apply And.intro
    all_goals first | decide +kernel | rfl
  · repeat' apply And.intro
    all_goals first | decide +kernel | rfl
  · repeat' apply And.intro
    all_goals first | decide +kernel | rfl
  · repeat' apply And.intro
    all_goals first | decide +kernel | rfl

/-- ClaimsAndRoles: each clause's conditions are met. -/
theorem witness_ClaimsAndRoles :
    Met (fun m => m.feat 3 = true ∧ (m.passive = true ∨ m.pair.role = .active) ∧
        (m.pair.claimMon = none ∨ ∃ t, m.pair.claimMon = some t ∧
        usNs 64 ≤ m.since t)) ((pairB .standby).updPair (fun p => { p with claimMon := some (ago 64000) })) ∧
    Met (fun m => m.feat 3 = false ∨ (m.passive = false ∧ m.pair.role ≠ .active) ∨ ∃ t, m.pair.claimMon = some t ∧
        m.since t < usNs 64) ((pairB .standby).updPair (fun p => { p with claimMon := some (ago 63999) })) ∧
    Met (fun m => m.feat 3 = false) (blk) ∧
    ((fun ok (c : Word) s crc => Met (fun m => m.feat 3 = true ∧
        (ok = false ∨ crc ≠ (crc8 (beBytes 4 c.toNat ++ beBytes 1 s)).toNat)) (pairB .active)) (true) (0) (0) (256)) ∧
    ((fun (c : Word) => Met (fun m => m.feat 3 = true ∧ (c.getLsbD 0 == m.pins.psA) = false) (pairB .active)) (0)) ∧
    ((fun (c : Word) => Met (fun m => m.feat 3 = true ∧ (c.getLsbD 0 == m.pins.psA) = true ∧
        (m.pair.ownPos < 2 ∨ m.posConflict = true)) ((pairB .active).updPair (fun p => { p with ownPos := 1 }))) (1)) ∧
    ((fun (c : Word) => Met (fun m => m.feat 3 = true ∧ (c.getLsbD 0 == m.pins.psA) = true ∧ 2 ≤ m.pair.ownPos ∧
        m.posConflict = false) ((pairB .active).updPair (fun p => { p with ownPos := 2, posConf := false }))) (1)) ∧
    Met (fun m => usNs 500 ≤ m.since m.pair.peerMon) (blk.updPair (fun p => { p with peerMon := ago 500000 })) ∧
    Met (fun m => m.since m.pair.peerMon < usNs 500) (blk.updPair (fun p => { p with peerMon := ago 499999 })) ∧
    Met (fun m => m.pairUp = [] ∨ m.feat 3 = false) (blk) ∧
    ((fun (h : Hb) => Met (fun m => m.pairUp ≠ [] ∧ m.feat 3 = true ∧ m.pair.role = .init ∧ m.feedProven = true ∧
        h.role = .active) (pairB .init)) (hb0)) ∧
    ((fun (h : Hb) => Met (fun m => m.pairUp ≠ [] ∧ m.feat 3 = true ∧ m.pair.role = .init ∧ m.feedProven = true ∧
        h.role = .init) (pairB .init)) ({ hb0 with role := .init })) ∧
    ((fun (h : Hb) => Met (fun m => m.pairUp ≠ [] ∧ m.feat 3 = true ∧ h.role = .init ∧
        (m.pair.role = .standby ∨ m.pair.role = .orphan ∨ m.pair.role = .active ∨ m.pair.role = .init ∧
        m.feedProven = false)) (pairB .active)) ({ hb0 with role := .init })) ∧
    ((fun (h : Hb) => Met (fun m => m.pairUp ≠ [] ∧ m.feat 3 = true ∧ h.role ≠ .init ∧ m.pair.role = .standby ∧
        m.pair.syncReqPend = false) ((pairB .standby).updPair (fun p => { p with syncReqPend := false }))) (hb0)) ∧
    ((fun (h : Hb) => Met (fun m => m.pairUp ≠ [] ∧ m.feat 3 = true ∧ h.role ≠ .init ∧
        m.pair.role = .active) (pairB .active)) ({ hb0 with role := .standby })) ∧
    ((fun t => Met (fun m => m.pair.listenMon = some t ∧ m.pair.role = .init ∧ msNs (m.fld .pairCfg F.pairCfg_LISTEN) ≤ m.since t ∧
        m.pair.hbAnyMon = none ∧ m.feedProven = true ∧
        m.peerClaim = none) ((pairB .init).updPair (fun p =>
        { p with listenMon := some (ago (msNs (blk.fld .pairCfg F.pairCfg_LISTEN))), posConf := false }))) (ago (msNs (blk.fld .pairCfg F.pairCfg_LISTEN)))) ∧
    ((fun t (c : Word) => Met (fun m => m.pair.listenMon = some t ∧ m.pair.role = .init ∧
        msNs (m.fld .pairCfg F.pairCfg_LISTEN) ≤ m.since t ∧ m.pair.hbAnyMon = none ∧ m.feedProven = true ∧
        m.peerClaim = some c) ((pairB .init).updPair (fun p =>
        { p with listenMon := some (ago (msNs (blk.fld .pairCfg F.pairCfg_LISTEN))), peer := some 5, peerOn := true }))) (ago (msNs (blk.fld .pairCfg F.pairCfg_LISTEN))) (5)) ∧
    Met (fun m => m.pair.listenMon = none ∨ m.pair.role ≠ .init ∨ (∃ t, m.pair.listenMon = some t ∧
        m.since t < msNs (m.fld .pairCfg F.pairCfg_LISTEN)) ∨ m.pair.hbAnyMon ≠ none ∨ m.feedProven = false) ((pairB .init).updPair (fun p => { p with listenMon := some (ago (msNs (blk.fld .pairCfg F.pairCfg_LISTEN) - 1)) })) ∧
    ((fun t => Met (fun m => m.feat 3 = true ∧ m.pair.hbLost = false ∧ m.pair.hbMon = some t ∧ m.pair.role = .active ∧
        usNs (100 * m.fld .pairCfg F.pairCfg_HB_TIMEOUT) ≤ m.since t) ((pairB .active).updPair (fun p =>
        { p with hbMon := some (ago (usNs (100 * blk.fld .pairCfg F.pairCfg_HB_TIMEOUT))), hbLost := false }))) (ago (usNs (100 * blk.fld .pairCfg F.pairCfg_HB_TIMEOUT)))) ∧
    ((fun t => Met (fun m => m.feat 3 = true ∧ m.pair.hbLost = false ∧ m.pair.hbMon = some t ∧ m.pair.role = .standby ∧
        usNs (100 * m.fld .pairCfg F.pairCfg_HB_TIMEOUT) ≤ m.since t) ((pairB .standby).updPair (fun p =>
        { p with hbMon := some (ago (usNs (100 * blk.fld .pairCfg F.pairCfg_HB_TIMEOUT))), hbLost := false }))) (ago (usNs (100 * blk.fld .pairCfg F.pairCfg_HB_TIMEOUT)))) ∧
    Met (fun m => m.feat 3 = false ∨ m.pair.hbLost = true ∨ m.pair.hbMon = none ∨ ∃ t, m.pair.hbMon = some t ∧
        m.since t < usNs (100 * m.fld .pairCfg F.pairCfg_HB_TIMEOUT)) ((pairB .active).updPair (fun p =>
        { p with hbMon := some (ago (usNs (100 * blk.fld .pairCfg F.pairCfg_HB_TIMEOUT) - 1)), hbLost := false })) ∧
    ((fun ses x => Met (fun m => m.mayWrite x ses .pairCtrl (F.pairCtrl_SWITCH.set 0 1)) ((pairB .active).updPair (fun p =>
        { p with hbLast := some hb0 }))) (1) (x1)) := by
  refine ⟨?_, ?_, ?_, ?_, ?_, ?_, ?_, ?_, ?_, ?_, ?_, ?_, ?_, ?_, ?_, ?_, ?_, ?_, ?_, ?_, ?_, ?_⟩
  · exact ⟨⟨rfl, by decide⟩, by decide +kernel, by decide +kernel, Or.inr ⟨ago 64000, by decide +kernel, by decide +kernel⟩⟩
  · exact ⟨⟨rfl, by decide⟩, Or.inr (Or.inr ⟨ago 63999, by decide +kernel, by decide +kernel⟩)⟩
  · repeat' apply And.intro
    all_goals first | decide +kernel | rfl
  · repeat' apply And.intro
    all_goals first | decide +kernel | rfl
  · repeat' apply And.intro
    all_goals first | decide +kernel | rfl
  · repeat' apply And.intro
    all_goals first | decide +kernel | rfl
  · repeat' apply And.intro
    all_goals first | decide +kernel | rfl
  · repeat' apply And.intro
    all_goals first | decide +kernel | rfl
  · repeat' apply And.intro
    all_goals first | decide +kernel | rfl
  · repeat' apply And.intro
    all_goals first | decide +kernel | rfl
  · repeat' apply And.intro
    all_goals first | decide +kernel | rfl
  · repeat' apply And.intro
    all_goals first | decide +kernel | rfl
  · repeat' apply And.intro
    all_goals first | decide +kernel | rfl
  · repeat' apply And.intro
    all_goals first | decide +kernel | rfl
  · repeat' apply And.intro
    all_goals first | decide +kernel | rfl
  · repeat' apply And.intro
    all_goals first | decide +kernel | rfl
  · repeat' apply And.intro
    all_goals first | decide +kernel | rfl
  · exact ⟨⟨rfl, by decide⟩, Or.inr (Or.inr (Or.inl ⟨ago (msNs (blk.fld .pairCfg F.pairCfg_LISTEN) - 1), by decide +kernel,
      by decide +kernel⟩))⟩
  · repeat' apply And.intro
    all_goals first | decide +kernel | rfl
  · repeat' apply And.intro
    all_goals first | decide +kernel | rfl
  · exact ⟨⟨rfl, by decide⟩, Or.inr (Or.inr (Or.inr ⟨ago (usNs (100 * blk.fld .pairCfg F.pairCfg_HB_TIMEOUT) - 1), by decide +kernel,
      by decide +kernel⟩))⟩
  · repeat' apply And.intro
    all_goals first | decide +kernel | rfl

/-- MirroringAndOutputTest: each clause's conditions are met. -/
theorem witness_MirroringAndOutputTest :
    Met (fun m => m.pairUp = []) (blk) ∧
    ((fun q => Met (fun m => m.pairUp ≠ [] ∧ m.feat 3 = true ∧ m.passive = true ∧ m.pair.m0Part = none ∧
        (m.pair.rxSeq = none ∨ m.pair.rxSeq = some (q - 1))) ((pairB .standby).updPair (fun p => { p with rxSeq := some 4 }))) (5)) ∧
    ((fun q s => Met (fun m => m.pairUp ≠ [] ∧ m.feat 3 = true ∧ m.passive = true ∧ m.pair.m0Part = none ∧ m.pair.rxSeq = some s ∧
        q ≠ s + 1) ((pairB .standby).updPair (fun p => { p with rxSeq := some 4 }))) (6) (4)) ∧
    Met (fun m => m.pairUp ≠ [] ∧ (m.feat 3 = false ∨ m.passive = false)) (pairB .active) ∧
    Met (fun m => m.pairUp ≠ [] ∧ m.feat 3 = true ∧ m.passive = true) (pairB .standby) ∧
    Met (fun m => m.pairUp ≠ [] ∧ m.feat 3 = true ∧ m.passive = true) (pairB .standby) ∧
    Met (fun m => m.pairUp ≠ [] ∧ (m.feat 3 = false ∨ m.passive = false)) (pairB .active) ∧
    Met (fun m => m.pairUp ≠ [] ∧ m.feat 3 = true ∧ m.passive = true) (pairB .orphan) ∧
    Met (fun m => m.pairUp ≠ [] ∧ (m.feat 3 = false ∨ m.passive = false)) (pairB .active) ∧
    Met (fun m => m.pairUp ≠ [] ∧ m.feat 3 = true ∧ m.pair.role = .active) (pairB .active) ∧
    Met (fun m => m.pairUp ≠ [] ∧ (m.feat 3 = false ∨ m.pair.role ≠ .active)) (pairB .standby) ∧
    Met (fun m => m.pair.role = .active ∧
        1000000000 ≤ m.since m.pair.m1Last) ((pairB .active).updPair (fun p => { p with m1Last := ago 1000000000 })) ∧
    Met (fun m => m.pair.role ≠ .active ∨ m.since m.pair.m1Last < 1000000000) (blk) ∧
    ((fun ses (x : Session) => Met (fun m => m.mayWrite x ses .pairCtrl (F.pairCtrl_RESYNC.set 0 1) ∧
        m.pair.role = .standby) (pairB .standby)) (1) (x1)) ∧
    ((fun ses (x : Session) => Met (fun m => m.mayWrite x ses .pairCtrl (F.pairCtrl_RESYNC.set 0 1) ∧
        m.pair.role ≠ .standby) (pairB .active)) (1) (x1)) ∧
    ((fun ses (x : Session) e w => Met (fun m => e < 1024 ∧
        m.mayWrite x ses (.mirCfg e) w) (blk)) (1) (x1) (1023) ((blk.rd (.mirCfg 1023)))) ∧
    ((fun ses (x : Session) e w => Met (fun m => e < 1024 ∧ m.mayWrite x ses (.mirAddr e) w) (blk)) (1) (x1) (1023) (0)) ∧
    Met (fun m => m.pair.role = .standby ∧ m.pair.otest.run = none ∧
        m.fld .pairCfg F.pairCfg_OTEST_PERIOD * 1000000000 ≤ m.since m.pair.otest.lastMon ∧ m.gatePass m.pair.otest.next = false ∧
        m.cmd.maint.any (fun x => decide (x.act = 1)) = false) ((pairB .standby).updPair (fun p =>
        { p with peer := some 0x00010000, peerOn := true, epoch := 0, otest := { p.otest with lastMon := ago (blk.fld .pairCfg F.pairCfg_OTEST_PERIOD * 1000000000), next := 15 } })) ∧
    Met (fun m => m.pair.role = .standby ∧ m.pair.otest.run = none ∧
        m.fld .pairCfg F.pairCfg_OTEST_PERIOD * 1000000000 ≤ m.since m.pair.otest.lastMon ∧
        (m.gatePass m.pair.otest.next = true ∨ m.cmd.maint.any (fun x =>
        decide (x.act = 1)) = true)) (({ pairB .standby with cmd := { blk.cmd with maint := [{ handle := 1, act := 1, target := 0, session := 1, waiter := none }] } } : Mach).updPair (fun p => { p with otest := { p.otest with lastMon := ago (blk.fld .pairCfg F.pairCfg_OTEST_PERIOD * 1000000000), next := 15 } })) ∧
    Met (fun m => m.pair.role ≠ .standby ∨ m.pair.otest.run ≠ none ∨ m.since m.pair.otest.lastMon < m.fld .pairCfg F.pairCfg_OTEST_PERIOD * 1000000000) ((pairB .standby).updPair (fun p => { p with peer := some 0x00010000, peerOn := true, epoch := 0, otest := { p.otest with lastMon := ago (blk.fld .pairCfg F.pairCfg_OTEST_PERIOD * 1000000000 - 1), next := 15 } })) ∧
    ((fun y t ua => Met (fun m => m.pair.otest.run = some (y, t) ∧ m.gatePass y = false ∧
        m.cmd.maint.any (fun x => decide (x.act = 1)) = false ∧ m.pair.role = .standby ∧ usNs 500 ≤ m.since t ∧ 20000 ≤ ua ∧
        ua ≤ 30000) ((pairB .standby).updPair (fun p =>
        { p with peer := some 0x00010000, peerOn := true, epoch := 0, otest := { p.otest with run := some (15, ago 500000) } }))) (15) (ago 500000) (30000)) ∧
    ((fun y t ua c rb => Met (fun m => m.pair.otest.run = some (y, t) ∧ m.gatePass y = false ∧
        m.cmd.maint.any (fun x => decide (x.act = 1)) = false ∧ m.pair.role = .standby ∧ usNs 500 ≤ m.since t ∧
        (ua < 20000 ∨ 30000 < ua ∨ c = false ∨ rb = true)) ((pairB .standby).updPair (fun p =>
        { p with peer := some 0x00010000, peerOn := true, epoch := 0, otest := { p.otest with run := some (15, ago 500000) } }))) (15) (ago 500000) (30001) (true) (false)) ∧
    ((fun y t => Met (fun m => m.pair.otest.run = some (y, t) ∧
        (m.gatePass y = true ∨ m.cmd.maint.any (fun x =>
        decide (x.act = 1)) = true ∨ m.pair.role ≠ .standby)) ((((pairB .standby).updPair (fun p =>
        { p with peer := some 0x00010000, peerOn := true, epoch := 0, otest := { p.otest with run := some (15, ago 500000) } }))).updPair (fun p => { p with role := .active }))) (15) (ago 500000)) ∧
    Met (fun m => m.pair.otest.run = none ∨ ∃ y t, m.pair.otest.run = some (y, t) ∧ m.gatePass y = false ∧
        m.cmd.maint.any (fun x => decide (x.act = 1)) = false ∧ m.pair.role = .standby ∧
        m.since t < usNs 500) ((pairB .standby).updPair (fun p =>
        { p with peer := some 0x00010000, peerOn := true, epoch := 0, otest := { p.otest with run := some (15, ago 499999) } })) := by
  refine ⟨?_, ?_, ?_, ?_, ?_, ?_, ?_, ?_, ?_, ?_, ?_, ?_, ?_, ?_, ?_, ?_, ?_, ?_, ?_, ?_, ?_, ?_, ?_, ?_⟩
  · repeat' apply And.intro
    all_goals first | decide +kernel | rfl
  · repeat' apply And.intro
    all_goals first | decide +kernel | rfl
  · repeat' apply And.intro
    all_goals first | decide +kernel | rfl
  · repeat' apply And.intro
    all_goals first | decide +kernel | rfl
  · repeat' apply And.intro
    all_goals first | decide +kernel | rfl
  · repeat' apply And.intro
    all_goals first | decide +kernel | rfl
  · repeat' apply And.intro
    all_goals first | decide +kernel | rfl
  · repeat' apply And.intro
    all_goals first | decide +kernel | rfl
  · repeat' apply And.intro
    all_goals first | decide +kernel | rfl
  · repeat' apply And.intro
    all_goals first | decide +kernel | rfl
  · repeat' apply And.intro
    all_goals first | decide +kernel | rfl
  · repeat' apply And.intro
    all_goals first | decide +kernel | rfl
  · repeat' apply And.intro
    all_goals first | decide +kernel | rfl
  · repeat' apply And.intro
    all_goals first | decide +kernel | rfl
  · repeat' apply And.intro
    all_goals first | decide +kernel | rfl
  · repeat' apply And.intro
    all_goals first | decide +kernel | rfl
  · repeat' apply And.intro
    all_goals first | decide +kernel | rfl
  · repeat' apply And.intro
    all_goals first | decide +kernel | rfl
  · repeat' apply And.intro
    all_goals first | decide +kernel | rfl
  · repeat' apply And.intro
    all_goals first | decide +kernel | rfl
  · repeat' apply And.intro
    all_goals first | decide +kernel | rfl
  · repeat' apply And.intro
    all_goals first | decide +kernel | rfl
  · repeat' apply And.intro
    all_goals first | decide +kernel | rfl
  · exact ⟨⟨rfl, by decide⟩, Or.inr ⟨15, ago 499999, by decide +kernel, by decide +kernel, by decide +kernel, by decide +kernel,
      by decide +kernel⟩⟩

/-- PowerFeeds: each clause's conditions are met. -/
theorem witness_PowerFeeds :
    ((fun f mv => MetLive (fun m => f < 2 ∧ 16800 ≤ mv ∧ m.power.onStore = false ∧
        ((m.feed f).mv < 16800 ∨ (m.feed f).st = .absent)) (blk.updFeed 1 (fun x => { x with st := .absent }))) (1) (16800)) ∧
    ((fun f mv => MetLive (fun m => f < 2 ∧ 16800 ≤ mv ∧ m.power.onStore = false ∧ 16800 ≤ (m.feed f).mv ∧
        (m.feed f).st ≠ .absent) (blk)) (1) (16800)) ∧
    ((fun f mv => MetLive (fun m => f < 2 ∧ 16800 ≤ mv ∧
        m.power.onStore = true) ({ blk with power := { blk.power with onStore := true } })) (1) (16800)) ∧
    ((fun f mv => MetLive (fun _ => f < 2 ∧ mv < 16800) (blk)) (1) (16799)) ∧
    ((fun f mv => MetLive (fun m => f < 2 ∧ mv < 16800 ∧ (m.feed f).st ≠ .proving ∧
        (m.feed f).st ≠ .failed) (blk.updFeed 1 (fun x => { x with st := .proven }))) (1) (16799)) ∧
    ((fun f mv => MetLive (fun m => f < 2 ∧ mv < 16800 ∧
        (m.feed f).st = .failed) (blk.updFeed 1 (fun x => { x with st := .failed }))) (1) (16799)) ∧
    ((fun f mv => MetLive (fun m => f < 2 ∧ mv < 16800 ∧
        (m.feed f).st = .proving) (blk.updFeed 1 (fun x => { x with st := .proving }))) (1) (16799)) ∧
    ((fun f mv => MetLive (fun _ => f < 2 ∧ 16800 ≤ mv) (blk)) (1) (16800)) ∧
    ((fun f => MetLive (fun m => f < 2 ∧ (m.feed f).st = .proving ∧
        msNs (10 * m.fld .pwrCtrl F.pwrCtrl_FEED_T) ≤ m.since (m.feed f).proveMon) (blk.updFeed 1 (fun x =>
        { x with st := .proving, proveMon := ago (msNs (10 * blk.fld .pwrCtrl F.pwrCtrl_FEED_T)) }))) (1)) ∧
    ((fun f => MetLive (fun m => f < 2 ∧
        ((m.feed f).st ≠ .proving ∨ m.since (m.feed f).proveMon < msNs (10 * m.fld .pwrCtrl F.pwrCtrl_FEED_T))) (blk.updFeed 1 (fun x =>
        { x with st := .proving, proveMon := ago (msNs (10 * blk.fld .pwrCtrl F.pwrCtrl_FEED_T) - 1) }))) (1)) ∧
    ((fun f => MetLive (fun m => f < 2 ∧ m.power.autoProof = true ∧ (m.feed f).st = .present ∧ (m.feed (1 - f)).st ≠ .proving ∧
        1000000000 ≤ m.since (m.feed f).since) ({ blk.updFeed 1 (fun x => { x with st := .present, since := ago 1000000000 }) with power := { (blk.updFeed 1 (fun x => { x with st := .present, since := ago 1000000000 })).power with autoProof := true } })) (1)) ∧
    ((fun f => MetLive (fun m => f < 2 ∧
        (m.power.autoProof = false ∨ (m.feed f).st ≠ .present ∨ (m.feed (1 - f)).st = .proving ∨ m.since (m.feed f).since < 1000000000)) ({ blk.updFeed 1 (fun x => { x with st := .present, since := ago 999999999 }) with power := { (blk.updFeed 1 (fun x => { x with st := .present, since := ago 999999999 })).power with autoProof := true } })) (1)) ∧
    ((fun ses x w => Met (fun m => m.mayWrite x ses .pwrCtrl w ∧ F.pwrCtrl_PROVE_A.get w = 1 ∧
        F.pwrCtrl_PROVE_B.get w = 0) (blk)) (1) (x1) (F.pwrCtrl_PROVE_A.set (blk.rd .pwrCtrl) 1)) ∧
    ((fun ses x w => Met (fun m => m.mayWrite x ses .pwrCtrl w ∧ F.pwrCtrl_PROVE_A.get w = 0 ∧
        F.pwrCtrl_PROVE_B.get w = 1) (blk)) (1) (x1) (F.pwrCtrl_PROVE_B.set (blk.rd .pwrCtrl) 1)) ∧
    ((fun ses x w => Met (fun m => m.mayWrite x ses .pwrCtrl w ∧ F.pwrCtrl_PROVE_A.get w = 0 ∧
        F.pwrCtrl_PROVE_B.get w = 0) (blk)) (1) (x1) ((blk.rd .pwrCtrl))) ∧
    MetLive (fun m => m.power.onStore = false ∧ 2 ≤ m.start.phase) ({ blk with start := { blk.start with phase := 2 } }) ∧
    MetLive (fun m => m.power.onStore = false ∧ m.start.phase < 2) ({ blk with start := { blk.start with phase := 1 } }) ∧
    MetLive (fun m => m.power.onStore = true) ({ blk with power := { blk.power with onStore := true } }) := by
  refine ⟨?_, ?_, ?_, ?_, ?_, ?_, ?_, ?_, ?_, ?_, ?_, ?_, ?_, ?_, ?_, ?_, ?_, ?_⟩
  · repeat' apply And.intro
    all_goals first | decide +kernel | rfl
  · repeat' apply And.intro
    all_goals first | decide +kernel | rfl
  · repeat' apply And.intro
    all_goals first | decide +kernel | rfl
  · repeat' apply And.intro
    all_goals first | decide +kernel | rfl
  · repeat' apply And.intro
    all_goals first | decide +kernel | rfl
  · repeat' apply And.intro
    all_goals first | decide +kernel | rfl
  · repeat' apply And.intro
    all_goals first | decide +kernel | rfl
  · repeat' apply And.intro
    all_goals first | decide +kernel | rfl
  · repeat' apply And.intro
    all_goals first | decide +kernel | rfl
  · repeat' apply And.intro
    all_goals first | decide +kernel | rfl
  · repeat' apply And.intro
    all_goals first | decide +kernel | rfl
  · repeat' apply And.intro
    all_goals first | decide +kernel | rfl
  · repeat' apply And.intro
    all_goals first | decide +kernel | rfl
  · repeat' apply And.intro
    all_goals first | decide +kernel | rfl
  · repeat' apply And.intro
    all_goals first | decide +kernel | rfl
  · repeat' apply And.intro
    all_goals first | decide +kernel | rfl
  · repeat' apply And.intro
    all_goals first | decide +kernel | rfl
  · repeat' apply And.intro
    all_goals first | decide +kernel | rfl

/-- SessionAndRegisterRequests: each clause's conditions are met. -/
theorem witness_SessionAndRegisterRequests :
    ((fun i => Ready 0x0001 ([0, 1] ++ zeros 18) (blk) (fun m _ q => q.len = 20 ∧ q.h 0 = 1 ∧
        m.cmd.slots.findIdx? (·.isNone) = some i)) (1)) ∧
    Ready 0x0001 ([0, 2] ++ zeros 18) (blk) (fun _ _ q => q.len = 20 ∧ q.h 0 ≠ 1) ∧
    Ready 0x0001 ([0, 1] ++ zeros 18) ({ blk with cmd := { blk.cmd with slots := [some x1, some x1, some x1, some x1] } }) (fun m _ q =>
        q.len = 20 ∧ q.h 0 = 1 ∧ m.cmd.slots.findIdx? (·.isNone) = none) ∧
    ((fun h p => Met (fun m => m.cmd.rx = [] ∧ p.length = 20 ∧ beAt p 0 2 = 1 ∧ h.udp = false ∧ h.session % 65536 = 0 ∧ m.sess 0 = none ∧
        m.start.recovery = false) (blk)) ({ hd with session := 0 }) ([0, 1] ++ zeros 18)) ∧
    Ready 0x0002 ([]) (blk) (fun _ _ q => q.len = 0) ∧
    Ready 0x0003 (zeros 16) (blk) (fun m _ q => q.len = 16 ∧ beNat q.payload = m.featNum .glbFeatAcc ∧
        (∀ i, i < 128 → (beNat q.payload).testBit i = true → (m.featNum .glbFeatOffer).testBit i = true) ∧
        m.flag .glbStat F.glbStat_FEAT_DONE = true) ∧
    Ready 0x0003 (zeros 16) (wp) (fun m _ q => q.len = 16 ∧ m.flag .glbStat F.glbStat_FEAT_DONE = true ∧
        beNat q.payload ≠ m.featNum .glbFeatAcc ∧
        (∀ i, i < 128 → (beNat q.payload).testBit i = true → (m.featNum .glbFeatOffer).testBit i = true)) ∧
    ((fun k => Ready 0x0003 ([128] ++ zeros 15) ({ blk with regs := [0, 1, 2, 3].map (fun i => ((Reg.glbFeatOffer i).addr, 0)) ++ blk.regs }) (fun m _ q => q.len = 16 ∧ (beNat q.payload).testBit k = true ∧ (m.featNum .glbFeatOffer).testBit k = false ∧ (∀ i, i < k → (beNat q.payload).testBit i = true → (m.featNum .glbFeatOffer).testBit i = true))) (127)) ∧
    Ready 0x0004 (zeros 65) (blk) (fun _ _ q => 64 < q.len) ∧
    Ready 0x0004 (zeros 64) (blk) (fun _ _ q => q.len ≤ 64) ∧
    Ready 0x0005 ([]) (blk) (fun _ _ q => q.len = 0) ∧
    Met (fun m => m.ready xU 0x0005 hdU (zeros 4) ∧ (fun x (q : RawReq) => q.len = 4 ∧ x.udp = true) xU (reqOf hdU 0x0005 (zeros 4))) udpB ∧
    Ready 0x0006 (zeros 4) (blk) (fun _ x q => q.len = 4 ∧ x.udp = false) ∧
    Ready 0x0007 (zeros 4) (blk) (fun _ _ q => q.len = 4) ∧
    Ready 0x0101 (beBytes 4 0xDFFFC ++ [0, 1, 0, 0]) (blk) (fun _ _ q => q.len = 8 ∧ 1 ≤ q.h 4 ∧ q.h 4 ≤ 1024 ∧
        Mach.badRange (q.d 0) (q.h 4) = false) ∧
    Ready 0x0102 (beBytes 4 (Reg.trgTarget 7).addr ++ [0, 1, 0, 0, 0, 0, 0, 9]) (blk) (fun m x q => q.len = 12 ∧ q.h 4 = 1 ∧
        Mach.badRange (q.d 0) 1 = false ∧ Mach.endsUdp (q.d 0) = false ∧
        (m.regWrite { session := x.num, maint := x.maint } (q.d 0) (wd (q.d 8))).1 = none) ∧
    Ready 0x0101 (zeros 8) (blk) (fun _ _ q => q.len = 8 ∧ (q.h 4 < 1 ∨ 1024 < q.h 4)) ∧
    Ready 0x0101 ([0, 0, 0, 1, 0, 1, 0, 0]) (blk) (fun _ _ q => q.len = 8 ∧ 1 ≤ q.h 4 ∧ q.h 4 ≤ 1024 ∧
        Mach.badRange (q.d 0) (q.h 4) = true) ∧
    Ready 0x0102 (zeros 8) (blk) (fun _ _ q => 8 ≤ q.len ∧ (q.h 4 < 1 ∨ 1022 < q.h 4)) ∧
    ((fun n => Ready 0x0102 ([0, 0, 0, 1, 0, 1, 0, 0] ++ zeros 4) (blk) (fun _ _ q => q.len = 8 + 4 * n ∧ q.h 4 = n ∧
        Mach.badRange (q.d 0) n = true)) (1)) ∧
    ((fun n => Ready 0x0102 (beBytes 4 (Reg.trgTarget 7).addr ++ [0, 2, 0, 0] ++ zeros 8) (blk) (fun _ _ q => q.len = 8 + 4 * n ∧
        q.h 4 = n ∧ Mach.badRange (q.d 0) n = false)) (2)) ∧
    ((fun r => Ready 0x0103 (beBytes 4 (Reg.trgTarget 7).addr ++ zeros 3 ++ [9] ++ zeros 4) (blk) (fun m x q => q.len = 12 ∧
        Mach.badRange (q.d 0) 1 = false ∧ Mach.endsUdp (q.d 0) = false ∧ Reg.ofAddr (q.d 0) = some r ∧
        (m.regWrite { session := x.num, maint := x.maint } (q.d 0) (Mach.modifyWord r (m.peekAddr (q.d 0)) (wd (q.d 4)) (wd (q.d 8)))).1 = none)) (Reg.trgTarget 7)) ∧
    (∃ e m', Ready 0x0103 (beBytes 4 (Reg.lnScanCtrl 3).addr ++ beBytes 4 (F.lnScanCtrl_V_OFS.set 0 0xFF).toNat ++ beBytes 4 (F.lnScanCtrl_V_OFS.set 0 128).toNat) blk (fun m x q => q.len = 12 ∧ Mach.badRange (q.d 0) 1 = false ∧ Reg.ofAddr (q.d 0) = some (Reg.lnScanCtrl 3) ∧ m.regWrite { session := x.num, maint := x.maint } (q.d 0) (Mach.modifyWord (Reg.lnScanCtrl 3) (m.peekAddr (q.d 0)) (wd (q.d 4)) (wd (q.d 8))) = (some e, m'))) := by
  refine ⟨?_, ?_, ?_, ?_, ?_, ?_, ?_, ?_, ?_, ?_, ?_, ?_, ?_, ?_, ?_, ?_, ?_, ?_, ?_, ?_, ?_, ?_, ?_⟩
  · repeat' apply And.intro
    all_goals first | decide +kernel | rfl
  · repeat' apply And.intro
    all_goals first | decide +kernel | rfl
  · repeat' apply And.intro
    all_goals first | decide +kernel | rfl
  · repeat' apply And.intro
    all_goals first | decide +kernel | rfl
  · repeat' apply And.intro
    all_goals first | decide +kernel | rfl
  · repeat' apply And.intro
    all_goals first | decide +kernel | rfl
  · repeat' apply And.intro
    all_goals first | decide +kernel | rfl
  · repeat' apply And.intro
    all_goals first | decide +kernel | rfl
  · repeat' apply And.intro
    all_goals first | decide +kernel | rfl
  · repeat' apply And.intro
    all_goals first | decide +kernel | rfl
  · repeat' apply And.intro
    all_goals first | decide +kernel | rfl
  · repeat' apply And.intro
    all_goals first | decide +kernel | rfl
  · repeat' apply And.intro
    all_goals first | decide +kernel | rfl
  · repeat' apply And.intro
    all_goals first | decide +kernel | rfl
  · repeat' apply And.intro
    all_goals first | decide +kernel | rfl
  · repeat' apply And.intro
    all_goals first | decide +kernel | rfl
  · repeat' apply And.intro
    all_goals first | decide +kernel | rfl
  · repeat' apply And.intro
    all_goals first | decide +kernel | rfl
  · repeat' apply And.intro
    all_goals first | decide +kernel | rfl
  · repeat' apply And.intro
    all_goals first | decide +kernel | rfl
  · repeat' apply And.intro
    all_goals first | decide +kernel | rfl
  · repeat' apply And.intro
    all_goals first | decide +kernel | rfl
  · exact ⟨_, _, ⟨rfl, by decide⟩, by repeat' apply And.intro <;> first | decide +kernel | rfl, by decide +kernel, by decide +kernel,
      rfl, rfl⟩

/-- SettingsRequests: each clause's conditions are met. -/
theorem witness_SettingsRequests :
    Ready 0x0201 ([31, 3, 0, 1, 0, 0, 0, 0, 0, 0, 0, 0]) (blk) (fun m x q => 1 ≤ q.h 2 ∧ q.h 2 ≤ 511 ∧ q.len = 4 + 8 * q.h 2 ∧
        Mach.badBayGroup 0 (q.b 0) (q.b 1) = none ∧ m.passive = false ∧
        (∀ i, i < q.h 2 → ∃ d, setDef (decide (q.b 0 = 32)) (q.h (4 + 8 * i)) = some d ∧ d.ok (sgn32 (q.d (8 + 8 * i))) = true ∧
        m.stageTaken (stageKey (q.b 0) (q.b 1) (q.h (4 + 8 * i))) x.num = false)) ∧
    Ready 0x0201 ([31, 3, 0, 1, 0, 0, 0, 0, 0, 0, 0, 0]) (pairB .standby) (fun m x q => 1 ≤ q.h 2 ∧ q.h 2 ≤ 511 ∧ q.len = 4 + 8 * q.h 2 ∧
        Mach.badBayGroup 0 (q.b 0) (q.b 1) = none ∧ (∀ i, i < q.h 2 → ∃ d, setDef (decide (q.b 0 = 32)) (q.h (4 + 8 * i)) = some d ∧
        d.ok (sgn32 (q.d (8 + 8 * i))) = true) ∧ (m.passive = true ∨ ∃ i, i < q.h 2 ∧
        m.stageTaken (stageKey (q.b 0) (q.b 1) (q.h (4 + 8 * i))) x.num = true)) ∧
    ((fun k => Ready 0x0201 ([31, 3, 0, 1, 0xFF, 0xFF, 0, 0, 0, 0, 0, 0]) (blk) (fun _ _ q => k < q.h 2 ∧ q.h 2 ≤ 511 ∧
        q.len = 4 + 8 * q.h 2 ∧ Mach.badBayGroup 0 (q.b 0) (q.b 1) = none ∧
        (∀ i, i < k → ∃ d, setDef (decide (q.b 0 = 32)) (q.h (4 + 8 * i)) = some d ∧ d.ok (sgn32 (q.d (8 + 8 * i))) = true) ∧
        (∀ d, setDef (decide (q.b 0 = 32)) (q.h (4 + 8 * k)) = some d → d.ok (sgn32 (q.d (8 + 8 * k))) = false))) (0)) ∧
    Ready 0x0202 ([1, 0, 0, 0, 31, 3, 0,
        0]) (pairB .standby) (fun m x q => let l : List (Nat × Nat) := (List.range (q.b 0)).map (fun i => (q.b (4 + 4 * i),
        q.b (5 + 4 * i))); 1 ≤ q.b 0 ∧ q.b 0 ≤ 32 ∧ q.len = 4 + 4 * q.b 0 ∧ (∀ p ∈ l, Mach.badBayGroup 0 p.1 p.2 = none) ∧
        (m.passive = true ∨ m.unset = true ∨ ∃ p ∈ l, m.commitTaken x.num p.1 p.2 = true)) ∧
    ((fun k e => Ready 0x0202 ([1, 0, 0, 0, 31, 3, 0,
        0]) ({ blk with set := setPut (setPut blk.set 31 3 (pidOf 0x33 0 0) 1) 31 3 (pidOf 0x33 0 1) 5 }) (fun m x q =>
        let l : List (Nat × Nat) := (List.range (q.b 0)).map (fun i => (q.b (4 + 4 * i), q.b (5 + 4 * i))); 1 ≤ q.b 0 ∧ q.b 0 ≤ 32 ∧
        q.len = 4 + 4 * q.b 0 ∧ (∀ p ∈ l, Mach.badBayGroup 0 p.1 p.2 = none) ∧ m.passive = false ∧ m.unset = false ∧
        (∀ p ∈ l, m.commitTaken x.num p.1 p.2 = false) ∧ k < q.b 0 ∧ (∀ p ∈ l.take k, m.commitBad (m.commitSet l) p.1 p.2 = none) ∧
        m.commitBad (m.commitSet l) (q.b (4 + 4 * k)) (q.b (5 + 4 * k)) = some e)) (0) ((0x0102, pidOf 0x33 0 1))) ∧
    Ready 0x0202 ([1, 0, 0, 0, 31, 3, 0,
        0]) (blk) (fun m x q => let l : List (Nat × Nat) := (List.range (q.b 0)).map (fun i => (q.b (4 + 4 * i),
        q.b (5 + 4 * i))); 1 ≤ q.b 0 ∧ q.b 0 ≤ 32 ∧ q.len = 4 + 4 * q.b 0 ∧ (∀ p ∈ l, Mach.badBayGroup 0 p.1 p.2 = none) ∧
        m.passive = false ∧ m.unset = false ∧ (∀ p ∈ l, m.commitTaken x.num p.1 p.2 = false) ∧
        (∀ p ∈ l, m.commitBad (m.commitSet l) p.1 p.2 = none)) ∧
    Ready 0x0203 ([31, 3, 0, 0]) (blk) (fun m _ q => q.len = 4 ∧ q.b 0 ≤ 31 ∧ q.b 1 ≤ 3 ∧ m.passive = false ∧ m.unset = false) ∧
    Ready 0x0203 ([31, 3, 0, 0]) (pairB .standby) (fun m _ q => q.len = 4 ∧ q.b 0 ≤ 31 ∧ q.b 1 ≤ 3 ∧ (m.passive = true ∨ m.unset = true)) ∧
    Ready 0x0204 ([32, 0, 1, 0, 0, 0, 1, 0xF4]) (blk) (fun _ _ q => q.len = 8 ∧ Mach.badBayGroup 0 (q.b 0) (q.b 1) = none ∧ q.b 2 ≤ 1 ∧
        1 ≤ q.h 6 ∧ q.h 6 ≤ 500) ∧
    Ready 0x0205 ([31, 3, 0, 0]) (blk) (fun m x q => q.len = 4 ∧ Mach.badBayGroup 0 (q.b 0) (q.b 1) = none ∧
        m.stageTaken (q.b 0 * 8 + q.b 1) x.num = false ∧ m.stageTaken (q.b 0 * 8 + 4) x.num = false) ∧
    Ready 0x0205 ([31, 3, 0, 0]) ({ blk with stage := [(31 * 8 + 3, (2, []))] }) (fun m x q => q.len = 4 ∧
        Mach.badBayGroup 0 (q.b 0) (q.b 1) = none ∧ m.stageTaken (q.b 0 * 8 + q.b 1) x.num = true) := by
  refine ⟨?_, ?_, ?_, ?_, ?_, ?_, ?_, ?_, ?_, ?_, ?_⟩
  · exact ⟨⟨rfl, by decide⟩, by repeat' apply And.intro <;> first | decide +kernel | rfl, by decide +kernel, by decide +kernel,
      by decide +kernel, by decide +kernel, by decide +kernel, fun i hi => by obtain rfl : i = 0 := Nat.lt_one_iff.mp hi; exact ⟨_, rfl,
        by decide +kernel, by decide +kernel⟩⟩
  · exact ⟨⟨rfl, by decide⟩, by repeat' apply And.intro <;> first | decide +kernel | rfl, by decide +kernel, by decide +kernel,
      by decide +kernel, by decide +kernel, fun i hi => by obtain rfl : i = 0 := Nat.lt_one_iff.mp hi; exact ⟨_, rfl, by decide +kernel⟩,
        Or.inl (by decide)⟩
  · exact ⟨⟨rfl, by decide⟩, by repeat' apply And.intro <;> first | decide +kernel | rfl, by decide +kernel, by decide +kernel,
      by decide +kernel, by decide +kernel, fun i hi => absurd hi (Nat.not_lt_zero i), all_none (by decide +kernel)⟩
  · repeat' apply And.intro
    all_goals first | decide +kernel | rfl
  · repeat' apply And.intro
    all_goals first | decide +kernel | rfl
  · repeat' apply And.intro
    all_goals first | decide +kernel | rfl
  · repeat' apply And.intro
    all_goals first | decide +kernel | rfl
  · repeat' apply And.intro
    all_goals first | decide +kernel | rfl
  · repeat' apply And.intro
    all_goals first | decide +kernel | rfl
  · repeat' apply And.intro
    all_goals first | decide +kernel | rfl
  · repeat' apply And.intro
    all_goals first | decide +kernel | rfl

/-- LogicRequests: each clause's conditions are met. -/
theorem witness_LogicRequests :
    ((fun (s : Xfer) => Ready 0x0301 ([3, 0, 0, 0, 0, 0, 0, 64, 0, 0, 0, 0, 9]) (blk) (fun m x q => 12 ≤ q.len ∧ q.b 0 ≤ 3 ∧ q.b 1 ≤ 1 ∧
        64 ≤ q.d 4 ∧ q.d 4 ≤ 262144 ∧ Mach.segTake x 1 (q.b 0) (q.b 1) (q.d 4) (q.d 8) (q.payload.drop 12) 4 8 = .ok s ∧
        m.passive = false ∧ m.unset = false ∧ s.data.length < q.d 4)) ({ kind := 1, target := 3, format := 0, total := 64, data := [9] })) ∧
    ((fun (s : Xfer) => Ready 0x0301 ([3, 0, 0, 0, 0, 0, 0, 72, 0, 0, 0, 0] ++ progImg) (blk) (fun m x q => 12 ≤ q.len ∧ q.b 0 ≤ 3 ∧
        q.b 1 ≤ 1 ∧ 64 ≤ q.d 4 ∧ q.d 4 ≤ 262144 ∧ Mach.segTake x 1 (q.b 0) (q.b 1) (q.d 4) (q.d 8) (q.payload.drop 12) 4 8 = .ok s ∧
        m.passive = false ∧ m.unset = false ∧ s.data.length = q.d 4 ∧
        ((m.xferSet x.num 1 none).progLoad (q.b 0) (q.b 1) s.data).1 = 0)) ({ kind := 1, target := 3, format := 0, total := 72, data := progImg })) ∧
    Ready 0x0302 [3, 1, 0, 0] (pairB .standby) (fun m _ q => q.len = 4 ∧ q.b 0 ≤ 3 ∧ q.b 1 ≤ 1 ∧ m.passive = true) ∧
    Ready 0x0305 [3, 0, 1, 0, 0, 0, 0, 0] (pairB .standby) (fun m _ q => q.len = 8 ∧ q.b 0 ≤ 3 ∧ q.b 2 ≤ 1 ∧ m.passive = true) ∧
    Ready 0x0304 ([3, 0, 0, 1, 0, 0, 0, 7, 0, 0, 0, 1]) (pairB .standby) (fun m _ q => q.b 0 ≤ 3 ∧ 1 ≤ q.h 2 ∧ q.h 2 ≤ 256 ∧
        q.len = 8 + 4 * q.h 2 ∧ m.passive = true) ∧
    ((fun (s : Xfer) => Ready 0x0301 ([3, 0, 0, 0, 0, 0, 0, 64, 0, 0, 0, 0, 9]) (pairB .standby) (fun m x q => 12 ≤ q.len ∧ q.b 0 ≤ 3 ∧
        q.b 1 ≤ 1 ∧ 64 ≤ q.d 4 ∧ q.d 4 ≤ 262144 ∧ Mach.segTake x 1 (q.b 0) (q.b 1) (q.d 4) (q.d 8) (q.payload.drop 12) 4 8 = .ok s ∧
        m.passive = true)) ({ kind := 1, target := 3, format := 0, total := 64, data := [9] })) ∧
    ((fun (y : Machine.Task) (p : Prog) => Ready 0x0302 ([3, 1, 0,
        0]) ({ blk with tasks := [Task.init, Task.init, Task.init, { task3 0x7F 0 0 0 with st := .run }] }) (fun m _ q => q.len = 4 ∧
        q.b 0 ≤ 3 ∧ q.b 1 ≤ 1 ∧ m.passive = false ∧ m.unset = false ∧ m.tasks[q.b 0]? = some y ∧ y.prog = some p ∧ y.st ≠ .fenced ∧
        y.st ≠ .stopped ∧ (q.b 1 = 1 ∨ y.st ≠ .loaded))) ({ task3 0x7F 0 0 0 with st := .run }) (prog3 0x7F 0 0)) ∧
    ((fun (y : Machine.Task) => Ready 0x0303 ([3, 0, 0,
        0]) ({ blk with tasks := [Task.init, Task.init, Task.init, { task3 0x7F 0 0 0 with st := .stopped }] }) (fun m _ q => q.len = 4 ∧
        q.b 0 ≤ 3 ∧ m.passive = false ∧ m.tasks[q.b 0]? = some y ∧
        (y.st ≠ .run ∨ y.stopWait ≠ none))) ({ task3 0x7F 0 0 0 with st := .stopped })) ∧
    ((fun (y : Machine.Task) (p : Prog) => Ready 0x0302 ([3, 0, 0,
        0]) ({ blk with tasks := [Task.init, Task.init, Task.init, { task3 0x7F 0 0 0 with st := .loaded }] }) (fun m _ q => q.len = 4 ∧
        q.b 0 ≤ 3 ∧ q.b 1 = 0 ∧ m.passive = false ∧ m.unset = false ∧ m.tasks[q.b 0]? = some y ∧ y.prog = some p ∧
        (y.st = .loaded ∨ y.st = .stopped))) ({ task3 0x7F 0 0 0 with st := .loaded }) (prog3 0x7F 0 0)) ∧
    ((fun (y : Machine.Task) (p : Prog) => Ready 0x0302 ([3, 1, 0,
        0]) ({ blk with tasks := [Task.init, Task.init, Task.init, { task3 0x7F 0 0 0 with st := .stopped }] }) (fun m _ q => q.len = 4 ∧
        q.b 0 ≤ 3 ∧ q.b 1 = 1 ∧ m.passive = false ∧ m.unset = false ∧ m.tasks[q.b 0]? = some y ∧ y.prog = some p ∧
        y.st = .stopped)) ({ task3 0x7F 0 0 0 with st := .stopped }) (prog3 0x7F 0 0)) ∧
    ((fun (y : Machine.Task) => Ready 0x0303 ([3, 0, 0,
        0]) ({ blk with tasks := [Task.init, Task.init, Task.init, { task3 0x7F 0 0 0 with st := .run, cyc := none }] }) (fun m _ q =>
        q.len = 4 ∧ q.b 0 ≤ 3 ∧ m.passive = false ∧ m.tasks[q.b 0]? = some y ∧ y.st = .run ∧ y.stopWait = none ∧
        y.cyc = none)) ({ task3 0x7F 0 0 0 with st := .run, cyc := none })) ∧
    ((fun (y : Machine.Task) (c : Cycle) => Ready 0x0303 ([3, 0, 0,
        0]) ({ blk with tasks := [Task.init, Task.init, Task.init, { task3 0x7F 0 0 0 with st := .run }] }) (fun m _ q => q.len = 4 ∧
        q.b 0 ≤ 3 ∧ m.passive = false ∧ m.tasks[q.b 0]? = some y ∧ y.st = .run ∧ y.stopWait = none ∧
        y.cyc = some c)) ({ task3 0x7F 0 0 0 with st := .run }) (cyc3 0)) ∧
    ((fun (y : Machine.Task) (p : Prog) => Ready 0x0304 ([3, 0, 0, 1, 0, 0, 0, 7, 0, 0, 0,
        1]) ({ blk with tasks := [Task.init, Task.init, Task.init, { task3 0x7F 0 0 0 with st := .run }] }) (fun m _ q => q.b 0 ≤ 3 ∧
        1 ≤ q.h 2 ∧ q.h 2 ≤ 256 ∧ q.len = 8 + 4 * q.h 2 ∧ m.passive = false ∧ m.unset = false ∧ m.tasks[q.b 0]? = some y ∧
        y.prog = some p ∧ q.d 4 + q.h 2 ≤ p.hdr.nK ∧ y.st ≠ .fenced ∧
        m.stu.opens.length < 192)) ({ task3 0x7F 0 0 0 with st := .run }) (prog3 0x7F 0 0)) ∧
    ((fun (y : Machine.Task) (p : Prog) => Ready 0x0305 ([3, 2, 1, 0, 0, 0, 0,
        63]) ({ blk with tasks := [Task.init, Task.init, Task.init, { task3 0x7F 0 0 0 with st := .run }] }) (fun m _ q => q.len = 8 ∧
        q.b 0 ≤ 3 ∧ q.b 2 ≤ 1 ∧ m.passive = false ∧ m.unset = false ∧ m.tasks[q.b 0]? = some y ∧ y.prog = some p ∧ q.b 1 ≤ 2 ∧
        q.d 4 < 2 ^ 20 ∧ bitIdxOk p.hdr (q.b 1) (q.d 4) = true ∧ y.st ≠ .fenced ∧
        (y.forcesNext.length < 64 ∨ y.forcesNext.any (fun f => decide (f.area = q.b 1 ∧
        f.idx = q.d 4)) = true))) ({ task3 0x7F 0 0 0 with st := .run }) (prog3 0x7F 0 0)) ∧
    ((fun (y : Machine.Task) (p : Prog) => Ready 0x0305 ([3, 2, 1, 0, 0, 0, 0,
        63]) ({ blk with tasks := [Task.init, Task.init, Task.init, { task3 0x7F 0 0 0 with st := .run, forcesNext := List.replicate 64 { area := 0, idx := 0, val := true, pv := false } }] }) (fun m _ q => q.len = 8 ∧ q.b 0 ≤ 3 ∧ q.b 2 ≤ 1 ∧ m.passive = false ∧ m.unset = false ∧ m.tasks[q.b 0]? = some y ∧ y.prog = some p ∧ q.b 1 ≤ 2 ∧ q.d 4 < 2 ^ 20 ∧ bitIdxOk p.hdr (q.b 1) (q.d 4) = true ∧ y.st ≠ .fenced ∧ 64 ≤ y.forcesNext.length ∧ y.forcesNext.any (fun f => decide (f.area = q.b 1 ∧ f.idx = q.d 4)) = false)) ({ task3 0x7F 0 0 0 with st := .run, forcesNext := List.replicate 64 { area := 0, idx := 0, val := true, pv := false } }) (prog3 0x7F 0 0)) ∧
    ((fun (y : Machine.Task) => Ready 0x0306 ([3, 0, 1, 0, 0, 0, 0,
        0]) ({ blk with tasks := [Task.init, Task.init, Task.init, { task3 0x7F 0 0 0 with st := .run }] }) (fun m _ q => q.len = 8 ∧
        q.b 0 ≤ 3 ∧ q.b 2 = 1 ∧ m.passive = false ∧ m.tasks[q.b 0]? = some y)) ({ task3 0x7F 0 0 0 with st := .run })) ∧
    ((fun (y : Machine.Task) => Ready 0x0306 ([3, 2, 0, 0, 0, 0, 0,
        63]) ({ blk with tasks := [Task.init, Task.init, Task.init, { task3 0x7F 0 0 0 with st := .run }] }) (fun m _ q => q.len = 8 ∧
        q.b 0 ≤ 3 ∧ q.b 2 = 0 ∧ q.b 1 ≤ 2 ∧ m.passive = false ∧ m.tasks[q.b 0]? = some y)) ({ task3 0x7F 0 0 0 with st := .run })) ∧
    ((fun (y : Machine.Task) => Ready 0x0307 ([3, 0, 0,
        0]) ({ blk with tasks := [Task.init, Task.init, Task.init, { task3 0x7F 0 0 0 with st := .run }] }) (fun m _ q => q.len = 4 ∧
        q.b 0 ≤ 3 ∧ m.tasks[q.b 0]? = some y)) ({ task3 0x7F 0 0 0 with st := .run })) := by
  refine ⟨?_, ?_, ?_, ?_, ?_, ?_, ?_, ?_, ?_, ?_, ?_, ?_, ?_, ?_, ?_, ?_, ?_, ?_⟩
  · repeat' apply And.intro
    all_goals first | decide +kernel | rfl
  · repeat' apply And.intro
    all_goals first | decide +kernel | rfl
  · repeat' apply And.intro
    all_goals first | decide +kernel | rfl
  · repeat' apply And.intro
    all_goals first | decide +kernel | rfl
  · repeat' apply And.intro
    all_goals first | decide +kernel | rfl
  · repeat' apply And.intro
    all_goals first | decide +kernel | rfl
  · repeat' apply And.intro
    all_goals first | decide +kernel | rfl
  · repeat' apply And.intro
    all_goals first | decide +kernel | rfl
  · repeat' apply And.intro
    all_goals first | decide +kernel | rfl
  · repeat' apply And.intro
    all_goals first | decide +kernel | rfl
  · repeat' apply And.intro
    all_goals first | decide +kernel | rfl
  · repeat' apply And.intro
    all_goals first | decide +kernel | rfl
  · repeat' apply And.intro
    all_goals first | decide +kernel | rfl
  · repeat' apply And.intro
    all_goals first | decide +kernel | rfl
  · repeat' apply And.intro
    all_goals first | decide +kernel | rfl
  · repeat' apply And.intro
    all_goals first | decide +kernel | rfl
  · repeat' apply And.intro
    all_goals first | decide +kernel | rfl
  · repeat' apply And.intro
    all_goals first | decide +kernel | rfl

/-- ControlRequests: each clause's conditions are met. -/
theorem witness_ControlRequests :
    Ready 0x0401 ([3, 0, 0, 255, 0x0F, 0xFF, 0, 0]) (blk) (fun m _ q => q.len = 8 ∧ q.b 0 ≤ 3 ∧ q.h 2 < selRange (q.b 0) ∧
        (q.b 0 = 3 → q.h 4 ≤ 4095) ∧ m.passive = false ∧ m.unset = false ∧
        (∀ s ∈ m.stu.opens, s.obj ≠ some ⟨q.b 0, q.h 2, if q.b 0 = 3 then q.h 4 else 0⟩) ∧ m.stu.opens.length < 192) ∧
    Ready 0x0401 ([3, 0, 0, 255, 0x0F, 0xFF, 0, 0]) (pairB .standby) (fun m _ q => q.len = 8 ∧ q.b 0 ≤ 3 ∧ q.h 2 < selRange (q.b 0) ∧
        (q.b 0 = 3 → q.h 4 ≤ 4095) ∧
        (m.passive = true ∨ m.unset = true ∨ ∃ s ∈ m.stu.opens, s.obj = some ⟨q.b 0, q.h 2, if q.b 0 = 3 then q.h 4 else 0⟩)) ∧
    Ready 0x0401 ([3, 0, 0, 255, 0x0F, 0xFF, 0,
        0]) ({ blk with stu := { blk.stu with opens := List.replicate 192 stitch7 } }) (fun m _ q => q.len = 8 ∧ q.b 0 ≤ 3 ∧
        q.h 2 < selRange (q.b 0) ∧ (q.b 0 = 3 → q.h 4 ≤ 4095) ∧ m.passive = false ∧ m.unset = false ∧
        (∀ s ∈ m.stu.opens, s.obj ≠ some ⟨q.b 0, q.h 2, if q.b 0 = 3 then q.h 4 else 0⟩) ∧ 192 ≤ m.stu.opens.length) ∧
    ((fun (s : Stitch) (o : CtlObj) => Ready 0x0402 ([0, 7, 0, 0, 0, 0, 0,
        1]) ({ blk with stu := { blk.stu with opens := [{ stitch7 with obj := some ⟨0, 0, 0⟩, st := .bound }] } }) (fun m x q =>
        q.len = 8 ∧ m.stitch (q.h 0) = some s ∧ s.obj = some o ∧ Mach.objValBad o (q.d 4) = false ∧
        (m.passive = true ∨ Mach.selMine s x.num = false))) ({ stitch7 with obj := some ⟨0, 0, 0⟩, st := .bound }) (⟨0, 0, 0⟩)) ∧
    ((fun (s : Stitch) (o : CtlObj) => Ready 0x0402 ([0, 7, 0, 0, 0, 0, 0,
        2]) ({ blk with stu := { blk.stu with opens := [{ stitch7 with obj := some ⟨0, 0, 0⟩ }] } }) (fun m _ q => q.len = 8 ∧
        m.stitch (q.h 0) = some s ∧ s.obj = some o ∧
        Mach.objValBad o (q.d 4) = true)) ({ stitch7 with obj := some ⟨0, 0, 0⟩ }) (⟨0, 0, 0⟩)) ∧
    Ready 0x0403 [0, 7, 0,
        0] { blk with stu := { blk.stu with hist := [{ id := 7, clsA := true, dropped := false, reason := 0, remote := 0, lateAbort := false, ltc := 0 }] } } (fun m _ q => q.len = 4 ∧ m.stitch (q.h 0) = none ∧ (m.finOf (q.h 0)).isSome = true) ∧
    Ready 0x0402 [0, 7, 0, 0, 0, 0, 0, 1] blk (fun m _ q => q.len = 8 ∧ m.stitch (q.h 0) = none ∧ m.finOf (q.h 0) = none) ∧
    ((fun (s : Stitch) => Ready 0x0403 ([0, 7, 0,
        0]) ({ blk with stu := { blk.stu with opens := [{ stitch7 with obj := some ⟨0, 0, 0⟩, st := .bound }] } }) (fun m _ q =>
        q.len = 4 ∧ m.stitch (q.h 0) = some s ∧ s.st = .bound)) ({ stitch7 with obj := some ⟨0, 0, 0⟩, st := .bound })) ∧
    Ready 0x0404 ([0, 7, 0, 0]) (blk) (fun m _ q => q.len = 4 ∧ m.stitch (q.h 0) = none ∧ m.finOf (q.h 0) = none) ∧
    ((fun (s : Stitch) => Ready 0x0404 ([0, 7, 0,
        0]) ({ blk with stu := { blk.stu with opens := [{ stitch7 with obj := some ⟨0, 0, 0⟩ }] } }) (fun m _ q => q.len = 4 ∧
        m.stitch (q.h 0) = some s ∧ s.st ≠ .bound)) ({ stitch7 with obj := some ⟨0, 0, 0⟩ })) ∧
    ((fun (s : Stitch) (o : CtlObj) => Ready 0x0402 ([0, 7, 0, 0, 0, 0, 0,
        1]) ({ blk with stu := { blk.stu with opens := [{ stitch7 with obj := some ⟨0, 0, 0⟩ }] } }) (fun m x q => q.len = 8 ∧
        m.stitch (q.h 0) = some s ∧ s.obj = some o ∧ Mach.objValBad o (q.d 4) = false ∧ m.passive = false ∧
        Mach.selMine s x.num = true)) ({ stitch7 with obj := some ⟨0, 0, 0⟩ }) (⟨0, 0, 0⟩)) ∧
    ((fun (s : Stitch) => Ready 0x0403 ([0, 7, 0,
        0]) ({ blk with stu := { blk.stu with opens := [{ stitch7 with obj := some ⟨0, 0, 0⟩ }] } }) (fun m _ q => q.len = 4 ∧
        m.stitch (q.h 0) = some s ∧ s.st ≠ .bound)) ({ stitch7 with obj := some ⟨0, 0, 0⟩ })) ∧
    ((fun (s : Stitch) => Ready 0x0404 ([0, 7, 0,
        0]) ({ blk with stu := { blk.stu with opens := [{ stitch7 with st := .bound }] } }) (fun m _ q => q.len = 4 ∧
        m.stitch (q.h 0) = some s ∧ s.st = .bound)) ({ stitch7 with st := .bound })) ∧
    ((fun (f : FinStitch) => Ready 0x0404 ([0, 7, 0,
        0]) ({ blk with stu := { blk.stu with hist := [{ id := 7, clsA := true, dropped := false, reason := 0, remote := 0, lateAbort := false, ltc := 0 }] } }) (fun m _ q => q.len = 4 ∧ m.stitch (q.h 0) = none ∧ m.finOf (q.h 0) = some f)) ({ id := 7, clsA := true, dropped := false, reason := 0, remote := 0, lateAbort := false, ltc := 0 })) := by
  refine ⟨?_, ?_, ?_, ?_, ?_, ?_, ?_, ?_, ?_, ?_, ?_, ?_, ?_, ?_⟩
  · repeat' apply And.intro
    all_goals first | decide +kernel | rfl
  · repeat' apply And.intro
    all_goals first | decide +kernel | rfl
  · repeat' apply And.intro
    all_goals first | decide +kernel | rfl
  · repeat' apply And.intro
    all_goals first | decide +kernel | rfl
  · repeat' apply And.intro
    all_goals first | decide +kernel | rfl
  · repeat' apply And.intro
    all_goals first | decide +kernel | rfl
  · repeat' apply And.intro
    all_goals first | decide +kernel | rfl
  · repeat' apply And.intro
    all_goals first | decide +kernel | rfl
  · repeat' apply And.intro
    all_goals first | decide +kernel | rfl
  · repeat' apply And.intro
    all_goals first | decide +kernel | rfl
  · repeat' apply And.intro
    all_goals first | decide +kernel | rfl
  · repeat' apply And.intro
    all_goals first | decide +kernel | rfl
  · repeat' apply And.intro
    all_goals first | decide +kernel | rfl
  · repeat' apply And.intro
    all_goals first | decide +kernel | rfl

/-- RecorderAndDiagnosticsRequests: each clause's conditions are met. -/
theorem witness_RecorderAndDiagnosticsRequests :
    ((fun (l : EvLog) => Ready 0x0501 ([0, 63, 0, 0, 0, 0, 0,
        5]) (blk.updRecs (fun r => { r with skeinA := [{ blk.newRec .laneUp 0 [] false false with rseq := 5 }] })) (fun m _ q =>
        q.len = 8 ∧ q.b 0 ≤ 2 ∧ 1 ≤ q.b 1 ∧ q.b 1 ≤ 63 ∧ m.selLog (q.b 0) = (l, false) ∧ l ≠ [] ∧
        0 ≤ sdiff32 (wd (q.d 4)) (Mach.oldestOf l) ∧
        sdiff32 (wd (q.d 4)) (Mach.newestOf l) ≤ 0)) ([{ blk.newRec .laneUp 0 [] false false with rseq := 5 }])) ∧
    ((fun (l : EvLog) => Ready 0x0501 ([0, 63, 0, 0, 0, 0, 0,
        6]) (blk.updRecs (fun r => { r with skeinA := [{ blk.newRec .laneUp 0 [] false false with rseq := 5 }] })) (fun m _ q =>
        q.len = 8 ∧ q.b 0 ≤ 2 ∧ 1 ≤ q.b 1 ∧ q.b 1 ≤ 63 ∧ m.selLog (q.b 0) = (l, false) ∧
        (l = [] ∨ 0 < sdiff32 (wd (q.d 4)) (Mach.oldestOf l) ∧
        0 < sdiff32 (wd (q.d 4)) (Mach.newestOf l)))) ([{ blk.newRec .laneUp 0 [] false false with rseq := 5 }])) ∧
    ((fun (l : EvLog) => Ready 0x0501 ([0, 63, 0, 0, 0, 0, 0,
        4]) (blk.updRecs (fun r => { r with skeinA := [{ blk.newRec .laneUp 0 [] false false with rseq := 5 }] })) (fun m _ q =>
        q.len = 8 ∧ q.b 0 ≤ 2 ∧ 1 ≤ q.b 1 ∧ q.b 1 ≤ 63 ∧ m.selLog (q.b 0) = (l, false) ∧ l ≠ [] ∧
        sdiff32 (wd (q.d 4)) (Mach.oldestOf l) < 0)) ([{ blk.newRec .laneUp 0 [] false false with rseq := 5 }])) ∧
    ((fun (l : EvLog) => Ready 0x0501 ([2, 63, 0, 0, 0, 0, 0, 4]) (blk.setDom 44 { blk.dom 44 with st := 1 }) (fun m _ q => q.len = 8 ∧
        q.b 0 ≤ 2 ∧ 1 ≤ q.b 1 ∧ q.b 1 ≤ 63 ∧ m.selLog (q.b 0) = (l, true))) ([])) ∧
    ((fun e (l : Broken) =>
        Ready 0x0502 ([]) ({ blk with cmd := { blk.cmd with maint := [{ handle := 1, act := 8, target := 0, session := 1, waiter := none }] } }) (fun m _ q => q.len = 0 ∧ m.maintBroken 8 0 = e :: l)) ((0x0201, 65544)) ([])) ∧
    ((fun e (l : Broken) =>
        Ready 0x0507 ([]) ({ blk with cmd := { blk.cmd with maint := [{ handle := 1, act := 8, target := 1, session := 1, waiter := none }] } }) (fun m _ q => q.len = 0 ∧ m.maintBroken 8 1 = e :: l)) ((0x0201, 65544)) ([])) ∧
    Ready 0x0502 ([]) (blk) (fun m _ q => q.len = 0 ∧ m.maintBroken 8 0 = []) ∧
    Ready 0x0503 ([15, 0, 0, 0]) (blk) (fun _ _ q => q.len = 4 ∧ q.b 0 ≤ 15) ∧
    Ready 0x0504 ([]) (blk) (fun _ _ q => q.len = 0) ∧
    ((fun (r : DrRec) => Ready 0x0505 ([0, 0, 0, 1, 0, 0, 0, 0, 0, 1, 0,
        0]) (blk.updDr (fun d => { d with stored := [drun.body] })) (fun m _ q => q.len = 12 ∧ 1 ≤ q.h 8 ∧ q.h 8 ≤ 4096 ∧
        m.recs.dr.run.any (fun r => decide (r.body.recNo = q.d 0)) = false ∧
        m.recs.dr.stored.find? (fun r => decide (r.recNo = q.d 0)) = some r ∧ r.damaged = false ∧
        (∀ k ∈ r.blocks, m.recs.dr.badBlocks.contains k = false ∧ m.fenced (if k < 40 then 43 else 44) = false) ∧
        q.d 4 + q.h 8 ≤ r.bytes.length)) (drun.body)) ∧
    Ready 0x0505 ([0, 0, 0, 1, 0, 0, 0, 0, 0, 1, 0, 0]) (blk.updDr (fun d => { d with run := some drun })) (fun m _ q => q.len = 12 ∧
        1 ≤ q.h 8 ∧ q.h 8 ≤ 4096 ∧ m.recs.dr.run.any (fun r => decide (r.body.recNo = q.d 0)) = true) ∧
    Ready 0x0505 ([0, 0, 0, 1, 0, 0, 0, 0, 0, 1, 0, 0]) (blk) (fun m _ q => q.len = 12 ∧ 1 ≤ q.h 8 ∧ q.h 8 ≤ 4096 ∧
        m.recs.dr.run.any (fun r => decide (r.body.recNo = q.d 0)) = false ∧
        m.recs.dr.stored.find? (fun r => decide (r.recNo = q.d 0)) = none) ∧
    ((fun (r : DrRec) k => Ready 0x0505 ([0, 0, 0, 1, 0, 0, 0, 0, 0, 1, 0,
        0]) (blk.updDr (fun d => { d with stored := [{ drun.body with blocks := [3, 5] }], badBlocks := [5] })) (fun m _ q =>
        q.len = 12 ∧ 1 ≤ q.h 8 ∧ q.h 8 ≤ 4096 ∧ m.recs.dr.run.any (fun r => decide (r.body.recNo = q.d 0)) = false ∧
        m.recs.dr.stored.find? (fun r => decide (r.recNo = q.d 0)) = some r ∧
        r.blocks.find? (fun k =>
        m.recs.dr.badBlocks.contains k || m.fenced (if k < 40 then 43 else 44)) = some k)) ({ drun.body with blocks := [3, 5] }) (5)) ∧
    ((fun (r : DrRec) => Ready 0x0505 ([0, 0, 0, 1, 0xFF, 0xFF, 0xFF, 0xFF, 0x10, 0, 0,
        0]) (blk.updDr (fun d => { d with stored := [drun.body] })) (fun m _ q => q.len = 12 ∧ 1 ≤ q.h 8 ∧ q.h 8 ≤ 4096 ∧
        m.recs.dr.run.any (fun r => decide (r.body.recNo = q.d 0)) = false ∧
        m.recs.dr.stored.find? (fun r => decide (r.recNo = q.d 0)) = some r ∧ r.damaged = false ∧
        (∀ k ∈ r.blocks, m.recs.dr.badBlocks.contains k = false ∧ m.fenced (if k < 40 then 43 else 44) = false) ∧
        r.bytes.length < q.d 4 + q.h 8)) (drun.body)) ∧
    Ready 0x0506 ([]) (blk) (fun m _ q => q.len = 0 ∧ m.flag .drCtrl F.drCtrl_EN = false) ∧
    Ready 0x0506 ([]) (blk.setF .drCtrl F.drCtrl_EN 1) (fun m _ q => q.len = 0 ∧ m.flag .drCtrl F.drCtrl_EN = true) ∧
    Ready 0x0507 ([]) (blk) (fun m _ q => q.len = 0 ∧ m.maintBroken 8 1 = []) ∧
    Ready 0x0A01 ([]) (blk) (fun _ _ q => q.len = 0) ∧
    Ready 0x0A02 ([131, 0, 0, 0]) (blk) (fun _ _ q => q.len = 4 ∧ q.b 0 < 132) ∧
    Ready 0x0A02 ([132, 0, 0, 0]) (blk) (fun _ _ q => q.len = 4 ∧ 132 ≤ q.b 0) ∧
    Ready 0x0A03 ([15, 0, 0x80, 0, 0, 60, 0, 0] ++ zeros 60) (blk) (fun _ _ q => q.b 0 ≤ 31 ∧ (q.h 2 = 0 ∨ 32768 ≤ q.h 2) ∧ 60 ≤ q.h 4 ∧
        q.h 4 ≤ 1518 ∧ q.len = 8 + q.h 4) ∧
    Ready 0x0A03 ([32] ++ zeros 7) (blk) (fun _ _ q => 8 ≤ q.len ∧ 31 < q.b 0) ∧
    Ready 0x0A03 ([31, 0, 0x7F, 0xFF, 0, 60, 0, 0] ++ zeros 60) (blk) (fun _ _ q => 8 ≤ q.len ∧ q.b 0 ≤ 31 ∧ q.h 2 ≠ 0 ∧ q.h 2 < 32768) ∧
    Ready 0x0A03 ([31, 0, 0, 0, 0, 59, 0, 0] ++ zeros 59) (blk) (fun _ _ q => 8 ≤ q.len ∧ q.b 0 ≤ 31 ∧ (q.h 2 = 0 ∨ 32768 ≤ q.h 2) ∧
        (q.h 4 < 60 ∨ 1518 < q.h 4)) := by
  refine ⟨?_, ?_, ?_, ?_, ?_, ?_, ?_, ?_, ?_, ?_, ?_, ?_, ?_, ?_, ?_, ?_, ?_, ?_, ?_, ?_, ?_, ?_, ?_, ?_⟩
  · repeat' apply And.intro
    all_goals first | decide +kernel | rfl
  · repeat' apply And.intro
    all_goals first | decide +kernel | rfl
  · repeat' apply And.intro
    all_goals first | decide +kernel | rfl
  · repeat' apply And.intro
    all_goals first | decide +kernel | rfl
  · repeat' apply And.intro
    all_goals first | decide +kernel | rfl
  · repeat' apply And.intro
    all_goals first | decide +kernel | rfl
  · repeat' apply And.intro
    all_goals first | decide +kernel | rfl
  · repeat' apply And.intro
    all_goals first | decide +kernel | rfl
  · repeat' apply And.intro
    all_goals first | decide +kernel | rfl
  · repeat' apply And.intro
    all_goals first | decide +kernel | rfl
  · repeat' apply And.intro
    all_goals first | decide +kernel | rfl
  · repeat' apply And.intro
    all_goals first | decide +kernel | rfl
  · repeat' apply And.intro
    all_goals first | decide +kernel | rfl
  · repeat' apply And.intro
    all_goals first | decide +kernel | rfl
  · repeat' apply And.intro
    all_goals first | decide +kernel | rfl
  · repeat' apply And.intro
    all_goals first | decide +kernel | rfl
  · repeat' apply And.intro
    all_goals first | decide +kernel | rfl
  · repeat' apply And.intro
    all_goals first | decide +kernel | rfl
  · repeat' apply And.intro
    all_goals first | decide +kernel | rfl
  · repeat' apply And.intro
    all_goals first | decide +kernel | rfl
  · repeat' apply And.intro
    all_goals first | decide +kernel | rfl
  · repeat' apply And.intro
    all_goals first | decide +kernel | rfl
  · repeat' apply And.intro
    all_goals first | decide +kernel | rfl
  · repeat' apply And.intro
    all_goals first | decide +kernel | rfl

/-- TimeAndPairRequests: each clause's conditions are met. -/
theorem witness_TimeAndPairRequests :
    Ready 0x0601 ([]) (blk) (fun _ _ q => q.len = 0) ∧
    Ready 0x0602 ([1, 1] ++ zeros 10 ++ [0, 0, 0, 1]) (blk) (fun m _ q => q.len = 16 ∧ q.b 0 ≤ 1 ∧ q.b 1 ≤ 1 ∧
        (q.b 1 = 1 → m.fseqPast (wd (q.d 12)) = false) ∧ m.flag .tbStepCtrl F.tbStepCtrl_ARM = false) ∧
    Ready 0x0602 ([1, 1] ++ zeros 14) (blk) (fun m _ q => q.len = 16 ∧ q.b 0 ≤ 1 ∧ q.b 1 = 1 ∧ m.fseqPast (wd (q.d 12)) = true) ∧
    Ready 0x0602 ([1, 0] ++ zeros 14) (blk.setF .tbStepCtrl F.tbStepCtrl_ARM 1) (fun m _ q => q.len = 16 ∧ q.b 0 ≤ 1 ∧ q.b 1 ≤ 1 ∧
        (q.b 1 = 1 → m.fseqPast (wd (q.d 12)) = false) ∧ m.flag .tbStepCtrl F.tbStepCtrl_ARM = true) ∧
    Ready 0x0603 ([]) (blk) (fun m _ q => q.len = 0 ∧ m.tb.st ≠ .hold) ∧
    Ready 0x0702 ([]) (wp) (fun m _ q => q.len = 0 ∧ m.switchOk = false) ∧
    Ready 0x0703 ([]) (wp) (fun m _ q => q.len = 0 ∧ m.pair.role ≠ .standby) ∧
    Ready 0x0704 ([1, 0, 0, 0]) (wp.updFeed 0 (fun x => { x with st := .failed })) (fun m _ q => q.len = 4 ∧ q.b 0 ≤ 1 ∧
        (m.feed (1 - q.b 0)).st ≠ .present ∧ (m.feed (1 - q.b 0)).st ≠ .proven) ∧
    ((fun e (l : Broken) => Ready 0x0704 ([1, 0, 0,
        0]) ({ wp with cmd := { blk.cmd with maint := [{ handle := 1, act := 7, target := 0, session := 1, waiter := none }] } }) (fun m _ q => q.len = 4 ∧ q.b 0 ≤ 1 ∧ ((m.feed (1 - q.b 0)).st = .present ∨ (m.feed (1 - q.b 0)).st = .proven) ∧ m.maintBroken 7 (q.b 0) = e :: l)) ((0x0201, 65543)) ([])) ∧
    Ready 0x0603 ([]) ((blk.updTb (fun t => { t with st := .hold, hold := some holdS }))) (fun m _ q => q.len = 0 ∧ m.tb.st = .hold) ∧
    Ready 0x0701 ([]) (wp) (fun _ _ q => q.len = 0) ∧
    Ready 0x0702 ([]) ((pairB .active).updPair (fun p => { p with hbLast := some hb0 })) (fun m _ q => q.len = 0 ∧ m.switchOk = true) ∧
    Ready 0x0703 ([]) (pairB .standby) (fun m _ q => q.len = 0 ∧ m.pair.role = .standby) ∧
    Ready 0x0704 ([1, 0, 0, 0]) (wp) (fun m _ q => q.len = 4 ∧ q.b 0 ≤ 1 ∧
        ((m.feed (1 - q.b 0)).st = .present ∨ (m.feed (1 - q.b 0)).st = .proven) ∧ m.maintBroken 7 (q.b 0) = []) := by
  refine ⟨?_, ?_, ?_, ?_, ?_, ?_, ?_, ?_, ?_, ?_, ?_, ?_, ?_, ?_⟩
  · repeat' apply And.intro
    all_goals first | decide +kernel | rfl
  · repeat' apply And.intro
    all_goals first | decide +kernel | rfl
  · repeat' apply And.intro
    all_goals first | decide +kernel | rfl
  · repeat' apply And.intro
    all_goals first | decide +kernel | rfl
  · repeat' apply And.intro
    all_goals first | decide +kernel | rfl
  · repeat' apply And.intro
    all_goals first | decide +kernel | rfl
  · repeat' apply And.intro
    all_goals first | decide +kernel | rfl
  · repeat' apply And.intro
    all_goals first | decide +kernel | rfl
  · repeat' apply And.intro
    all_goals first | decide +kernel | rfl
  · repeat' apply And.intro
    all_goals first | decide +kernel | rfl
  · repeat' apply And.intro
    all_goals first | decide +kernel | rfl
  · repeat' apply And.intro
    all_goals first | decide +kernel | rfl
  · repeat' apply And.intro
    all_goals first | decide +kernel | rfl
  · repeat' apply And.intro
    all_goals first | decide +kernel | rfl

/-- MaintenanceRequests: each clause's conditions are met. -/
theorem witness_MaintenanceRequests :
    ((fun (g : Nat × Mach) => Ready 0x0801 ([1, 0, 0, 2, 0, 0, 0, 0]) (blk) (fun m x q => q.len = 8 ∧ (1 ≤ q.b 0 ∧
        q.b 0 ≤ 5 ∨ q.b 0 = 9) ∧ m.maintBar (q.b 0) (q.h 2) (q.d 4) = none ∧
        m.maintTake (q.b 0) (q.h 2) x.num none = .ok g)) (match (blk.taken x1 (reqOf hd 0x0801 [1, 0, 0, 2, 0, 0, 0,
        0])).maintTake 1 2 1 none with | .ok g => g | .error _ => (0, blk))) ∧
    ((fun e => Ready 0x0801 ([1, 0, 0, 3, 0, 0, 0, 0]) (blk) (fun m x q => q.len = 8 ∧ (1 ≤ q.b 0 ∧ q.b 0 ≤ 5 ∨ q.b 0 = 9) ∧
        (m.maintBar (q.b 0) (q.h 2) (q.d 4) = some e ∨ m.maintBar (q.b 0) (q.h 2) (q.d 4) = none ∧
        m.maintTake (q.b 0) (q.h 2) x.num none = .error e))) ((0x0102, 2))) ∧
    Ready 0x0801 ([6] ++ zeros 7) (blk) (fun _ _ q => q.len = 8 ∧ (q.b 0 = 0 ∨ 5 < q.b 0) ∧ q.b 0 ≠ 9) ∧
    Ready 0x0802 ([0, 9, 0, 0]) (blk) (fun m _ q => q.len = 4 ∧ m.maintOf (q.h 0) = none) ∧
    Ready 0x0804 ([0, 9, 12, 1, 0x13, 0x88, 0, 0]) (blk) (fun m _ q => q.len = 8 ∧ q.b 2 ≤ 15 ∧ q.b 3 ≤ 1 ∧ 1 ≤ q.h 4 ∧ q.h 4 ≤ 5000 ∧
        (∀ a, m.maintOf (q.h 0) = some a → a.act ≠ 1 ∨ (groupOuts a.target).contains (q.b 2) = false)) ∧
    Ready 0x0805 ([2, 0, 0, 0]) (blk) (fun _ _ q => q.len = 4 ∧ 1 < q.b 0) ∧
    ((fun (a : Maint) => Ready 0x0802 ([0, 1, 0,
        0]) ({ blk with cmd := { blk.cmd with maint := [{ handle := 1, act := 1, target := 2, session := 1, waiter := none }] } }) (fun m _ q => q.len = 4 ∧ m.maintOf (q.h 0) = some a)) ({ handle := 1, act := 1, target := 2, session := 1, waiter := none })) ∧
    Ready 0x0803 ([]) (blk) (fun _ _ q => q.len = 0) ∧
    ((fun (a : Maint) => Ready 0x0804 ([0, 1, 12, 1, 0x13, 0x88, 0,
        0]) ({ blk with cmd := { blk.cmd with maint := [{ handle := 1, act := 1, target := 2, session := 1, waiter := none }] } }) (fun m _ q => q.len = 8 ∧ q.b 2 ≤ 15 ∧ q.b 3 ≤ 1 ∧ 1 ≤ q.h 4 ∧ q.h 4 ≤ 5000 ∧ m.maintOf (q.h 0) = some a ∧ a.act = 1 ∧ (groupOuts a.target).contains (q.b 2) = true)) ({ handle := 1, act := 1, target := 2, session := 1, waiter := none })) ∧
    Ready 0x0805 ([1, 0, 0, 0]) (blk) (fun _ _ q => q.len = 4 ∧ q.b 0 ≤ 1) := by
  refine ⟨?_, ?_, ?_, ?_, ?_, ?_, ?_, ?_, ?_, ?_⟩
  · repeat' apply And.intro
    all_goals first | decide +kernel | rfl
  · exact ⟨⟨rfl, by decide⟩, by repeat' apply And.intro <;> first | decide +kernel | rfl, by decide +kernel, by decide +kernel,
      Or.inl (by decide +kernel)⟩
  · repeat' apply And.intro
    all_goals first | decide +kernel | rfl
  · repeat' apply And.intro
    all_goals first | decide +kernel | rfl
  · exact ⟨⟨rfl, by decide⟩, by repeat' apply And.intro <;> first | decide +kernel | rfl, by decide +kernel, by decide +kernel,
      by decide +kernel, by decide +kernel, by decide +kernel, all_none (by decide +kernel)⟩
  · repeat' apply And.intro
    all_goals first | decide +kernel | rfl
  · repeat' apply And.intro
    all_goals first | decide +kernel | rfl
  · repeat' apply And.intro
    all_goals first | decide +kernel | rfl
  · repeat' apply And.intro
    all_goals first | decide +kernel | rfl
  · repeat' apply And.intro
    all_goals first | decide +kernel | rfl

/-- SecurityRequests: each clause's conditions are met. -/
theorem witness_SecurityRequests :
    Ready 0x0901 ([]) (blk) (fun _ _ q => q.len = 0) ∧
    ((fun m' => Ready 0x0902 ([1, 0, 0, 0, 255, 0, 0, 0]) (blk) (fun m x q => (q.len = 104 ∨ q.len = 8 ∧ q.b 4 = 255) ∧ q.b 0 = 1 ∧
        m.roleLocked = false ∧
        m.roleRespond x 1 (q.b 4) (q.payload.drop 8) = (true, m'))) (((blk.taken x1 (reqOf hd 0x0902 [1, 0, 0, 0, 255, 0, 0,
        0])).roleRespond x1 1 255 []).2)) ∧
    ((fun m' => Ready 0x0902 ([1, 0, 0, 0, 0, 0, 0, 0] ++ zeros 96) (blk) (fun m x q => (q.len = 104 ∨ q.len = 8 ∧ q.b 4 = 255) ∧
        q.b 0 = 1 ∧ m.roleLocked = false ∧
        m.roleRespond x 1 (q.b 4) (q.payload.drop 8) = (false, m'))) (((blk.taken x1 (reqOf hd 0x0902 ([1, 0, 0, 0, 0, 0, 0,
        0] ++ zeros 96))).roleRespond x1 1 0 (zeros 96)).2)) ∧
    Ready 0x0902 ([1, 0, 0, 0, 0, 0, 0,
        0] ++ zeros 96) (blk.updSec (fun s => { s with lockEnd := some (blk.mon + 1) })) (fun m _ q => (q.len = 104 ∨ q.len = 8 ∧
        q.b 4 = 255) ∧ q.b 0 = 1 ∧ m.roleLocked = true) ∧
    Ready 0x0903 ([]) (blk) (fun _ _ q => q.len = 0) ∧
    Met (fun m => m.ready x2 0x0904 hd [4, 0, 0, 0, 0, 0, 0, 9, 0, 0, 0, 4, 8] ∧
        (fun (x : Session) (q : RawReq) (s : Xfer) => 12 ≤ q.len ∧ 1 ≤ q.b 0 ∧ q.b 0 ≤ 4 ∧ q.d 8 ≠ 0 ∧
        Mach.segTake x 2 (q.b 0) 0 (q.d 4) (q.d 8) (q.payload.drop 12) 4 8 = .ok s ∧
        s.data.length < q.d 4) x2 (reqOf hd 0x0904 [4, 0, 0, 0, 0, 0, 0, 9, 0, 0, 0, 4,
        8]) { kind := 2, target := 4, format := 0, total := 9, data := [1, 2, 3, 4, 8] }) stgB ∧
    Met (fun m => m.ready x2 0x0904 hd [4, 0, 0, 0, 0, 0, 0, 9, 0, 0, 0, 4, 8, 8, 8, 8, 8] ∧
        (fun (x : Session) (q : RawReq) (s : Xfer) => 12 ≤ q.len ∧ 1 ≤ q.b 0 ∧ q.b 0 ≤ 4 ∧ q.d 8 ≠ 0 ∧
        Mach.segTake x 2 (q.b 0) 0 (q.d 4) (q.d 8) (q.payload.drop 12) 4 8 = .ok s ∧ s.data.length = q.d 4 ∧
        verifyImage s.data (q.b 0) (m.imgKind (q.b 0)).svnMin ≠ 0) x2 (reqOf hd 0x0904 [4, 0, 0, 0, 0, 0, 0, 9, 0, 0, 0, 4, 8, 8, 8, 8,
        8]) { kind := 2, target := 4, format := 0, total := 9, data := [1, 2, 3, 4, 8, 8, 8, 8, 8] }) stgB ∧
    Ready 0x0905 ([4, 0, 0, 0]) (blk) (fun m _ q => q.len = 4 ∧ 1 ≤ q.b 0 ∧ q.b 0 ≤ 4 ∧
        (∀ i, (m.imgKind (q.b 0)).staged = some i → (Mach.ImgKind.slot (m.imgKind (q.b 0)) i).verified = false)) ∧
    ((fun i => Ready 0x0905 ([4, 0, 0,
        0]) (blk.updImg 4 (fun k => { k with staged := some 1, slots := [⟨[], true⟩, ⟨[], true⟩] })) (fun m _ q => q.len = 4 ∧
        1 ≤ q.b 0 ∧ q.b 0 ≤ 4 ∧ (m.imgKind (q.b 0)).staged = some i ∧ (Mach.ImgKind.slot (m.imgKind (q.b 0)) i).verified = true)) (1)) ∧
    (∃ l m', Ready 0x0906 (zeros 56) blk (fun m _ q => q.len = 56 ∧ q.d 0 = 0 ∧ m.attest (q.payload.drop 8) = some (l, m') ∧
        4088 ≤ l.length)) ∧
    Ready 0x0906 (zeros 56) (blk.updSec (fun s => { s with q := 4194304 })) (fun m _ q => q.len = 56 ∧ q.d 0 = 0 ∧ 4096 * 1024 ≤ m.sec.q) ∧
    Ready 0x0907 (zeros 4) (blk) (fun _ _ q => q.len = 4 ∧ q.d 0 = 0) ∧
    Ready 0x0908 ([1, 0, 0, 0]) (blk) (fun _ _ q => q.len = 4 ∧ q.d 0 ≠ 0x5345414C) ∧
    Ready 0x0908 ([0x53, 0x45, 0x41, 0x4C]) (blk.setF .secStat F.secStat_SEALED 1) (fun m _ q => q.len = 4 ∧ q.d 0 = 0x5345414C ∧
        m.flag .secStat F.secStat_SEALED = true) ∧
    Ready 0x0908 ([0x53, 0x45, 0x41, 0x4C]) (blk) (fun m _ q => q.len = 4 ∧ q.d 0 = 0x5345414C ∧
        m.flag .secStat F.secStat_SEALED = false ∧ m.sealable = false) ∧
    Ready 0x0908 ([0x53, 0x45, 0x41, 0x4C]) (blk.setF .secMkeyCtrl F.secMkeyCtrl_LOADED 1) (fun m _ q => q.len = 4 ∧ q.d 0 = 0x5345414C ∧
        m.flag .secStat F.secStat_SEALED = false ∧ m.sealable = true) := by
  refine ⟨?_, ?_, ?_, ?_, ?_, ?_, ?_, ?_, ?_, ?_, ?_, ?_, ?_, ?_, ?_, ?_⟩
  · repeat' apply And.intro
    all_goals first | decide +kernel | rfl
  · repeat' apply And.intro
    all_goals first | decide +kernel | rfl
  · repeat' apply And.intro
    all_goals first | decide +kernel | rfl
  · repeat' apply And.intro
    all_goals first | decide +kernel | rfl
  · repeat' apply And.intro
    all_goals first | decide +kernel | rfl
  · repeat' apply And.intro
    all_goals first | decide +kernel | rfl
  · repeat' apply And.intro
    all_goals first | decide +kernel | rfl
  · exact ⟨⟨rfl, by decide⟩, by repeat' apply And.intro <;> first | decide +kernel | rfl, by decide +kernel, by decide +kernel,
      by decide +kernel, all_none (by decide +kernel)⟩
  · repeat' apply And.intro
    all_goals first | decide +kernel | rfl
  · exact ⟨_, _, ⟨rfl, by decide⟩, by repeat' apply And.intro <;> first | decide +kernel | rfl, rfl, rfl, rfl, by decide +kernel⟩
  · repeat' apply And.intro
    all_goals first | decide +kernel | rfl
  · repeat' apply And.intro
    all_goals first | decide +kernel | rfl
  · repeat' apply And.intro
    all_goals first | decide +kernel | rfl
  · repeat' apply And.intro
    all_goals first | decide +kernel | rfl
  · repeat' apply And.intro
    all_goals first | decide +kernel | rfl
  · repeat' apply And.intro
    all_goals first | decide +kernel | rfl

/-- EventLog: each clause's conditions are met. -/
theorem witness_EventLog :
    Met (fun m => m.recs.fifo = []) (blk) ∧
    ((fun res (e : EvRec) rest => Met (fun m => m.recs.fifo = e :: rest ∧ e.ev ≠ .evCleared ∧
        (res = 0 ∨ m.recs.active = 2)) (blk.updRecs (fun r =>
        { r with fifo := [blk.newRec .laneUp 0 [] false false] }))) (0) (blk.newRec .laneUp 0 [] false false) ([])) ∧
    ((fun (e : EvRec) rest => Met (fun m => m.recs.fifo = e :: rest ∧
        e.ev = .evCleared) (blk.updRecs (fun r =>
        { r with fifo := [blk.newRec .evCleared 0 [] false false] }))) (blk.newRec .evCleared 0 [] false false) ([])) ∧
    ((fun (e : EvRec) rest => Met (fun m => m.recs.fifo = e :: rest ∧ e.ev ≠ .evCleared ∧
        m.recs.active ≠ 2) (blk.updRecs (fun r =>
        { r with fifo := [blk.newRec .laneUp 0 [] false false] }))) (blk.newRec .laneUp 0 [] false false) ([])) ∧
    ((fun (e : EvRec) rest => Met (fun m => m.recs.fifo = e :: rest ∧ e.ev ≠ .evCleared ∧
        m.recs.active ≠ 2) (blk.updRecs (fun r =>
        { r with fifo := [blk.newRec .laneUp 0 [] false false] }))) (blk.newRec .laneUp 0 [] false false) ([])) ∧
    Met (fun m => ∀ r ∈ m.recs.rpt,
        m.since r.lastMon ≤ msNs (m.fld .evrCtrl F.evrCtrl_REPEAT_WIN)) (blk.updRecs (fun r =>
        { r with rpt := [{ ev := .laneUp, source := 0, uid := 0, lastMon := ago (msNs (blk.fld .evrCtrl F.evrCtrl_REPEAT_WIN)), rewriteMon := 0, changed := true, reps := 1, repSat := false, step := false, ltc := 0, lastLtc := 0, lostStep := false }] })) ∧
    ((fun (r : RptEntry) => Met (fun m => m.recs.rpt = [r] ∧
        msNs (m.fld .evrCtrl F.evrCtrl_REPEAT_WIN) < m.since r.lastMon) (blk.updRecs (fun r =>
        { r with rpt := [{ ev := .laneUp, source := 0, uid := 0, lastMon := ago (msNs (blk.fld .evrCtrl F.evrCtrl_REPEAT_WIN) + 1), rewriteMon := 0, changed := true, reps := 1, repSat := false, step := false, ltc := 0, lastLtc := 0, lostStep := false }] }))) ({ ev := .laneUp, source := 0, uid := 0, lastMon := ago (msNs (blk.fld .evrCtrl F.evrCtrl_REPEAT_WIN) + 1), rewriteMon := 0, changed := true, reps := 1, repSat := false, step := false, ltc := 0, lastLtc := 0, lostStep := false })) ∧
    Met (fun m => ∀ r ∈ m.recs.rpt,
        r.changed = false ∨ m.since r.rewriteMon < 10000000) (blk.updRecs (fun r =>
        { r with rpt := [{ ev := .laneUp, source := 0, uid := 0, lastMon := 0, rewriteMon := ago 9999999, changed := true, reps := 1, repSat := false, step := false, ltc := 0, lastLtc := 0, lostStep := false }] })) ∧
    ((fun (r : RptEntry) => Met (fun m => m.recs.rpt = [r] ∧ r.changed = true ∧
        10000000 ≤ m.since r.rewriteMon) (blk.updRecs (fun r =>
        { r with rpt := [{ ev := .laneUp, source := 0, uid := 0, lastMon := 0, rewriteMon := ago 10000000, changed := true, reps := 1, repSat := false, step := false, ltc := 0, lastLtc := 0, lostStep := false }] }))) ({ ev := .laneUp, source := 0, uid := 0, lastMon := 0, rewriteMon := ago 10000000, changed := true, reps := 1, repSat := false, step := false, ltc := 0, lastLtc := 0, lostStep := false })) ∧
    ((fun ses x w => Met (fun m => m.mayWrite x ses .evrCursor w) (blk)) (1) (x1) (0)) ∧
    ((fun ses x => Met (fun m => m.sess ses = some x ∧ m.start.recovery = false) (blk)) (1) (x1)) ∧
    ((fun ses x => Met (fun m => m.mayWrite x ses .evrCtrl (m.withFields .evrCtrl [(F.evrCtrl_CLEAR, 1)])) (blk)) (1) (x1)) := by
  refine ⟨?_, ?_, ?_, ?_, ?_, ?_, ?_, ?_, ?_, ?_, ?_, ?_⟩
  · repeat' apply And.intro
    all_goals first | decide +kernel | rfl
  · repeat' apply And.intro
    all_goals first | decide +kernel | rfl
  · repeat' apply And.intro
    all_goals first | decide +kernel | rfl
  · repeat' apply And.intro
    all_goals first | decide +kernel | rfl
  · repeat' apply And.intro
    all_goals first | decide +kernel | rfl
  · repeat' apply And.intro
    all_goals first | decide +kernel | rfl
  · repeat' apply And.intro
    all_goals first | decide +kernel | rfl
  · repeat' apply And.intro
    all_goals first | decide +kernel | rfl
  · repeat' apply And.intro
    all_goals first | decide +kernel | rfl
  · repeat' apply And.intro
    all_goals first | decide +kernel | rfl
  · repeat' apply And.intro
    all_goals first | decide +kernel | rfl
  · repeat' apply And.intro
    all_goals first | decide +kernel | rfl

/-- DisturbanceRecorder: each clause's conditions are met. -/
theorem witness_DisturbanceRecorder :
    ((fun ses x => Met (fun m => m.mayWrite x ses .drCtrl (m.withFields .drCtrl [(F.drCtrl_MANUAL, 1)])) (blk)) (1) (x1)) ∧
    ((fun ses x => Met (fun m => m.mayWrite x ses .drCtrl (m.withFields .drCtrl [(F.drCtrl_CLEAR, 1)])) (blk)) (1) (x1)) ∧
    ((fun ses x w => Met (fun m => m.mayWrite x ses .drCtrl w) (blk)) (1) (x1) ((blk.rd .drCtrl))) ∧
    Met (fun m => m.recs.dr.run = none) (blk) ∧
    ((fun (r : DrRun) => Met (fun m => m.recs.dr.run = some r ∧
        (r.done = false ∨ 0 < sdiff32 r.want r.endFseq ∨ m.recs.dr.trRec = some r.body.recNo)) (blk.updDr (fun d =>
        { d with run := some ({ drun with done := false }) }))) ({ drun with done := false })) ∧
    ((fun (r : DrRun) => Met (fun m => m.recs.dr.run = some r ∧ r.done = true ∧ sdiff32 r.want r.endFseq ≤ 0 ∧
        m.recs.dr.trRec ≠ some r.body.recNo ∧
        m.drFinish.recs.dr.armed = true) ((blk.updDr (fun d => { d with run := some (drun) })).setF .drCtrl F.drCtrl_EN 1)) (drun)) ∧
    ((fun (r : DrRun) => Met (fun m => m.recs.dr.run = some r ∧ r.done = true ∧ sdiff32 r.want r.endFseq ≤ 0 ∧
        m.recs.dr.trRec ≠ some r.body.recNo ∧
        m.drFinish.recs.dr.armed = false) (blk.updDr (fun d => { d with run := some (drun) }))) (drun)) := by
  refine ⟨?_, ?_, ?_, ?_, ?_, ?_, ?_⟩
  · repeat' apply And.intro
    all_goals first | decide +kernel | rfl
  · repeat' apply And.intro
    all_goals first | decide +kernel | rfl
  · repeat' apply And.intro
    all_goals first | decide +kernel | rfl
  · repeat' apply And.intro
    all_goals first | decide +kernel | rfl
  · repeat' apply And.intro
    all_goals first | decide +kernel | rfl
  · repeat' apply And.intro
    all_goals first | decide +kernel | rfl
  · repeat' apply And.intro
    all_goals first | decide +kernel | rfl

/-- Transports: each clause's conditions are met. -/
theorem witness_Transports :
    MetLive (fun _ => True) (blk) ∧
    ((fun l => MetLive (fun m => m.hpStatus.getLsbD 31 = true ∧ pktOk l = true) (blk)) (([0xC3, 1, 0, 0, 0, 1, 0, 1, 0, 0] ++ zeros 10))) ∧
    ((fun l => MetLive (fun m =>
        m.hpStatus.getLsbD 31 = false ∨ pktOk l = false) ({ blk with cmd := { blk.cmd with rx := List.replicate 3 (rawOf false 0 0 []) } })) (([0xC3, 1, 0, 0, 0, 1, 0, 1, 0, 0] ++ zeros 10))) ∧
    MetLive (fun m => m.cmd.hpOut = []) (blk) ∧
    ((fun n (p : OutPkt) (l : List OutPkt) => MetLive (fun m => m.start.phase ≠ 0 ∧ m.cmd.hpOut = p :: l ∧
        n < p.len) ({ blk with cmd := { blk.cmd with hpOut := [{ session := 1, udp := false, ip := 0, port := 0, notify := false, complete := false, seq := 1, op := 1, status := 0, payload := [], sentMon := ago 100000000 }] } })) (OutPkt.len ({ session := 1, udp := false, ip := 0, port := 0, notify := false, complete := false, seq := 1, op := 1, status := 0, payload := [], sentMon := ago 100000000 }) - 1) ({ session := 1, udp := false, ip := 0, port := 0, notify := false, complete := false, seq := 1, op := 1, status := 0, payload := [], sentMon := ago 100000000 }) ([])) ∧
    ((fun n (p : OutPkt) (l : List OutPkt) => MetLive (fun m => m.start.phase ≠ 0 ∧ m.cmd.hpOut = p :: l ∧
        p.len ≤ n) ({ blk with cmd := { blk.cmd with hpOut := [{ session := 1, udp := false, ip := 0, port := 0, notify := false, complete := false, seq := 1, op := 1, status := 0, payload := [], sentMon := ago 100000000 }] } })) (OutPkt.len ({ session := 1, udp := false, ip := 0, port := 0, notify := false, complete := false, seq := 1, op := 1, status := 0, payload := [], sentMon := ago 100000000 })) ({ session := 1, udp := false, ip := 0, port := 0, notify := false, complete := false, seq := 1, op := 1, status := 0, payload := [], sentMon := ago 100000000 }) ([])) ∧
    ((fun dst dport l => Met (fun m => m.start.recovery = false ∧ m.flag .cmdCfg F.cmdCfg_UDP_EN = true ∧ m.svcUp = true ∧
        m.rd .cmdIp = dst ∧ m.fld .cmdCfg F.cmdCfg_UDP_PORT = dport ∧ m.cmd.rx.length < 3 ∧
        pktOk l = true) ({ (((blk.setF .cmdCfg F.cmdCfg_UDP_EN 1).setF .svcCfg F.svcCfg_EN 1).updLane 4 (fun x => { x with st := .up })) with cmd := { blk.cmd with rx := List.replicate 2 (rawOf false 0 0 []) } })) ((blk.rd .cmdIp)) (blk.fld .cmdCfg F.cmdCfg_UDP_PORT) (([0xC3, 1, 0, 0, 0, 1, 0, 1, 0, 0] ++ zeros 10))) ∧
    ((fun dst dport frag l => Met (fun m => m.start.recovery = false ∧ m.flag .cmdCfg F.cmdCfg_UDP_EN = true ∧ m.svcUp = true ∧
        m.rd .cmdIp = dst ∧ m.fld .cmdCfg F.cmdCfg_UDP_PORT = dport ∧
        (frag = true ∨ 3 ≤ m.cmd.rx.length ∨ pktOk l = false)) ({ (((blk.setF .cmdCfg F.cmdCfg_UDP_EN 1).setF .svcCfg F.svcCfg_EN 1).updLane 4 (fun x => { x with st := .up })) with cmd := { blk.cmd with rx := List.replicate 3 (rawOf false 0 0 []) } })) ((blk.rd .cmdIp)) (blk.fld .cmdCfg F.cmdCfg_UDP_PORT) (false) (([0xC3, 1, 0, 0, 0, 1, 0, 1, 0, 0] ++ zeros 10))) ∧
    ((fun dst dport => Met (fun m =>
        m.rd .cmdIp ≠ dst ∨ m.fld .cmdCfg F.cmdCfg_UDP_PORT ≠ dport ∨ m.start.recovery = true ∨ m.flag .cmdCfg F.cmdCfg_UDP_EN = false ∨ m.svcUp = false) (blk)) ((blk.rd .cmdIp + 1)) (0)) ∧
    Met (fun m => ∀ p ∈ m.cmd.udpNotes,
        m.since p.sentMon < 100000000) ({ blk with cmd := { blk.cmd with udpNotes := [{ session := 1, udp := false, ip := 0, port := 0, notify := false, complete := false, seq := 1, op := 1, status := 0, payload := [], sentMon := ago 99999999 }] } }) ∧
    ((fun (p : OutPkt) => Met (fun m => m.cmd.udpNotes = [p] ∧
        100000000 ≤ m.since p.sentMon) ({ blk with cmd := { blk.cmd with udpNotes := [{ session := 1, udp := false, ip := 0, port := 0, notify := false, complete := false, seq := 1, op := 1, status := 0, payload := [], sentMon := ago 100000000 }] } })) ({ session := 1, udp := false, ip := 0, port := 0, notify := false, complete := false, seq := 1, op := 1, status := 0, payload := [], sentMon := ago 100000000 })) ∧
    Met (fun m => ∀ s ∈ m.sessions,
        m.since s.lastReq < m.fld .cmdCfg F.cmdCfg_SESS_TMO * 1000000000) ({ blk with cmd := { blk.cmd with slots := [some { x1 with lastReq := ago 0 }, none, none, none] } }) ∧
    ((fun (s : Session) => Met (fun m => m.sessions = [s] ∧
        m.fld .cmdCfg F.cmdCfg_SESS_TMO * 1000000000 ≤ m.since s.lastReq) ({ blk with cmd := { blk.cmd with slots := [some { x1 with lastReq := ago (blk.fld .cmdCfg F.cmdCfg_SESS_TMO * 1000000000) }, none, none, none] } })) ({ x1 with lastReq := ago (blk.fld .cmdCfg F.cmdCfg_SESS_TMO * 1000000000) })) := by
  refine ⟨?_, ?_, ?_, ?_, ?_, ?_, ?_, ?_, ?_, ?_, ?_, ?_, ?_⟩
  · repeat' apply And.intro
    all_goals first | decide +kernel | rfl
  · repeat' apply And.intro
    all_goals first | decide +kernel | rfl
  · repeat' apply And.intro
    all_goals first | decide +kernel | rfl
  · repeat' apply And.intro
    all_goals first | decide +kernel | rfl
  · repeat' apply And.intro
    all_goals first | decide +kernel | rfl
  · repeat' apply And.intro
    all_goals first | decide +kernel | rfl
  · repeat' apply And.intro
    all_goals first | decide +kernel | rfl
  · repeat' apply And.intro
    all_goals first | decide +kernel | rfl
  · repeat' apply And.intro
    all_goals first | decide +kernel | rfl
  · repeat' apply And.intro
    all_goals first | decide +kernel | rfl
  · repeat' apply And.intro
    all_goals first | decide +kernel | rfl
  · repeat' apply And.intro
    all_goals first | decide +kernel | rfl
  · repeat' apply And.intro
    all_goals first | decide +kernel | rfl

/-- RegisterAccesses: each clause's conditions are met. -/
theorem witness_RegisterAccesses :
    ((fun ses x a w r => Met (fun m => Reg.ofAddr a = some r ∧ a % 4 = 0 ∧ a < 0xE0000 ∧ Mach.endsUdp a = false ∧
        m.mayWrite x ses r w) (blk)) (1) (x1) ((Reg.trgCtrl 7).addr) (0) (Reg.trgCtrl 7)) ∧
    ((fun ses x a w r => Met (fun m => Reg.ofAddr a = some r ∧ a % 4 = 0 ∧ a < 0xE0000 ∧ Mach.endsUdp a = true ∧
        m.mayWrite x ses r w) (blk)) (1) (x1) ((Reg.cmdIp).addr) (0) (Reg.cmdIp)) ∧
    ((fun a => Met (fun _ => Reg.ofAddr a = none) (blk)) (0xE0000)) ∧
    ((fun ses => Met (fun m => m.sess ses = none) (blk)) (2)) ∧
    ((fun ses a w x r e => Met (fun m => Reg.ofAddr a = some r ∧ m.sess ses = some x ∧ e.1 ≠ 0x0208 ∧
        m.regCheck { session := x.num, maint := x.maint } r w = some e) (blk)) (1) ((Reg.lnScanCtrl 3).addr) (F.lnScanCtrl_V_OFS.set 0 128) (x1) (Reg.lnScanCtrl 3) ((0x0102, 0))) ∧
    ((fun ses a w x r e => Met (fun m => Reg.ofAddr a = some r ∧ a % 4 = 0 ∧ a < 0xE0000 ∧ m.sess ses = some x ∧
        m.start.recovery = false ∧ m.flag .glbStat F.glbStat_FEAT_DONE = true ∧ e.1 = 0x0208 ∧
        m.regCheck { session := x.num, maint := x.maint } r w = some e) (blk.setF .drCtrl F.drCtrl_EN 1)) (1) ((Reg.drAn 3).addr) (0) (x1) (Reg.drAn 3) ((0x0208, 0))) ∧
    Met (fun m => m.start.recovery = true ∨ m.flag .glbStat F.glbStat_FEAT_DONE = false) (blk.setF .glbStat F.glbStat_FEAT_DONE 0) ∧
    ((fun ses x a r => Met (fun m => m.sess ses = some x ∧ m.start.recovery = false ∧ Reg.ofAddr a = some r ∧
        Mach.hasRc a = true) (blk)) (1) (x1) ((Reg.leOvrCnt 3).addr) (Reg.leOvrCnt 3)) ∧
    ((fun a => Met (fun _ => Mach.hasRc a = false) (blk)) (0)) ∧
    ((fun ses => Met (fun m => m.sess ses = none ∨ m.start.recovery = true) (blk)) (2)) ∧
    ((fun ses x => Met (fun m => m.sess ses = some x ∧ m.start.recovery = false) (blk)) (1) (x1)) ∧
    ((fun ses x b k => Met (fun m => m.sess ses = some x ∧ m.start.recovery = false ∧ b < 32 ∧ k < 4 ∧
        (m.bay b).mode ≠ 0) (blk.updBay 31 (fun x => { x with mode := 1 }))) (1) (x1) (31) (3)) ∧
    ((fun ses x b k => Met (fun m => m.sess ses = some x ∧ m.start.recovery = false ∧ b < 32 ∧ k < 4 ∧
        (m.bay b).mode = 0) (blk)) (1) (x1) (31) (3)) ∧
    ((fun ses x d => Met (fun m => m.mayWrite x ses .frmCfg (m.withFields .frmCfg [(F.frmCfg_D_ALIGN,
        d)])) (blk)) (1) (x1) ((blk.fld .frmCfg F.frmCfg_D_ALIGN))) := by
  refine ⟨?_, ?_, ?_, ?_, ?_, ?_, ?_, ?_, ?_, ?_, ?_, ?_, ?_, ?_⟩
  · repeat' apply And.intro
    all_goals first | decide +kernel | rfl
  · repeat' apply And.intro
    all_goals first | decide +kernel | rfl
  · repeat' apply And.intro
    all_goals first | decide +kernel | rfl
  · repeat' apply And.intro
    all_goals first | decide +kernel | rfl
  · repeat' apply And.intro
    all_goals first | decide +kernel | rfl
  · repeat' apply And.intro
    all_goals first | decide +kernel | rfl
  · repeat' apply And.intro
    all_goals first | decide +kernel | rfl
  · repeat' apply And.intro
    all_goals first | decide +kernel | rfl
  · repeat' apply And.intro
    all_goals first | decide +kernel | rfl
  · repeat' apply And.intro
    all_goals first | decide +kernel | rfl
  · repeat' apply And.intro
    all_goals first | decide +kernel | rfl
  · repeat' apply And.intro
    all_goals first | decide +kernel | rfl
  · repeat' apply And.intro
    all_goals first | decide +kernel | rfl
  · repeat' apply And.intro
    all_goals first | decide +kernel | rfl

/-- UnfenceAndRetest: each clause's conditions are met. -/
theorem witness_UnfenceAndRetest :
    ((fun ses x w => Met (fun m => m.mayWrite x ses .hltUnfence w ∧
        F.hltUnfence_REQ.get w = 1) (blk.setDom 131 { blk.dom 131 with st := 1 })) (1) (x1) (F.hltUnfence_REQ.set (F.hltUnfence_DOMAIN.set 0 131) 1)) ∧
    ((fun d => Met (fun m => d < 132 ∧ (m.dom d).st ≠ 2) (blk)) (131)) ∧
    ((fun d => Met (fun m => d < 132 ∧ (m.dom d).st = 2 ∧
        m.domImage d = true) ({ blk.setDom 38 { blk.dom 38 with st := 2 } with start := { blk.start with booted := [4, 1, 2, 3] } })) (38)) ∧
    ((fun d p => Met (fun m => d < 132 ∧ (m.dom d).st = 2 ∧
        (p = false ∨ m.domImage d = false)) ({ blk.setDom 38 { blk.dom 38 with st := 2 } with start := { blk.start with booted := [4, 1, 2, 3] } })) (38) (false)) ∧
    ((fun b => Met (fun m => b < 2 ∧ m.maintOn 5 b = false) (blk)) (1)) ∧
    ((fun b => Met (fun m => b < 2 ∧
        m.maintOn 5 b = true) ({ blk with cmd := { blk.cmd with maint := [{ handle := 1, act := 5, target := 1, session := 1, waiter := none }] } })) (1)) := by
  refine ⟨?_, ?_, ?_, ?_, ?_, ?_⟩
  · repeat' apply And.intro
    all_goals first | decide +kernel | rfl
  · repeat' apply And.intro
    all_goals first | decide +kernel | rfl
  · repeat' apply And.intro
    all_goals first | decide +kernel | rfl
  · repeat' apply And.intro
    all_goals first | decide +kernel | rfl
  · repeat' apply And.intro
    all_goals first | decide +kernel | rfl
  · repeat' apply And.intro
    all_goals first | decide +kernel | rfl

/-- Carousel: each clause's conditions are met. -/
theorem witness_Carousel :
    Met (fun m => m.hlth.car.running = false ∨ m.since m.hlth.car.slotMon < m.fld .hltCarCtrl F.hltCarCtrl_PERIOD * 1000000000) (blk) ∧
    ((fun e => Met (fun m => m.hlth.car.running = true ∧
        m.fld .hltCarCtrl F.hltCarCtrl_PERIOD * 1000000000 ≤ m.since m.hlth.car.slotMon ∧
        m.hlth.car.nextReq = some e) (blk.updCar (fun c =>
        { c with running := true, slotMon := ago (blk.fld .hltCarCtrl F.hltCarCtrl_PERIOD * 1000000000), nextReq := some 31 }))) (31)) ∧
    Met (fun m => m.hlth.car.running = true ∧ m.fld .hltCarCtrl F.hltCarCtrl_PERIOD * 1000000000 ≤ m.since m.hlth.car.slotMon ∧
        m.hlth.car.nextReq = none ∧
        m.hlth.car.rotEng ≠ 0) (blk.updCar (fun c =>
        { c with running := true, slotMon := ago (blk.fld .hltCarCtrl F.hltCarCtrl_PERIOD * 1000000000), rotEng := 31 })) ∧
    Met (fun m => m.hlth.car.running = true ∧ m.fld .hltCarCtrl F.hltCarCtrl_PERIOD * 1000000000 ≤ m.since m.hlth.car.slotMon ∧
        m.hlth.car.nextReq = none ∧
        m.hlth.car.rotEng = 0) (blk.updCar (fun c =>
        { c with running := true, slotMon := ago (blk.fld .hltCarCtrl F.hltCarCtrl_PERIOD * 1000000000), rotEng := 0 })) ∧
    ((fun e => Met (fun m => e < 34 ∧ (m.dom e).st ≠ 3) (blk)) (33)) ∧
    ((fun e => Met (fun m => e < 32 ∧ (m.dom e).st = 3 ∧
        m.engOf e = 32) ({ blk.setDom 31 { blk.dom 31 with st := 3 } with fr := { blk.fr with map := [(31, 32)] } })) (31)) ∧
    ((fun e => Met (fun m => e < 34 ∧ (m.dom e).st = 3 ∧ (32 ≤ e ∨ m.engOf e ≠ 32) ∧
        e = m.hlth.car.slot) ((blk.setDom 31 { blk.dom 31 with st := 3 }).updCar (fun c => { c with slot := 31 }))) (31)) ∧
    ((fun e => Met (fun m => e < 34 ∧ (m.dom e).st = 3 ∧ (32 ≤ e ∨ m.engOf e ≠ 32) ∧
        e ≠ m.hlth.car.slot) (blk.setDom 33 { blk.dom 33 with st := 3 })) (33)) ∧
    ((fun e => Met (fun m => e < 34 ∧ (m.dom e).st = 3) (blk.setDom 31 { blk.dom 31 with st := 3 })) (31)) ∧
    ((fun ses x w => Met (fun m => m.mayWrite x ses .hltCarCtrl w ∧
        F.hltCarCtrl_NEXT_REQ.get w = 1) (blk)) (1) (x1) (F.hltCarCtrl_NEXT_REQ.set (blk.rd .hltCarCtrl) 1)) ∧
    ((fun ses x w => Met (fun m => m.mayWrite x ses .hltCarCtrl w ∧
        F.hltCarCtrl_NEXT_REQ.get w = 0) (blk)) (1) (x1) ((blk.rd .hltCarCtrl))) := by
  refine ⟨?_, ?_, ?_, ?_, ?_, ?_, ?_, ?_, ?_, ?_, ?_⟩
  · repeat' apply And.intro
    all_goals first | decide +kernel | rfl
  · repeat' apply And.intro
    all_goals first | decide +kernel | rfl
  · repeat' apply And.intro
    all_goals first | decide +kernel | rfl
  · repeat' apply And.intro
    all_goals first | decide +kernel | rfl
  · repeat' apply And.intro
    all_goals first | decide +kernel | rfl
  · repeat' apply And.intro
    all_goals first | decide +kernel | rfl
  · repeat' apply And.intro
    all_goals first | decide +kernel | rfl
  · repeat' apply And.intro
    all_goals first | decide +kernel | rfl
  · repeat' apply And.intro
    all_goals first | decide +kernel | rfl
  · repeat' apply And.intro
    all_goals first | decide +kernel | rfl
  · repeat' apply And.intro
    all_goals first | decide +kernel | rfl

/-- HealthAndSecurityEvents: each clause's conditions are met. -/
theorem witness_HealthAndSecurityEvents :
    Met (fun _ => True) (blk) ∧
    ((fun a b c d => Met (fun m => (∀ v ∈ [a, b, c, d], -128 ≤ v ∧ v ≤ 127) ∧ (m.hlth.tempHigh = false ∧
        (∀ v ∈ [a, b, c, d], v < 115) ∨ m.hlth.tempHigh = true ∧
        (∃ v ∈ [a, b, c, d], 105 ≤ v))) (blk.updHlth (fun h => { h with tempHigh := true }))) (105) (-128) (0) (0)) ∧
    ((fun a b c d => Met (fun m => (∀ v ∈ [a, b, c, d], -128 ≤ v ∧ v ≤ 127) ∧ (∃ v ∈ [a, b, c, d], 115 ≤ v) ∧
        m.hlth.tempHigh = false) (blk)) (115) (127) (-128) (0)) ∧
    ((fun a b c d => Met (fun m => (∀ v ∈ [a, b, c, d], -128 ≤ v ∧ v < 105) ∧
        m.hlth.tempHigh = true) (blk.updHlth (fun h => { h with tempHigh := true }))) (104) (-128) (0) (0)) ∧
    ((fun ses x n w => Met (fun m => n < 2 ∧
        m.mayWrite x ses (.atbCtrl n) w) ({ blk with cmd := { blk.cmd with maint := [{ handle := 1, act := 9, target := 1, session := 1, waiter := none }] } })) (1) (x1) (1) ((blk.rd (.atbCtrl 1)))) ∧
    ((fun t => Met (fun m => m.sec.lockEnd = some t ∧
        m.roleLocked = false) (blk.updSec (fun s => { s with lockEnd := some blk.mon }))) (blk.mon)) ∧
    Met (fun m => m.sec.lockEnd = none ∨ m.roleLocked = true) (blk) ∧
    ((fun (s : Session) n t => Met (fun m => m.sessions = [s] ∧ s.nonce = some (n, t) ∧
        60000000000 < m.since t) ({ blk with cmd := { blk.cmd with slots := [some { x1 with nonce := some (0, ago 60000000001) }, none, none, none] } })) ({ x1 with nonce := some (0, ago 60000000001) }) (0) (ago 60000000001)) ∧
    ((fun (s : Session) n t => Met (fun m => m.sessions = [s] ∧ s.nonce = some (n, t) ∧
        m.since t ≤ 60000000000) ({ blk with cmd := { blk.cmd with slots := [some { x1 with nonce := some (0, ago 60000000000) }, none, none, none] } })) ({ x1 with nonce := some (0, ago 60000000000) }) (0) (ago 60000000000)) ∧
    ((fun ses x w => Met (fun m =>
        m.mayWrite x ses .secMkeyCtrl w) (blk.setF .secMkeyCtrl F.secMkeyCtrl_LOADED 5)) (1) (x1) (F.secMkeyCtrl_REVOKE.set 0 4)) ∧
    MetLive (fun _ => True) (blk) := by
  refine ⟨?_, ?_, ?_, ?_, ?_, ?_, ?_, ?_, ?_, ?_, ?_⟩
  · repeat' apply And.intro
    all_goals first | decide +kernel | rfl
  · repeat' apply And.intro
    all_goals first | decide +kernel | rfl
  · repeat' apply And.intro
    all_goals first | decide +kernel | rfl
  · repeat' apply And.intro
    all_goals first | decide +kernel | rfl
  · repeat' apply And.intro
    all_goals first | decide +kernel | rfl
  · repeat' apply And.intro
    all_goals first | decide +kernel | rfl
  · repeat' apply And.intro
    all_goals first | decide +kernel | rfl
  · repeat' apply And.intro
    all_goals first | decide +kernel | rfl
  · repeat' apply And.intro
    all_goals first | decide +kernel | rfl
  · repeat' apply And.intro
    all_goals first | decide +kernel | rfl
  · repeat' apply And.intro
    all_goals first | decide +kernel | rfl

/-- PowerAndReset: each clause's conditions are met. -/
theorem witness_PowerAndReset :
    MetLive (fun m => m.start.phase ≠ 0) (blk) ∧
    ((fun x => MetLive (fun m => m.start.phase = 0 ∧
        (m.boot x.badImg).imgBooted 4 = false) (Mach.init.updImg 4 (fun k => { k with slots := [⟨[], false⟩, ⟨[], false⟩] }))) (hw0)) ∧
    ((fun x => MetLive (fun m => m.start.phase = 0 ∧ (m.boot x.badImg).imgBooted 4 = true) (Mach.init)) (hw0)) := by
  refine ⟨?_, ?_, ?_⟩
  · repeat' apply And.intro
    all_goals first | decide +kernel | rfl
  · repeat' apply And.intro
    all_goals first | decide +kernel | rfl
  · repeat' apply And.intro
    all_goals first | decide +kernel | rfl

/-- StartPhases: each clause's conditions are met. -/
theorem witness_StartPhases :
    ((fun ses x k => Met (fun m => m.mayWrite x ses .startCtrl (m.withFields .startCtrl [(F.startCtrl_KIND, k), (F.startCtrl_GO,
        0)])) (blk)) (1) (x1) (2)) ∧
    ((fun ses x => Met (fun m => m.start.phase ≠ 1 ∧
        m.mayWrite x ses .startCtrl (m.withFields .startCtrl [(F.startCtrl_GO,
        1)])) ({ blk with start := { blk.start with phase := 2 } })) (1) (x1)) ∧
    Met (fun m => m.start.phase = 3 ∧ m.flag .startStat F.startStat_NO_TIME = false ∧
        m.fld .startCtrl F.startCtrl_TIME_WAIT * 100000000 ≤ m.since m.start.phaseMon) ({ blk with start := { blk.start with phase := 3, phaseMon := ago (blk.fld .startCtrl F.startCtrl_TIME_WAIT * 100000000) } }) ∧
    Met (fun m => m.start.phase ≠ 3 ∨ m.flag .startStat F.startStat_NO_TIME = true ∨ m.since m.start.phaseMon < m.fld .startCtrl F.startCtrl_TIME_WAIT * 100000000) (blk) ∧
    Met (fun m => m.start.phase ≠ 5 ∨ m.since m.start.phaseMon < m.fld .startCtrl F.startCtrl_BAY_WAIT * 100000000) (blk) ∧
    Met (fun m => m.start.phase = 5 ∧
        m.fld .startCtrl F.startCtrl_BAY_WAIT * 100000000 ≤ m.since m.start.phaseMon) ({ blk with start := { blk.start with phase := 5, phaseMon := ago (blk.fld .startCtrl F.startCtrl_BAY_WAIT * 100000000) } }) ∧
    Met (fun m => m.start.kindEff ≠ 0 ∧ m.nv.writing = none ∧ msNs (m.fld .logRetCtrl F.logRetCtrl_RET_PERIOD) ≤ m.since m.nv.lastMon ∧
        m.fenced 43 = false ∧ m.fenced 44 = false) ({ blk with nv := { blk.nv with lastMon := ago (msNs (blk.fld .logRetCtrl F.logRetCtrl_RET_PERIOD)) } }) ∧
    Met (fun m => m.start.kindEff = 0 ∨ m.nv.writing ≠ none) ({ blk with start := { blk.start with phase := 6, kindEff := 0 } }) ∧
    Met (fun m => m.nv.writing = none) (blk) ∧
    Met (fun m => m.start.kindEff ≠ 0 ∧ m.nv.writing = none ∧ msNs (m.fld .logRetCtrl F.logRetCtrl_RET_PERIOD) ≤ m.since m.nv.lastMon ∧
        m.fenced 43 = false ∧ m.fenced 44 = true) (({ blk with nv := { blk.nv with lastMon := ago (msNs (blk.fld .logRetCtrl F.logRetCtrl_RET_PERIOD)) } } : Mach).setDom 44 { blk.dom 44 with st := 1 }) ∧
    Met (fun m => m.start.kindEff ≠ 0 ∧ m.nv.writing = none ∧ msNs (m.fld .logRetCtrl F.logRetCtrl_RET_PERIOD) ≤ m.since m.nv.lastMon ∧
        m.fenced 43 = true ∧ m.fenced 44 = false) (({ blk with nv := { blk.nv with lastMon := ago (msNs (blk.fld .logRetCtrl F.logRetCtrl_RET_PERIOD)) } } : Mach).setDom 43 { blk.dom 43 with st := 1 }) ∧
    Met (fun m => m.since m.nv.lastMon < msNs (m.fld .logRetCtrl F.logRetCtrl_RET_PERIOD)) ({ blk with nv := { blk.nv with lastMon := ago (msNs (blk.fld .logRetCtrl F.logRetCtrl_RET_PERIOD) - 1) } }) ∧
    ((fun (i : RetImg) b l h => Met (fun m => m.nv.writing = some (i, 0 :: b :: l, h) ∧
        m.fenced 43 = false) ({ blk with nv := { blk.nv with writing := some (img0, [0, 1], false) } })) (img0) (1) ([]) (false)) ∧
    ((fun (i : RetImg) => Met (fun m => m.nv.writing = some (i, [1], false) ∧
        m.fenced 44 = false) ({ blk with nv := { blk.nv with writing := some (img0, [1], false) } })) (img0)) ∧
    ((fun (i : RetImg) => Met (fun m => m.nv.writing = some (i, [0], false) ∧
        m.fenced 43 = false) ({ blk with nv := { blk.nv with writing := some (img0, [0], false) } })) (img0)) ∧
    ((fun (i : RetImg) => Met (fun m => m.nv.writing = some (i, [1], true) ∧
        m.fenced 44 = false) ({ blk with nv := { blk.nv with writing := some (img0, [1], true) } })) (img0)) := by
  refine ⟨?_, ?_, ?_, ?_, ?_, ?_, ?_, ?_, ?_, ?_, ?_, ?_, ?_, ?_, ?_, ?_⟩
  · repeat' apply And.intro
    all_goals first | decide +kernel | rfl
  · repeat' apply And.intro
    all_goals first | decide +kernel | rfl
  · repeat' apply And.intro
    all_goals first | decide +kernel | rfl
  · repeat' apply And.intro
    all_goals first | decide +kernel | rfl
  · repeat' apply And.intro
    all_goals first | decide +kernel | rfl
  · repeat' apply And.intro
    all_goals first | decide +kernel | rfl
  · repeat' apply And.intro
    all_goals first | decide +kernel | rfl
  · repeat' apply And.intro
    all_goals first | decide +kernel | rfl
  · repeat' apply And.intro
    all_goals first | decide +kernel | rfl
  · repeat' apply And.intro
    all_goals first | decide +kernel | rfl
  · repeat' apply And.intro
    all_goals first | decide +kernel | rfl
  · repeat' apply And.intro
    all_goals first | decide +kernel | rfl
  · repeat' apply And.intro
    all_goals first | decide +kernel | rfl
  · repeat' apply And.intro
    all_goals first | decide +kernel | rfl
  · repeat' apply And.intro
    all_goals first | decide +kernel | rfl
  · repeat' apply And.intro
    all_goals first | decide +kernel | rfl

/-- The logic statements' conditions are met, whatever the instruction (LogicTimers, LogicBitInstructions, LogicWordArithmetic,
LogicComparisonsAndFloats, LogicCountersJumps). -/
theorem witness_LogicInstructions (op a i : Nat) (v : Word) :
    Met (fun m => m.atOp 3 op a i (task3 op a i v) (cyc3 v)) (run3 op a i v) :=
  ⟨⟨rfl, (by decide : (6 : Nat) ≠ 0)⟩, rfl, rfl, rfl, rfl, rfl, _, rfl, rfl⟩

/-- HeldInReset: a block held in reset, and a command that is not power or RST_N. -/
theorem witness_HeldInReset :
    let s : State := { pending := [], m := (Mach.init).rstAssert }
    s.m.inReset = true ∧ (∀ a b c d e, Instr.stitchBinding ≠ .powerOn a b c d e) ∧ Instr.stitchBinding ≠ .rstNAssert ∧
      (∀ a, Instr.stitchBinding ≠ .rstNRelease a) :=
  ⟨by decide +kernel, fun _ _ _ _ _ => nofun, nofun, fun _ => nofun⟩

/-- NothingElseFollows: a block where nothing waits. -/
theorem witness_NothingElseFollows : blk.quiet := ⟨rfl, rfl, rfl, by decide, rfl, by decide, rfl, rfl, rfl, rfl, rfl, rfl⟩

/-- FaultPinAndIncKept: the state after reset shows both, and steps. -/
theorem witness_FaultPinAndIncKept : State.reset.m.shown ∧ step State.reset = .next { State.reset with m := Mach.init.tick } :=
  ⟨⟨by decide +kernel, Or.inr (by decide +kernel)⟩, rfl⟩

/-- RegisterFile: the clauses of RW1C bits and counters, on the block after reset; and RegisterAddresses, the clauses of single accesses. -/
theorem witness_RegisterFile :
    SMap.rising blk.regs = true ∧ SMap.get? blk.freshC Reg.evrLost.addr = none ∧ blk.fld .evrLost F.evrLost_COUNT < 2 ^ 32 - 1 ∧
    (∃ r' : Reg, r'.addr ≠ Reg.evrLost.addr) ∧ Reg.ofAddr 0xD00F0 = none ∧ 0xD00F0 % 4 = 0 ∧ 0xD00F0 < 0xD0100 ∧
    Reg.ofAddr Reg.evrLost.addr = some .evrLost :=
  ⟨by decide +kernel, by decide +kernel, by decide +kernel, ⟨.cmdIp, by decide⟩, by decide +kernel, by decide, by decide, by decide +kernel⟩

/-- IrqPinFollowsNotifies: a state with a NOTIFY waiting and HP_IRQ_N low, and one with none and the pin high. -/
theorem witness_IrqPinFollowsNotifies :
    let p : OutPkt := { session := 1, udp := false, ip := 0, port := 0, notify := true, complete := false, seq := 1, op := 1, status := 0,
                        payload := [], sentMon := 0 }
    let m : Mach := { blk with pins := { blk.pins with hpIrqN := false }, cmd := { blk.cmd with hpOut := [p] } }
    (m.pins.hpIrqN = false ↔ ∃ p ∈ m.cmd.hpOut, p.notify = true) ∧ (blk.pins.hpIrqN = false ↔ ∃ p ∈ blk.cmd.hpOut, p.notify = true) := by
  refine ⟨⟨fun _ => ⟨_, List.mem_singleton.mpr rfl, rfl⟩, fun _ => rfl⟩, ⟨fun h => absurd h (by decide), fun h => ?_⟩⟩
  obtain ⟨p, hp, _⟩ := h
  cases hp

/-- HealthAtTheTrigger: each of its cases. -/
theorem witness_HealthAtTheTrigger :
    (Mach.init.hlth.rmcLasting = false ∧ Mach.init.hlth.secLasting = false ∧ Mach.init.flag .glbStat F.glbStat_PROT_READY = false) ∧
    (blk.hlth.rmcLasting = false ∧ blk.hlth.secLasting = false ∧ blk.flag .glbStat F.glbStat_PROT_READY = true) ∧
    (∃ b, b < 32 ∧ ((blk.updBay 31 (fun x => { x with unprot := true })).bay b).unprot = true) :=
  ⟨⟨rfl, rfl, by decide +kernel⟩, ⟨rfl, rfl, by decide +kernel⟩, 31, by decide, by decide +kernel⟩

/-- MKEY_LOAD (a clause of HealthAndSecurityEvents): the last word of key slot 3 may be written on the model's own premise, that the key is
a point of the curve (log entry 9). -/
theorem witness_mkeyLoad
    (h : Config.onCurve ((List.range 24).map (fun i =>
        (blk.wr (.secMkey 3 23) (blk.newWord (.secMkey 3 23) 0)).rd (.secMkey 3 i))) = true) :
    Met (fun m => (3 : Nat) < 4 ∧ m.mayWrite x1 1 (.secMkey 3 23) 0) blk := by
  refine ⟨⟨rfl, by decide⟩, by decide, rfl, rfl, by decide +kernel, ?_⟩
  have e : ∀ b, firstBroken (ck false stParam ++ ck false stState ++ [] ++ [] ++ [] ++ [] ++ [] ++ (ck false stDenied ++ ck (true && !b) stParam)) =
    if b then none else some (stParam, 0) := by decide
  exact (e _).trans (by rw [if_pos]; exact h)

/-- WellFormed: for each check a command that it refuses, and one that it lets pass. -/
theorem test_wellformed_refuses :
    (Instr.clrEnergy 1 32).wf = false ∧ (Instr.modStuck 16).wf = false ∧ (Instr.mclkPllLock 2).wf = false ∧
    (Instr.svStreamTimeout 64).wf = false ∧ (Instr.gooseTalExpiry 128).wf = false ∧ (Instr.gooseRepeat 128).wf = false ∧
    (Instr.logicSnapshot 4).wf = false ∧ (Instr.laneUp 5).wf = false ∧ (Instr.laneCfgWrite 1 4 0).wf = false ∧
    (Instr.sramEccError (.engineLocal 34) false).wf = false ∧ (Instr.sramEccError (.bayResult 32) false).wf = false ∧
    (Instr.sramEccError (.logic 4) false).wf = false ∧ (Instr.hostFrameReceive 5 0 []).wf = false ∧
    (Instr.ptpPdelayReqSend 2).wf = false ∧ (Instr.triggerFire 8).wf = false ∧ (Instr.shortToM ⟨16, 0, 0⟩).wf = false ∧
    (Instr.diDebounce 32 []).wf = false ∧ (Instr.stationAgeOut 256).wf = false ∧ (Instr.feedProofEnd 2).wf = false ∧
    (Instr.retestDone 132 true).wf = false ∧ (Instr.mramScrubDone 2 0).wf = false ∧ (Instr.swapArm 1 4 0).wf = false ∧
    (Instr.atbCtrlWrite 1 2 0).wf = false ∧ (Instr.mkeyLoad 1 4 0).wf = false ∧ (Instr.bayFrameComplete 34).wf = false ∧
    (Instr.tripMinExpiry 33).wf = false ∧ (Instr.lgLd 0 16 0).wf = false ∧ (Instr.lgLd 0 0 1048576).wf = false ∧
    (Instr.energyLowRead 1 0 4).wf = false ∧ (Instr.mirrorEntryWrite 1 1024 true 0).wf = false ∧
    (Instr.pkPing hd (List.replicate 4097 0)).wf = false := by
  decide +kernel

theorem test_wellformed_passes :
    (Instr.clrEnergy 1 31).wf = true ∧ (Instr.lgLd 3 15 1048575).wf = true ∧ (Instr.retestDone 131 true).wf = true ∧
    (Instr.pkPing hd (List.replicate 4096 0)).wf = true := by
  decide +kernel

/-- The worked example after R481: a target 100 µs ahead across the wrap of LTC[31:0] is not reached when set, and is reached then. -/
theorem test_trigger_target :
    ((blk.updTb (fun t => { t with ltc := 0xFFFF0000#96 <<< 32 })).wr (.trgTarget 0) 0x86A0).trgReached 0 = false ∧
    ((blk.updTb (fun t => { t with ltc := 0x1000086A0#96 <<< 32 })).wr (.trgTarget 0) 0x86A0).trgReached 0 = true ∧
    ((blk.updTb (fun t => { t with ltc := 0x10000869F#96 <<< 32 })).wr (.trgTarget 0) 0x86A0).trgReached 0 = false := by
  decide +kernel

/-- The worked example after R14: a read of an RC counter gives 3 and clears it; an event after it counts to 1. -/
theorem test_rc_counter :
    ((blk.setF (.leOvrCnt 0) F.leOvrCnt_COUNT 3).regRead (Reg.leOvrCnt 0).addr).1 = 3 ∧
    ((((blk.setF (.leOvrCnt 0) F.leOvrCnt_COUNT 3).regRead (Reg.leOvrCnt 0).addr).2.bump (.leOvrCnt 0) F.leOvrCnt_COUNT 1).rd (.leOvrCnt 0)) =
      1 := by
  decide +kernel

/-- The worked example of 02: a late frame with slack -5.8 % raises VCORE from 745 mV to 750 mV at the next tick. -/
theorem test_vcore_rises :
    (match exec .vcoreLoopTick { pending := [], m := { blk.setF .vcoreStat F.vcoreStat_VCORE_MV 745 with
        fr := { blk.fr with vcoreOn := true, vcoreCnt := 144, worst := some (-21 / 360), lateInt := true } } } with
      | .next t => t.m.fld .vcoreStat F.vcoreStat_VCORE_MV
      | _ => 0) = 750 := by
  decide +kernel

/-- A claim with the greater EPOCH is the higher; with equal EPOCH the greater HEALTH; then POS A (R576). -/
theorem test_claim_order :
    claimHigher 0x00020000 0x0001F001 = true ∧ claimHigher 0x0001F000 0x0001E001 = true ∧ claimHigher 0x0001F001 0x0001F000 = true ∧
    claimHigher 0x0001F000 0x0001F001 = false := by
  decide

/-- The table gives no row bits: no word spells a command (Decode.lean). -/
theorem test_no_word_decodes : decodeTableWord 32 0 = none ∧ State.reset.withFetchWord 32 0 = State.reset := by
  exact ⟨rfl, rfl⟩

end Sys2Proof.Tests
end

section
/-! SUPPORT. Fields of a word (R11, R12), bit by bit: what a field reads after it, or another field, is set. -/

namespace Sys2Proof.Machine

theorem Fld.testBit_get (f : Fld) (w : Word) (i : Nat) :
    (f.get w).testBit i = (decide (i < f.hi + 1 - f.lo) && w.getLsbD (f.lo + i)) := by
  simp [Fld.get, Nat.testBit_mod_two_pow, Nat.testBit_shiftRight, BitVec.testBit_toNat]

/-- The bits that a field covers. -/
theorem Fld.getLsbD_mask (f : Fld) (i : Nat) : f.mask.getLsbD i = (decide (i < 32) && decide (f.lo ≤ i ∧ i ≤ f.hi)) := by
  rw [Fld.mask, BitVec.getLsbD_ofNat, Nat.testBit_shiftLeft, Nat.testBit_two_pow_sub_one, ← Bool.decide_and]
  congr 2
  exact propext (by omega)

/-- A value moved to a field's place. -/
theorem Fld.getLsbD_place (f : Fld) (v i : Nat) :
    (BitVec.ofNat 32 ((v % 2 ^ (f.hi + 1 - f.lo)) <<< f.lo)).getLsbD i =
      (decide (i < 32) && (decide (f.lo ≤ i ∧ i ≤ f.hi) && v.testBit (i - f.lo))) := by
  rw [BitVec.getLsbD_ofNat, Nat.testBit_shiftLeft, Nat.testBit_mod_two_pow, ← Bool.and_assoc (decide (i ≥ f.lo)), ← Bool.decide_and]
  congr 3
  exact propext (by omega)

theorem Fld.getLsbD_set (f : Fld) (w : Word) (v i : Nat) :
    (f.set w v).getLsbD i =
      if f.lo ≤ i ∧ i ≤ f.hi then decide (i < 32) && v.testBit (i - f.lo) else w.getLsbD i := by
  rw [Fld.set, BitVec.getLsbD_or, BitVec.getLsbD_and, BitVec.getLsbD_not, Fld.getLsbD_mask, Fld.getLsbD_place]
  by_cases h32 : i < 32
  · by_cases hi : f.lo ≤ i ∧ i ≤ f.hi <;> simp [h32, hi]
  · simp [h32, BitVec.getLsbD_of_ge w i (by omega)]

/-- A field reads what it was set to, cut to its width. -/
theorem Fld.get_set_same (f : Fld) (w : Word) (v : Nat) (h : f.hi < 32) : f.get (f.set w v) = v % 2 ^ (f.hi + 1 - f.lo) := by
  refine Nat.eq_of_testBit_eq fun i => ?_
  rw [Fld.testBit_get, Fld.getLsbD_set, Nat.testBit_mod_two_pow]
  by_cases hi : i < f.hi + 1 - f.lo
  · rw [if_pos (by omega), Nat.add_sub_cancel_left, decide_eq_true (show f.lo + i < 32 by omega), Bool.true_and]
  · simp [hi]

/-- A field reads as before once a field apart from it is set. -/
theorem Fld.get_set_ne (f g : Fld) (w : Word) (v : Nat) (h : f.hi < g.lo ∨ g.hi < f.lo) : f.get (g.set w v) = f.get w := by
  refine Nat.eq_of_testBit_eq fun i => ?_
  rw [Fld.testBit_get, Fld.testBit_get, Fld.getLsbD_set]
  by_cases hi : i < f.hi + 1 - f.lo
  · rw [if_neg (by omega)]
  · simp [hi]

/-- A field of one bit reads as that bit. -/
theorem Fld.get_bit (f : Fld) (w : Word) (h : f.hi = f.lo) : f.get w = (w.getLsbD f.lo).toNat := by
  have h1 : f.hi + 1 - f.lo = 1 := by omega
  rw [Fld.get, h1, Nat.pow_one, ← BitVec.testBit_toNat, Nat.toNat_testBit, Nat.shiftRight_eq_div_pow]

/-- A field that is the whole word reads as the word. -/
theorem Fld.get_whole (f : Fld) (w : Word) (hl : f.lo = 0) (hh : f.hi = 31) : f.get w = w.toNat := by
  rw [Fld.get, hl, hh]
  exact Nat.mod_eq_of_lt w.isLt

/-- A field that is the whole word replaces the word. -/
theorem Fld.set_whole (f : Fld) (w : Word) (v : Nat) (hl : f.lo = 0) (hh : f.hi = 31) : f.set w v = wd v := by
  refine BitVec.eq_of_getLsbD_eq fun i hi => ?_
  rw [Fld.getLsbD_set, if_pos (by omega), hl, wd, BitVec.getLsbD_ofNat, Nat.sub_zero]

/-- A field that is the whole word, taken from another word, gives that word. -/
theorem Fld.set_get_whole (f : Fld) (w x : Word) (hl : f.lo = 0) (hh : f.hi = 31) : f.set w (f.get x) = x := by
  rw [Fld.set_whole f w _ hl hh, Fld.get_whole f x hl hh, wd, BitVec.ofNat_toNat, BitVec.setWidth_eq]

end Sys2Proof.Machine
end

section
/-! SUPPORT. Counters that reading clears (R14): a register whose one field is such a counter, and its increments at the instant of
the read. -/

namespace Sys2Proof.Machine

theorem Reg.rcFrom_single {r : Reg} {f : Fld} (hf : r.fields = [f]) (ha : f.acc = .rc) (w x : Word) :
    r.rcFrom w x = f.set w (f.get x) := by
  simp [Reg.rcFrom, hf, ha]

theorem Reg.hasRc_single {r : Reg} {f : Fld} (hf : r.fields = [f]) (ha : f.acc = .rc) : r.hasRc = true := by
  simp [Reg.hasRc, hf, ha]

namespace Mach

theorem rcShow_calm {m : Mach} {r : Reg} (h : SMap.get? m.freshC r.addr = none) : m.rcShow r = m.peek r := by
  simp [rcShow, h]

theorem rcShow_fresh {m : Mach} {r : Reg} {e : Word × Word} (h : SMap.get? m.freshC r.addr = some e) :
    m.rcShow r = r.rcFrom (m.peek r) e.1 := by
  simp [rcShow, h]

theorem rcClear_calm {m : Mach} {r : Reg} {f : Fld} (hf : r.fields = [f]) (ha : f.acc = .rc)
    (h : SMap.get? m.freshC r.addr = none) : m.rcClear r = m.wr r (f.set (m.rd r) f.reset) := by
  simp [rcClear, Reg.hasRc_single hf ha, hf, ha, h]

theorem rcClear_fresh {m : Mach} {r : Reg} {f : Fld} {e : Word × Word} (hf : r.fields = [f]) (ha : f.acc = .rc)
    (h : SMap.get? m.freshC r.addr = some e) :
    m.rcClear r = { (m.wr r (r.rcFrom (f.set (m.rd r) f.reset) e.2)) with
      freshC := SMap.put m.freshC r.addr (f.set (m.rd r) f.reset, e.2) } := by
  simp [rcClear, Reg.hasRc_single hf ha, hf, ha, h]

theorem freshCAdd_rd (m : Mach) (r r' : Reg) (f : Fld) (n : Nat) : (m.freshCAdd r f n).rd r' = m.rd r' := by
  unfold freshCAdd; split <;> rfl

/-- A counter raised saturates at its width. -/
theorem rd_bump_same (m : Mach) (r : Reg) (f : Fld) (n : Nat) :
    (m.bump r f n).rd r = f.set (m.rd r) (min (m.fld r f + n) (2 ^ (f.hi + 1 - f.lo) - 1)) := by
  rw [bump, rd_setF_same, freshCAdd_rd]

/-- The first increment of an instant keeps the word before it, and counts the increments from 0. -/
theorem freshC_bump_first {m : Mach} {r : Reg} {f : Fld} (ha : f.acc = .rc) (h : SMap.get? m.freshC r.addr = none) (n : Nat) :
    SMap.get? (m.bump r f n).freshC r.addr = some (m.rd r, f.set 0 (min (f.get 0 + n) (2 ^ (f.hi + 1 - f.lo) - 1))) := by
  simp [bump, freshCAdd, ha, freshCOf, SMap.getD, h, SMap.get?_put_same]

/-- An RW1C bit that the engine sets is kept for its instant. -/
theorem fresh1Of_setF {r : Reg} {f : Fld} (ha : f.acc = .rw1c) (m : Mach) {v : Nat} (hv : v ≠ 0) :
    (m.setF r f v).fresh1Of r = m.fresh1Of r ||| f.set 0 v := by
  simp [setF, fresh1Add, ha, hv, fresh1Of, SMap.getD_putD_same]

end Mach

end Sys2Proof.Machine
end

section
/-! The register file's laws. -/

namespace Sys2Proof.Machine

theorem merge_bayCtrl (n : Nat) (old w : Word) :
    (Reg.bayCtrl n).merge old w = F.bayCtrl_MODE.set old (F.bayCtrl_MODE.get w) := rfl

theorem merge_vcoreStat (old w : Word) :
    Reg.vcoreStat.merge old w =
      F.vcoreStat_AT_MAX_SHORT.set old (F.vcoreStat_AT_MAX_SHORT.get old &&& (1 - F.vcoreStat_AT_MAX_SHORT.get w)) := rfl

theorem merge_cmdIp (old w : Word) : Reg.cmdIp.merge old w = F.cmdIp_ADDR.set old (F.cmdIp_ADDR.get w) := rfl

/-- RW fields of a written word are taken, WO fields and reserved bits stay. -/
theorem bayCtrl_write_law (old w : Word) (n : Nat) :
    F.bayCtrl_MODE.get ((Reg.bayCtrl n).merge old w) = F.bayCtrl_MODE.get w ∧
      (∀ i, i = 2 ∨ i = 7 ∨ i = 31 → ((Reg.bayCtrl n).merge old w).getLsbD i = old.getLsbD i) := by
  rw [merge_bayCtrl]
  constructor
  · rw [Fld.get_set_same _ _ _ (by decide)]
    exact Nat.mod_mod _ _
  · intro i hi
    rw [Fld.getLsbD_set, if_neg]
    simp only [F.bayCtrl_MODE]
    omega

/-- A written 1 clears an RW1C bit, a written 0 leaves it; RO fields stay. -/
theorem vcoreStat_write_law (old w : Word) :
    F.vcoreStat_VCORE_MV.get (Reg.vcoreStat.merge old w) = F.vcoreStat_VCORE_MV.get old ∧
      F.vcoreStat_AT_MAX_SHORT.get (Reg.vcoreStat.merge old w) =
        (if F.vcoreStat_AT_MAX_SHORT.get w = 1 then 0 else F.vcoreStat_AT_MAX_SHORT.get old) := by
  rw [merge_vcoreStat]
  constructor
  · exact Fld.get_set_ne _ _ _ _ (by decide)
  · rw [Fld.get_set_same _ _ _ (by decide), Fld.get_bit _ w rfl, Fld.get_bit _ old rfl]
    cases w.getLsbD F.vcoreStat_AT_MAX_SHORT.lo <;> cases old.getLsbD F.vcoreStat_AT_MAX_SHORT.lo <;> decide

/-- An RW1C bit that the engine sets at the instant of a write stays set (R13). -/
theorem vcoreStat_set_wins (m : Mach) (w : Word) :
    F.vcoreStat_AT_MAX_SHORT.get ((m.setF .vcoreStat F.vcoreStat_AT_MAX_SHORT 1).newWord .vcoreStat w) = 1 := by
  have hset : (F.vcoreStat_AT_MAX_SHORT.set 0 1).getLsbD F.vcoreStat_AT_MAX_SHORT.lo = true := by decide
  rw [Mach.newWord, Mach.merged, Mach.fresh1Of_setF rfl m (by decide), Fld.get_bit _ _ rfl, BitVec.getLsbD_or, BitVec.getLsbD_or,
    hset, Bool.or_true, Bool.or_true, Bool.toNat_true]

theorem regReadAt_evrLost (m : Mach) : m.regReadAt .evrLost = (m.rcShow .evrLost, m.rcClear .evrLost) := rfl

/-- EVR_LOST is one RC counter over its whole word: a read at the instant of increments returns the word before them, and leaves the
increments in the register and, for the next read of that instant, 0 as the word before them (R14). -/
theorem evrLost_read_fresh {m : Mach} {e : Word × Word} (h : SMap.get? m.freshC Reg.evrLost.addr = some e) :
    m.regReadAt .evrLost = (e.1, { (m.wr .evrLost e.2) with freshC := SMap.put m.freshC Reg.evrLost.addr (0, e.2) }) := by
  have whole (w x : Word) : Reg.evrLost.rcFrom w x = x :=
    (Reg.rcFrom_single rfl rfl w x).trans (Fld.set_get_whole F.evrLost_COUNT w x rfl rfl)
  have zero (w : Word) : F.evrLost_COUNT.set w F.evrLost_COUNT.reset = 0 := Fld.set_whole _ _ _ rfl rfl
  rw [regReadAt_evrLost, Mach.rcShow_fresh h, Mach.rcClear_fresh rfl rfl h, whole, whole, zero]

/-- An increment of EVR_LOST at the instant of a read counts after the clear, and is not in what the read returns (R14). -/
theorem evrLost_instant_law (m : Mach) (h : SMap.get? m.freshC Reg.evrLost.addr = none)
    (hlt : m.fld .evrLost F.evrLost_COUNT < 2 ^ 32 - 1) :
    let x := m.bump .evrLost F.evrLost_COUNT 1
    (x.regReadAt .evrLost).1 = m.rd .evrLost ∧ (x.regReadAt .evrLost).2.fld .evrLost F.evrLost_COUNT = 1 ∧
    (x.fld .evrLost F.evrLost_COUNT = m.fld .evrLost F.evrLost_COUNT + 1) ∧
    ((x.regReadAt .evrLost).2.regReadAt .evrLost).1 = 0 := by
  intro x
  have hx : SMap.get? x.freshC Reg.evrLost.addr = some (m.rd .evrLost, 1) := Mach.freshC_bump_first rfl h 1
  have hread := evrLost_read_fresh hx
  have hagain : SMap.get? (x.regReadAt .evrLost).2.freshC Reg.evrLost.addr = some (0, 1) := by
    rw [hread]; exact SMap.get?_put_same _ _ _
  refine ⟨by rw [hread], ?_, ?_, by rw [evrLost_read_fresh hagain]⟩
  · rw [hread]
    exact congrArg F.evrLost_COUNT.get (Mach.rd_wr_same x .evrLost 1)
  · rw [Mach.fld, Mach.rd_bump_same, Fld.get_set_same _ _ _ (by decide)]
    simp only [F.evrLost_COUNT] at hlt ⊢
    omega

/-- Settles O7: the rules of the register file, its fields and its instants, put together. -/
theorem registerFile : Obligations.RegisterFile :=
  ⟨fun m r w => ⟨Mach.rd_wr_same m r w, fun r' hr => Mach.rd_wr_ne m r r' w hr, SMap.rising_putD _ _ _ _⟩,
    bayCtrl_write_law, vcoreStat_write_law, fun _ _ => rfl,
    fun old w => (merge_cmdIp old w).trans (Fld.set_get_whole _ old w rfl rfl),
    vcoreStat_set_wins, evrLost_instant_law, fun _ => ⟨rfl, rfl⟩⟩

end Sys2Proof.Machine
end

section
/-! The address map (R16, R687): every listed address is a word of the register space; requests for others. -/

namespace Sys2Proof.Machine

/-- An offset that a row's indexes reach is a multiple of 4, and none is past that of the last indexes. -/
theorem RegRow.solve_offset {dims : List RegDim} (hd : ∀ d ∈ dims, d.stride % 4 = 0) {off : Nat} {l : List Nat}
    (h : RegRow.solve dims off = some l) : off % 4 = 0 ∧ off ≤ (dims.map fun d => d.stride * d.last).sum := by
  fun_induction RegRow.solve dims off generalizing l with
  | case1 => simp
  | case2 => cases h
  | case3 d off hoff =>
    obtain ⟨hmod, -, hlast⟩ := hoff
    have hdvd : off = d.stride * (off / d.stride) := (Nat.mul_div_cancel' (Nat.dvd_of_mod_eq_zero hmod)).symm
    have h4 : 4 ∣ d.stride := Nat.dvd_of_mod_eq_zero (hd d (by simp))
    refine ⟨Nat.mod_eq_zero_of_dvd (Nat.dvd_trans h4 (Nat.dvd_of_mod_eq_zero hmod)), ?_⟩
    calc off = d.stride * (off / d.stride) := hdvd
      _ ≤ d.stride * d.last := Nat.mul_le_mul_left _ hlast
      _ = _ := by simp
  | case4 => cases h
  | case5 d ds off _ hlast ih =>
    obtain ⟨rest, hrest, -⟩ := Option.map_eq_some_iff.mp h
    obtain ⟨hmod, hle⟩ := ih (fun x hx => hd x (by simp [hx])) hrest
    have h4 : 4 ∣ d.stride := Nat.dvd_of_mod_eq_zero (hd d (by simp))
    have hsplit : d.stride * (off / d.stride) + off % d.stride = off := Nat.div_add_mod _ _
    have houter : d.stride * (off / d.stride) ≤ d.stride * d.last := Nat.mul_le_mul_left _ hlast
    refine ⟨?_, by rw [List.map_cons, List.sum_cons]; omega⟩
    rw [← hsplit]
    exact Nat.mod_eq_zero_of_dvd (Nat.dvd_add (Nat.dvd_mul_right_of_dvd h4 _) (Nat.dvd_of_mod_eq_zero hmod))
  | case6 => cases h

theorem rows_inSpace : ∀ r ∈ Reg.rows, r.base % 4 = 0 ∧ (∀ d ∈ r.dims, d.stride % 4 = 0) ∧
    r.base + (r.dims.map fun d => d.stride * d.last).sum < 0xE0000 := by
  decide +kernel

/-- Every address that a block lists is a multiple of 4 inside the register space. -/
theorem ofAddr_inSpace {a : Nat} {r : Reg} (h : Reg.ofAddr a = some r) : a % 4 = 0 ∧ a < 0xE0000 := by
  obtain ⟨row, hrow, hr⟩ := List.exists_of_findSome?_eq_some h
  split at hr
  · cases hr
  · obtain ⟨l, hl, -⟩ := Option.map_eq_some_iff.mp hr
    obtain ⟨hbase, hdims, hlast⟩ := rows_inSpace row hrow
    have := RegRow.solve_offset hdims hl
    omega

namespace Mach

/-- A range of addresses that step 10 of R669 refuses. -/
theorem badRange_eq_true {a n : Nat} : badRange a n = true ↔ a % 4 ≠ 0 ∨ 0xE0000 < a + 4 * n := by
  simp [badRange, Nat.blt_eq]

theorem ofLen_ok {m : Mach} {q : RawReq} {n : Nat} (h : q.len = n) (f : Mach × Ans) : m.ofLen q n f = f := if_pos h

theorem cmdRegRead_badRange {m : Mach} {q : RawReq} (hl : q.len = 8) (h1 : 1 ≤ q.h 4) (h2 : q.h 4 ≤ 1024)
    (hb : badRange (q.d 0) (q.h 4) = true) : m.cmdRegRead q = m.bad (q.d 0) := by
  rw [cmdRegRead, ofLen_ok hl, if_neg (by omega), if_pos hb]

theorem cmdRegWrite_badRange {m : Mach} {s : Session} {q : RawReq} (hl : q.len = 8 + 4 * q.h 4) (h1 : 1 ≤ q.h 4)
    (h2 : q.h 4 ≤ 1022) (hb : badRange (q.d 0) (q.h 4) = true) : m.cmdRegWrite s q = m.bad (q.d 0) := by
  simp only [cmdRegWrite]
  rw [if_neg (by omega), if_neg (by omega), ofLen_ok hl, if_pos hb]

theorem cmdRegModify_badRange {m : Mach} {s : Session} {q : RawReq} (hl : q.len = 12) (hb : badRange (q.d 0) 1 = true) :
    m.cmdRegModify s q = m.bad (q.d 0) := by
  rw [cmdRegModify, ofLen_ok hl, if_pos hb]

theorem regRead_unlisted {a : Nat} (m : Mach) (h : Reg.ofAddr a = none) : m.regRead a = (0, m) := by
  rw [regRead, h]

theorem regWrite_outside {a : Nat} (m : Mach) (who : Who) (w : Word) (h : a % 4 ≠ 0 ∨ 0xE0000 ≤ a) :
    m.regWrite who a w = (some (stParam, a), m) := if_pos h

theorem regWrite_listed {a : Nat} {r : Reg} (m : Mach) (who : Who) (w : Word) (h : Reg.ofAddr a = some r) :
    m.regWrite who a w = m.regWriteAt who r w := by
  obtain ⟨h4, hs⟩ := ofAddr_inSpace h
  rw [regWrite, if_neg (by omega), h]

theorem regWrite_unlisted {a : Nat} (m : Mach) (who : Who) (w : Word) (h : Reg.ofAddr a = none) (h4 : a % 4 = 0) (hs : a < 0xE0000) :
    m.regWrite who a w = (if 0xD0100 ≤ a ∧ !m.flag .glbStat F.glbStat_PRODUCTION then some (stDenied, 0) else none, m) := by
  rw [regWrite, if_neg (by omega), h]

end Mach

/-- Settles O8: each request is refused at its range check, and each access answers by the case of its address. -/
theorem registerAddresses : Obligations.RegisterAddresses := by
  refine ⟨?_, ?_, ?_, fun _ _ => rfl, fun m a h => m.regRead_unlisted h, fun m who a w h h4 hs => ?_,
    fun m who a w h => m.regWrite_outside who w h, fun r a h => ofAddr_inSpace h⟩
  · refine Serves.of (g := fun m _ q => m.cmdRegRead q) (fun _ _ _ => rfl) rfl (fun m x q hop => by simp [Mach.runLow, hop]) ?_
    rintro m x q ⟨hl, h1, h2, hb⟩
    exact Mach.cmdRegRead_badRange hl h1 h2 (Mach.badRange_eq_true.mpr hb)
  · refine Serves.of (g := Mach.cmdRegWrite) (fun _ _ _ => rfl) rfl (fun m x q hop => by simp [Mach.runLow, hop]) ?_
    rintro m x q ⟨h1, h2, hl, hb⟩
    exact Mach.cmdRegWrite_badRange hl h1 h2 (Mach.badRange_eq_true.mpr hb)
  · refine Serves.of (g := Mach.cmdRegModify) (fun _ _ _ => rfl) rfl (fun m x q hop => by simp [Mach.runLow, hop]) ?_
    rintro m x q ⟨hl, hb⟩
    exact Mach.cmdRegModify_badRange hl (Mach.badRange_eq_true.mpr hb)
  · rw [m.regWrite_unlisted who w h h4 (by omega), if_neg (by omega)]

end Sys2Proof.Machine
end

section
/-! Register writes and reads through the register rows (R11, R14, R685): an open session's access, by what stands in its way. -/

namespace Sys2Proof.Machine

/-- The addresses whose writes end the UDP sessions (R674) are listed. -/
theorem endsUdp_listed {a : Nat} (h : Mach.endsUdp a = true) (h4 : a % 4 = 0) : (Reg.ofAddr a).isSome = true := by
  have hr : 0x200 ≤ a ∧ a ≤ 0x20C := of_decide_eq_true h
  obtain rfl | rfl | rfl | rfl : a = 0x200 ∨ a = 0x204 ∨ a = 0x208 ∨ a = 0x20C := by omega
  all_goals decide +kernel

namespace Mach

theorem hostMay_eq_true {m : Mach} (hu : m.up) (hr : m.start.recovery = false) (hf : m.flag .glbStat F.glbStat_FEAT_DONE = true) :
    m.hostMay = true := by
  simp [hostMay, hu.2, hr, hf]

theorem hostMay_eq_false {m : Mach} (h : m.start.recovery = true ∨ m.flag .glbStat F.glbStat_FEAT_DONE = false) :
    m.hostMay = false := by
  rcases h with h | h <;> simp [hostMay, h]

/-- Without an open session, or before it may write, a write does nothing. -/
theorem hostWrite_barred {m : Mach} {ses : Nat} (h : m.sess ses = none ∨ m.hostMay = false) (a : Nat) (w : Word) :
    m.hostWrite ses a w = m := by
  unfold hostWrite
  split
  · rfl
  next x hx =>
    rw [hx] at h
    rw [if_neg (by simpa using h)]

/-- A write of an open session that may write is the register file's, and what follows it. -/
theorem hostWrite_open {m : Mach} {ses : Nat} {x : Session} (hs : m.sess ses = some x) (hm : m.hostMay = true) (a : Nat) (w : Word) :
    m.hostWrite ses a w = hostDone x.num a (m.regWrite { session := x.num, maint := x.maint } a w) := by
  rw [hostWrite, hs]
  exact if_pos hm

/-- After a refusal nothing follows. -/
theorem hostDone_refused (num a : Nat) (e : Nat × Nat) (m : Mach) : hostDone num a (some e, m) = m := rfl

theorem hostDone_quiet {a : Nat} (h : endsUdp a = false) (num : Nat) (m : Mach) : hostDone num a (none, m) = m := by
  simp [hostDone, h]

theorem hostDone_endsUdp {a : Nat} (h : endsUdp a = true) (num : Nat) (m : Mach) :
    hostDone num a (none, m) = m.afterReply num 2 := by
  simp [hostDone, h]

theorem regWriteAt_ok {m : Mach} {who : Who} {r : Reg} {w : Word} (h : m.regCheck who r w = none) :
    m.regWriteAt who r w = (none, m.regPut who r w) := by
  rw [regWriteAt, h]

theorem regWriteAt_refused {m : Mach} {who : Who} {r : Reg} {w : Word} {e : Nat × Nat} (h : m.regCheck who r w = some e) :
    m.regWriteAt who r w = (some e, if e.1 = stState then m.setFullMark r w else m) := by
  rw [regWriteAt, h]

/-- An accepted write of a listed address, up to what follows it. -/
theorem hostWrite_accepted {m : Mach} {x : Session} {ses a : Nat} {r : Reg} {w : Word} (hu : m.up) (ha : Reg.ofAddr a = some r)
    (h : m.mayWrite x ses r w) :
    m.hostWrite ses a w = hostDone x.num a (none, m.regPut { session := x.num, maint := x.maint } r w) := by
  obtain ⟨hs, hr, hf, hc⟩ := h
  rw [hostWrite_open hs (hostMay_eq_true hu hr hf), regWrite_listed m _ w ha, regWriteAt_ok hc]

/-- A refused write of a listed address. -/
theorem hostWrite_refused {m : Mach} {x : Session} {ses a : Nat} {r : Reg} {w : Word} {e : Nat × Nat} (ha : Reg.ofAddr a = some r)
    (hs : m.sess ses = some x) (hm : m.hostMay = true) (hc : m.regCheck { session := x.num, maint := x.maint } r w = some e) :
    m.hostWrite ses a w = if e.1 = stState then m.setFullMark r w else m := by
  rw [hostWrite_open hs hm, regWrite_listed m _ w ha, regWriteAt_refused hc, hostDone_refused]

/-- A write of an address that no block lists, refused or not, changes nothing: R674 names none of these. -/
theorem hostWrite_unlisted {m : Mach} {a : Nat} (ha : Reg.ofAddr a = none) (ses : Nat) (w : Word) : m.hostWrite ses a w = m := by
  cases hs : m.sess ses with
  | none => exact hostWrite_barred (.inl hs) a w
  | some x =>
    cases hm : m.hostMay with
    | false => exact hostWrite_barred (.inr hm) a w
    | true =>
      rw [hostWrite_open hs hm]
      by_cases hout : a % 4 ≠ 0 ∨ 0xE0000 ≤ a
      · rw [regWrite_outside m _ w hout, hostDone_refused]
      · have hq : endsUdp a = false := by
          refine Bool.eq_false_iff.mpr fun h => ?_
          have hsome := endsUdp_listed h (by omega)
          rw [ha] at hsome
          cases hsome
        rw [regWrite_unlisted m _ w ha (by omega) (by omega)]
        split
        · rfl
        · exact hostDone_quiet hq _ _

/-- SUB_SET_FULL is for subscriptions (R534). -/
theorem setFullMark_other (m : Mach) (r : Reg) (w : Word) (hs : ∀ s, r ≠ .svsCfg s) (hg : ∀ g, r ≠ .gsubCfg g) :
    m.setFullMark r w = m := by
  unfold setFullMark
  split
  · exact absurd rfl (hs _)
  · exact absurd rfl (hg _)
  · rfl

/-- A counter read by its address is a read of its register. -/
theorem hostRead_listed {m : Mach} {x : Session} {ses a : Nat} {r : Reg} (hu : m.up) (hs : m.sess ses = some x)
    (hr : m.start.recovery = false) (ha : Reg.ofAddr a = some r) : m.hostRead ses a = (m.regReadAt r).2 := by
  rw [hostRead, if_neg (by simp [hs, hu.2, hr]), regRead, ha]

theorem hostRead_barred {m : Mach} {ses : Nat} (h : m.sess ses = none ∨ m.start.recovery = true) (a : Nat) :
    m.hostRead ses a = m :=
  if_pos (by rcases h with h | h <;> simp [h])

/-- A read of the low word of an energy counter latches its high word (R232): the published, of a bay OFF the one kept. -/
theorem regReadAt_energyLow (m : Mach) (b k : Nat) :
    (m.regReadAt (.bayEnergy b (2 * k))).2 =
      m.wr (.bayEnergy b (2 * k + 1))
        (wd ((if (m.bay b).mode = 0 then (m.bay b).d.energy else (m.bay b).pub.energy).getD k 0 / 2 ^ 64)) := by
  simp [regReadAt]

/-- A write of FRM_CFG stores its word and does nothing more. -/
theorem regPut_frmCfg (m : Mach) (who : Who) (w : Word) : m.regPut who .frmCfg w = m.stored .frmCfg w := rfl

end Mach

theorem regReadAt_hltCarFails (m : Mach) : m.regReadAt .hltCarFails = (m.rcShow .hltCarFails, m.rcClear .hltCarFails) := rfl

theorem acts_registerWrite {ses a : Nat} {w : Word} {P : Mach → Prop} {f : Mach → Mach}
    (h : ∀ m : Mach, m.up → P m → m.hostWrite ses a w = f m) : Acts (.registerWrite ses a w) P f :=
  Acts.of_live (fun _ => rfl) h

theorem acts_rcCounterRead {ses a : Nat} {P : Mach → Prop} {f : Mach → Mach}
    (h : ∀ m : Mach, m.up → P m → (if Mach.hasRc a then m.hostRead ses a else m) = f m) : Acts (.rcCounterRead ses a) P f :=
  Acts.of_live (fun _ => rfl) h

/-- ENERGY_LOW_READ of a bay and counter that exist reads the low word. -/
theorem acts_energyLowRead {ses b k : Nat} {x : Session} {P : Mach → Prop} {f : Mach → Mach}
    (hP : ∀ m, P m → m.sess ses = some x ∧ m.start.recovery = false ∧ b < 32 ∧ k < 4)
    (h : ∀ m, P m → (m.regReadAt (.bayEnergy b (2 * k))).2 = f m) : Acts (.energyLowRead ses b k) P f := by
  refine Acts.of_live (F := Mach.only (wfBay b && wfEgy k) fun m => m.hostGet ses (.bayEnergy b (2 * k))) (fun _ => rfl) fun m hu hp => ?_
  obtain ⟨hs, hr, hb, hk⟩ := hP m hp
  rw [only_ok (by simp [wfBay, wfEgy, Nat.blt_eq, hb, hk]), hostGet_ok hu hs hr, h m hp]

/-- Settles O54: each clause by the lemma of its case, of a write (accepted, unlisted, refused, barred) or of a read. -/
theorem registerAccesses : Obligations.RegisterAccesses := by
  refine ⟨fun ses x a w r => ?_, fun ses x a w r => ?_, fun ses a w => ?_, fun ses a w => ?_, fun ses a w x r e => ?_,
    fun ses a w x r e => ?_, fun m r w hs hg => m.setFullMark_other r w hs hg, fun ses a w => ?_, fun ses x a r => ?_,
    fun ses a => ?_, fun ses a => ?_, fun m h => ?_, fun m a b h => ?_, fun m h => ?_, fun ses x => ?_, fun ses x b k => ?_,
    fun ses x b k => ?_, fun ses x d => ?_⟩
  · refine acts_registerWrite fun m hu hp => ?_
    obtain ⟨ha, -, -, hq, hmay⟩ := hp
    rw [Mach.hostWrite_accepted hu ha hmay, Mach.hostDone_quiet hq]
  · refine acts_registerWrite fun m hu hp => ?_
    obtain ⟨ha, -, -, hq, hmay⟩ := hp
    rw [Mach.hostWrite_accepted hu ha hmay, Mach.hostDone_endsUdp hq]
  · exact acts_registerWrite fun m _ ha => Mach.hostWrite_unlisted ha ses w
  · exact acts_registerWrite fun m _ hs => Mach.hostWrite_barred (.inl hs) a w
  · refine acts_registerWrite fun m _ hp => ?_
    obtain ⟨ha, hs, he, hc⟩ := hp
    cases hm : m.hostMay with
    | false => exact Mach.hostWrite_barred (.inr hm) a w
    | true => rw [Mach.hostWrite_refused ha hs hm hc]; exact if_neg he
  · refine acts_registerWrite fun m hu hp => ?_
    obtain ⟨ha, -, -, hs, hr, hf, he, hc⟩ := hp
    rw [Mach.hostWrite_refused ha hs (Mach.hostMay_eq_true hu hr hf) hc]
    exact if_pos he
  · exact acts_registerWrite fun m _ hp => Mach.hostWrite_barred (.inr (Mach.hostMay_eq_false hp)) a w
  · refine acts_rcCounterRead fun m hu hp => ?_
    obtain ⟨hs, hr, ha, hrc⟩ := hp
    rw [if_pos hrc, Mach.hostRead_listed hu hs hr ha]
  · exact acts_rcCounterRead fun m _ hrc => if_neg (by simp [hrc])
  · refine acts_rcCounterRead fun m _ hp => ?_
    rw [Mach.hostRead_barred hp, ite_self]
  · rw [regReadAt_evrLost, Mach.rcShow_calm h, Mach.rcClear_calm rfl rfl h]
    rfl
  · rw [regReadAt_evrLost, Mach.rcShow_fresh h, Mach.rcClear_fresh rfl rfl h]
    rfl
  · rw [regReadAt_hltCarFails, Mach.rcShow_calm h, Mach.rcClear_calm rfl rfl h]
    rfl
  · exact Acts.of_live (fun _ => rfl) fun m hu hp => hostGet_ok hu hp.1 hp.2
  · refine acts_energyLowRead (x := x) (fun m ⟨hs, hr, hb, hk, _⟩ => ⟨hs, hr, hb, hk⟩) fun m ⟨_, _, _, _, hon⟩ => ?_
    rw [Mach.regReadAt_energyLow, if_neg hon]
  · refine acts_energyLowRead (x := x) (fun m ⟨hs, hr, hb, hk, _⟩ => ⟨hs, hr, hb, hk⟩) fun m ⟨_, _, _, _, hoff⟩ => ?_
    rw [Mach.regReadAt_energyLow, if_pos hoff]
  · exact Acts.of_live (fun _ => rfl) fun m hu hp => (hostPut_ok hu hp rfl).trans (m.regPut_frmCfg _ _)

end Sys2Proof.Machine
end

section
/-! The zone engine's frame, the reading of the light and fast-OC flags, stage-2 over-current samples (R46, R65, R81, R304, R306). -/

namespace Sys2Proof.Machine

namespace Mach

/-- The bays' deadline comes once in a frame. -/
theorem bayDeadline_past {m : Mach} (h : m.fr.deadline = true) : m.bayDeadline = m :=
  if_pos (by simp [h])

/-- The binding step does nothing outside a frame, in its guard interval, once released, and before 56 µs. -/
theorem stitchBinding_idle {m : Mach}
    (h : m.fr.started = false ∨ m.fr.guard = true ∨ m.fr.binding = true ∨ m.fr.bindHeld = true ∨ m.tau < 56000) :
    m.stitchBinding = m :=
  if_pos (by rcases h with h | h | h | h | h <;> simp [h])

/-- With the bays' deadline past, and the binding step released where it is due, nothing comes before the zone engine's completion. -/
theorem zeComplete_ready {m : Mach} (hd : m.fr.deadline = true) (hb : 56000 < m.tau → m.fr.binding = true) (mismatch : Bool) :
    m.zeComplete mismatch = m.zeCompleteDo mismatch := by
  rw [zeComplete, bayDeadline_past hd, ite_self]
  by_cases ht : 56000 < m.tau
  · rw [if_pos ht, stitchBinding_idle (.inr (.inr (.inl (hb ht))))]
  · rw [if_neg ht]

/-- The zone engine completes the present frame: its result counts now, or from the next trigger on where the frame is late. -/
theorem zeCompleteDo_current {m : Mach} {d : ZoneD} {r : ZRes} {nr : Nat} (hn : m.zone.next = some (d, r, nr))
    (hf : m.fenced 34 = false) (hc : r.fseq = m.fr.fseq) :
    m.zeCompleteDo false =
      forEach (numsWhere 32 nr.testBit)
        ((if m.fr.zeLate then { m with zone := { m.zone with d := d, after := some r, next := none } }
          else { m with zone := { m.zone with d := d, res := r, next := none }, fr := { m.fr with zeDone := true } } : Mach).slackRec 34
            (56000 - ((m.tau : Nat) : Int)) 12000)
        (fun m b => m.emit .btNoroute b) := by
  rw [zeCompleteDo, hn]
  cases hl : m.fr.zeLate <;> simp [hf, hc, hl]

theorem arcRead_due {m : Mach} (hs : m.fr.started = true) (hg : m.fr.guard = false) (ha : m.fr.arcRead = false)
    (ht : 48000 ≤ m.tau) :
    m.arcRead =
      (let m := m.diSyncAll
       let on := bitsOf 32 (fun x => ((m.di x).deb || m.zone.lightSet.testBit x) && m.diLight x && !m.diFenced x)
       let d := arcDecide m.zcfg on m.zone.lightNow m.zone.ocSet m.zone.ocNow
       { m with fr := { m.fr with arcRead := true },
                zone := { m.zone with lightNow := on, ocNow := m.zone.ocSet,
                                      lightSet := 0, ocSet := 0, arcStart := d.1, arcOper := d.2 } }) := by
  rw [arcRead, if_neg (by simp [hs, hg, ha, ht])]

/-- Stage-2 samples of a port in RUN that are over the threshold for one phase current and one zone set the bay's flag (R304). -/
theorem fastOc_over {m : Mach} {b p c k : Nat} {xs : List Int} (hb : b < 32) (hc : c < 3) (hk : k < 4) (hrun : (m.port p).st = .run)
    (hf : m.fenced (52 + p) = false) (hslot : m.slotOnPort b c p = true) (hen : m.zcfg 0x54 k 0 = 1)
    (hmask : (maskOf (m.zcfg 0x54 k 3)).testBit b = true) (hover : m.arcOver k b c p xs = true) :
    m.fastOc b p xs = { m with zone := { m.zone with ocSet := m.zone.ocSet ||| 2 ^ b } } := by
  have hzone : (List.range 4).any (fun k =>
      decide (m.zcfg 0x54 k 0 = 1) && (maskOf (m.zcfg 0x54 k 3)).testBit b && m.arcOver k b c p xs) = true :=
    List.any_eq_true.mpr ⟨k, List.mem_range.mpr hk, by simp [hen, hmask, hover]⟩
  have hphase : [0, 1, 2].any (fun c => m.slotOnPort b c p && (List.range 4).any (fun k =>
      decide (m.zcfg 0x54 k 0 = 1) && (maskOf (m.zcfg 0x54 k 3)).testBit b && m.arcOver k b c p xs)) = true :=
    List.any_eq_true.mpr ⟨c, List.mem_range (n := 3).mpr hc, by rw [hslot, hzone, Bool.and_true]⟩
  exact if_pos (by rw [hphase]; simp [hb, hrun, hf])

/-- Stage-2 samples that no phase current and no zone finds over the threshold change nothing (R304). -/
theorem fastOc_under {m : Mach} {b p : Nat} {xs : List Int}
    (h : ∀ c k, c < 3 → k < 4 → m.slotOnPort b c p = true → m.zcfg 0x54 k 0 = 1 → (maskOf (m.zcfg 0x54 k 3)).testBit b = true →
      m.arcOver k b c p xs = false) : m.fastOc b p xs = m := by
  refine if_neg fun hset => ?_
  rw [Bool.and_eq_true] at hset
  obtain ⟨c, hc, hslot⟩ := List.any_eq_true.mp hset.2
  rw [Bool.and_eq_true] at hslot
  obtain ⟨hslot, hzone⟩ := hslot
  obtain ⟨k, hk, hover⟩ := List.any_eq_true.mp hzone
  simp only [Bool.and_eq_true, decide_eq_true_eq] at hover
  obtain ⟨⟨hen, hmask⟩, hover⟩ := hover
  have hunder := h c k (List.mem_range (n := 3).mp hc) (List.mem_range.mp hk) hslot hen hmask
  rw [hunder] at hover
  cases hover

end Mach

/-- FAST_OC_FLAG_SET of a bay and a port that exist. -/
theorem acts_fastOcFlagSet {b p : Nat} {xs : List Int} {P : Mach → Prop} {f : Mach → Mach} (hP : ∀ m, P m → b < 32 ∧ p < 16)
    (h : ∀ m, P m → m.fastOc b p xs = f m) : Acts (.fastOcFlagSet b ⟨p, xs⟩) P f := by
  refine Acts.of_awake (F := Mach.only (wfBay b && wfPort p) fun m => m.fastOc b p xs) (fun _ => rfl) fun m _ hp => ?_
  obtain ⟨hb, hport⟩ := hP m hp
  rw [only_ok (by simp [wfBay, wfPort, Nat.blt_eq, hb, hport]), h m hp]

/-- Settles O13: the zone engine's completion in time and late, the reading of the flags, and stage-2 samples over and under. -/
theorem zoneFrameAndArcReading : Obligations.ZoneFrameAndArcReading := by
  refine ⟨fun d r nr => ?_, fun d r nr => ?_, ?_, fun b p xs c k => ?_, fun b p xs => ?_⟩
  · refine Acts.of_awake (fun _ => rfl) fun m _ hp => ?_
    obtain ⟨hd, hn, hf, hc, hl, ht⟩ := hp
    rw [Mach.zeComplete_ready hd (by omega), Mach.zeCompleteDo_current hn hf hc, if_neg (by simp [hl])]
  · refine Acts.of_awake (fun _ => rfl) fun m _ hp => ?_
    obtain ⟨hd, hn, hf, hc, hl, hb⟩ := hp
    rw [Mach.zeComplete_ready hd (fun _ => hb), Mach.zeCompleteDo_current hn hf hc, if_pos hl]
  · refine Acts.of_awake (fun _ => rfl) fun m _ hp => ?_
    obtain ⟨hs, hg, ha, ht⟩ := hp
    exact Mach.arcRead_due hs hg ha ht
  · refine acts_fastOcFlagSet (fun m ⟨hb, hport, _⟩ => ⟨hb, hport⟩) fun m hp => ?_
    obtain ⟨hb, -, hc, hk, hrun, hf, hslot, hen, hmask, hover⟩ := hp
    exact Mach.fastOc_over hb hc hk hrun hf hslot hen hmask hover
  · exact acts_fastOcFlagSet (fun m ⟨hb, hport, _⟩ => ⟨hb, hport⟩) fun m ⟨_, _, hunder⟩ => Mach.fastOc_under hunder

end Sys2Proof.Machine
end

section
/-! Completion of the binding, its deadline, the guard interval (R23, R40, R47, R64, R65, R82). -/

namespace Sys2Proof.Machine

namespace Mach

/-- The binding of the present frame completes (R47). -/
theorem bindComplete_own {m : Mach} (hb : m.fr.binding = true) (ho : m.fr.bound = false) :
    m.bindComplete = ((m.bindOwn).m0Send).hbSend :=
  if_pos (by simp [hb, ho])

theorem bindComplete_notOwn {m : Mach} (h : m.fr.binding = false ∨ m.fr.bound = true) :
    ¬(m.fr.binding && !m.fr.bound) = true := by
  rcases h with h | h <;> simp [h]

/-- The binding that ran over the trigger completes (R82). -/
theorem bindComplete_past {m : Mach} (h : m.fr.binding = false ∨ m.fr.bound = true) (hp : m.fr.bindPend = true) :
    m.bindComplete =
      (let x := (m.bindPast).updPair (fun p => { p with m0Late := none })
       ((match m.pair.m0Late with
         | some s => x.m0SendOf s
         | none => x).hbSend).bindHeldGo) :=
  (if_neg (bindComplete_notOwn h)).trans (if_pos hp)

theorem bindComplete_none {m : Mach} (h : m.fr.binding = false ∨ m.fr.bound = true) (hp : m.fr.bindPend = false) :
    m.bindComplete = m :=
  (if_neg (bindComplete_notOwn h)).trans (if_neg (by simp [hp]))

theorem m0Send_of_not_active {m : Mach} (h : m.pair.role ≠ .active) : m.m0Send = m :=
  if_pos (.inl h)

theorem hbSend_single {m : Mach} (h : m.pair.role = .single) : m.hbSend = m :=
  if_pos (.inl h)

/-- The guard interval begins once, the binding released (R64). -/
theorem guardStart_released {m : Mach} (hs : m.fr.started = true) (hg : m.fr.guard = false) (ht : 62000 ≤ m.tau)
    (hb : m.fr.binding = true ∨ m.fr.bindHeld = true) :
    m.guardStart =
      (let m := { m with fr := { m.fr with guard := true } }
       if m.fr.bound then m else m.bindLate) := by
  have hidle : m.stitchBinding = m := stitchBinding_idle (.inr (.inr (hb.imp_right .inl)))
  rw [guardStart, if_neg (by simp [hs, hg, ht]), hidle]

theorem guardStart_idle {m : Mach} (h : m.fr.started = false ∨ m.fr.guard = true ∨ m.tau < 62000) : m.guardStart = m :=
  if_pos (by rcases h with h | h | h <;> simp [h])

/-- BIND_LATE not yet logged in this frame is logged (R82). -/
theorem bindLate_first {m : Mach} (h : m.fr.lateLog = false) :
    m.bindLate = (({ m with fr := { m.fr with lateLog := true, lateInt := true } } : Mach).emit .bindLate 35).fabErr :=
  if_neg (by simp [h])

theorem copyDone_free {m : Mach} {b : Nat} (hg : m.fr.guard = true) (hc : (m.bay b).comp = none) (hw : (m.bay b).wait = none) :
    m.copyDone b =
      { m with fr := { m.fr with moves := m.fr.moves.map (fun v => if v.bay = b then { v with copied := true } else v) } } :=
  if_neg (by simp [hg, hc, hw])

theorem copyDone_barred {m : Mach} {b : Nat}
    (h : m.fr.guard = false ∨ (m.bay b).comp.isSome = true ∨ (m.bay b).wait.isSome = true) : m.copyDone b = m :=
  if_pos (by rcases h with h | h | h <;> simp [h])

end Mach

/-- HANDOVER_COPY_DONE of a bay that exists. -/
theorem acts_handoverCopyDone {b : Nat} {P : Mach → Prop} {f : Mach → Mach} (hP : ∀ m, P m → b < 32)
    (h : ∀ m, P m → m.copyDone b = f m) : Acts (.handoverCopyDone b) P f := by
  refine Acts.of_awake (F := Mach.only (wfBay b) fun m => m.copyDone b) (fun _ => rfl) fun m _ hp => ?_
  rw [only_ok (by simp [wfBay, Nat.blt_eq, hP m hp]), h m hp]

/-- Settles O15: the binding's completion by which binding runs, the start of the guard interval, and the copy of a bay's state. -/
theorem bindingCompleteAndGuardInterval : Obligations.BindingCompleteAndGuardInterval := by
  refine ⟨?_, ?_, ?_, fun m hr => ?_, ?_, ?_, fun m h => Mach.bindLate_first h, fun b => ?_, fun b => ?_⟩
  · exact Acts.of_awake (fun _ => rfl) fun m _ ⟨hb, ho⟩ => Mach.bindComplete_own hb ho
  · exact Acts.of_awake (fun _ => rfl) fun m _ ⟨h, hp⟩ => Mach.bindComplete_past h hp
  · exact Acts.of_awake (fun _ => rfl) fun m _ ⟨h, hp⟩ => Mach.bindComplete_none h hp
  · rw [Mach.m0Send_of_not_active (by simp [hr]), Mach.hbSend_single hr]
  · exact Acts.of_awake (fun _ => rfl) fun m _ ⟨hs, hg, ht, hb⟩ => Mach.guardStart_released hs hg ht hb
  · exact Acts.of_awake (fun _ => rfl) fun m _ h => Mach.guardStart_idle h
  · exact acts_handoverCopyDone (fun _ hp => hp.1) fun m ⟨_, hg, hc, hw⟩ => Mach.copyDone_free hg hc hw
  · exact acts_handoverCopyDone (fun _ hp => hp.1) fun m ⟨_, h⟩ => Mach.copyDone_barred h

end Sys2Proof.Machine
end

section
/-! The block after reset (R72, R388, R458, R586, R757, R758, R773). -/

namespace Sys2Proof.Machine

namespace Mach

/-- With no register stored, every register reads its reset word. -/
theorem rd_of_regs_nil {m : Mach} (h : m.regs = []) (r : Reg) : m.rd r = r.init := by
  rw [rd, h]; rfl

/-- FAULT_N stands high where nothing holds it low, and TB_INC_INT holds INC (R460, R714). -/
theorem init_shown : init.shown :=
  ⟨by decide +kernel, .inr (by decide +kernel)⟩

end Mach

/-- Settles O2: each part of the block after reset as it stands in Mach.init, every register at its reset word. -/
theorem afterReset : Obligations.AfterReset := by
  have hregs : ∀ r, State.reset.m.rd r = r.init := Mach.rd_of_regs_nil rfl
  have hvcore : State.reset.m.fld .vcoreStat F.vcoreStat_VCORE_MV = 900 := by rw [Mach.fld, hregs]; decide
  have htasks : ∀ t, t < 4 → (State.reset.m.tasks[t]?).map (·.st) = some .empty := by decide
  exact ⟨rfl, rfl, rfl, rfl, rfl, rfl, rfl, rfl, hregs, rfl, fun _ => rfl, hvcore, rfl, rfl, rfl, rfl, fun _ => rfl, htasks,
    Mach.init_shown, rfl, rfl, rfl⟩

end Sys2Proof.Machine
end

section
/-! The frame trigger, its numbers, and the aligner's cut-off (R51 to R53, R61). -/

namespace Sys2Proof.Machine

namespace Mach

/-- A trigger that is due ends the frame before, numbers the next and does what comes about at it (R51). -/
theorem frameTrigger_due {m : Mach} (h : m.frameDue = true) (bits : List (List Bool)) (rb : Nat) (late : List Bool) :
    m.frameTrigger bits rb late = ((((m.frameEnd).drRowStore.bindOver).frameNumbers).triggerA bits rb late).triggerB :=
  if_neg (by simp [h])

/-- A trigger whose target LTC has not reached changes nothing (R51). -/
theorem frameTrigger_early {m : Mach} (h : m.ltc.toNat < targetNs m.nextFrame) (bits : List (List Bool)) (rb : Nat)
    (late : List Bool) : m.frameTrigger bits rb late = m :=
  if_pos (by simp [frameDue, h])

theorem nextFrame_started {m : Mach} (h : m.fr.started = true) : m.nextFrame = m.fr.sec * 14400 + m.fr.fcnt + 1 := if_pos h

theorem nextFrame_first {m : Mach} (h : m.fr.started = false) : m.nextFrame = frameAt m.ltc.toNat := if_neg (by simp [h])

/-- FSEQ goes on by one from frame to frame, from 0 (R52). -/
theorem frameNumbers_fseq (m : Mach) : m.frameNumbers.fr.fseq = if m.fr.started then m.fr.fseq + 1 else 0 := rfl

/-- SEC and FCNT of the new frame are those of its number (R53). -/
theorem frameNumbers_sec (m : Mach) : m.frameNumbers.fr.sec = m.nextFrame / 14400 := rfl

theorem frameNumbers_fcnt (m : Mach) : m.frameNumbers.fr.fcnt = m.nextFrame % 14400 := rfl

/-- The cut-off is taken in a frame that has not had it, from 6 µs on, before the guard interval (R61). -/
theorem alignerCut_due {m : Mach} (hs : m.fr.started = true) (hg : m.fr.guard = false) (hc : m.fr.cutOff = false)
    (ht : 6000 ≤ m.tau) : m.alignerCut = ({ m with fr := { m.fr with cutOff := true } } : Mach).cutOff :=
  if_neg (by simp [hs, hg, hc, ht])

theorem alignerCut_idle {m : Mach} (h : m.fr.started = false ∨ m.fr.guard = true ∨ m.fr.cutOff = true ∨ m.tau < 6000) :
    m.alignerCut = m :=
  if_pos (by rcases h with h | h | h | h <;> simp [h])

end Mach

/-- Settles O11: a trigger due and one not due, the numbers of a later and of the first frame, the cut-off due and not due. -/
theorem frameTriggerAndCutOff : Obligations.FrameTriggerAndCutOff := by
  refine ⟨fun bits rb late => ?_, fun bits rb late => ?_, fun m h => ?_, fun m h => ?_, ?_, ?_⟩
  · exact ActsLive.of_live (fun _ => rfl) fun m _ hp => Mach.frameTrigger_due hp bits rb late
  · exact ActsLive.of_live (fun _ => rfl) fun m _ hp => Mach.frameTrigger_early hp bits rb late
  · rw [Mach.frameNumbers_fseq, Mach.frameNumbers_sec, Mach.frameNumbers_fcnt, Mach.nextFrame_started h, if_pos h]
    exact ⟨rfl, rfl, rfl, rfl, rfl⟩
  · rw [Mach.frameNumbers_fseq, Mach.frameNumbers_sec, Mach.frameNumbers_fcnt, Mach.nextFrame_first h, if_neg (by simp [h])]
    exact ⟨rfl, rfl, rfl⟩
  · exact Acts.of_awake (fun _ => rfl) fun m _ ⟨hs, hg, hc, ht⟩ => Mach.alignerCut_due hs hg hc ht
  · exact Acts.of_awake (fun _ => rfl) fun m _ hp => Mach.alignerCut_idle hp

end Sys2Proof.Machine
end

section
/-! Release, completion and deadline of the bay engines (R38, R39, R62, R63, R65, R75, R76, R79, R86, R131). -/

namespace Sys2Proof.Machine

namespace Mach

/-- By 8 µs, the cut-off past, the aligned set releases every enabled bay with its slots' samples (R62, R79, R131). -/
theorem alignedSet_due {m : Mach} (hs : m.fr.started = true) (hg : m.fr.guard = false) (hc : m.fr.cutOff = true)
    (hd : m.fr.setDone = false) (ht : m.tau ≤ 8000) :
    m.alignedSet =
      (let m := { m with fr := { m.fr with setDone := true } }
       forEach ((List.range 32).filter (fun b => (m.bay b).mode ≠ 0)) m (fun m b =>
         let (m, slots) := m.baySlots b
         let m := { m with acq := { m.acq with views := SMap.put m.acq.views b (slots.map (fun (s : Option Sample) => s.getD ⟨0, 0⟩)) } }
         m.release b slots)) := by
  rw [alignedSet, if_neg (by omega), alignerCut_idle (.inr (.inr (.inl hc))), alignedDo, if_neg (by simp [hs, hg, hc, hd])]

/-- The aligned set comes once in a frame. -/
theorem setDue_past {m : Mach} (hc : m.fr.cutOff = true) (hd : m.fr.setDone = true) : m.setDue = m := by
  have hset : m.alignedDo = m := if_pos (by simp [hd])
  rw [setDue, alignerCut_idle (.inr (.inr (.inl hc))), hset, ite_self]

/-- An engine completes the present frame of its bay, by 44 µs or with the deadline past: the results go into the buffer of the frame, and
count unless the deadline has passed (R38, R39, R65, R76). -/
theorem bayComplete_current {m : Mach} {e b : Nat} {i : BayIn} (hc : m.fr.cutOff = true) (hd : m.fr.setDone = true)
    (hb : m.bayOn e = some b) (ht : m.tau ≤ 44000 ∨ m.fr.deadline = true) (hf : m.fenced e = false)
    (hi : (m.bay b).comp = some i) (hq : i.fseq = m.fr.fseq) :
    m.bayComplete e =
      (let o := bayCompute b i (m.bay b).d
       let odd := i.fseq.getLsbD 0
       let ok := decide (m.tau ≤ 44000) && !m.fr.deadline
       let m := m.updBay b (fun x =>
         { x with d := o.d, comp := x.wait, wait := none, buf0 := if odd then x.buf0 else o.res, buf1 := if odd then o.res else x.buf1,
                  res := if ok then o.res else x.res, resOk := ok, late := if ok then false else x.late })
       let m := m.slackRec e (44000 - ((m.tau : Nat) : Int)) 36000
       (if o.emerg then m.emit .emergStart b else m).zeRelease) := by
  have hdl : (if 44000 < m.tau then m.bayDeadline else m) = m := by
    rcases ht with ht | ht
    · exact if_neg (by omega)
    · rw [bayDeadline_past ht, ite_self]
  have hslack : (0 ≤ (44000 : Int) - (m.tau : Int)) = (m.tau ≤ 44000) := propext (by omega)
  rw [bayComplete, setDue_past hc hd, hb]
  simp only [hdl, hf, hi, hq, hslack, decide_true, if_true, Bool.true_and, Bool.false_eq_true, if_false]
  rfl

/-- What the 44 µs deadline does to each enabled bay comes at the deadline, the aligned set past (R75). -/
theorem bayDeadline_due {m : Mach} (hs : m.fr.started = true) (hg : m.fr.guard = false) (hc : m.fr.cutOff = true)
    (hd : m.fr.setDone = true) (hl : m.fr.deadline = false) (ht : 44000 ≤ m.tau) : m.bayDeadline = m.bayDeadlineDo := by
  rw [bayDeadline, if_neg (by simp [hs, hg, hl, ht]), setDue_past hc hd]

end Mach

/-- BAY_FRAME_COMPLETE of an engine that exists. -/
theorem acts_bayFrameComplete {e : Nat} {P : Mach → Prop} {f : Mach → Mach} (hP : ∀ m, P m → e < 34)
    (h : ∀ m, P m → m.bayComplete e = f m) : Acts (.bayFrameComplete e) P f := by
  refine Acts.of_awake (F := Mach.only (wfEng e) fun m => m.bayComplete e) (fun _ => rfl) fun m _ hp => ?_
  rw [only_ok (by simp [wfEng, Nat.blt_eq, hP m hp]), h m hp]

/-- Settles O12: the aligned set, a frame completed in time and one completed late, and the deadline. -/
theorem bayEngineFrame : Obligations.BayEngineFrame := by
  refine ⟨?_, fun e b i => ?_, fun e b i => ?_, ?_⟩
  · exact Acts.of_awake (fun _ => rfl) fun m _ ⟨hs, hg, hc, hd, ht⟩ => Mach.alignedSet_due hs hg hc hd ht
  · refine acts_bayFrameComplete (fun _ hp => hp.1) fun m ⟨_, hc, hd, hb, ht, hl, hf, hi, hq⟩ => ?_
    simp only [Mach.bayComplete_current hc hd hb (.inl ht) hf hi hq, ht, hl, decide_true, Bool.not_false, Bool.and_true, if_true]
  · refine acts_bayFrameComplete (fun _ hp => hp.1) fun m ⟨_, hc, hd, hb, hl, hf, hi, hq⟩ => ?_
    simp only [Mach.bayComplete_current hc hd hb (.inr hl) hf hi hq, hl, Bool.not_true, Bool.and_false, Bool.false_eq_true, if_false]
  · exact Acts.of_awake (fun _ => rfl) fun m _ ⟨hs, hg, hc, hd, hl, ht⟩ => Mach.bayDeadline_due hs hg hc hd hl ht

end Sys2Proof.Machine
end

section
/-! The release of the stitch binding, and the zone engine judged at it (R81, R82, R86, R588, R803). -/

namespace Sys2Proof.Machine

namespace Mach

theorem Logs.fr_eq {m x : Mach} (h : Logs m x) : x.fr = m.fr := by
  obtain ⟨_, _, _, _, _, _, _, rfl, _, _⟩ := h
  rfl

theorem Logs.zone_eq {m x : Mach} (h : Logs m x) : x.zone = m.zone := by
  obtain ⟨_, _, _, _, _, _, _, rfl, _, _⟩ := h
  rfl

/-- Fencing a unit of the frame path later leaves the frame and the zone. -/
theorem fenceLater_fr_zone (m : Mach) (d : Nat) (src : ErrSrc) : (m.fenceLater d src).fr = m.fr ∧ (m.fenceLater d src).zone = m.zone := by
  unfold fenceLater
  split <;> exact ⟨rfl, rfl⟩

/-- An error against a unit of the frame path leaves the frame and the zone: its fence waits for the frame boundary (R84). -/
theorem domErr_fr_zone {d : Nat} (hd : d < 35) (m : Mach) (src : ErrSrc) :
    (m.domErr d src).fr = m.fr ∧ (m.domErr d src).zone = m.zone := by
  have hlog (x : Mach) : (x.emitW .domError d [wd src.code]).fr = x.fr ∧ (x.emitW .domError d [wd src.code]).zone = x.zone :=
    ⟨(Logs.emitT x _ _ _ _).fr_eq, (Logs.emitT x _ _ _ _).zone_eq⟩
  simp only [domErr, hd, if_true]
  split
  · exact ⟨rfl, rfl⟩
  · split
    · exact fenceLater_fr_zone _ d src
    · exact hlog _

/-- The lateness of the zone engine counted (R81). -/
def zeLateCount (m : Mach) : Mach :=
  ((({ m with fr := { m.fr with zeLate := true, lateInt := true },
              zone := { m.zone with lateCnt := m.zone.lateCnt + 1, late := true } } : Mach).updEng 34
    (fun x => { x with late := true, secLate := true })).bump .lateCnt F.lateCnt_LATE_FRAMES 1).domErr 34 .late

theorem zeLateCount_fseq (m : Mach) : m.zeLateCount.fr.fseq = m.fr.fseq := by
  rw [zeLateCount, (domErr_fr_zone (by decide) _ _).1, bump_fr]
  rfl

theorem zeLateCount_next (m : Mach) : m.zeLateCount.zone.next = m.zone.next := by
  rw [zeLateCount, (domErr_fr_zone (by decide) _ _).2, bump_zone]
  rfl

/-- A zone engine that is out, or has completed the frame, is not late. -/
theorem zeJudge_in_time {m : Mach} (h : m.zeOut = true ∨ m.fr.zeDone = true) :
    m.zeJudge = { m with zone := { m.zone with late := false } } :=
  if_pos (by simpa using h)

/-- A zone engine that has not completed the frame is late, and is fenced if the frame it still computes is an earlier one. -/
theorem zeJudge_late {m : Mach} (ho : m.zeOut = false) (hd : m.fr.zeDone = false) :
    m.zeJudge =
      (match m.zone.next with
       | some (_, r, _) => if r.fseq = m.fr.fseq then m.zeLateCount else m.zeLateCount.fenceNow 34 .late
       | none => m.zeLateCount) := by
  rw [zeJudge, if_neg (by simp [ho, hd]), ← zeLateCount_next, ← zeLateCount_fseq]
  rfl

/-- The binding step is released once in a frame, from 56 µs on; the binding of the frame before goes first (R82, R803). -/
theorem stitchBinding_due {m : Mach} (hs : m.fr.started = true) (hg : m.fr.guard = false) (hb : m.fr.binding = false)
    (hh : m.fr.bindHeld = false) (ht : 56000 ≤ m.tau) (hd : m.fr.deadline = true) (ha : m.fr.arcRead = true) :
    m.stitchBinding =
      (let m := m.zeJudge
       if m.fr.bindPend then { m with fr := { m.fr with bindHeld := true } } else m.bindGo) := by
  have harc : m.arcRead = m := if_pos (by simp [ha])
  rw [stitchBinding, if_neg (by simp [hs, hg, hb, hh, ht]), bayDeadline_past hd, harc]

end Mach

/-- Settles O14: the release due and not due, the zone engine judged in time, late, and late with an earlier frame, and the binding. -/
theorem stitchBindingBindsTheFrame : Obligations.StitchBindingBindsTheFrame := by
  refine ⟨?_, ?_, fun m h => Mach.zeJudge_in_time h, fun m ho hd hcur => ?_, fun m d r n ho hd hn hold => ?_, fun m => rfl⟩
  · exact Acts.of_awake (fun _ => rfl) fun m _ ⟨hs, hg, hb, hh, ht, hd, ha⟩ => Mach.stitchBinding_due hs hg hb hh ht hd ha
  · exact Acts.of_awake (fun _ => rfl) fun m _ h => Mach.stitchBinding_idle h
  · rw [Mach.zeJudge_late ho hd]
    cases hn : m.zone.next with
    | none => rfl
    | some x => exact if_pos (hcur _ _ _ hn)
  · rw [Mach.zeJudge_late ho hd, hn]
    exact if_neg hold

end Sys2Proof.Machine
end

section
/-! The VCORE loop and SRAM errors (R33, R34, R71 to R73, R701). -/

namespace Sys2Proof.Machine

namespace Mach

/-- The loop does nothing before it runs and before 144 frames have passed (R71, R72). -/
theorem vcoreTick_idle {m : Mach} (h : m.fr.vcoreOn = false ∨ m.fr.vcoreCnt < 144) : m.vcoreTick = m :=
  if_pos (by rcases h with h | h <;> simp [h])

/-- A new interval of the loop begins. -/
def vcoreAnew (m : Mach) : Mach := { m with fr := { m.fr with vcoreCnt := 0, worst := none, lateInt := false } }

/-- VCORE set, and told at its bounds. -/
def vcoreSet (m : Mach) (mv : Nat) : Mach :=
  ((m.setF .vcoreStat F.vcoreStat_VCORE_MV mv).setF .vcoreStat F.vcoreStat_AT_MAX (bit (decide (mv = 900)))).setF .vcoreStat
    F.vcoreStat_AT_MIN (bit (decide (mv = 700)))

/-- VCORE at its maximum does not give the slack asked for (R73). -/
def vcoreShort (m : Mach) : Mach :=
  ((m.setF .vcoreStat F.vcoreStat_AT_MAX_SHORT 1).updHlth (fun h => { h with atMaxShort := some m.mon })).emit .vcoreLimit 0

/-- The loop after an interval with a worst slack ratio, VCORE at mv (R71 to R73). -/
theorem vcoreTick_ratio {m : Mach} {r : Rat} {mv : Nat} (ho : m.fr.vcoreOn = true) (hc : 144 ≤ m.fr.vcoreCnt)
    (hw : m.fr.worst = some r) (hm : m.fld .vcoreStat F.vcoreStat_VCORE_MV = mv) :
    m.vcoreTick =
      (if mv = 900 ∧ r < 1 / 4 then m.vcoreAnew.vcoreShort else m.vcoreAnew).vcoreSet
        (if m.fr.lateInt = true ∨ r < 1 / 4 then min 900 (mv + 5) else if 35 / 100 ≤ r then max 700 (mv - 5) else mv) := by
  subst hm
  rw [vcoreTick, if_neg (by simp [ho, hc]), hw]
  simp only [Bool.or_eq_true, decide_eq_true_eq]
  rfl

/-- The loop after an interval without a slack (R71). -/
theorem vcoreTick_no_slack {m : Mach} (ho : m.fr.vcoreOn = true) (hc : 144 ≤ m.fr.vcoreCnt) (hw : m.fr.worst = none) :
    m.vcoreTick =
      (let mv := m.fld .vcoreStat F.vcoreStat_VCORE_MV
       m.vcoreAnew.vcoreSet (if m.fr.lateInt then min 900 (mv + 5) else mv)) := by
  rw [vcoreTick, if_neg (by simp [ho, hc]), hw]
  simp only [Bool.or_false, Bool.false_eq_true, and_false, if_false]
  rfl

/-- A corrected SRAM error in a region that a domain owns counts in the domain's window (R33). -/
theorem sramError_dom_corr {m : Mach} {r : SramRegion} {d : Nat} (ho : m.sramOwner r = .dom d) (hd : d < 132) :
    m.sramError r false = m.domErr d .eccCorr := by
  have hin : ¬132 ≤ d := Nat.not_le.mpr hd
  simp only [sramError, ho, if_neg hin, Bool.not_false, if_true]

/-- An uncorrectable one counts and fences the domain at once, a bay or juggler engine as a stall (R33, R701). -/
theorem sramError_dom_uncorr {m : Mach} {r : SramRegion} {d : Nat} (ho : m.sramOwner r = .dom d) (hd : d < 132) :
    m.sramError r true =
      (let x := m.dom d
       let m := m.setDom d { x with errs := m.inWindow x.errs ++ [m.mon], total := x.total + 1 }
       if d < 34 then m.engStall d .eccUncorr else m.fenceNow d .eccUncorr) := by
  have hin : ¬132 ≤ d := Nat.not_le.mpr hd
  simp only [sramError, ho, if_neg hin, Bool.not_true, Bool.false_eq_true, if_false]

/-- An SRAM error in a region of the RMC counts in its window, and lasts where it is uncorrectable. -/
theorem sramError_rmc {m : Mach} {r : SramRegion} (ho : m.sramOwner r = .rmc) (uncorr : Bool) :
    m.sramError r uncorr = if uncorr then (m.rmcErr 1).updHlth (fun h => { h with rmcLasting := true }) else m.rmcErr 1 := by
  rw [sramError, ho]

theorem sramError_sec {m : Mach} {r : SramRegion} (ho : m.sramOwner r = .sec) (uncorr : Bool) :
    m.sramError r uncorr = m.secErr 1 := by
  rw [sramError, ho]

end Mach

/-- SRAM_ECC_ERROR of a region that exists. -/
theorem acts_sramEccError {r : SramRegion} {u : Bool} {P : Mach → Prop} {f : Mach → Mach} (hP : ∀ m, P m → wfRegion r = true)
    (h : ∀ m, P m → m.sramError r u = f m) : Acts (.sramEccError r u) P f := by
  refine Acts.of_awake (F := Mach.only (wfRegion r) fun m => m.sramError r u) (fun _ => rfl) fun m _ hp => ?_
  rw [only_ok (hP m hp), h m hp]

/-- Settles O16: the loop by what its interval brought, then an SRAM error by who owns its region. -/
theorem vcoreStepAndSramErrors : Obligations.VcoreStepAndSramErrors := by
  refine ⟨fun r => ?_, fun r => ?_, ?_, ?_, fun r d => ?_, fun r d => ?_, fun r => ?_, fun r => ?_, fun r u => ?_, fun m e b t => ?_⟩
  · refine Acts.of_awake (fun _ => rfl) fun m _ ⟨ho, hc, hw, hmax⟩ => ?_
    rw [Mach.vcoreTick_ratio ho hc hw rfl, if_neg fun h => hmax h.2 h.1]
    rfl
  · refine Acts.of_awake (fun _ => rfl) fun m _ ⟨ho, hc, hw, hr, hmv⟩ => ?_
    rw [Mach.vcoreTick_ratio ho hc hw hmv, if_pos ⟨rfl, hr⟩, if_pos (.inr hr)]
    rfl
  · exact Acts.of_awake (fun _ => rfl) fun m _ ⟨ho, hc, hw⟩ => Mach.vcoreTick_no_slack ho hc hw
  · exact Acts.of_awake (fun _ => rfl) fun m _ h => Mach.vcoreTick_idle h
  · exact acts_sramEccError (fun _ hp => hp.1) fun m ⟨_, ho, hd⟩ => Mach.sramError_dom_corr ho hd
  · exact acts_sramEccError (fun _ hp => hp.1) fun m ⟨_, ho, hd⟩ => Mach.sramError_dom_uncorr ho hd
  · exact acts_sramEccError (fun _ hp => hp.1) fun m ⟨_, ho⟩ => Mach.sramError_rmc ho false
  · exact acts_sramEccError (fun _ hp => hp.1) fun m ⟨_, ho⟩ => Mach.sramError_rmc ho true
  · exact acts_sramEccError (fun _ hp => hp.1) fun m ⟨_, ho⟩ => Mach.sramError_sec ho u
  · exact ⟨rfl, rfl, rfl, rfl, rfl, rfl, rfl⟩

end Sys2Proof.Machine
end

section
/-! The acquisition chain's commands: one that acts on a part that exists, and a register write of an open session outside the command
interface's own addresses (R674, R685). -/

namespace Sys2Proof.Machine

/-- A command of a block past HARDWARE whose operand k names one of n parts. -/
theorem Acts.of_part {i : Instr} {k n : Nat} {P : Mach → Prop} {F f : Mach → Mach}
    (he : ∀ s, exec i s = onM (Mach.awake (Mach.only (Nat.blt k n) F)) s) (hk : ∀ m, P m → k < n) (h : ∀ m, P m → F m = f m) :
    Acts i P f :=
  Acts.of_awake he fun m _ hp => (only_ok (Nat.blt_eq.mpr (hk m hp)) F m).trans (h m hp)

/-- A command that writes a register of one of n parts: what the accepted write does. -/
theorem Acts.of_write {i : Instr} {k n ses : Nat} {x : Session} {r : Reg} {w : Word} {P : Mach → Prop} {f : Mach → Mach}
    (he : ∀ s, exec i s = onM (Mach.live (Mach.only (Nat.blt k n) fun m => m.hostPut ses r w)) s)
    (hq : Mach.endsUdp r.addr = false) (hP : ∀ m, P m → k < n ∧ m.mayWrite x ses r w)
    (h : ∀ m, P m → m.regPut { session := x.num, maint := x.maint } r w = f m) : Acts i P f :=
  Acts.of_live he fun m hu hp => by
    obtain ⟨hk, hw⟩ := hP m hp
    rw [only_ok (Nat.blt_eq.mpr hk), hostPut_ok hu hw hq, h m hp]

/-- No register of a block past the command interface's ends the UDP sessions (R674). -/
theorem Mach.endsUdp_past {base : Nat} (h : 0x20C < base) (ofs : Nat) : Mach.endsUdp (base + ofs) = false :=
  decide_eq_false fun ⟨_, ha⟩ => absurd ha (by omega)

end Sys2Proof.Machine
end

section
/-! Modulator clocks and ports (R30, R96, R97, R110, R145, R763, R806). -/

namespace Sys2Proof.Machine

namespace Mach

/-- A clock whose enable is changed loses LOCK, and shows so (R806). -/
def mclkChanged (m : Mach) (c : Nat) : Mach :=
  let m := m.setF .acqStat (mclkLockF c) 0
  (({ m with acq := { m.acq with pllLost := setFlag m.acq.pllLost c false } } : Mach).mclkPins).clkReset c

/-- A write of ACQ_CTRL acts on each clock whose enable it changes. -/
theorem mclkWritten_eq (m : Mach) (a b : Word) :
    m.mclkWritten a b =
      (let m := if F.acqCtrl_MCLK0_EN.get a = F.acqCtrl_MCLK0_EN.get b then m else m.mclkChanged 0
       if F.acqCtrl_MCLK1_EN.get a = F.acqCtrl_MCLK1_EN.get b then m else m.mclkChanged 1) := rfl

theorem regPut_acqCtrl (m : Mach) (who : Who) (w : Word) :
    m.regPut who .acqCtrl w = (m.stored .acqCtrl w).mclkWritten (m.rd .acqCtrl) (m.newWord .acqCtrl w) := rfl

/-- The PLL of an enabled clock without LOCK locks. -/
theorem mclkLock_due {m : Mach} {c : Nat} (he : m.mclkEn c = true) (hl : m.flag .acqStat (mclkLockF c) = false) :
    m.mclkLock c =
      (let m := m.setF .acqStat (mclkLockF c) 1
       let m := if m.acq.pllLost.getD c false then m.setF .acqStat (mclkRelockF c) 1 else m
       (({ m with acq := { m.acq with pllEver := setFlag m.acq.pllEver c true, pllLost := setFlag m.acq.pllLost c false } }
         : Mach).mclkPins).clkReset c) :=
  if_neg (by simp [he, hl])

theorem mclkLock_idle {m : Mach} {c : Nat} (h : m.mclkEn c = false ∨ m.flag .acqStat (mclkLockF c) = true) : m.mclkLock c = m :=
  if_pos (by simpa using h)

/-- The PLL of an enabled clock with LOCK loses it. -/
theorem mclkLoss_due {m : Mach} {c : Nat} (he : m.mclkEn c = true) (hl : m.flag .acqStat (mclkLockF c) = true) :
    m.mclkLoss c =
      (let m := m.setF .acqStat (mclkLockF c) 0
       (({ m with acq := { m.acq with pllLost := setFlag m.acq.pllLost c true } } : Mach).mclkPins).clkReset c) :=
  if_neg (by simp [he, hl])

theorem mclkLoss_idle {m : Mach} {c : Nat} (h : m.mclkEn c = false ∨ m.flag .acqStat (mclkLockF c) = false) : m.mclkLoss c = m :=
  if_pos (by simpa using h)

/-- A port at work that loses its transitions is STUCK, with an error of its domain. -/
theorem modStuck_due {m : Mach} {p : Nat} (he : m.portEn p = true) (hf : m.fenced (52 + p) = false) (hl : m.clkLocked p = true)
    (hs : (m.port p).st ≠ .stuck) (ho : (m.port p).st ≠ .off) :
    m.modStuck p =
      (let m := ((m.setF (.modStat p) F.modStat_STUCK_SEEN 1).emit .modStuck p).calAbort p .stuck
       (m.updPort p (fun y => { y with st := .stuck, left := 0, resetPend := false })).domErr (52 + p) .stuck) :=
  if_neg (by simp [he, hf, hl, hs, ho])

theorem modRecover_due {m : Mach} {p : Nat} (he : m.portEn p = true) (hf : m.fenced (52 + p) = false) (hs : (m.port p).st = .stuck) :
    m.modRecover p = m.updPort p (fun y => { y with left := 18, resetPend := true }) :=
  if_pos (by simp [he, hf, hs])

theorem modRecover_idle {m : Mach} {p : Nat} (h : m.portEn p = false ∨ m.fenced (52 + p) = true ∨ (m.port p).st ≠ .stuck) :
    m.modRecover p = m :=
  if_neg (by rcases h with h | h | h <;> simp [h])

/-- No calibration of a port, none to end. -/
theorem calAbort_none {m : Mach} {p : Nat} (h : (m.port p).cal = none) (st : PortSt) : m.calAbort p st = m :=
  if_pos (by simp [h])

theorem portReset_of_not_cal {m : Mach} {p : Nat} (h : (m.port p).cal = none) :
    m.portReset p = m.updPort p (fun y => { y with st := .settling, left := 18, resetPend := true }) := by
  rw [portReset, calAbort_none h]

theorem regPut_modCfg (m : Mach) (who : Who) (p : Nat) (w : Word) :
    m.regPut who (.modCfg p) w = (m.stored (.modCfg p) w).portWritten p (m.rd (.modCfg p)) (m.newWord (.modCfg p) w) := rfl

/-- A port enabled once ports run is reset. -/
theorem portWritten_enabled {m : Mach} {p : Nat} {old new : Word} (ho : F.modCfg_EN.get old = 0) (hn : F.modCfg_EN.get new = 1)
    (hr : 4 ≤ m.start.phase) (hf : m.fenced (52 + p) = false) : m.portWritten p old new = m.portReset p := by
  simp [portWritten, ho, hn, hr, hf]

/-- A port enabled before ports run, or fenced, takes no reset. -/
theorem portWritten_held {m : Mach} {p : Nat} {old new : Word} (ho : F.modCfg_EN.get old = 0) (hn : F.modCfg_EN.get new = 1)
    (h : m.start.phase < 4 ∨ m.fenced (52 + p) = true) : m.portWritten p old new = m := by
  rcases h with hr | hf
  · simp [portWritten, ho, hn, Nat.not_le.mpr hr]
  · simp [portWritten, ho, hn, hf]

theorem portWritten_disabled {m : Mach} {p : Nat} {old new : Word} (ho : F.modCfg_EN.get old = 1) (hn : F.modCfg_EN.get new = 0) :
    m.portWritten p old new =
      (m.calAbort p .off).updPort p (fun x => { x with st := .off, left := 0, resetPend := false, runFrames := 0 }) := by
  simp [portWritten, ho, hn]

/-- GAIN and OFFSET are stored, and nothing follows. -/
theorem regPut_modGain (m : Mach) (who : Who) (p : Nat) (w : Word) : m.regPut who (.modGain p) w = m.stored (.modGain p) w := rfl
theorem regPut_modOffset (m : Mach) (who : Who) (p : Nat) (w : Word) : m.regPut who (.modOffset p) w = m.stored (.modOffset p) w := rfl

/-- A write that breaks a rule refused with ST_STATE is refused, with this status or one before it in R685's order. -/
theorem firstBroken_of_state {l : Broken} {a : Nat} (h : (stState, a) ∈ l) : (firstBroken l).isSome = true :=
  List.findSome?_isSome_iff.mpr ⟨stState, by simp, List.find?_isSome.mpr ⟨_, h, by simp⟩⟩

/-- A rule of the acquisition block that a write breaks is among those it breaks. -/
theorem mem_broken_of_acq {m : Mach} {who : Who} {r : Reg} {w : Word} {e : Nat × Nat}
    (h : e ∈ m.brokenAcq r (m.rd r) (m.merged r w)) : e ∈ m.broken who r w := by
  simp only [broken, List.mem_append, h, true_or, or_true]

/-- GAIN of a port that an enabled bay maps is written in its calibration only (R145). -/
theorem regCheck_modGain_mapped {m : Mach} {p : Nat} (who : Who) (w : Word) (hm : m.portMapped p = true) (hs : (m.port p).st ≠ .cal) :
    (m.regCheck who (.modGain p) w).isSome = true := by
  have hrule : (stState, 0) ∈ m.brokenAcq (.modGain p) (m.rd (.modGain p)) (m.merged (.modGain p) w) := by
    simp [brokenAcq, ck, hm, hs]
  exact firstBroken_of_state (mem_broken_of_acq hrule)

end Mach

/-- MOD_PORT_ENABLE of a port that exists. -/
theorem acts_modPortEnable {ses p : Nat} {w : Word} {x : Session} {P : Mach → Prop} {f : Mach → Mach}
    (hP : ∀ m, P m → p < 16 ∧ m.mayWrite x ses (.modCfg p) w)
    (h : ∀ m, P m → (m.stored (.modCfg p) w).portWritten p (m.rd (.modCfg p)) (m.newWord (.modCfg p) w) = f m) :
    Acts (.modPortEnable ses p w) P f :=
  Acts.of_write (fun _ => rfl) (Mach.endsUdp_past (by decide) _) hP h

/-- Settles O17: the clocks by which enables a write changes and by what a PLL does, the ports by their state and the write. -/
theorem modulatorClocksAndPorts : Obligations.ModulatorClocksAndPorts := by
  refine ⟨⟨fun ses x w => ?_, fun m a b h0 h1 => ?_, fun m a b h0 h1 => ?_, fun m a b h0 h1 => ?_, fun c => ?_, fun c => ?_,
    fun c => ?_, fun c => ?_⟩, fun p => ?_, fun p => ?_, fun p => ?_, fun ses x p w => ?_, fun m p h => Mach.portReset_of_not_cal h,
    fun ses x p w => ?_, fun ses x p w => ?_, fun ses x p w => ?_, fun ses x p w => ?_,
    fun m who p w hm hs => Mach.regCheck_modGain_mapped who w hm hs⟩
  · exact Acts.of_live (fun _ => rfl) fun m hu hp => (hostPut_ok hu hp rfl).trans (m.regPut_acqCtrl _ w)
  · rw [Mach.mclkWritten_eq, if_pos h0, if_pos h1]
  · rw [Mach.mclkWritten_eq, if_neg h0, if_pos h1]
    rfl
  · rw [Mach.mclkWritten_eq, if_pos h0, if_neg h1]
    rfl
  · exact Acts.of_part (fun _ => rfl) (fun _ hp => hp.1) fun m ⟨_, he, hl⟩ => Mach.mclkLock_due he hl
  · exact Acts.of_part (fun _ => rfl) (fun _ hp => hp.1) fun m ⟨_, h⟩ => Mach.mclkLock_idle h
  · exact Acts.of_part (fun _ => rfl) (fun _ hp => hp.1) fun m ⟨_, he, hl⟩ => Mach.mclkLoss_due he hl
  · exact Acts.of_part (fun _ => rfl) (fun _ hp => hp.1) fun m ⟨_, h⟩ => Mach.mclkLoss_idle h
  · exact Acts.of_part (fun _ => rfl) (fun _ hp => hp.1) fun m ⟨_, he, hf, hl, hs, ho⟩ => Mach.modStuck_due he hf hl hs ho
  · exact Acts.of_part (fun _ => rfl) (fun _ hp => hp.1) fun m ⟨_, he, hf, hs⟩ => Mach.modRecover_due he hf hs
  · exact Acts.of_part (fun _ => rfl) (fun _ hp => hp.1) fun m ⟨_, h⟩ => Mach.modRecover_idle h
  · exact acts_modPortEnable (fun _ hp => ⟨hp.1, hp.2.1⟩) fun m ⟨_, _, ho, hn, hr, hf⟩ => Mach.portWritten_enabled ho hn hr hf
  · exact acts_modPortEnable (fun _ hp => ⟨hp.1, hp.2.1⟩) fun m ⟨_, _, ho, hn, h⟩ => Mach.portWritten_held ho hn h
  · exact acts_modPortEnable (fun _ hp => ⟨hp.1, hp.2.1⟩) fun m ⟨_, _, ho, hn⟩ => Mach.portWritten_disabled ho hn
  · exact Acts.of_write (r := .modGain p) (fun _ => rfl) (Mach.endsUdp_past (by decide) _) (fun _ hp => hp)
      fun m _ => m.regPut_modGain _ p w
  · exact Acts.of_write (r := .modOffset p) (fun _ => rfl) (Mach.endsUdp_past (by decide) _) (fun _ hp => hp)
      fun m _ => m.regPut_modOffset _ p w

end Sys2Proof.Machine
end

section
/-! Coefficients and the arming of their swap (R104 to R106). -/

namespace Sys2Proof.Machine

namespace Mach

theorem regPut_coefData (m : Mach) (who : Who) (w : Word) : m.regPut who .coefData w = m.coefPut w := rfl

theorem regReadAt_coefData (m : Mach) : (m.regReadAt .coefData).2 = m.coefNext := rfl

theorem regPut_swgCtrl (m : Mach) (who : Who) (g : Nat) (w : Word) :
    m.regPut who (.swgCtrl g) w = (m.stored (.swgCtrl g) w).swapWritten g (m.newWord (.swgCtrl g) w) := rfl

end Mach

/-- Settles O18: a coefficient put and the tap moved on, a read that only moves on, and the frame that an arming names. -/
theorem coefficientAccessAndSwap : Obligations.CoefficientAccessAndSwap := by
  refine ⟨fun ses x w => ?_, fun ses x => ?_, fun ses x g w => ?_⟩
  · exact Acts.of_live (fun _ => rfl) fun m hu hp => (hostPut_ok hu hp rfl).trans (m.regPut_coefData _ w)
  · exact Acts.of_live (fun _ => rfl) fun m hu hp => (hostGet_ok hu hp.1 hp.2).trans m.regReadAt_coefData
  · exact Acts.of_write (fun _ => rfl) (Mach.endsUdp_past (by decide) _) (fun _ hp => hp) fun m _ => m.regPut_swgCtrl _ g w

end Sys2Proof.Machine
end

section
/-! Sampled-value subscriptions (R115, R118, R123, R124, R534). -/

namespace Sys2Proof.Machine

namespace Mach

/-- An APDU of one to eight ASDUs is taken for the subscription that it names, and its latency kept (R115, R123). -/
theorem svApdu_taken {m : Mach} {ln mac appid n : Nat} {sim : Bool} {l : List Asdu} (hn : m.subFor false mac appid = some n)
    (hs : (m.sub n).st ≠ 0) (hf : m.fenced (68 + n) = false) (h0 : 0 < l.length) (h8 : l.length ≤ 8) :
    m.svApdu ln mac appid sim l =
      (let arr := m.svArrival ln
       let lats := (l.filter (fun a => m.svMatch n a)).map (fun a => (ratRound (arr - m.svInstant n arr a.smpCnt)).toNat)
       let m := forEach l m (fun m a => m.svAsdu n sim arr a)
       match lats with
       | [] => m
       | e :: r => m.updSub n (fun y => { y with latMax := max y.latMax (r.foldl min e) })) := by
  have hl : l ≠ [] := List.ne_nil_of_length_pos h0
  rw [svApdu, hn]
  exact if_neg (by simp [hs, hf, hl, h8])

theorem svApdu_unnamed {m : Mach} {mac appid : Nat} (h : m.subFor false mac appid = none) (ln : Nat) (sim : Bool) (l : List Asdu) :
    m.svApdu ln mac appid sim l = m := by
  rw [svApdu, h]

/-- A new value of the resampler: late after the cut-off of the frame that uses it, else kept (R118). -/
theorem resampleDone_new {m : Mach} {n : Nat} {k : Word} {e : SvEnt} (hs : (m.sub n).st ≠ 0) (hf : m.fenced (68 + n) = false)
    (hk : (m.sub n).ents.any (fun e => decide (e.fseq = k)) = false) (he : m.resample n k = some e) :
    m.resampleDone n k =
      (let d := sdiff32 m.fr.fseq (k + wd (m.fld .frmCfg F.frmCfg_D_ALIGN))
       if 0 < d ∨ (d = 0 ∧ m.fr.cutOff = true) then m.bump (.svsLateCnt n) F.svsLateCnt_LATE 1
       else m.updSub n (fun y => { y with ents := (e :: y.ents).take 64 })) := by
  rw [resampleDone, if_neg (by simp [hs, hf, hk]), he]

theorem resampleDone_none {m : Mach} {n : Nat} {k : Word}
    (h : (m.sub n).st = 0 ∨ m.fenced (68 + n) = true ∨ m.resample n k = none) : m.resampleDone n k = m := by
  rcases h with h | h | h
  · exact if_pos (.inl h)
  · exact if_pos (.inr (.inl h))
  · rw [resampleDone, h]
    exact ite_self m

/-- An OK subscription without a sample for STREAM_TMO is LOST, with an error of its domain (R124). -/
theorem svTimeout_due {m : Mach} {n : Nat} (hs : (m.sub n).st = 2)
    (ht : m.fld (.svsCfg n) F.svsCfg_STREAM_TMO * 100000 ≤ m.since (m.sub n).lastMon) :
    m.svTimeout n = ((m.updSub n (fun y => { y with st := 3, wasLost := true, run := 0 })).emit .svLost n).domErr (68 + n) .svLost :=
  if_pos ⟨hs, ht⟩

theorem svTimeout_idle {m : Mach} {n : Nat}
    (h : (m.sub n).st ≠ 2 ∨ m.since (m.sub n).lastMon < m.fld (.svsCfg n) F.svsCfg_STREAM_TMO * 100000) : m.svTimeout n = m :=
  if_neg fun ⟨hs, ht⟩ => h.elim (absurd hs) (fun hl => absurd ht (Nat.not_le.mpr hl))

theorem regPut_svsCfg (m : Mach) (who : Who) (n : Nat) (w : Word) :
    m.regPut who (.svsCfg n) w = (m.stored (.svsCfg n) w).svsWritten n (m.rd (.svsCfg n)) (m.newWord (.svsCfg n) w) := rfl

theorem subAdd_start (m : Mach) (d : Nat) : (m.subAdd d).start = m.start := by
  simp only [subAdd]
  split <;> rfl

/-- A subscription enabled is entered in the table, and is WAITING once subscriptions run (R534). -/
theorem svsWritten_enabled {m : Mach} {n : Nat} {old new : Word} (ho : F.svsCfg_EN.get old = 0) (hn : F.svsCfg_EN.get new = 1) :
    m.svsWritten n old new =
      (if m.start.phase < 4 then m.subAdd n
       else (m.subAdd n).updSub n (fun x => { x with st := 1, wasLost := false, hist := [], run := 0, ents := [] })) := by
  rw [svsWritten, ho, hn, ← subAdd_start m n]
  rfl

end Mach

/-- SV_APDU_RECEIVE on a lane that exists. -/
theorem acts_svApduReceive {ln mac appid : Nat} {sim : Bool} {l : List Asdu} {P : Mach → Prop} {f : Mach → Mach} (hP : ∀ m, P m → ln < 4)
    (h : ∀ m, P m → (if m.ethUp ln then m.svApdu ln mac appid sim l else m) = f m) : Acts (.svApduReceive ⟨ln, mac⟩ appid sim l) P f :=
  Acts.of_part (fun _ => rfl) hP h

/-- SV_SUBSCRIPTION_ENABLE that sets EN of a subscription that exists. -/
theorem acts_svSubscriptionEnable {ses n : Nat} {w : Word} {x : Session} {P : Mach → Prop} {f : Mach → Mach}
    (hP : ∀ m, P m → (n < 64 ∧ m.mayWrite x ses (.svsCfg n) w) ∧ F.svsCfg_EN.get (m.rd (.svsCfg n)) = 0 ∧
      F.svsCfg_EN.get (m.newWord (.svsCfg n) w) = 1)
    (h : ∀ m, P m → (let m := m.stored (.svsCfg n) w
      if m.start.phase < 4 then m.subAdd n
      else (m.subAdd n).updSub n (fun x => { x with st := 1, wasLost := false, hist := [], run := 0, ents := [] })) = f m) :
    Acts (.svSubscriptionEnable ses n w) P f :=
  Acts.of_write (fun _ => rfl) (Mach.endsUdp_past (by decide) _) (fun m hp => (hP m hp).1) fun m hp => by
    obtain ⟨-, ho, hn⟩ := hP m hp
    rw [Mach.regPut_svsCfg, Mach.svsWritten_enabled ho hn, ← h m hp]

/-- Settles O19: an APDU taken or not, the resampler's value, the loss of a stream, and EN set before and after subscriptions run. -/
theorem sampledValues : Obligations.SampledValues := by
  refine ⟨fun ln mac appid sim l n => ?_, fun ln mac appid sim l => ?_, fun n k e => ?_, fun n k => ?_, fun n => ?_, fun n => ?_,
    fun ses x n w => ?_, fun ses x n w => ?_⟩
  · exact acts_svApduReceive (fun _ hp => hp.1) fun m ⟨_, hu, hn, hs, hf, h0, h8⟩ => (if_pos hu).trans (Mach.svApdu_taken hn hs hf h0 h8)
  · refine acts_svApduReceive (fun _ hp => hp.1) fun m ⟨_, h⟩ => ?_
    rcases h with hu | hn
    · exact if_neg (by simp [hu])
    · rw [Mach.svApdu_unnamed hn, ite_self]
  · exact Acts.of_part (fun _ => rfl) (fun _ hp => hp.1) fun m ⟨_, hs, hf, hk, he⟩ => Mach.resampleDone_new hs hf hk he
  · exact Acts.of_part (fun _ => rfl) (fun _ hp => hp.1) fun m ⟨_, h⟩ => Mach.resampleDone_none h
  · exact Acts.of_part (fun _ => rfl) (fun _ hp => hp.1) fun m ⟨_, hs, ht⟩ => Mach.svTimeout_due hs ht
  · exact Acts.of_part (fun _ => rfl) (fun _ hp => hp.1) fun m ⟨_, h⟩ => Mach.svTimeout_idle h
  · exact acts_svSubscriptionEnable (x := x) (fun _ ⟨hn, hw, ho, he, _⟩ => ⟨⟨hn, hw⟩, ho, he⟩)
      fun m ⟨_, _, _, _, hr⟩ => if_neg (Nat.not_lt.mpr hr)
  · exact acts_svSubscriptionEnable (x := x) (fun _ ⟨hn, hw, ho, he, _⟩ => ⟨⟨hn, hw⟩, ho, he⟩) fun m ⟨_, _, _, _, hr⟩ => if_pos hr

end Sys2Proof.Machine
end

section
/-! A port's calibration measurement and the transient ring (R148, R149, R654). -/

namespace Sys2Proof.Machine

namespace Mach

/-- A measurement whose outputs are in stores its results and starts anew. -/
theorem calDone_complete {m : Mach} {p : Nat} {k : CalRun} (hk : (m.port p).cal = some k) (hn : 0 < k.n) (hf : k.n ≤ k.frames) :
    m.calDone p =
      (let m := m.setF (.modCalMean p) F.modCalMean_CAL_MEAN (toBits 32 (ratRound (((k.sum : Int) : Rat) / ((k.n : Nat) : Rat))))
       let m := (m.setF (.modCalRms p) F.modCalRms_CAL_RMS (sqrtRound k.sumSq k.n)).setF (.modStat p) F.modStat_CAL_DONE 1
       m.updPort p (fun x => { x with cal := some { k with n := m.fld .acqCtrl F.acqCtrl_CAL_FRAMES, sum := 0, sumSq := 0,
                                                             frames := 0 } })) := by
  rw [calDone, hk]
  exact if_neg (by omega)

/-- No measurement, or one that still wants outputs. -/
theorem calDone_idle {m : Mach} {p : Nat} (h : ∀ k, (m.port p).cal = some k → k.n = 0 ∨ k.frames < k.n) : m.calDone p = m := by
  unfold calDone
  split
  · rfl
  next k hk => exact if_pos (h k hk)

/-- The stopped ring is copied into the record that it belongs to, and starts again. -/
theorem trCopyDone_stopped {m : Mach} {n : Nat} (hs : m.recs.dr.trStopped = true) (hn : m.recs.dr.trRec = some n) :
    m.trCopyDone =
      (let d := m.recs.dr
       let sec : TrSection := d.trRing.map (fun p => (p.1, List.replicate (7200 - p.2.length) 0 ++ p.2))
       let first : Int := (d.trLast.toNat : Int) - 7199 * 62500 / 9 - 57210
       let put (r : DrRec) : DrRec :=
         if r.recNo = n then
           { r with tr := sec, trFirst := BitVec.ofInt 64 first, trPorts := bitsOf 16 (fun p => sec.any (fun x => x.1 = p)) }
         else r
       m.updDr (fun d => { d with
         stored := d.stored.map put
         run := d.run.map (fun (r : DrRun) => { r with body := put r.body })
         trRing := [], trStopped := false, trRec := none })) := by
  rw [trCopyDone]
  simp only [hs, hn, Bool.not_true, Bool.false_eq_true, if_false]

end Mach

/-- Settles O20: a measurement complete or not, the ring stopped or not, and its copy. -/
theorem calibrationAndTransientRing : Obligations.CalibrationAndTransientRing := by
  refine ⟨fun p k => ?_, fun p => ?_, ?_, ?_, fun n => ?_⟩
  · exact Acts.of_part (fun _ => rfl) (fun _ hp => hp.1) fun m ⟨_, hk, hn, hf⟩ => Mach.calDone_complete hk hn hf
  · exact Acts.of_part (fun _ => rfl) (fun _ hp => hp.1) fun m ⟨_, h⟩ => Mach.calDone_idle h
  · exact Acts.of_awake (fun _ => rfl) fun m _ h => if_pos h
  · exact Acts.of_awake (fun _ => rfl) fun m _ h => if_neg h
  · exact Acts.of_awake (fun _ => rfl) fun m _ ⟨hs, hn⟩ => Mach.trCopyDone_stopped hs hn

end Sys2Proof.Machine
end

section
/-! Register writes of a bay, and the clears they ask for (R158, R223, R251, R268, R269, R341). -/

namespace Sys2Proof.Machine

namespace Mach

theorem regPut_bayCtrl (m : Mach) (who : Who) (b : Nat) (w : Word) :
    m.regPut who (.bayCtrl b) w = (m.stored (.bayCtrl b) w).clrEnergyWritten b w := rfl

theorem regPut_bayMotCtrl (m : Mach) (who : Who) (b : Nat) (w : Word) :
    m.regPut who (.bayMotCtrl b) w = (m.stored (.bayMotCtrl b) w).motWritten b w := rfl

/-- BAYn_LATCH stores no word: the ones written, but those of latches set at that instant, ask for clears. -/
theorem regPut_bayLatch (m : Mach) (who : Who) (b : Nat) (w : Word) :
    m.regPut who (.bayLatch b) w = m.clearLatches b ((w &&& ~~~ m.fresh1Of (.bayLatch b)).toNat % 8) := rfl

/-- A write of BAYn_CTRL without CLR_ENERGY only stores. -/
theorem clrEnergyWritten_zero {w : Word} (h : F.bayCtrl_CLR_ENERGY.get w = 0) (m : Mach) (b : Nat) :
    m.clrEnergyWritten b w = m := if_pos h

theorem clrEnergyWritten_one {w : Word} (h : F.bayCtrl_CLR_ENERGY.get w ≠ 0) (m : Mach) (b : Nat) :
    m.clrEnergyWritten b w = m.updBay b (fun x => { x with clrEnergy := true }) := if_neg h

/-- Only THETA_RESET, bit 0 of BAYn_MOT_CTRL, is logged. -/
theorem motWritten_silent {w : Word} (h : (w.toNat % 8).testBit 0 = false) (m : Mach) (b : Nat) :
    m.motWritten b w = m.updBay b (fun x => { x with clrMot := x.clrMot ||| w.toNat % 8 }) := by
  simp only [motWritten, h, Bool.false_eq_true, if_false]

theorem motWritten_logged {w : Word} (h : (w.toNat % 8).testBit 0 = true) (m : Mach) (b : Nat) :
    m.motWritten b w = (m.emit .thetaReset b).updBay b (fun x => { x with clrMot := x.clrMot ||| w.toNat % 8 }) := by
  simp only [motWritten, h, if_true]

/-- In a bay that an engine computes, the marks wait for the frame that the engine computes next. -/
theorem clears_computed {x : Bay} (hm : x.mode ≠ 0) (hu : x.unprot = false) :
    Bay.clears x = { x with clrMot := 0, clrEnergy := false, clrMotNow := x.clrMotNow ||| x.clrMot,
                            clrEnergyNow := x.clrEnergyNow || x.clrEnergy } :=
  if_pos ⟨hm, by simp [hu]⟩

/-- In a bay that no engine computes, the marks, those that waited for a frame among them, are carried out. -/
theorem clears_uncomputed {x : Bay} (h : x.mode = 0 ∨ x.unprot = true) :
    Bay.clears x =
      (let y := { x with clrMot := 0, clrEnergy := false, clrMotNow := 0, clrEnergyNow := false,
                         d := { x.d with mot := x.d.mot.clear (x.clrMotNow ||| x.clrMot) } }
       if x.clrEnergyNow || x.clrEnergy then
         { y with d := { y.d with energy := [0, 0, 0, 0] }, pub := { y.pub with energy := [0, 0, 0, 0] } }
       else y) :=
  if_neg fun ⟨hm, hu⟩ => h.elim hm fun hx => by simp [hx] at hu

end Mach

/-- A write of BAYn_CTRL. -/
theorem acts_bayCtrl {i : Instr} {ses b : Nat} {x : Session} {w : Mach → Word} {P : Mach → Prop} {f : Mach → Mach}
    (he : ∀ s, exec i s = onM (Mach.live (Mach.only (Nat.blt b 32) fun m => m.hostPut ses (.bayCtrl b) (w m))) s)
    (hP : ∀ m, P m → b < 32 ∧ m.mayWrite x ses (.bayCtrl b) (w m))
    (h : ∀ m, P m → (m.stored (.bayCtrl b) (w m)).clrEnergyWritten b (w m) = f m) : Acts i P f :=
  Acts.of_live he fun m hu hp => by
    obtain ⟨hb, hw⟩ := hP m hp
    rw [only_ok (Nat.blt_eq.mpr hb), hostPut_ok hu hw (Mach.endsUdp_past (by decide) _), Mach.regPut_bayCtrl, h m hp]

/-- A write of BAYn_MOT_CTRL of a bay that exists. -/
theorem acts_bayMotCtrl {i : Instr} {ses b : Nat} {x : Session} {w : Word} {f : Mach → Mach}
    (he : ∀ s, exec i s = onM (Mach.live (Mach.only (Nat.blt b 32) fun m => m.hostPut ses (.bayMotCtrl b) w)) s)
    (h : ∀ m : Mach, (m.stored (.bayMotCtrl b) w).motWritten b w = f m) :
    Acts i (fun m => b < 32 ∧ m.mayWrite x ses (.bayMotCtrl b) w) f :=
  Acts.of_write he (Mach.endsUdp_past (by decide) _) (fun _ hp => hp) fun m _ => (m.regPut_bayMotCtrl _ b w).trans (h m)

/-- Settles O21: each write by what its register does with the word, the marks at a trigger by whether an engine computes the bay. -/
theorem bayRegisterWrites : Obligations.BayRegisterWrites := by
  refine ⟨fun ses x b k => ?_, fun ses x b => ?_, fun ses x b w => ?_, fun ses x b => ?_, fun ses x b => ?_, fun ses x b => ?_,
    fun x hm hu => Mach.clears_computed hm hu, fun x h => ?_, fun m => ⟨rfl, rfl, rfl⟩⟩
  · exact acts_bayCtrl (fun _ => rfl) (fun _ ⟨hb, _, hw, _⟩ => ⟨hb, hw⟩) fun m ⟨_, _, _, h0⟩ => Mach.clrEnergyWritten_zero h0 _ b
  · exact acts_bayCtrl (fun _ => rfl) (fun _ ⟨hb, hw, _⟩ => ⟨hb, hw⟩) fun m ⟨_, _, h1⟩ => Mach.clrEnergyWritten_one h1 _ b
  · exact Acts.of_write (fun _ => rfl) (Mach.endsUdp_past (by decide) _) (fun _ hp => hp) fun m _ => m.regPut_bayLatch _ b w
  · exact acts_bayMotCtrl (fun _ => rfl) fun m => Mach.motWritten_silent (by decide) _ b
  · exact acts_bayMotCtrl (fun _ => rfl) fun m => Mach.motWritten_silent (by decide) _ b
  · exact acts_bayMotCtrl (fun _ => rfl) fun m => Mach.motWritten_logged (by decide) _ b
  · rw [Mach.clears_uncomputed h]
    refine ⟨?_, fun he => ?_⟩
    · split <;> rfl
    · rw [if_pos he]
      exact ⟨rfl, rfl⟩

end Sys2Proof.Machine
end

section
/-! Field inputs: what samples alike leave of an input's state, and what its new state reports (R305, R373 to R382, R702). -/

namespace Sys2Proof.Machine

/-- A command whose operand k names one of n parts, on a block that may still be in its HARDWARE phase. -/
theorem ActsLive.of_part {i : Instr} {k n : Nat} {P : Mach → Prop} {F f : Mach → Mach}
    (he : ∀ s, exec i s = onM (Mach.live (Mach.only (Nat.blt k n) F)) s) (hk : ∀ m, P m → k < n) (h : ∀ m, P m → F m = f m) :
    ActsLive i P f :=
  ActsLive.of_live he fun m _ hp => (only_ok (Nat.blt_eq.mpr (hk m hp)) F m).trans (h m hp)

namespace Di

/-- Wire-break classes say nothing of the samples and the debounced state. -/
theorem classes_smp_deb (d : Di) (c k us : Nat) : (d.classes c k us).smp = d.smp ∧ (d.classes c k us).deb = d.deb := by
  unfold classes
  split <;> exact ⟨rfl, rfl⟩

theorem wire_smp_deb (d : Di) (n ua us : Nat) : (d.wire n ua us).smp = d.smp ∧ (d.wire n ua us).deb = d.deb := by
  unfold wire
  split
  · exact d.classes_smp_deb _ n us
  · split
    · exact ⟨rfl, rfl⟩
    · simp [classes_smp_deb]

/-- The last sample and the debounced state after n samples alike (R373, R377), whatever becomes of the wire-break and sink checks. -/
theorem samples_smp_deb (d : Di) (n mv ua us : Nat) (wb norm : Bool) :
    (d.samples n mv ua us wb norm).smp = d.next mv ua ∧
      (d.samples n mv ua us wb norm).deb =
        (if (if d.pulsed = true ∧ us ≠ 0 then (F.diCfg_DEB_US.get d.cfg + us - 1) / us else F.diCfg_DEB_US.get d.cfg) ≤
            (if d.next mv ua = d.smp then d.run + n else n) then d.next mv ua else d.deb) := by
  cases wb
  · exact ⟨rfl, rfl⟩
  · cases norm
    · exact ⟨rfl, rfl⟩
    · exact wire_smp_deb _ n ua us

/-- BREAK classes alone: they set BREAK at WB_TIME and never clear it. -/
theorem classes_brk_of_break {k : Nat} (hk : 0 < k) (d : Di) (us : Nat) :
    (d.classes 0 k us).brk = (d.brk || decide (F.diCfg_WB_TIME.get d.cfg * 10000 ≤ d.brkUs + k * us)) := by
  rw [classes, if_neg (Nat.ne_of_gt hk)]
  by_cases h : F.diCfg_WB_TIME.get d.cfg * 10000 ≤ d.brkUs + k * us
  · simp only [if_true, h, decide_true, Bool.or_true]
  · have hpos : ¬F.diCfg_WB_TIME.get d.cfg * 10000 ≤ 0 := by omega
    simp only [if_true, if_false, h, hpos, decide_false, Bool.or_false]

/-- Classes other than BREAK: they clear BREAK at a WB_TIME that is not 0 and never set it. -/
theorem classes_brk_of_ok {c k : Nat} (hk : 0 < k) (hc : 0 < c) (d : Di) (us : Nat) (ht : 0 < F.diCfg_WB_TIME.get d.cfg) :
    (d.classes c k us).brk = (d.brk && decide (d.okUs + k * us < F.diCfg_WB_TIME.get d.cfg * 10000)) := by
  rw [classes, if_neg (Nat.ne_of_gt hk)]
  have hc0 : c ≠ 0 := Nat.ne_of_gt hc
  have ht0 : ¬F.diCfg_WB_TIME.get d.cfg * 10000 ≤ 0 := by omega
  by_cases h : F.diCfg_WB_TIME.get d.cfg * 10000 ≤ d.okUs + k * us
  · simp only [if_neg hc0, if_neg ht0, if_pos h, Nat.not_lt.mpr h, decide_false, Bool.and_false]
  · simp only [if_neg hc0, if_neg ht0, if_neg h, Nat.lt_of_not_le h, decide_true, Bool.and_true]

end Di

namespace Mach

/-- One reading: what the terminal read before lasts until the reading begins. -/
theorem diTake_single (m : Mach) (x mv ua us : Nat) :
    m.diTake x [(mv, ua, us)] = (m.diRun x (m.di x).mv (m.di x).ua (usNs us)).diRun x mv ua 0 := by
  have hrest : usNs 0 + usNs us = usNs us := Nat.zero_add _
  simp only [diTake, List.foldl_nil, hrest]
  rfl

/-- Samples up to now are taken always: what was taken before ends no later. -/
theorem diRun_now (m : Mach) (x mv ua : Nat) :
    m.diRun x mv ua 0 =
      (let d := m.di x
       let n := m.sampled d 0 - m.sampled d (m.since d.takenMon)
       let e := { d with mv := mv, ua := ua, takenMon := m.mon }
       m.diPut x (if n = 0 then e
         else e.samples n mv ua (10 * m.fio.strobe) (m.flag (.diOpt x) F.diOpt_WB_EN) (decide (m.fio.band = 0)))) := by
  have hmon : m.mon - tm 0 = m.mon := BitVec.sub_zero _
  simp only [diRun, Nat.not_lt_zero, if_false, hmon]

theorem diReads_existing {x : Nat} (hx : x < 32) (m : Mach) (l : List (Nat × Nat × Nat)) : m.diReads x l = m.diTake x l :=
  if_neg (Nat.not_le.mpr hx)

/-- A condition of an input that was there before, or is not there now, has not come up. -/
theorem not_risen {new old : Bool} (h : new = false ∨ old = true) : (new && !old) = false := by
  rcases h with rfl | rfl <;> simp

variable {m : Mach} {x : Nat} {d : Di}

/-- BREAK alone changed. -/
theorem diPut_brk (hb : d.brk ≠ (m.di x).brk) (hs : d.sinkBad = false ∨ (m.di x).sinkBad = true)
    (hd : d.deb = false ∨ (m.di x).deb = true) :
    m.diPut x d = (m.updDi x (fun _ => d)).emit (if d.brk then .diBreak else .diBreakEnd) x := by
  simp [diPut, hb, not_risen hs, not_risen hd]

/-- The sink alone came out of band. -/
theorem diPut_sink (hb : d.brk = (m.di x).brk) (hs : d.sinkBad = true) (ho : (m.di x).sinkBad = false)
    (hd : d.deb = false ∨ (m.di x).deb = true) :
    m.diPut x d = (m.updDi x (fun _ => d)).domErr (48 + x / 8) .sink := by
  simp [diPut, hb, hs, ho, not_risen hd]

/-- A light sensor alone came ON. -/
theorem diPut_light (hb : d.brk = (m.di x).brk) (hs : d.sinkBad = false ∨ (m.di x).sinkBad = true)
    (hd : d.deb = true) (ho : (m.di x).deb = false) (hl : (m.updDi x (fun _ => d)).diLight x = true)
    (hf : (m.updDi x (fun _ => d)).diFenced x = false) :
    m.diPut x d =
      (let m := m.updDi x (fun _ => d); { m with zone := { m.zone with lightSet := m.zone.lightSet ||| 2 ^ x } }) := by
  simp [diPut, hb, not_risen hs, hd, ho, hl, hf]

end Mach

end Sys2Proof.Machine
end

section
/-! Diagnostics of the field outputs (R390, R396 to R401): when a scan and an observation are carried out. -/

namespace Sys2Proof.Machine

namespace Mach

theorem curSet_band (m : Mach) (cur : List Nat) : (m.curSet cur).fio.band = m.fio.band :=
  List.foldlRecOn (motive := fun r : Mach => r.fio.band = m.fio.band) _ _ rfl fun _ h _ _ => h

/-- The first scan, or one 10 ms after the last: the currents are taken whatever the band, the outputs examined in NORMAL. -/
theorem diagScan_due {m : Mach} (ht : ∀ t, m.fio.scanMon = some t → msNs 10 ≤ m.since t) (rbp rb0 rbOn : Nat) (cur : List Nat) :
    m.diagScan rbp rb0 rbOn cur =
      (let r := ({ m with fio := { m.fio with scanMon := some m.mon } } : Mach).curSet cur
       if m.fio.band ≠ 0 then r
       else forEach (List.range 16) r (fun m y =>
         if !m.cmdOn y then m.observe rbp rb0 y else if !m.conducts y then m else m.onCheck y (rbOn.testBit y))) := by
  cases hm : m.fio.scanMon with
  | none => simp [diagScan, hm, curSet_band]
  | some t => simp [diagScan, hm, curSet_band, Nat.not_lt.mpr (ht t hm)]

theorem diagScan_early {m : Mach} {t : Time} (hm : m.fio.scanMon = some t) (ht : m.since t < msNs 10) (rbp rb0 rbOn : Nat)
    (cur : List Nat) : m.diagScan rbp rb0 rbOn cur = m := by
  simp [diagScan, hm, ht]

/-- An observation that waited for 1 ms waits no longer, also outside NORMAL. -/
theorem changeObs_due {m : Mach} {y : Nat} {p : Nat × Time} (hf : m.fio.obsPend.find? (fun p => p.1 = y) = some p)
    (ht : msNs 1 ≤ m.since p.2) (rbp rb0 : Nat) :
    m.changeObs y rbp rb0 =
      (let m := { m with fio := { m.fio with obsPend := m.fio.obsPend.erase p } }
       if m.fio.band ≠ 0 then m
       else forEach ((List.range 16).filter (fun z => z ≠ y)) m (fun m z => if m.cmdOn z then m else m.observe rbp rb0 z)) := by
  simp only [changeObs, hf, if_neg (Nat.not_lt.mpr ht)]

theorem changeObs_idle {m : Mach} {y : Nat}
    (h : ∀ p, m.fio.obsPend.find? (fun p => p.1 = y) = some p → m.since p.2 < msNs 1) (rbp rb0 : Nat) :
    m.changeObs y rbp rb0 = m := by
  cases hf : m.fio.obsPend.find? (fun p => p.1 = y) with
  | none => simp only [changeObs, hf]
  | some p => simp only [changeObs, hf, if_pos (h p hf)]

end Mach

/-- A row that tells what an input's terminal has read. -/
theorem acts_readings {i : Instr} {x : Nat} {l : List (Nat × Nat × Nat)}
    (he : ∀ s, exec i s = onM (Mach.live (Mach.only (wfInp x) fun m => m.diReads x l)) s) :
    ActsLive i (fun _ => x < 32) (fun m => m.diTake x l) :=
  ActsLive.of_part he (fun _ hx => hx) fun m hx => Mach.diReads_existing hx m l

/-- Settles O23: the inputs by their sampling and what a new state reports, the outputs row by row. -/
theorem fieldInputsAndDiagnostics : Obligations.FieldInputsAndDiagnostics := by
  refine ⟨⟨fun x l => ?_, fun x l => ?_, fun x l => ?_, fun m x mv ua us => ?_, fun m x mv ua => ?_, fun d mv ua => ?_,
    fun d n mv ua us wb norm => ?_, fun d n mv ua us => ?_, fun old na => ?_, fun d k us hk => ?_, fun d c k us hk hc ht => ?_,
    fun m x d hb ho hs hd => ?_, fun m x d hb ho hs hd => ?_, fun m x d hb hs ho hd => ?_, fun m x d hb hs hd ho hl hf => ?_⟩,
    fun rbp rb0 rbOn cur => ?_, fun rbp rb0 rbOn cur => ?_, fun rbp rb0 rbOn cur t => ?_, fun y rbp rb0 p => ?_,
    fun y rbp rb0 => ?_, fun y us ma => ?_, fun y us ma => ?_, fun y => ?_, fun y => ?_, fun y us ma => ?_, fun y us ma => ?_,
    fun y us ma => ?_, fun y us ma => ?_⟩
  · exact acts_readings fun _ => rfl
  · exact acts_readings fun _ => rfl
  · exact acts_readings fun _ => rfl
  · exact m.diTake_single x mv ua us
  · exact m.diRun_now x mv ua
  · rfl
  · exact d.samples_smp_deb n mv ua us wb norm
  · rfl
  · rfl
  · exact Di.classes_brk_of_break hk d us
  · exact Di.classes_brk_of_ok hk hc d us ht
  · rw [Mach.diPut_brk (by simp [hb, ho]) hs hd, if_pos hb]
  · rw [Mach.diPut_brk (by simp [hb, ho]) hs hd, if_neg (by simp [hb])]
  · exact Mach.diPut_sink hb hs ho hd
  · exact Mach.diPut_light hb hs hd ho hl hf
  · exact ActsLive.of_live (fun _ => rfl) fun m _ ⟨ht, hb⟩ => (Mach.diagScan_due ht rbp rb0 rbOn cur).trans (if_neg fun hn => hn hb)
  · exact ActsLive.of_live (fun _ => rfl) fun m _ ⟨ht, hb⟩ => (Mach.diagScan_due ht rbp rb0 rbOn cur).trans (if_pos hb)
  · exact ActsLive.of_live (fun _ => rfl) fun m _ ⟨hm, ht⟩ => Mach.diagScan_early hm ht rbp rb0 rbOn cur
  · exact ActsLive.of_part (fun _ => rfl) (fun _ hp => hp.1) fun m ⟨_, hf, ht⟩ => Mach.changeObs_due hf ht rbp rb0
  · exact ActsLive.of_part (fun _ => rfl) (fun _ hp => hp.1) fun m ⟨_, h⟩ => Mach.changeObs_idle h rbp rb0
  · exact ActsLive.of_part (fun _ => rfl) (fun _ hp => hp.1) fun m ⟨hy, hus, hc⟩ => if_neg (by simp [hc]; omega)
  · exact ActsLive.of_part (fun _ => rfl) (fun _ hp => hp.1) fun m ⟨_, h⟩ => if_pos (by simpa using .inr h)
  · exact ActsLive.of_part (fun _ => rfl) (fun _ hp => hp.1) fun m ⟨hy, hh, hd, hc, hr, ht⟩ => if_neg (by simp [hh, hd, hc]; omega)
  · exact ActsLive.of_part (fun _ => rfl) (fun _ hp => hp.1) fun m ⟨_, h⟩ => if_pos (by simpa using .inr h)
  · exact ActsLive.of_part (fun _ => rfl) (fun _ hp => hp.1) fun m ⟨hy, hus, hma, hc, hb⟩ => if_neg (by simp [hc, hb]; omega)
  · exact ActsLive.of_part (fun _ => rfl) (fun _ hp => hp.1) fun m ⟨_, h⟩ => if_pos (by simpa using .inr h)
  · exact ActsLive.of_part (fun _ => rfl) (fun _ hp => hp.2.1) fun m ⟨hl, hy, hc⟩ => if_neg (by simp [hc]; omega)
  · exact ActsLive.of_part (fun _ => rfl) (fun _ hp => hp.1) fun m ⟨_, h⟩ => if_pos (h.imp_right fun hc => by simp [hc])

end Sys2Proof.Machine
end

section
/-! The instants of class A stitches, what is sent again, and the minimum times of demands (R326, R335, R336, R340, R347, R348, R354,
R356, R370). -/

namespace Sys2Proof.Machine

/-- TRIP_MIN_EXPIRY of a bay, or of the zone (32). -/
theorem acts_tripMinExpiry {b : Nat} {P : Mach → Prop} {f : Mach → Mach} (hP : ∀ m, P m → b ≤ 32)
    (h : ∀ m, P m → m.tripMinExpiry b = f m) : Acts (.tripMinExpiry b) P f :=
  Acts.of_part (n := 33) (fun _ => rfl) (fun m hp => Nat.lt_succ_of_le (hP m hp)) h

namespace Mach

variable {m : Mach} {id : Nat} {t : Stitch}

/-- At B of a stitch with participants whose PREPARE is sent, a unit that acts binds it or drops it. -/
theorem prepareDeadline_reached (ha : m.passive = false) (hf : m.stitch id = some t) (hp : t.parts ≠ []) (hs : t.prepSent = true)
    (hb : t.st ≠ .bound) (ht : t.b ≤ m.ltc) :
    m.prepareDeadline id =
      (if t.st = .prepared then
        if m.closeOk t then
          (m.updStitch id (fun x => { x with st := .bound, bindLtc := m.ltc })).bindA { t with st := .bound, bindLtc := m.ltc }
        else m.stitchDrop id 2
      else forEach (t.parts.filter (fun p => !p.2)) (m.stitchDrop id 3) (fun m p => match m.staOf p.1 with
        | some e => m.staErr e
        | none => m)) := by
  have hgo : ¬((m.passive : Prop) ∨ t.parts.isEmpty ∨ !t.prepSent ∨ t.st = .bound ∨ m.ltc < t.b) := by
    simp [ha, hp, hs, hb, BitVec.not_lt.mpr ht]
  rw [prepareDeadline, hf]
  refine (if_neg hgo).trans ?_
  cases hc : m.closeOk t <;> rfl

/-- A passive unit, a stitch of the unit's own, one whose PREPARE is not sent, one bound, and a time before B. -/
theorem prepareDeadline_idle
    (h : ∀ t, m.stitch id = some t → m.passive = true ∨ t.parts = [] ∨ t.prepSent = false ∨ t.st = .bound ∨ m.ltc < t.b) :
    m.prepareDeadline id = m := by
  unfold prepareDeadline
  split
  · rfl
  next t hf => exact if_pos (by simpa using h t hf)

/-- At T_C a unit that acts carries a bound stitch out, or drops a close that may not go on. -/
theorem commitInstant_reached (ha : m.passive = false) (hf : m.stitch id = some t) (hb : t.st = .bound) (ht : t.tc ≤ m.ltc) :
    m.commitInstant id =
      (if m.closeOk t then
        let a := (t.acts.filter (fun a => !a.isRemote)).foldl (Mach.doAct id (m.stitchTest t) (m.stitchDrive t.bay)) (m, [])
        ((a.1.gooseFlush a.2).doSync).finishA t
      else m.stitchDrop id 2) := by
  have hgo : ¬((m.passive : Prop) ∨ t.st ≠ .bound ∨ m.ltc < t.tc) := by simp [ha, hb, BitVec.not_lt.mpr ht]
  rw [commitInstant, hf]
  refine (if_neg hgo).trans ?_
  cases hc : m.closeOk t <;> rfl

theorem commitInstant_idle (h : ∀ t, m.stitch id = some t → m.passive = true ∨ t.st ≠ .bound ∨ m.ltc < t.tc) :
    m.commitInstant id = m := by
  unfold commitInstant
  split
  · rfl
  next t hf => exact if_pos (h t hf)

/-- A selection that has waited SEL_TMO for its operation. -/
theorem selTimeout_due (hf : m.stitch id = some t) (ho : t.st = .opened) (hc : t.obj.isSome = true)
    (ht : t.selTmo * 1000000000 ≤ m.since t.castMon) : m.selTimeout id = m.stitchDrop id 8 := by
  rw [selTimeout, hf]
  exact if_pos ⟨ho, hc, ht⟩

theorem selTimeout_idle
    (h : ∀ t, m.stitch id = some t → t.st ≠ .opened ∨ t.obj = none ∨ m.since t.castMon < t.selTmo * 1000000000) :
    m.selTimeout id = m := by
  unfold selTimeout
  split
  · rfl
  next t hf =>
    refine if_neg fun ⟨ho, hc, ht⟩ => ?_
    rcases h t hf with hn | hn | hn
    · exact hn ho
    · simp [hn] at hc
    · exact absurd ht (Nat.not_le.mpr hn)

/-- An ABORT goes to every participant again, once 250 µs have passed since it was sent. -/
theorem abortRepeat_due {a : AbortRep} (hf : m.stu.aborts.find? (fun a => a.stitch = id) = some a) (hc : m.ltc < a.tc)
    (ht : usNs 250 ≤ m.since a.lastMon) :
    m.abortRepeat id =
      (let m := forEach a.parts m (fun m p => m.glxTo p.1 32 0x33 p.2 id [])
       { m with stu := { m.stu with
           aborts := m.stu.aborts.map (fun x => if x.stitch = id then { x with lastMon := m.mon } else x) } }) := by
  rw [abortRepeat, hf]
  exact (if_neg (BitVec.not_le.mpr hc)).trans (if_neg (Nat.not_lt.mpr ht))

/-- From T_C on an ABORT is not sent any more. -/
theorem abortRepeat_ends {a : AbortRep} (hf : m.stu.aborts.find? (fun a => a.stitch = id) = some a) (hc : a.tc ≤ m.ltc) :
    m.abortRepeat id = { m with stu := { m.stu with aborts := m.stu.aborts.filter (fun x => x.stitch ≠ id) } } := by
  rw [abortRepeat, hf]
  exact if_pos hc

theorem abortRepeat_idle
    (h : ∀ a, m.stu.aborts.find? (fun a => a.stitch = id) = some a → m.ltc < a.tc ∧ m.since a.lastMon < usNs 250) :
    m.abortRepeat id = m := by
  unfold abortRepeat
  split
  · rfl
  next a hf =>
    obtain ⟨hc, ht⟩ := h a hf
    rw [if_neg (BitVec.not_le.mpr hc), if_pos ht]

variable {d p : Nat}

/-- A remote command that nobody has acknowledged for 250 µs: sent again, or 250 µs after its 20th
transmission given up (R335, R336; log entry 36). -/
theorem remoteRepeat_due {c : RemCmd} (hf : m.stu.cmds.find? (fun c => decide (c.devid = d ∧ c.point = p)) = some c)
    (ht : usNs 250 ≤ m.since c.lastMon) :
    m.remoteRepeat d p =
      (if c.sent < 20 then
        let m := m.glxTo d (32 + if c.test then 64 else 0) 0x20 c.seq c.stitch (glxCmds [(p, c.val)])
        { m with stu := { m.stu with cmds := m.stu.cmds.map (fun x =>
            if x.devid = d ∧ x.point = p then { x with sent := x.sent + 1, lastMon := m.mon } else x) } }
      else
        let m := { m with stu := { m.stu with cmds := m.stu.cmds.filter (fun x => !(decide (x.devid = d ∧ x.point = p))) } }
        let m := ((m.setRemote c.stitch 3).emit .remoteNoack d).bump .stuCntNoack F.stuCntNoack_COUNT 1
        match m.staOf d with
        | some e => m.staErr e
        | none => m) := by
  rw [remoteRepeat, hf]
  exact if_neg (Nat.not_lt.mpr ht)

theorem remoteRepeat_idle
    (h : ∀ c, m.stu.cmds.find? (fun c => decide (c.devid = d ∧ c.point = p)) = some c → m.since c.lastMon < usNs 250) :
    m.remoteRepeat d p = m := by
  unfold remoteRepeat
  split
  · rfl
  next c hf => exact if_pos (h c hf)

/-- A bay's demands that have lasted their minimum time. -/
theorem tripMinExpiry_bay {b : Nat} (hb : b < 32) :
    m.tripMinExpiry b = m.updBay b (fun x => { x with
      dBrk := Demand.expire m x.dBrk, dXfer := Demand.expire m x.dXfer,
      dOut := x.dOut.map (fun p => (p.1, Demand.expire m p.2)) }) :=
  (if_neg (Nat.ne_of_lt hb)).trans (if_neg (Nat.lt_asymm hb))

/-- A demand is held no longer than its minimum time; nothing else of it changes. -/
theorem Demand.expire_eq (m : Mach) (d : Demand) :
    Demand.expire m d = { d with held := d.held && decide (m.since d.onMon < msNs d.tmin) } := by
  by_cases ht : msNs d.tmin ≤ m.since d.onMon
  · simp [Demand.expire, ht, Nat.not_lt.mpr ht]
  · simp [Demand.expire, ht, Nat.lt_of_not_le ht]

end Mach

/-- Settles O22: the instants B, T_C and SEL_TMO of a stitch, the ABORT, the remote command, and the demands, each due and not due. -/
theorem stitchInstantsAndRepetitions : Obligations.StitchInstantsAndRepetitions := by
  refine ⟨⟨fun id t => ?_, fun id t => ?_, fun id => ?_, fun id t => ?_, fun id => ?_, fun id t => ?_, fun id => ?_⟩,
    fun id a => ?_, fun id a => ?_, fun id => ?_, fun d p c => ?_, fun d p c => ?_, fun d p => ?_, fun b => ?_, ?_,
    Mach.Demand.expire_eq⟩
  · exact Acts.of_awake (fun _ => rfl) fun m _ ⟨ha, hf, hp, hs, hst, ht⟩ =>
      (Mach.prepareDeadline_reached ha hf hp hs (by simp [hst]) ht).trans (if_pos hst)
  · exact Acts.of_awake (fun _ => rfl) fun m _ ⟨ha, hf, hp, hs, hst, hb, ht⟩ =>
      (Mach.prepareDeadline_reached ha hf hp hs hb ht).trans (if_neg hst)
  · exact Acts.of_awake (fun _ => rfl) fun m _ h => Mach.prepareDeadline_idle h
  · exact Acts.of_awake (fun _ => rfl) fun m _ ⟨ha, hf, hb, ht⟩ => Mach.commitInstant_reached ha hf hb ht
  · exact Acts.of_awake (fun _ => rfl) fun m _ h => Mach.commitInstant_idle h
  · exact Acts.of_awake (fun _ => rfl) fun m _ ⟨hf, ho, hc, ht⟩ => Mach.selTimeout_due hf ho hc ht
  · exact Acts.of_awake (fun _ => rfl) fun m _ h => Mach.selTimeout_idle h
  · exact Acts.of_awake (fun _ => rfl) fun m _ ⟨hf, hc, ht⟩ => Mach.abortRepeat_due hf hc ht
  · exact Acts.of_awake (fun _ => rfl) fun m _ ⟨hf, hc⟩ => Mach.abortRepeat_ends hf hc
  · exact Acts.of_awake (fun _ => rfl) fun m _ h => Mach.abortRepeat_idle h
  · exact Acts.of_awake (fun _ => rfl) fun m _ ⟨hf, hn, ht⟩ => (Mach.remoteRepeat_due hf ht).trans (if_pos hn)
  · exact Acts.of_awake (fun _ => rfl) fun m _ ⟨hf, hn, ht⟩ => (Mach.remoteRepeat_due hf ht).trans (if_neg (Nat.not_lt.mpr hn))
  · exact Acts.of_awake (fun _ => rfl) fun m _ h => Mach.remoteRepeat_idle h
  · exact acts_tripMinExpiry (fun _ hb => Nat.le_of_lt hb) fun m hb => Mach.tripMinExpiry_bay hb
  · exact acts_tripMinExpiry (fun _ _ => Nat.le_refl _) fun m _ => rfl

end Sys2Proof.Machine
end

section
/-! GLX frames of a stitch's participants, coalesced reports, BEACON and the supervision of nodes (R347, R348, R530, R559, R560,
R568 to R570). -/

namespace Sys2Proof.Machine

/-- A frame that comes on a lane that is UP. -/
theorem Acts.of_lane {i : Instr} {l : Nat} {P : Mach → Prop} {F f : Mach → Mach}
    (he : ∀ s, exec i s = onM (Mach.awake (Mach.onLane l F)) s) (hP : ∀ m, P m → m.rxUp l = true) (h : ∀ m, P m → F m = f m) : Acts i P f :=
  Acts.of_awake he fun m _ hp => (if_pos (hP m hp)).trans (h m hp)

namespace Mach

variable {m : Mach} {h : GlxHdr} {p : List Byte} {s : Stitch} {e k : Nat}

/-- On a lane that is not UP, or with no effect of its own, a frame does nothing. -/
theorem onLane_idle {l : Nat} {F : Mach → Mach} (h : m.rxUp l = false ∨ F m = m) : onLane l F m = m := by
  rcases h with hu | hF
  · exact if_neg (by simp [hu])
  · rw [onLane, hF, ite_self]

/-- A frame that the checks of R548 take has its effect. -/
theorem glxIn_taken {typ : Nat} (ht : m.glxTakes h typ p) (f : Mach → Mach) : m.glxIn h typ p f = f m := by
  obtain ⟨-, hon, hok⟩ := ht
  simp [glxIn, hon, hok]

/-- A READY of a participant before B of its STAGED stitch is recorded; the last prepares the stitch. -/
theorem glxReady_recorded (ht : m.glxTakes h 0x31 p) (he : m.glxFrom h = some e) (he' : (m.staHeard e).glxFrom h = some e)
    (hs : (m.staHeard e).stitch h.stitch = some s) (hp : s.prepSent = true) (hst : s.st = .staged) (hb : m.ltc < s.b) :
    m.glxReady h p =
      (let parts := s.parts.map (fun x => if x.1 = h.src then (x.1, true) else x)
       (m.staHeard e).updStitch h.stitch (fun x => { x with parts := parts, st := if parts.all (·.2) then .prepared else x.st })) := by
  have hb' : ¬s.b ≤ (m.staHeard e).ltc := BitVec.not_le.mpr hb
  simp only [glxReady, glxIn_taken ht, he, hs]
  exact if_neg (by simp [he', hp, hst, hb'])

/-- A READY that no stitch of the unit waits for. -/
theorem glxReady_heard (ht : m.glxTakes h 0x31 p) (he : m.glxFrom h = some e)
    (hs : ∀ s, (m.staHeard e).stitch h.stitch = some s → s.prepSent = false ∨ s.st ≠ .staged ∨ s.b ≤ m.ltc) :
    m.glxReady h p = m.staHeard e := by
  simp only [glxReady, glxIn_taken ht, he]
  split
  · rfl
  next s hf =>
    have hn : s.prepSent = false ∨ s.st ≠ .staged ∨ s.b ≤ (m.staHeard e).ltc := hs s hf
    refine if_pos ?_
    rcases hn with hn | hn | hn <;> simp [hn]

/-- A REFUSE of a participant drops its STAGED stitch. -/
theorem glxRefuse_drops (ht : m.glxTakes h 0x32 p) (he : m.glxFrom h = some e) (he' : (m.staHeard e).glxFrom h = some e)
    (hs : (m.staHeard e).stitch h.stitch = some s) (hp : s.prepSent = true) (hst : s.st = .staged)
    (ha : s.parts.any (fun x => decide (x.1 = h.src)) = true) : m.glxRefuse h p = (m.staHeard e).stitchDrop h.stitch 4 := by
  simp only [glxRefuse, glxIn_taken ht, he, hs]
  exact if_pos (by rw [he', hp, hst, ha]; rfl)

/-- A REFUSE of another sender, or of a stitch in another state. -/
theorem glxRefuse_heard (ht : m.glxTakes h 0x32 p) (he : m.glxFrom h = some e)
    (hs : ∀ s, (m.staHeard e).stitch h.stitch = some s →
      s.prepSent = false ∨ s.st ≠ .staged ∨ s.parts.any (fun x => decide (x.1 = h.src)) = false) :
    m.glxRefuse h p = m.staHeard e := by
  simp only [glxRefuse, glxIn_taken ht, he]
  split
  · rfl
  next s hf =>
    refine if_neg ?_
    rcases hs s hf with hn | hn | hn
    · simp [hn]
    · simp [hn]
    · rw [hn, Bool.and_false]
      exact Bool.false_ne_true

/-- An ACK of one command: the first of the sender's, of that point and stitch, if there is one (R559; log entry 36). -/
theorem glxAck_one (ht : m.glxTakes h 0x21 p) (he : m.glxFrom h = some e) (h1 : beAt p 0 1 = 1) :
    m.glxAck h p =
      (match (m.staHeard e).stu.cmds.find? (fun c => decide (c.devid = h.src ∧ c.point = beAt p 4 2 ∧ c.stitch = h.stitch)) with
      | none => m.staHeard e
      | some c =>
        let m := m.staHeard e
        let m := ({ m with stu := { m.stu with cmds := m.stu.cmds.erase c } } : Mach).setRemote c.stitch 1
        if beAt p 6 2 = 0 then m else m.emitW .remoteRefused e [wd (beAt p 6 2)]) := by
  simp only [glxAck, glxIn_taken ht, he, h1]
  rfl

/-- A REPORT counts in the open entry of its key that is not due. -/
theorem glxReport_counts {c : Coal} (ht : m.glxTakes h 0x40 p) (he : m.glxFrom h = none)
    (hc : m.coalOf (beAt p 0 2) (beAt p 2 2) = some (k, c)) (hd : m.coalDue c = false) :
    m.glxReport h p = m.updNet (fun n => { n with coal := SMap.put n.coal k { c.count1 (m.staOf h.src) with
      lastLtc := m.ltc, lastMon := m.mon } }) := by
  simp [glxReport, glxIn_taken ht, he, hc, hd]

/-- A REPORT of a key without an entry opens one in the first free place, and is logged. -/
theorem glxReport_opens (ht : m.glxTakes h 0x40 p) (he : m.glxFrom h = none) (hc : m.coalOf (beAt p 0 2) (beAt p 2 2) = none)
    (hk : (List.range 128).find? (fun k => (SMap.get? m.net.coal k).isNone) = some k) :
    m.glxReport h p =
      (let c : Coal := { code := beAt p 0 2, subject := beAt p 2 2, firstLtc := m.ltc, lastLtc := m.ltc, lastMon := m.mon,
                         count := 0, nOther := 0, bitmap := [], reporter := h.src }
       ((m.updNet (fun n => { n with coal := SMap.put n.coal k (c.count1 (m.staOf h.src)) })).coalStat).emitW .staReport h.src
         [wd (beAt p 0 2 * 65536 + beAt p 2 2), wd h.src, wd (beAt p 4 4)]) := by
  simp [glxReport, glxIn_taken ht, he, hc, hk]

theorem coalCloseDue_single {c : Coal} (hc : m.net.coal.filter (fun p => m.coalDue p.2) = [(k, c)]) :
    m.coalCloseDue = m.coalClose k c := by
  rw [coalCloseDue, hc]
  rfl

theorem coalCloseDue_none (hc : m.net.coal.filter (fun p => m.coalDue p.2) = []) : m.coalCloseDue = m := by
  rw [coalCloseDue, hc]
  rfl

/-- The first BEACON, or one 5 ms after the last. -/
theorem beaconDue_due (ht : ∀ t, m.net.beaconLast = some t → msNs 5 ≤ m.since t) :
    m.beaconDue = (m.updNet (fun n => { n with beaconLast := some m.mon })).beacon := by
  cases hl : m.net.beaconLast with
  | none => simp [beaconDue, hl]
  | some t => simp [beaconDue, hl, ht t hl]

theorem beaconDue_early {t : Time} (hl : m.net.beaconLast = some t) (ht : m.since t < msNs 5) : m.beaconDue = m := by
  simp [beaconDue, hl, Nat.not_le.mpr ht]

/-- Under PRP or HSR a supervision frame leaves L0 and L1 once LIFE_MS has passed. -/
theorem prpSupSend_due (hd : m.dual = true) (ht : msNs (m.fld .prpCfg F.prpCfg_LIFE_MS) ≤ m.since m.net.prpLast) :
    m.prpSupSend =
      forEach ([0, 1].filter m.ethUp) (m.updNet (fun x => { x with prpLast := m.mon, prpSeq := (m.net.prpSeq + 1) % 65536 }))
        (fun y l => y.txPut l (y.tagClass none) 70 (.prpSup m.net.prpSeq l) .plain) :=
  if_neg (by simp [hd, ht])

theorem prpSupSend_idle (h : m.dual = false ∨ m.since m.net.prpLast < msNs (m.fld .prpCfg F.prpCfg_LIFE_MS)) : m.prpSupSend = m :=
  if_pos (by simpa using h)

/-- The table of nodes after a supervision frame of node n. -/
theorem prpSupRecv_dual (hd : m.dual = true) (n : Nat) :
    m.prpSupRecv n =
      (let x := if m.net.nodes.any (fun p => p.1 = n) then m.net.nodes.map (fun p => if p.1 = n then (n, m.mon) else p)
        else if m.net.nodes.length < 512 then m.net.nodes ++ [(n, m.mon)] else m.net.nodes
       (m.updNet (fun y => { y with nodes := x })).wr (.prp 5) (wd x.length)) :=
  if_neg (by simp [hd])

theorem prpSupRecv_single (hd : m.dual = false) (n : Nat) : m.prpSupRecv n = m :=
  if_pos (by simp [hd])

end Mach

/-- Settles O39: READY, REFUSE and ACK by whether they concern the unit's stitch or command, REPORT and the closing of entries, BEACON and
supervision due and not due, and the table of nodes. -/
theorem partnersAndReports : Obligations.PartnersAndReports := by
  refine ⟨fun h p s e => ?_, fun h p e => ?_, fun h p s e => ?_, fun h p e => ?_, fun h p e c => ?_, fun h p e => ?_,
    fun h p k c => ?_, fun h p k => ?_, fun k c => ?_, ?_, fun m k c hn => ?_, ?_, fun t => ?_, ?_, ?_, fun l n => ?_,
    fun l n => ?_, fun l n => ?_, fun n => ?_⟩
  · exact Acts.of_lane (fun _ => rfl) (fun _ ⟨ht, _⟩ => ht.1) fun m ⟨ht, he, he', hs, hp, hst, hb⟩ =>
      Mach.glxReady_recorded ht he he' hs hp hst hb
  · exact Acts.of_lane (fun _ => rfl) (fun _ ⟨ht, _⟩ => ht.1) fun m ⟨ht, he, hs⟩ => Mach.glxReady_heard ht he hs
  · exact Acts.of_lane (fun _ => rfl) (fun _ ⟨ht, _⟩ => ht.1) fun m ⟨ht, he, he', hs, hp, hst, ha⟩ =>
      Mach.glxRefuse_drops ht he he' hs hp hst ha
  · exact Acts.of_lane (fun _ => rfl) (fun _ ⟨ht, _⟩ => ht.1) fun m ⟨ht, he, hs⟩ => Mach.glxRefuse_heard ht he hs
  · refine Acts.of_lane (fun _ => rfl) (fun _ ⟨ht, _⟩ => ht.1) fun m ⟨ht, he, h1, hc⟩ => ?_
    rw [Mach.glxAck_one ht he h1, hc]
  · refine Acts.of_lane (fun _ => rfl) (fun _ ⟨ht, _⟩ => ht.1) fun m ⟨ht, he, h1, hc⟩ => ?_
    rw [Mach.glxAck_one ht he h1, hc]
  · exact Acts.of_lane (fun _ => rfl) (fun _ ⟨ht, _⟩ => ht.1) fun m ⟨ht, he, hc, hd⟩ => Mach.glxReport_counts ht he hc hd
  · exact Acts.of_lane (fun _ => rfl) (fun _ ⟨ht, _⟩ => ht.1) fun m ⟨ht, he, hc, hk⟩ => Mach.glxReport_opens ht he hc hk
  · exact Acts.of_awake (fun _ => rfl) fun m _ hc => Mach.coalCloseDue_single hc
  · exact Acts.of_awake (fun _ => rfl) fun m _ hc => Mach.coalCloseDue_none hc
  · exact if_neg (Nat.not_le.mpr hn)
  · exact Acts.of_awake (fun _ => rfl) fun m _ ht => Mach.beaconDue_due ht
  · exact Acts.of_awake (fun _ => rfl) fun m _ ⟨hl, ht⟩ => Mach.beaconDue_early hl ht
  · exact Acts.of_awake (fun _ => rfl) fun m _ ⟨hd, ht⟩ => Mach.prpSupSend_due hd ht
  · exact Acts.of_awake (fun _ => rfl) fun m _ h => Mach.prpSupSend_idle h
  · refine Acts.of_lane (fun _ => rfl) (fun _ ⟨hu, _⟩ => hu) fun m ⟨_, hd, hn, hl⟩ => ?_
    rw [Mach.prpSupRecv_dual hd, if_neg (by simp [hn]), if_pos hl]
  · refine Acts.of_lane (fun _ => rfl) (fun _ ⟨hu, _⟩ => hu) fun m ⟨_, hd, hn⟩ => ?_
    rw [Mach.prpSupRecv_dual hd, if_pos hn]
  · exact Acts.of_awake (fun _ => rfl) fun m _ h => Mach.onLane_idle (h.imp_right fun hd => Mach.prpSupRecv_single hd n)
  · exact Acts.of_awake (fun _ => rfl) fun m _ _ => rfl

end Sys2Proof.Machine
end

section
/-! The field supply (R401 to R403): what a measurement of FL_P keeps, and the move of the band that it calls for. -/

namespace Sys2Proof.Machine

namespace Mach

theorem flpMin_fio (m : Mach) : m.flpMin.fio = m.fio := by
  unfold flpMin
  split
  · exact setF_fio m _ _ _
  · rfl

/-- A measurement leaves the band, and keeps since when FL_P is below 15 V, at 15 V or more, at 16 V or more. -/
theorem flpSet_fio (m : Mach) (mv us : Nat) :
    (m.flpSet mv us).fio =
      (let t := m.mon - tm (min (usNs us) (m.since m.fio.flpMon))
       { m.fio with flpMv := min mv 65535, flpMon := m.mon,
                    low15 := if mv < 15000 then some (m.fio.low15.getD t) else none,
                    since15 := if 15000 ≤ mv then some (m.fio.since15.getD t) else none,
                    hi16 := if 16000 ≤ mv then some (m.fio.hi16.getD t) else none }) := by
  have h15 : min mv 65535 < 15000 ↔ mv < 15000 := by omega
  have h15' : 15000 ≤ min mv 65535 ↔ 15000 ≤ mv := by omega
  have h16 : 16000 ≤ min mv 65535 ↔ 16000 ≤ mv := by omega
  rw [flpSet, flpMin_fio]
  simp only [decide_eq_true_eq, h15, h15', h16]

variable {m : Mach}

/-- What a move of the band does. -/
def bandEntry (m : Mach) : BandMove → Mach
  | .sag => m.enterSag
  | .low => m.enterLow
  | .lockout => m.enterLockout
  | .normal => m.setBand 0
  | .restore => m.lockoutOver

theorem bandStep_moves (b : BandMove) (h : m.bandMove = some b) : m.bandStep = m.bandEntry b := by
  rw [bandStep, h]
  cases b <;> rfl

theorem bandStep_stays (h : m.bandMove = none) : m.bandStep = m := by
  rw [bandStep, h]

theorem bandMove_lockout (hb : m.fio.band ≠ 3) (hv : m.fio.flpMv < 10000) : m.bandMove = some .lockout := by
  simp [bandMove, hb, hv]

theorem bandMove_low {t : Time} (hb : m.fio.band < 2) (hl : 10000 ≤ m.fio.flpMv) (hv : m.fio.flpMv < 15000)
    (ht : m.fio.low15 = some t) (hd : msNs 1 < m.since t) : m.bandMove = some .low := by
  have h3 : m.fio.band ≠ 3 := by omega
  have h2 : m.fio.band ≠ 2 := by omega
  simp [bandMove, h3, h2, Nat.not_lt.mpr hl, hv, ht, Nat.succ_le_of_lt hd]

theorem bandMove_normal (hb : m.fio.band = 1 ∨ m.fio.band = 2) (hv : 19400 ≤ m.fio.flpMv) : m.bandMove = some .normal := by
  have h10 : ¬m.fio.flpMv < 10000 := by omega
  have h15 : ¬m.fio.flpMv < 15000 := by omega
  rcases hb with hb | hb <;> simp [bandMove, hb, h10, h15, hv]

theorem bandMove_sag (hb : m.fio.band = 0 ∧ m.fio.flpMv < 19200 ∨ m.fio.band = 2 ∧ m.fio.flpMv < 19400)
    (hv : 15000 ≤ m.fio.flpMv) : m.bandMove = some .sag := by
  have h10 : ¬m.fio.flpMv < 10000 := by omega
  have h15 : ¬m.fio.flpMv < 15000 := by omega
  rcases hb with ⟨hb, hs⟩ | ⟨hb, hs⟩
  · simp [bandMove, hb, h10, h15, hs]
  · simp [bandMove, hb, h10, hv, Nat.not_le.mpr hs]

/-- LOCKOUT ends 5 ms from 16 V; the LOCKOUT of a reset also not before 5 ms from its release. -/
theorem bandMove_restore {t : Time} (hb : m.fio.band = 3) (ht : m.fio.hi16 = some t) (hd : msNs 5 ≤ m.since t)
    (hr : m.fio.resetLock = true → msNs 5 ≤ m.since m.start.resetMon) : m.bandMove = some .restore := by
  cases hl : m.fio.resetLock with
  | false => simp [bandMove, hb, ht, hd, hl]
  | true => simp [bandMove, hb, ht, hd, hl, hr hl]

theorem bandMove_locked (hb : m.fio.band = 3) (h : ∀ t, m.fio.hi16 = some t → m.since t < msNs 5) : m.bandMove = none := by
  cases ht : m.fio.hi16 with
  | none => simp [bandMove, hb, ht]
  | some t => simp [bandMove, hb, ht, Nat.not_le.mpr (h t ht)]

theorem bandMove_steady
    (h : m.fio.band = 0 ∧ 19200 ≤ m.fio.flpMv ∨ m.fio.band = 1 ∧ 15000 ≤ m.fio.flpMv ∧ m.fio.flpMv < 19400) : m.bandMove = none := by
  have h10 : ¬m.fio.flpMv < 10000 := by omega
  have h15 : ¬m.fio.flpMv < 15000 := by omega
  rcases h with ⟨hb, hv⟩ | ⟨hb, _, hv⟩
  · simp [bandMove, hb, h10, h15, Nat.not_lt.mpr hv]
  · simp [bandMove, hb, h10, h15, Nat.not_le.mpr hv]

end Mach

/-- A row that tells what FL_P has read: it is measured, and the band follows (log entry 59). -/
theorem acts_flpRead {i : Instr} {mv us : Nat} (he : ∀ s, exec i s = onM (Mach.live fun m => m.flpTake mv us) s) :
    ActsLive i (fun _ => True) (fun m => (m.flpSet mv us).bandStep) :=
  ActsLive.of_live he fun _ _ _ => rfl

/-- Settles O24: every row measures FL_P and lets the band follow; the band by the move that FL_P calls for. -/
theorem fieldSupplyBands : Obligations.FieldSupplyBands := by
  refine ⟨fun mv us => ?_, fun mv us => ?_, fun mv us => ?_, fun mv us => ?_, fun mv us => ?_, fun mv us => ?_,
    fun m mv us => ?_, fun m hn => ?_, fun m hb hv => ?_, fun m t hb hl hv ht hd => ?_, fun m hb hv => ?_, fun m hb hv => ?_,
    fun m t hb ht hd hr => ?_, fun m hb hn => ?_, fun m h => ?_⟩
  · exact acts_flpRead fun _ => rfl
  · exact acts_flpRead fun _ => rfl
  · exact acts_flpRead fun _ => rfl
  · exact acts_flpRead fun _ => rfl
  · exact acts_flpRead fun _ => rfl
  · exact acts_flpRead fun _ => rfl
  · intro r t
    rw [show r.fio = _ from m.flpSet_fio mv us]
    refine ⟨rfl, rfl, fun hv => ?_, fun hv => ?_, fun hv => if_pos hv⟩
    · exact ⟨if_pos hv, if_neg (by omega), if_neg (by omega)⟩
    · exact ⟨if_neg (by omega), if_pos hv⟩
  · exact Mach.bandStep_stays hn
  · exact Mach.bandStep_moves .lockout (Mach.bandMove_lockout hb hv)
  · exact Mach.bandStep_moves .low (Mach.bandMove_low hb hl hv ht hd)
  · exact Mach.bandStep_moves .normal (Mach.bandMove_normal hb hv)
  · exact Mach.bandStep_moves .sag (Mach.bandMove_sag hb hv)
  · exact Mach.bandStep_moves .restore (Mach.bandMove_restore hb ht hd hr)
  · exact Mach.bandStep_stays (Mach.bandMove_locked hb hn)
  · exact Mach.bandStep_stays (Mach.bandMove_steady h)

end Sys2Proof.Machine
end

section
/-! DOy_CFG and what refuses its write, and the end of output tests (R408, R685, R726). -/

namespace Sys2Proof.Machine

namespace Mach

/-- DOy_CFG is stored, and nothing follows. -/
theorem regPut_doCfg (m : Mach) (who : Who) (y : Nat) (w : Word) : m.regPut who (.doCfg y) w = m.stored (.doCfg y) w := rfl

/-- A write that breaks a rule whose status stands in R685's order is refused, with this status or one before it. -/
theorem firstBroken_of_mem {l : Broken} {e : Nat × Nat} (h : e ∈ l)
    (hs : e.1 ∈ [stFeature, stAuth, stParam, stState, stFenced, stBusy, stDenied]) : (firstBroken l).isSome = true :=
  List.findSome?_isSome_iff.mpr ⟨e.1, hs, List.find?_isSome.mpr ⟨e, h, decide_eq_true rfl⟩⟩

/-- A rule of the bay, zone, stitch and field I/O blocks that a write breaks is among those it breaks. -/
theorem mem_broken_of_bay {m : Mach} {who : Who} {r : Reg} {w : Word} {e : Nat × Nat}
    (h : e ∈ m.brokenBay who r w (m.merged r w)) : e ∈ m.broken who r w := by
  simp only [broken, List.mem_append, h, true_or, or_true]

variable {m : Mach} {y : Nat}

/-- DOy_CFG of an output commanded on is not written. -/
theorem regCheck_doCfg_on (who : Who) (w : Word) (hc : m.cmdOn y = true) : (m.regCheck who (.doCfg y) w).isSome = true := by
  have hrule : (stState, 0) ∈ m.brokenBay who (.doCfg y) w (m.merged (.doCfg y) w) := by simp [brokenBay, ck, hc]
  exact firstBroken_of_state (mem_broken_of_bay hrule)

/-- A trip output takes no CLOSE. -/
theorem regCheck_doCfg_trip (who : Who) {w : Word} (hy : 12 ≤ y) (hc : F.doCfg_CLOSE.get (m.newWord (.doCfg y) w) = 1) :
    (m.regCheck who (.doCfg y) w).isSome = true := by
  have hnew : F.doCfg_CLOSE.get (m.merged (.doCfg y) w) = 1 := hc
  have hrule : (stParam, 0) ∈ m.brokenBay who (.doCfg y) w (m.merged (.doCfg y) w) := by simp [brokenBay, ck, hnew, hy]
  exact firstBroken_of_mem (mem_broken_of_bay hrule) (by decide)

/-- Tests whose TIME has passed leave their outputs; those that run on stay. -/
theorem outTestEnd_due (h : ∃ o ∈ m.cmd.outTests, (o.2.2.2 - m.mon).toInt ≤ 0) :
    m.outTestEnd =
      (forEach (m.cmd.outTests.filter (fun (o : Nat × Nat × Bool × Time) => decide ((o.2.2.2 - m.mon).toInt ≤ 0)))
        { m with cmd := { m.cmd with
          outTests := m.cmd.outTests.filter (fun (o : Nat × Nat × Bool × Time) => decide (0 < (o.2.2.2 - m.mon).toInt)) } }
        (fun m (o : Nat × Nat × Bool × Time) => m.updDo o.2.1 (fun d => { d with test := none }))).doSync := by
  obtain ⟨o, ho, ht⟩ := h
  have hover : m.cmd.outTests.filter (fun o => decide ((o.2.2.2 - m.mon).toInt ≤ 0)) ≠ [] :=
    List.ne_nil_of_mem (List.mem_filter.mpr ⟨ho, decide_eq_true ht⟩)
  simp only [outTestEnd, List.isEmpty_iff, if_neg hover, ← decide_not, Int.not_le]

/-- Without a test whose TIME has passed nothing ends. -/
theorem outTestEnd_idle (h : ∀ o ∈ m.cmd.outTests, 0 < (o.2.2.2 - m.mon).toInt) : m.outTestEnd = m := by
  have hnone : m.cmd.outTests.filter (fun o => decide ((o.2.2.2 - m.mon).toInt ≤ 0)) = [] :=
    List.filter_eq_nil_iff.mpr fun o ho => by rw [decide_eq_true_iff, Int.not_le]; exact h o ho
  simp only [outTestEnd, hnone, List.isEmpty_nil, if_true]

end Mach

/-- Settles O25: DOy_CFG by what an accepted write stores and by the rules of R408, output tests by whether one is over. -/
theorem outputConfigurationAndTest : Obligations.OutputConfigurationAndTest := by
  refine ⟨fun ses x y w => ?_, fun m who y w hc => ?_, fun m who y w hy hc => ?_, ?_, ?_⟩
  · exact Acts.of_write (fun _ => rfl) (Mach.endsUdp_past (by decide) _) (fun _ hp => hp) fun m _ => m.regPut_doCfg _ y w
  · exact Mach.regCheck_doCfg_on who w hc
  · exact Mach.regCheck_doCfg_trip who hy hc
  · exact Acts.of_awake (fun _ => rfl) fun m _ h => Mach.outTestEnd_due h
  · exact Acts.of_awake (fun _ => rfl) fun m _ h => Mach.outTestEnd_idle h

end Sys2Proof.Machine
end

section
/-! Native instructions of the logic tasks (R425): the shape that most share, of an instruction that only replaces its cycle. -/

namespace Sys2Proof.Machine

/-- A native instruction with an area and an index that replaces its cycle. -/
theorem LogicOp.of_put1 {i : Instr} {t op area idx : Nat} {f : LCtx → Cycle}
    (he : ∀ s, exec i s =
      onM (Mach.awake (Mach.only (wfTask t && wfArea area && wfIdx idx) fun m => m.runOp t op area idx fun l => l.put (f l))) s)
    (ha : area < 16) (hi : idx < 2 ^ 20) : LogicOp i t op area idx f :=
  LogicActs.of1 he ha hi fun _ => rfl

/-- A native instruction with an index that replaces its cycle. -/
theorem LogicOp.of_put2 {i : Instr} {t op area idx : Nat} {f : LCtx → Cycle}
    (he : ∀ s, exec i s = onM (Mach.awake (Mach.only (wfTask t && wfIdx idx) fun m => m.runOp t op area idx fun l => l.put (f l))) s)
    (hi : idx < 2 ^ 20) : LogicOp i t op area idx f :=
  LogicActs.of2 he hi fun _ => rfl

/-- A native instruction without an operand that replaces its cycle. -/
theorem LogicOp.of_put3 {i : Instr} {t op area idx : Nat} {f : LCtx → Cycle}
    (he : ∀ s, exec i s = onM (Mach.awake (Mach.only (wfTask t) fun m => m.runOp t op area idx fun l => l.put (f l))) s) :
    LogicOp i t op area idx f :=
  LogicActs.of3 he fun _ => rfl

end Sys2Proof.Machine
end

section
/-! Timers of the logic tasks (R431): one equation per case of the input and of what runs. -/

namespace Sys2Proof.Machine

namespace Tmr

variable {v : Tmr} {mon : Time} {pt : Nat}

/-- Where a time begins nothing of it has passed. -/
theorem elapsed_at_start (t : Time) : (t - t).toNat = 0 := by
  rw [BitVec.sub_self, BitVec.toNat_zero]

theorem not_passed_at_start (hp : 0 < pt) : ¬ pt * 1000 ≤ 0 := by
  omega

/-- While the input is off a TON is off. -/
theorem ton_off : v.ton mon false pt = { v with pt := pt, run := false, q := false, et := 0 } := rfl

/-- The input of a TON rises: its time begins. -/
theorem ton_begins (hr : v.run = false) (hq : v.q = false) (hp : 0 < pt) :
    v.ton mon true pt = { v with pt := pt, run := true, start := mon, et := 0 } := by
  simp only [ton, hr, hq, Bool.not_true, Bool.not_false, Bool.and_self, Bool.false_eq_true, if_true, if_false, true_and,
    elapsed_at_start, not_passed_at_start hp, Nat.zero_div]

/-- With PT 0 a TON is on at once. -/
theorem ton_at_once (hr : v.run = false) (hq : v.q = false) (hp : pt = 0) :
    v.ton mon true pt = { v with pt := pt, start := mon, q := true, expiry := mon, et := 0 } := by
  have hexpiry : mon + tm 0 = mon := BitVec.add_zero mon
  subst hp
  simp only [ton, hr, hq, Bool.not_true, Bool.not_false, Bool.and_self, Bool.false_eq_true, if_true, if_false, true_and,
    Nat.zero_mul, Nat.zero_le, hexpiry]

theorem ton_runs (hr : v.run = true) (hq : v.q = false) (ht : (mon - v.start).toNat < pt * 1000) :
    v.ton mon true pt = { v with pt := pt, et := (mon - v.start).toNat / 1000 } := by
  simp only [ton, hr, hq, Bool.not_true, Bool.not_false, Bool.and_true, Bool.false_eq_true, if_true, if_false, true_and,
    Nat.not_le.mpr ht]

theorem ton_expires (hr : v.run = true) (hq : v.q = false) (ht : pt * 1000 ≤ (mon - v.start).toNat) :
    v.ton mon true pt = { v with pt := pt, run := false, q := true, expiry := v.start + tm (pt * 1000), et := pt } := by
  simp only [ton, hr, hq, Bool.not_true, Bool.not_false, Bool.and_true, Bool.false_eq_true, if_true, if_false, true_and, ht]

theorem ton_stays_on (hr : v.run = false) (hq : v.q = true) : v.ton mon true pt = { v with pt := pt, et := pt } := by
  simp only [ton, hr, hq, Bool.not_true, Bool.and_false, Bool.false_eq_true, if_true, if_false, false_and]

/-- While the input is on a TOF is on. -/
theorem tof_on : v.tof mon true pt = { v with pt := pt, run := false, q := true } := by
  simp only [tof, Bool.false_eq_true, if_true, if_false, false_and]

/-- The input of a TOF falls: its time begins. -/
theorem tof_begins (hr : v.run = false) (hq : v.q = true) (hp : 0 < pt) :
    v.tof mon false pt = { v with pt := pt, run := true, start := mon } := by
  simp only [tof, hr, hq, Bool.not_false, Bool.and_self, Bool.false_eq_true, if_true, if_false, true_and, elapsed_at_start,
    not_passed_at_start hp]

theorem tof_runs (hr : v.run = true) (ht : (mon - v.start).toNat < pt * 1000) :
    v.tof mon false pt = { v with pt := pt } := by
  simp only [tof, hr, Bool.not_true, Bool.and_false, Bool.false_eq_true, if_false, true_and, Nat.not_le.mpr ht]

theorem tof_expires (hr : v.run = true) (ht : pt * 1000 ≤ (mon - v.start).toNat) :
    v.tof mon false pt = { v with pt := pt, run := false, q := false, expiry := v.start + tm (pt * 1000) } := by
  simp only [tof, hr, Bool.not_true, Bool.and_false, Bool.false_eq_true, if_true, if_false, true_and, ht]

theorem tof_stays_off (hr : v.run = false) (hq : v.q = false) : v.tof mon false pt = { v with pt := pt } := by
  simp only [tof, hr, hq, Bool.false_and, Bool.false_eq_true, if_false, false_and]

/-- The input of a TP rises: its pulse begins. -/
theorem tp_begins (hq : v.q = false) (hl : v.lastIn = false) (hp : 0 < pt) :
    v.tp mon true pt = { v with pt := pt, q := true, start := mon, lastIn := true } := by
  simp only [tp, hq, hl, Bool.not_false, Bool.and_self, if_true, if_false, true_and, elapsed_at_start,
    not_passed_at_start hp]

/-- A pulse goes on whatever the input. -/
theorem tp_runs (hq : v.q = true) (ht : (mon - v.start).toNat < pt * 1000) (a : Bool) :
    v.tp mon a pt = { v with pt := pt, lastIn := a } := by
  simp only [tp, hq, Bool.not_true, Bool.and_false, Bool.false_and, Bool.false_eq_true, if_false, true_and, Nat.not_le.mpr ht]

theorem tp_expires (hq : v.q = true) (ht : pt * 1000 ≤ (mon - v.start).toNat) (a : Bool) :
    v.tp mon a pt = { v with pt := pt, q := false, expiry := v.start + tm (pt * 1000), lastIn := a } := by
  simp only [tp, hq, Bool.not_true, Bool.and_false, Bool.false_and, Bool.false_eq_true, if_true, if_false, true_and, ht]

/-- Without a rising input no pulse begins. -/
theorem tp_idle {a : Bool} (hq : v.q = false) (h : v.lastIn = true ∨ a = false) :
    v.tp mon a pt = { v with pt := pt, lastIn := a } := by
  have hrise : (a && !v.lastIn) = false := by
    rcases h with h | h
    · rw [h, Bool.not_true, Bool.and_false]
    · rw [h, Bool.false_and]
  simp only [tp, hq, Bool.not_false, Bool.and_true, hrise, Bool.false_eq_true, if_false, false_and]

end Tmr

/-- A timer instruction writes its timer and takes its Q. -/
theorem LCtx.timer_eq (l : LCtx) (n : Nat) (f : Tmr → Time → Bool → Nat → Tmr) :
    l.timer n f =
      (let v := f (l.c.work.tmr n) l.c.monS l.c.acc l.c.wacc.toNat
       l.put { l.c with work := { l.c.work with t := SMap.put l.c.work.t n v }, acc := v.q }) := rfl

/-- Settles O10: the timer instructions by what each writes, the functions of the three timers case by case. -/
theorem logicTimers : Obligations.LogicTimers := by
  refine ⟨fun t i hi => ⟨?_, ?_, ?_⟩, fun v mon pt => ?_, fun v mon pt => ?_, fun v mon pt a => ?_⟩
  · exact LogicActs.of2 (fun _ => rfl) hi fun l => l.timer_eq i Tmr.ton
  · exact LogicActs.of2 (fun _ => rfl) hi fun l => l.timer_eq i Tmr.tof
  · exact LogicActs.of2 (fun _ => rfl) hi fun l => l.timer_eq i Tmr.tp
  · exact ⟨Tmr.ton_off, Tmr.ton_begins, Tmr.ton_at_once, Tmr.ton_runs, Tmr.ton_expires, Tmr.ton_stays_on⟩
  · exact ⟨Tmr.tof_on, Tmr.tof_begins, Tmr.tof_runs, Tmr.tof_expires, Tmr.tof_stays_off⟩
  · exact ⟨Tmr.tp_begins, fun hq ht => Tmr.tp_runs hq ht a, fun hq ht => Tmr.tp_expires hq ht a, Tmr.tp_idle⟩

end Sys2Proof.Machine
end

section
/-! Bit instructions (R425): operands, the stack of combinations, the bit of a marker word that a store leaves. -/

namespace Sys2Proof.Machine

/-- A bit set in a word reads as it was set. -/
theorem getLsbD_setBitW (w : Word) {k : Nat} (hk : k < 32) (v : Bool) : (setBitW w k v).getLsbD k = v := by
  have hbit : (wd (2 ^ k)).getLsbD k = true := by
    rw [wd, BitVec.getLsbD_ofNat, Nat.testBit_two_pow_self, decide_eq_true hk, Bool.and_self]
  cases v <;> simp [setBitW, hbit, hk]

namespace LCtx

/-- A marker bit set is what its word then holds. -/
theorem setBit_marker_reads (l : LCtx) (k : Nat) (v : Bool) : ((l.setBit 2 k v).c.work.mw (k / 32)).getLsbD (k % 32) = v := by
  have hword : (l.setBit 2 k v).c.work.mw (k / 32) = setBitW (l.c.work.mw (k / 32)) (k % 32) v := SMap.getD_putD_same _ _ _ _
  rw [hword, getLsbD_setBitW _ (Nat.mod_lt _ (by decide))]

/-- ) takes what AND( or OR( put on the stack off again, and combines it with ACC. -/
theorem pop_eq (l : LCtx) :
    l.pop = l.put (match l.c.stack with
      | (v, true) :: rest => { l.c with stack := rest, acc := v && l.c.acc }
      | (v, false) :: rest => { l.c with stack := rest, acc := v || l.c.acc }
      | [] => l.c) := by
  rw [pop]
  rcases l.c.stack with _ | ⟨⟨v, _ | _⟩, rest⟩ <;> rfl

end LCtx

/-- Settles O26: instructions that replace ACC or the stack by what they put, those that store by the store, marker bits read back. -/
theorem logicBitInstructions : Obligations.LogicBitInstructions := by
  refine ⟨fun t a i ha hi => ?_, fun t a i ha hi => ?_⟩
  · refine ⟨?nop, ?_, ?_, ?_, ?_, ?_, ?_, ?_, ?not, ?_, ?_, ?_⟩
    case nop | not => exact .of_put3 fun _ => rfl
    all_goals exact .of_put1 (fun _ => rfl) ha hi
  · refine ⟨?_, ?_, ?_, ?_, ?_, ?_, ?andOpen, ?orOpen, ?close, fun l k v _ => l.setBit_marker_reads k v⟩
    case andOpen | orOpen => exact .of_put1 (fun _ => rfl) ha hi
    case close => exact LogicActs.of3 (fun _ => rfl) fun l => l.pop_eq
    all_goals exact LogicActs.of1 (fun _ => rfl) ha hi fun _ => rfl

end Sys2Proof.Machine
end

section
/-! Word instructions (R425, R426; log entry 18): the signed range, DIV and MOD by what the divisor is, shifts by 0 to 31. -/

namespace Sys2Proof.Machine

namespace LCtx

variable {l : LCtx} {a i : Nat}

/-- WACC with saturation is the exact result kept in the signed range. -/
theorem waccSat_eq (l : LCtx) (v : Int) : l.waccSat v = l.put (l.keeps v) := by
  rw [waccSat, keeps, clampI]
  by_cases hlo : v < -2147483648
  · have hne : ¬(-2147483648 : Int) = v := by omega
    simp only [if_pos hlo, if_neg hne]
    rfl
  · by_cases hhi : 2147483647 < v
    · have hne : ¬(2147483647 : Int) = v := by omega
      simp only [if_neg hlo, if_pos hhi, if_neg hne]
      rfl
    · simp only [if_neg hlo, if_neg hhi, if_true]
      rfl

theorem div_by_zero (h : (l.word a i).toInt = 0) : l.div a i = l.put { l.c with wacc := 0, arith := true } := by
  rw [div]; exact if_pos h

/-- A quotient that a word holds is taken. -/
theorem div_held (h : (l.word a i).toInt ≠ 0) (hq : Int.tdiv l.c.wacc.toInt (l.word a i).toInt ≤ 2147483647) :
    l.div a i = l.put { l.c with wacc := BitVec.ofInt 32 (Int.tdiv l.c.wacc.toInt (l.word a i).toInt) } := by
  rw [div]; exact (if_neg h).trans (if_neg (Int.not_lt.mpr hq))

/-- For a quotient that no word holds WACC takes a free value. -/
theorem div_unheld (h : (l.word a i).toInt ≠ 0) (hq : 2147483647 < Int.tdiv l.c.wacc.toInt (l.word a i).toInt) :
    l.div a i = l.waccFree := by
  rw [div]; exact (if_neg h).trans (if_pos hq)

theorem mod_eq (l : LCtx) (a i : Nat) :
    l.mod a i =
      l.put (if (l.word a i).toInt = 0 then { l.c with wacc := 0, arith := true }
        else { l.c with wacc := BitVec.ofInt 32 (Int.tmod l.c.wacc.toInt (l.word a i).toInt) }) :=
  (apply_ite l.put _ _ _).symm

/-- A shift by 0 to 31 has its count. -/
theorem shift_counted {n : Nat} (hn : n < 32) (h : (l.word a i).toInt = n) (left : Bool) :
    l.shift a i left = if left then l.waccSat (l.c.wacc.toInt * 2 ^ n) else l.wacc (l.c.wacc.sshiftRight n) := by
  simp only [shift, h]
  rw [if_neg (by omega), Int.toNat_natCast]
  push_cast
  rfl

end LCtx

/-- Settles O27: loads, stores and combinations as they stand, the saturating ones by waccSat_eq, DIV, MOD and shifts by their cases. -/
theorem logicWordArithmetic : Obligations.LogicWordArithmetic := by
  intro t a i ha hi
  refine ⟨?_, ?stw, ?stwc, ?add, ?sub, ?mul, fun ht x c => ?divZero, fun ht x c => ?divHeld, fun ht x c => ?divUnheld, ?mod,
    ?_, ?_, ?_, fun ht x c n hn => ?shl, fun ht x c n hn => ?shr⟩
  case stw | stwc => exact LogicActs.of1 (fun _ => rfl) ha hi fun _ => rfl
  case add | sub | mul => exact LogicActs.of1 (fun _ => rfl) ha hi fun l => l.waccSat_eq _
  case mod => exact LogicActs.of1 (fun _ => rfl) ha hi fun l => l.mod_eq a i
  case divZero =>
    refine (LogicActs.of1 (fun _ => rfl) ha hi fun _ => rfl).cond ht x c fun m h => ?_
    rw [LCtx.div_by_zero h]; rfl
  case divHeld =>
    refine (LogicActs.of1 (fun _ => rfl) ha hi fun _ => rfl).cond ht x c fun m ⟨h, hq⟩ => ?_
    rw [LCtx.div_held h hq]; rfl
  case divUnheld =>
    refine (LogicActs.of1 (fun _ => rfl) ha hi fun _ => rfl).cond ht x c fun m ⟨h, hq⟩ => ?_
    rw [LCtx.div_unheld h hq]; rfl
  case shl =>
    refine (LogicActs.of1 (fun _ => rfl) ha hi fun _ => rfl).cond ht x c fun m h => ?_
    rw [LCtx.shift_counted hn h, if_pos rfl, LCtx.waccSat_eq]; rfl
  case shr =>
    refine (LogicActs.of1 (fun _ => rfl) ha hi fun _ => rfl).cond ht x c fun m h => ?_
    rw [LCtx.shift_counted hn h, if_neg Bool.false_ne_true]; rfl
  all_goals exact .of_put1 (fun _ => rfl) ha hi

end Sys2Proof.Machine
end

section
/-! Comparisons and binary32 instructions (R425, R426; log entries 18 and 57). -/

namespace Sys2Proof.Machine

/-- FTOI: a NaN and an infinity set ARITH, a finite value is rounded and kept in the signed range. -/
theorem LCtx.ftoi_eq (l : LCtx) :
    l.ftoi = l.put (match f32Of l.c.wacc with
      | .nan => { l.c with wacc := 0, arith := true }
      | .inf true => { l.c with wacc := 0x80000000#32, arith := true }
      | .inf false => { l.c with wacc := 0x7FFFFFFF#32, arith := true }
      | .fin _ q => l.keeps (ratRound q)) := by
  rw [ftoi]
  rcases f32Of l.c.wacc with _ | (_ | _) | ⟨_, q⟩
  case fin => exact l.waccSat_eq _
  all_goals rfl

/-- Settles O28: each comparison and each binary32 instruction by what it puts in ACC or WACC, FTOI by the class of its operand. -/
theorem logicComparisonsAndFloats : Obligations.LogicComparisonsAndFloats := by
  intro t a i ha hi
  refine ⟨?_, ?_, ?_, ?_, ?_, ?_, ?_, ?_, ?_, ?_, ?_, ?_, ?itof, ?ftoi⟩
  case itof => exact .of_put3 fun _ => rfl
  case ftoi => exact LogicActs.of3 (fun _ => rfl) fun l => l.ftoi_eq
  all_goals exact .of_put1 (fun _ => rfl) ha hi

end Sys2Proof.Machine
end

section
/-! Counters, jumps, CALLFB (R425, R433, R435, R436; log entry 8). -/

namespace Sys2Proof.Machine

namespace LCtx

/-- What the function of block k makes of its words, with the code to log if any (R435). -/
def fbResult (l : LCtx) (p : Prog) (k : Nat) : List Word × Option Nat :=
  let base := p.inst.getD k 0
  let typ := (l.c.work.ew base).toNat / 2 ^ 24
  efbStep typ ((List.range (efbWords typ)).map fun j => l.c.work.ew (base + j)) l.c.monS

/-- The cycle with the words of block k as its function makes them. -/
def fbTaken (l : LCtx) (p : Prog) (k : Nat) : Cycle :=
  let base := p.inst.getD k 0
  { l.c with work := { l.c.work with
      e := (List.range (efbWords ((l.c.work.ew base).toNat / 2 ^ 24))).foldl
        (fun (a : SMap Word) j => SMap.putD a 0 (base + j) ((l.fbResult p k).1.getD j 0)) l.c.work.e } }

variable {l : LCtx} {k : Nat} {p : Prog}

theorem callFb_silent (h : l.x.prog = some p) (he : (l.fbResult p k).2 = none) : l.callFb k = l.put (l.fbTaken p k) := by
  rw [fbResult] at he
  simp only [callFb, h, he]
  rfl

theorem callFb_logs {code : Nat} (h : l.x.prog = some p) (he : (l.fbResult p k).2 = some code) :
    l.callFb k = { l.put (l.fbTaken p k) with m := l.m.emitW .logicEvent l.t [wd (code % 65536)] } := by
  rw [fbResult] at he
  simp only [callFb, h, he]
  rfl

/-- Logging or not, CALLFB leaves the words that the function gives. -/
theorem callFb_c (h : l.x.prog = some p) : (l.callFb k).c = l.fbTaken p k := by
  cases he : (l.fbResult p k).2 with
  | none => rw [callFb_silent h he]; rfl
  | some code => rw [callFb_logs h he]; rfl

end LCtx

/-- Settles O29: counters and jumps by what they put, CALLFB by its words and its event, the functions as Efb.run has them. -/
theorem logicCountersJumps : Obligations.LogicCountersJumps := by
  intro t a i ha hi
  refine ⟨.of_put2 (fun _ => rfl) hi, .of_put2 (fun _ => rfl) hi, ?cld, .of_put1 (fun _ => rfl) ha hi, ?jmpc, ?jmpcn,
    .of2 (fun _ => rfl) hi fun _ => rfl, fun l k p hp => ?callFb, fun _ _ => rfl,
    fun _ _ => ⟨rfl, rfl, rfl, rfl, rfl, rfl, rfl, rfl, rfl⟩⟩
  case cld => exact LogicActs.of2 (fun _ => rfl) hi fun l => (apply_ite l.put _ _ _).symm
  case jmpc | jmpcn => exact LogicActs.of1 (fun _ => rfl) ha hi fun l => (apply_ite l.put _ _ _).symm
  case callFb =>
    refine ⟨LCtx.callFb_c hp, fun hn => ?_, fun code hc => ?_⟩
    · rw [LCtx.callFb_silent hp hn]; rfl
    · rw [LCtx.callFb_logs hp hc]

end Sys2Proof.Machine
end

section
/-! A task changed or set to a state (R772): what is then read of the block. -/

namespace Sys2Proof

/-- Replacing a position is the library's set. -/
theorem setAt_eq_set {α : Type} (l : List α) (i : Nat) (x : α) : setAt l i x = l.set i x := by
  induction l generalizing i with
  | nil => rfl
  | cons y l ih =>
    cases i with
    | zero => rfl
    | succ i => exact congrArg (y :: ·) (ih i)

end Sys2Proof

namespace Sys2Proof.Machine.Mach

variable {m : Mach} {t : Nat} {x : Machine.Task}

theorem updTask_of_task (h : m.tasks[t]? = some x) (f : Machine.Task → Machine.Task) :
    m.updTask t f = { m with tasks := setAt m.tasks t (f x) } := by
  rw [updTask, h]

/-- A task changed reads as changed. -/
theorem tasks_updTask_same (h : m.tasks[t]? = some x) (f : Machine.Task → Machine.Task) :
    (m.updTask t f).tasks[t]? = some (f x) := by
  obtain ⟨hlt, -⟩ := List.getElem?_eq_some_iff.mp h
  rw [updTask_of_task h, setAt_eq_set]
  exact List.getElem?_set_self hlt

/-- A task changed leaves the rest of the block. -/
theorem updTask_frame (m : Mach) (t : Nat) (f : Machine.Task → Machine.Task) : ∃ l, m.updTask t f = { m with tasks := l } := by
  unfold updTask
  split
  · exact ⟨_, rfl⟩
  · exact ⟨m.tasks, rfl⟩

/-- A task's state set changes the task, and at most the start record with it (R772). -/
theorem setTask_of_task (h : m.tasks[t]? = some x) (st : TaskSt) :
    m.setTask t st = (m.updTask t (fun x => { x with st := st })).startRec false ∨
      m.setTask t st = m.updTask t (fun x => { x with st := st }) := by
  rw [setTask, h]
  dsimp only
  split
  · exact .inl rfl
  · exact .inr rfl

theorem tasks_setTask_same (h : m.tasks[t]? = some x) (st : TaskSt) : (m.setTask t st).tasks[t]? = some { x with st := st } := by
  rcases setTask_of_task h st with he | he <;> rw [he] <;> exact tasks_updTask_same h _

theorem setTask_frame (h : m.tasks[t]? = some x) (st : TaskSt) :
    ∃ l nv, m.setTask t st = { m with tasks := l, nv := nv } := by
  obtain ⟨l, hl⟩ := m.updTask_frame t (fun x => { x with st := st })
  rcases setTask_of_task h st with he | he <;> rw [he, hl]
  · exact ⟨l, _, rfl⟩
  · exact ⟨l, m.nv, rfl⟩

end Sys2Proof.Machine.Mach
end

section
/-! A logic cycle (R412 to R421, R438; log entry 53): its beginning, its END, its overrun. -/

namespace Sys2Proof.Machine.Mach

variable {m : Mach} {t : Nat} {x : Machine.Task} {c : Cycle}

/-- A task started at PROT_READY (R771). -/
def startedTask (x : Machine.Task) : Machine.Task := { x with runAtReady := false, startKind := if x.first = 2 then 2 else 1 }

/-- The first half of a snapshot: a loaded task that waits for PROT_READY starts. -/
def startWaiting (m : Mach) (t : Nat) : Mach :=
  match m.tasks[t]? with
  | some x =>
    if x.runAtReady && m.flag .glbStat F.glbStat_PROT_READY && decide (x.st = .loaded) then (m.updTask t startedTask).setTask t .run
    else m
  | none => m

/-- The second half of a snapshot: a running task's cycle begins where none stands and it is due. -/
def beginDue (m : Mach) (t : Nat) : Mach :=
  match m.tasks[t]? with
  | none => m
  | some x =>
    if x.st ≠ .run ∨ x.cyc.isSome ∨ m.passive ∨ m.fenced (35 + t) ∨
        (!x.lastOverrun && decide (x.first = 0) && decide (m.since x.lastSnap < F.leCtrl_CYC_MIN.get (m.rd (.leCtrl t)) * 100000)) then m
    else m.beginCycle t x

theorem logicSnapshot_eq (m : Mach) (t : Nat) : m.logicSnapshot t = (m.startWaiting t).beginDue t := rfl

theorem startWaiting_none (hx : m.tasks[t]? = some x)
    (hw : x.runAtReady = false ∨ m.flag .glbStat F.glbStat_PROT_READY = false ∨ x.st ≠ .loaded) : m.startWaiting t = m := by
  simp only [startWaiting, hx]
  rcases hw with h | h | h <;> simp [h]

theorem startWaiting_ready (hx : m.tasks[t]? = some x) (hw : x.runAtReady = true)
    (hr : m.flag .glbStat F.glbStat_PROT_READY = true) (hs : x.st = .loaded) :
    m.startWaiting t = (m.updTask t startedTask).setTask t .run := by
  simp [startWaiting, hx, hw, hr, hs]

/-- A cycle that is due begins: CYC_MIN after the last snapshot, after an overrun, and as the first (R412, R419). -/
theorem beginDue_due (hx : m.tasks[t]? = some x) (hs : x.st = .run) (hc : x.cyc = none) (hp : m.passive = false)
    (hf : m.fenced (35 + t) = false)
    (hd : x.lastOverrun = true ∨ x.first ≠ 0 ∨ F.leCtrl_CYC_MIN.get (m.rd (.leCtrl t)) * 100000 ≤ m.since x.lastSnap) :
    m.beginDue t = m.beginCycle t x := by
  simp only [beginDue, hx]
  rw [if_neg]
  rcases hd with h | h | h <;> simp [hs, hc, hp, hf, h]

theorem beginDue_early (hx : m.tasks[t]? = some x) (ho : x.lastOverrun = false) (h1 : x.first = 0)
    (hd : m.since x.lastSnap < F.leCtrl_CYC_MIN.get (m.rd (.leCtrl t)) * 100000) : m.beginDue t = m := by
  simp only [beginDue, hx]
  rw [if_pos]
  simp [ho, h1, hd]

/-- Nothing begins while a cycle stands, in another task state, on a passive unit, or of a fenced task. -/
theorem beginDue_barred (hx : m.tasks[t]? = some x)
    (h : x.st ≠ .run ∨ x.cyc ≠ none ∨ m.passive = true ∨ m.fenced (35 + t) = true) : m.beginDue t = m := by
  simp only [beginDue, hx]
  rw [if_pos]
  rcases h with h | h | h | h <;> simp [h, Option.isSome_iff_ne_none]

/-- A loaded task that waits for PROT_READY starts then, and its cycle begins. -/
theorem logicSnapshot_starts (hx : m.tasks[t]? = some x) (hw : x.runAtReady = true)
    (hr : m.flag .glbStat F.glbStat_PROT_READY = true) (hs : x.st = .loaded) (hc : x.cyc = none) (h1 : x.first ≠ 0)
    (hp : m.passive = false) (hf : m.fenced (35 + t) = false) :
    m.logicSnapshot t = ((m.updTask t startedTask).setTask t .run).beginCycle t { startedTask x with st := .run } := by
  have htask := tasks_updTask_same hx startedTask
  obtain ⟨l, hupd⟩ := m.updTask_frame t startedTask
  obtain ⟨l', nv, hset⟩ := setTask_frame htask .run
  rw [logicSnapshot_eq, startWaiting_ready hx hw hr hs]
  refine beginDue_due (tasks_setTask_same htask .run) rfl hc ?_ ?_ (.inr (.inl h1))
  · rw [hset, hupd]; exact hp
  · rw [hset, hupd]; exact hf

/-- What a cycle holds at its beginning, and its task with it (R412, R414, R447). -/
theorem beginCycle_task (hx : m.tasks[t]? = some x) :
    ∃ c y, (m.beginCycle t x).tasks[t]? = some y ∧ y.cyc = some c ∧ y.lastSnap = m.mon ∧ c.pc = 0 ∧ c.acc = false ∧ c.wacc = 0 ∧
      c.stack = [] ∧ c.monS = m.mon ∧ y.first = 0 ∧ y.lastOverrun = false ∧ y.kNow = x.kAll ∧ y.ctrl = m.rd (.leCtrl t) :=
  ⟨_, _, tasks_updTask_same hx _, rfl, rfl, rfl, rfl, rfl, rfl, rfl, rfl, rfl, rfl, rfl⟩

/-- At an END instruction the cycle ends (R413). -/
theorem logicEnd_at {p : Prog} {e : Bool} (hx : m.tasks[t]? = some x) (hs : x.st = .run) (hp : m.passive = false)
    (hf : m.fenced (35 + t) = false) (hc : x.cyc = some c) (hg : x.prog = some p)
    (hi : p.code[c.pc]? = some (instrWord 0x7F 0 0)) : m.logicEnd t e = m.endCycle t x c e := by
  simp [logicEnd, hx, hs, hp, hf, hc, hg, hi]

/-- Elsewhere END does nothing. -/
theorem logicEnd_elsewhere {e : Bool} (hx : m.tasks[t]? = some x)
    (h : x.st ≠ .run ∨ m.passive = true ∨ m.fenced (35 + t) = true ∨ x.cyc = none ∨ x.prog = none ∨
      ∃ c p, x.cyc = some c ∧ x.prog = some p ∧ p.code[c.pc]? ≠ some (instrWord 0x7F 0 0)) : m.logicEnd t e = m := by
  simp only [logicEnd, hx]
  rcases h with h | h | h | h | h | ⟨c, p, hc, hg, hi⟩
  · exact if_pos (.inl h)
  · exact if_pos (.inr (.inl h))
  · exact if_pos (.inr (.inr h))
  · simp only [h, ite_self]
  · cases x.cyc <;> simp only [h, ite_self]
  · simp only [hc, hg, if_pos hi, ite_self]

/-- What an overrun leaves before the task's limit is looked at: the cycle abandoned, logged and counted (R418, R419). -/
def overrun (m : Mach) (t : Nat) (x : Machine.Task) (c : Cycle) : Mach :=
  ((m.emitW .logicOverrun t [wd c.pc]).bump (.leOvrCnt t) F.leOvrCnt_COUNT 1).updTask t
    (fun y => { y with cyc := none, lastOverrun := true, ovrRun := x.ovrRun + 1 })

/-- A cycle that overran, by whether its task reaches OVR_STOP and whether a stop waits. -/
theorem logicOverrun_late (hx : m.tasks[t]? = some x) (hc : x.cyc = some c)
    (hl : F.leCtrl_CYC_MAX.get x.ctrl * 100000 ≤ m.since c.monS) :
    m.logicOverrun t =
      (let r := if F.leCtrl_OVR_STOP.get x.ctrl ≠ 0 ∧ F.leCtrl_OVR_STOP.get x.ctrl ≤ x.ovrRun + 1
         then ((m.overrun t x c).setTask t .stopped).emit .logicStopped t else m.overrun t x c
       match x.stopWait with
       | some w => r.stopNow t w
       | none => r) := by
  simp only [logicOverrun, hx, hc, if_neg (Nat.not_lt.mpr hl)]
  rfl

theorem logicOverrun_idle (hx : m.tasks[t]? = some x)
    (h : x.cyc = none ∨ ∃ c, x.cyc = some c ∧ m.since c.monS < F.leCtrl_CYC_MAX.get x.ctrl * 100000) : m.logicOverrun t = m := by
  rcases h with hc | ⟨c, hc, hl⟩
  · simp only [logicOverrun, hx, hc]
  · simp only [logicOverrun, hx, hc, if_pos hl]

end Sys2Proof.Machine.Mach

namespace Sys2Proof.Machine

/-- Settles O30: the snapshot by its two halves, what a cycle begins with, END and overrun by their cases. -/
theorem logicCycle : Obligations.LogicCycle := by
  refine ⟨fun t x ht => ?_, fun t x ht => ?_, fun t x ht => ?_, fun t x ht => ?_, fun m t x hx => Mach.beginCycle_task hx,
    fun t x c p e ht => ?_, fun t x e ht => ?_, fun m t x c e => ?_, fun t x c ht => ?_, fun t x c ht => ?_, fun t x c w ht => ?_,
    fun t x ht => ?_⟩
  · refine Acts.of_part (fun _ => rfl) (fun _ _ => ht) fun m ⟨hx, hw, hs, hc, hp, hf, hd⟩ => ?_
    rw [m.logicSnapshot_eq, Mach.startWaiting_none hx (.inl hw), Mach.beginDue_due hx hs hc hp hf hd]
  · refine Acts.of_part (fun _ => rfl) (fun _ _ => ht) fun m ⟨hx, hw, hs, hc, hp, hf, ho, h1, hd⟩ => ?_
    rw [m.logicSnapshot_eq, Mach.startWaiting_none hx (.inl hw), Mach.beginDue_early hx ho h1 hd]
  · refine Acts.of_part (fun _ => rfl) (fun _ _ => ht) fun m ⟨hx, hw, h⟩ => ?_
    rw [m.logicSnapshot_eq, Mach.startWaiting_none hx hw, Mach.beginDue_barred hx h]
  · exact Acts.of_part (fun _ => rfl) (fun _ _ => ht) fun m ⟨hx, hw, hr, hs, hc, h1, hp, hf⟩ =>
      Mach.logicSnapshot_starts hx hw hr hs hc h1 hp hf
  · exact Acts.of_part (fun _ => rfl) (fun _ _ => ht) fun m ⟨hx, hs, hp, hf, hc, hg, hi⟩ => Mach.logicEnd_at hx hs hp hf hc hg hi
  · exact Acts.of_part (fun _ => rfl) (fun _ _ => ht) fun m ⟨hx, h⟩ => Mach.logicEnd_elsewhere hx h
  · -- What the staging gives is named, so that both sides take apart the same pair.
    generalize hend : m.endCycle t x c e = r
    unfold Mach.endCycle at hend
    dsimp only at hend ⊢
    generalize List.foldl (Mach.stageGroup t c.monS (Mach.forcedOut x c) c.wrote) _ _ = staged at hend ⊢
    obtain ⟨d, ids⟩ := staged
    exact hend.symm
  · refine Acts.of_part (fun _ => rfl) (fun _ _ => ht) fun m ⟨hx, hc, hw, hl, hn⟩ => ?_
    rw [Mach.logicOverrun_late hx hc hl, if_neg (by omega), hw]
    rfl
  · refine Acts.of_part (fun _ => rfl) (fun _ _ => ht) fun m ⟨hx, hc, hw, hl, h0, hn⟩ => ?_
    rw [Mach.logicOverrun_late hx hc hl, if_pos ⟨h0, hn⟩, hw]
    rfl
  · refine Acts.of_part (fun _ => rfl) (fun _ _ => ht) fun m ⟨hx, hc, hw, hl, hn⟩ => ?_
    rw [Mach.logicOverrun_late hx hc hl, if_neg (by omega), hw]
    rfl
  · exact Acts.of_part (fun _ => rfl) (fun _ _ => ht) fun m ⟨hx, h⟩ => Mach.logicOverrun_idle hx h

end Sys2Proof.Machine
end

section
/-! The start phases: KIND and GO (R442, R760, R764), TIME_WAIT and BAY_WAIT (R765, R768). -/

namespace Sys2Proof.Machine.Mach

variable {m : Mach}

/-- A write of START_CTRL keeps the KIND in the register; the KIND and GO written then act. -/
theorem regPut_startCtrl (m : Mach) (who : Who) (w : Word) :
    m.regPut who .startCtrl w =
      (let new := m.newWord .startCtrl w
       let m := (m.wr .startCtrl (F.startCtrl_KIND.set new (F.startCtrl_KIND.get (m.rd .startCtrl)))).kindFix (F.startCtrl_KIND.get new)
       if F.startCtrl_GO.get w = 1 then m.startGo else m) := rfl

/-- In HOST the first KIND that is not 0 fixes the restart kind. -/
theorem kindFix_host {k : Nat} (hp : m.start.phase = 1) (hf : m.start.kindEff = 0) (hk : k = 1 ∨ k = 2) :
    m.kindFix k = (m.kindSet k).setF .startCtrl F.startCtrl_KIND k :=
  if_pos ⟨hp, hf, hk⟩

theorem kindFix_elsewhere (h : m.start.phase ≠ 1) (k : Nat) : m.kindFix k = m :=
  if_neg fun hh => h hh.1

/-- No copy is picked only where neither bank holds one (R442). -/
theorem retPick_none {a : Option RetImg} (h : m.retPick = (0, a)) : m.nv.retA = none ∧ m.nv.retB = none := by
  unfold retPick at h
  split at h
  next ha hb => exact ⟨ha, hb⟩
  · cases h
  · cases h
  · split at h <;> cases h

/-- A warm start without a valid image comes to a cold one, logged RET_INVALID (R442). -/
theorem kindSet_no_image (ha : m.nv.retA = none) (hb : m.nv.retB = none) (k : Nat) :
    m.kindSet k =
      (({ m with start := { m.start with kindEff := 1, phase := 2, phaseMon := m.mon } } : Mach).emit .retInvalid 0).initCold none := by
  have hpick : m.retPick = (0, none) := by simp only [retPick, ha, hb]
  simp [kindSet, hpick]

theorem withFields_go (m : Mach) : F.startCtrl_GO.get (m.withFields .startCtrl [(F.startCtrl_GO, 1)]) = 1 :=
  Fld.get_set_same _ _ _ (by decide)

theorem timeWait_passed (hp : m.start.phase = 3) (hn : m.flag .startStat F.startStat_NO_TIME = false)
    (ht : m.fld .startCtrl F.startCtrl_TIME_WAIT * 100000000 ≤ m.since m.start.phaseMon) :
    m.timeWait = (m.setF .startStat F.startStat_NO_TIME 1).emit .startNoTime 0 :=
  if_neg (by simp [hp, hn, ht])

theorem timeWait_idle (h : m.start.phase ≠ 3 ∨ m.flag .startStat F.startStat_NO_TIME = true ∨
      m.since m.start.phaseMon < m.fld .startCtrl F.startCtrl_TIME_WAIT * 100000000) : m.timeWait = m :=
  if_pos h

theorem bayWait_passed (hp : m.start.phase = 5) (ht : m.fld .startCtrl F.startCtrl_BAY_WAIT * 100000000 ≤ m.since m.start.phaseMon) :
    m.bayWait = forEach ((List.range 32).filter (fun b =>
      decide (m.modeReq b ≠ 0) && decide ((m.bay b).mode = 0) && !m.bayReady b)) m (fun m b => m.giveUp b) :=
  if_neg (by simp [hp, ht])

theorem bayWait_idle (h : m.start.phase ≠ 5 ∨ m.since m.start.phaseMon < m.fld .startCtrl F.startCtrl_BAY_WAIT * 100000000) :
    m.bayWait = m :=
  if_pos h

end Sys2Proof.Machine.Mach
end

section
/-! The write of the retentive image (R43, R44, R440, R774). -/

namespace Sys2Proof.Machine.Mach

variable {m : Mach} {i : RetImg}

/-- A write of the image that is due begins in the banks in service (R43, R440). -/
theorem retStart_due (hk : m.start.kindEff ≠ 0) (hw : m.nv.writing = none)
    (ht : msNs (m.fld .logRetCtrl F.logRetCtrl_RET_PERIOD) ≤ m.since m.nv.lastMon) :
    m.retStart false =
      { m with nv := { m.nv with
          writing := some (m.retImage, (if m.fenced 43 then [] else [0]) ++ (if m.fenced 44 then [] else [1]), false),
          lastMon := m.mon, nextSeq := m.nv.nextSeq + 1 } } :=
  if_neg (by simp [hk, hw, ht])

theorem retStart_idle (h : m.start.kindEff = 0 ∨ m.nv.writing ≠ none ∨
      m.since m.nv.lastMon < msNs (m.fld .logRetCtrl F.logRetCtrl_RET_PERIOD)) : m.retStart false = m :=
  if_pos (by rcases h with h | h | h <;> simp [h, Option.isSome_iff_ne_none])

/-- A copy goes to a bank that is in service (R44). -/
theorem retPut_in_service {b : Nat} (h : m.fenced (43 + b) = false) (i : RetImg) :
    m.retPut b i =
      { m with nv := { m.nv with retA := if b = 0 then some i else m.nv.retA, retB := if b = 0 then m.nv.retB else some i } } :=
  if_neg (by simp [h])

theorem retDone_none (h : m.nv.writing = none) : m.retDone = m := by
  simp only [retDone, h]

/-- The write goes on with the next bank. -/
theorem retDone_next {b c : Nat} {l : List Nat} {hu : Bool} (h : m.nv.writing = some (i, b :: c :: l, hu)) :
    m.retDone = (let m := m.retPut b i
                 { m with nv := { m.nv with writing := some (i, c :: l, hu) } }) := by
  simp only [retDone, h]

/-- With its last bank the image is written. -/
theorem retDone_last {b : Nat} {hu : Bool} (h : m.nv.writing = some (i, [b], hu)) : m.retDone = (m.retPut b i).retEnd i hu := by
  simp only [retDone, h]

end Sys2Proof.Machine.Mach

namespace Sys2Proof.Machine

/-- Settles O59: START_CTRL by what an accepted write does, the waits passed and not, the image's write begun, gone on with, and done. -/
theorem startPhases : Obligations.StartPhases := by
  refine ⟨fun ses x k => ?_, fun m k hp hf hk => Mach.kindFix_host hp hf hk, fun m k h => Mach.kindFix_elsewhere h k,
    fun m a h => Mach.retPick_none h, fun m ha hb => Mach.kindSet_no_image ha hb 2, fun ses x => ?_, ?_, ?_, ?_, ?_, fun m b => rfl,
    ?_, ?_, ?_, ?_, ?_, ?_, fun i b l h => ?_, fun i => ?_, fun i => ?_, fun i => ?_⟩
  · exact Acts.of_live (fun _ => rfl) fun m hu hp => (hostPut_ok hu hp rfl).trans (m.regPut_startCtrl _ _)
  · refine Acts.of_live (fun _ => rfl) fun m hu ⟨h1, hp⟩ => ?_
    rw [hostPut_ok hu hp rfl, Mach.regPut_startCtrl]
    simp only [m.withFields_go, if_true]
    rw [Mach.kindFix_elsewhere (by exact h1)]
    rfl
  · exact Acts.of_awake (fun _ => rfl) fun m _ ⟨hp, hn, ht⟩ => Mach.timeWait_passed hp hn ht
  · exact Acts.of_awake (fun _ => rfl) fun m _ h => Mach.timeWait_idle h
  · exact Acts.of_awake (fun _ => rfl) fun m _ h => Mach.bayWait_idle h
  · exact Acts.of_awake (fun _ => rfl) fun m _ ⟨hp, ht⟩ => Mach.bayWait_passed hp ht
  · refine Acts.of_awake (fun _ => rfl) fun m _ ⟨hk, hw, ht, hA, hB⟩ => ?_
    rw [Mach.retStart_due hk hw ht, hA, hB]; rfl
  · exact Acts.of_awake (fun _ => rfl) fun m _ h => Mach.retStart_idle (h.imp_right .inl)
  · exact Acts.of_awake (fun _ => rfl) fun m _ h => Mach.retDone_none h
  · refine Acts.of_awake (fun _ => rfl) fun m _ ⟨hk, hw, ht, hA, hB⟩ => ?_
    rw [Mach.retStart_due hk hw ht, hA, hB]; rfl
  · refine Acts.of_awake (fun _ => rfl) fun m _ ⟨hk, hw, ht, hA, hB⟩ => ?_
    rw [Mach.retStart_due hk hw ht, hA, hB]; rfl
  · exact Acts.of_awake (fun _ => rfl) fun m _ h => Mach.retStart_idle (.inr (.inr h))
  · refine Acts.of_awake (fun _ => rfl) fun m _ ⟨hw, hA⟩ => ?_
    rw [Mach.retDone_next hw, Mach.retPut_in_service hA]; rfl
  · refine Acts.of_awake (fun _ => rfl) fun m _ ⟨hw, hB⟩ => ?_
    rw [Mach.retDone_last hw, Mach.retPut_in_service hB]; rfl
  · refine Acts.of_awake (fun _ => rfl) fun m _ ⟨hw, hA⟩ => ?_
    rw [Mach.retDone_last hw, Mach.retPut_in_service hA]; rfl
  · refine Acts.of_awake (fun _ => rfl) fun m _ ⟨hw, hB⟩ => ?_
    rw [Mach.retDone_last hw, Mach.retPut_in_service hB]; rfl

end Sys2Proof.Machine
end

section
/-! FAULT_N and TB_INC_INT at every step (R460, R578, R714, R735). -/

namespace Sys2Proof.Machine

namespace Mach

/-- TB_INC_INT shows INC, or the host may write it (R460). -/
def incShown (m : Mach) : Prop :=
  (m.fld .tbCtrl F.tbCtrl_SERVO_EN = 0 ∧ m.tb.st = .free) ∨ m.rd .tbIncInt = wd (m.tb.inc.toNat / 2 ^ 32)

/-- What holds FAULT_N low: a lasting fault, boot failed, a position conflict, a bay unprotected (R578, R714, R735, R736). -/
def faultHeld (m : Mach) : Bool :=
  m.zeroFault || m.start.bootFail || m.posConflict || (List.range 32).any (fun b => (m.bay b).unprot)

theorem faultHeld_setF (m : Mach) (r : Reg) (f : Fld) (v : Nat) : (m.setF r f v).faultHeld = m.faultHeld := by
  unfold setF fresh1Add
  split <;> rfl

/-- Setting FAULT_N by what R714 names leaves INC and its registers alone. -/
theorem shown_setFault {m : Mach} (h : m.incShown) : m.setFault.shown := ⟨rfl, h⟩

/-- What leaves INC and its registers alone leaves TB_INC_INT as it has to be. -/
theorem KeepsInc.incShown {m x : Mach} (h : KeepsInc m x) (hm : m.incShown) : x.incShown := by
  obtain ⟨-, -, hinc, hst, hint, hctrl⟩ := h
  rwa [Mach.incShown, Mach.fld, hinc, hst, hint, hctrl]

theorem incShown_incSync (m : Mach) : m.incSync.incShown := by
  unfold incSync
  split
  next hfree => exact .inl hfree
  next => exact .inr (rd_wr_same m _ _)

/-- What follows every command ends with TB_INC_INT and FAULT_N set. -/
theorem settle_shown (old m : Mach) : (settle old m).shown :=
  shown_setFault ((KeepsInc.linkServe _).incShown (incShown_incSync _))

theorem live_shown {f : Mach → Mach} {m : Mach} (h : m.shown) : (live f m).shown := by
  unfold live
  split
  · exact h
  · exact settle_shown _ _

theorem incShown_flpTick {m : Mach} (h : m.incShown) : m.flpTick.incShown := by
  unfold flpTick
  split
  · exact h
  · dsimp only
    split
    · exact (KeepsInc.flpMin m).incShown h
    · exact (settle_shown _ _).2

theorem tick_shown {m : Mach} (h : m.shown) : m.tick.shown := by
  unfold tick
  split
  · exact h
  · have hclock : (m.updTb fun t => { t with ltc := t.ltc + t.inc.setWidth 96, mon := t.mon + 8 }).instantOver.incShown := h.2
    exact shown_setFault ((KeepsInc.linkTick _).incShown (incShown_flpTick ((KeepsInc.prbsTick _).incShown hclock)))

/-- Logging changes neither what holds FAULT_N low nor INC and its registers. -/
theorem Logs.shown {m x : Mach} (h : Logs m x) (hm : m.shown) : x.shown := by
  have hint : x.rd .tbIncInt = m.rd .tbIncInt := logs_rd h _ (by simp [logReg, Reg.addr])
  have hctrl : x.rd .tbCtrl = m.rd .tbCtrl := logs_rd h _ (by simp [logReg, Reg.addr])
  obtain ⟨rg, f1, fc, rc, cm, b, st, rfl, -, -⟩ := h
  refine ⟨hm.1, ?_⟩
  rw [fld, hctrl, hint]
  exact hm.2

/-- Nothing of R714 outlives a restart, and FAULT_N is high after it. -/
theorem resetKeep_faultN (m : Mach) : m.resetKeep.pins.faultN = !m.resetKeep.faultHeld := by
  unfold resetKeep
  dsimp only
  split
  · rw [burnSeal, setF_pins, setF_pins, faultHeld_setF, faultHeld_setF]
    rfl
  · rfl

theorem resetKeep_tb (m : Mach) : m.resetKeep.tb = Tb.init := by
  unfold resetKeep
  dsimp only
  split
  · rw [burnSeal, setF_tb, setF_tb]
    rfl
  · rfl

theorem resetKeep_incShown (m : Mach) : m.resetKeep.incShown := by
  refine .inr ?_
  rw [keep_regs m .tbIncInt rfl (by decide) (by decide), resetKeep_tb]
  decide

theorem restart_shown (m : Mach) (c : Nat) (k : Option Nat) : (m.restart c k).shown :=
  (restart_logs m c k).shown ⟨m.resetKeep_faultN, m.resetKeep_incShown⟩

theorem rstRelease_incShown {m : Mach} (h : m.incShown) (psA : Bool) : (m.rstRelease psA).incShown := by
  unfold rstRelease
  split <;> exact h

end Mach

/-- What a command can answer in state s: that of a happening on a block that is not held in reset, of an edge of power or of RST_N after
which FAULT_N is set, or of RST_N going low. -/
inductive Answer (s : State) : Host.Outcome State Fault Refusal → Prop
  | live (f : Mach → Mach) : Answer s (onM (Mach.live f) s)
  | edge (f : Mach → Mach) (hf : s.m.incShown → (f s.m).incShown) : Answer s (onM (fun m => (f m).setFault) s)
  | held : Answer s (onM Mach.rstAssert s)

theorem exec_answer (i : Instr) (s : State) : Answer s (exec i s) := by
  cases i with
  | powerOn => exact .edge (fun m => m.powerOn _ _ _ _ _) fun _ => (Mach.restart_shown s.m 0 none).2
  | rstNRelease => exact .edge (fun m => m.rstRelease _) fun h => Mach.rstRelease_incShown h _
  | rstNAssert => exact .held
  | _ => exact .live _

/-- Every answer leaves FAULT_N and TB_INC_INT as they have to be. -/
theorem Answer.shown {s t : State} {o : Host.Outcome State Fault Refusal} (ho : Answer s o) (hs : s.m.shown) (h : o = .next t) :
    t.m.shown := by
  cases ho with
  | live f =>
    cases h
    exact Mach.live_shown hs
  | edge f hf =>
    cases h
    exact Mach.shown_setFault (hf hs.2)
  | held =>
    cases h
    exact Mach.restart_shown s.m 1 none

/-- Settles O3: a step is one tick or one command, and each ends with FAULT_N and TB_INC_INT set, or leaves what they show as it was. -/
theorem faultPinAndIncKept : Obligations.FaultPinAndIncKept := by
  intro s t hs h
  unfold step at h
  split at h
  · cases h
    exact Mach.tick_shown hs
  next i rest _ => exact (exec_answer i { s with pending := rest }).shown hs h

end Sys2Proof.Machine
end

section
/-! HOLD after a re-route (R497 to R499): its end by verification, by HOLD_MAX and by ACCEPT. -/

namespace Sys2Proof.Machine

namespace Mach

variable {m : Mach} {h : HoldSt}

/-- The verification of a new path against the offset o of HOLD_T, which TB_RR_OFS shows (R497, R498). -/
def holdVerify (m : Mach) (h : HoldSt) (o : Int) : Mach :=
  let m := m.wr .tbRrOfs (sat32w o)
  if o.natAbs ≤ 10 * m.fld .tbRrCfg F.tbRrCfg_VERIFY_THR then
    (m.pathSet m.ptpPort h.news).updTb (fun t => { t with st := .locked, unlockCnt := 0, hold := none })
  else
    let m := (m.setF .tbStat F.tbStat_RR_ASYM 1).emitW .timeAsym 1 [sat32w o]
    m.updTb (fun t => { t with hold := some { h with tStart := m.mon, offs := [] } })

/-- TB_RR_OFS leaves the threshold that its offset is held against as it is. -/
theorem fld_wr_tbRrOfs (m : Mach) (w : Word) (f : Fld) : (m.wr .tbRrOfs w).fld .tbRrCfg f = m.fld .tbRrCfg f :=
  congrArg f.get (rd_wr_ne _ _ _ _ (by decide))

/-- Within VERIFY_THR the new path is taken and the servo LOCKED again. -/
theorem holdVerify_within {o : Int} (ho : o.natAbs ≤ 10 * m.fld .tbRrCfg F.tbRrCfg_VERIFY_THR) (h : HoldSt) :
    m.holdVerify h o =
      (let m := m.wr .tbRrOfs (sat32w o)
       (m.pathSet m.ptpPort h.news).updTb (fun t => { t with st := .locked, unlockCnt := 0, hold := none })) :=
  if_pos (by rwa [fld_wr_tbRrOfs])

/-- Beyond it HOLD_T begins anew, and RR_ASYM tells why. -/
theorem holdVerify_beyond {o : Int} (ho : 10 * m.fld .tbRrCfg F.tbRrCfg_VERIFY_THR < o.natAbs) (h : HoldSt) :
    m.holdVerify h o =
      (let m := ((m.wr .tbRrOfs (sat32w o)).setF .tbStat F.tbStat_RR_ASYM 1).emitW .timeAsym 1 [sat32w o]
       m.updTb (fun t => { t with hold := some { h with tStart := m.mon, offs := [] } })) :=
  if_neg (by rwa [fld_wr_tbRrOfs, Nat.not_le])

/-- HOLD_T has not passed, or there is no HOLD. -/
theorem holdTEnd_idle (ht : ∀ h, m.tb.hold = some h → m.since h.tStart < m.fld .tbRrCfg F.tbRrCfg_HOLD_T * 1000000000) :
    m.holdTEnd = m := by
  unfold holdTEnd
  split
  · rfl
  next h hh => exact if_pos (ht h hh)

/-- HOLD_T has passed with offsets measured in its second half: their mean decides (R497). -/
theorem holdTEnd_measured (hh : m.tb.hold = some h)
    (ht : m.fld .tbRrCfg F.tbRrCfg_HOLD_T * 1000000000 ≤ m.since h.tStart) (hl : m.holdOffs h ≠ []) :
    m.holdTEnd = m.holdVerify h (ratRound (meanI (m.holdOffs h))) := by
  have he : (m.holdOffs h).isEmpty = false := by simpa using hl
  simp only [holdTEnd, hh, if_neg (Nat.not_lt.mpr ht), he]
  rfl

/-- With none measured, a free value stands for the mean (log entry 20). -/
theorem holdTEnd_unmeasured (hh : m.tb.hold = some h)
    (ht : m.fld .tbRrCfg F.tbRrCfg_HOLD_T * 1000000000 ≤ m.since h.tStart) (hl : m.holdOffs h = []) :
    m.holdTEnd = ({ m with free := m.free + 1 } : Mach).holdVerify h (sgn32 (Config.freeValue m.free)) := by
  simp only [holdTEnd, hh, if_neg (Nat.not_lt.mpr ht), hl]
  rfl

/-- The end of HOLD by its length or on command takes the new path and starts the servo again (R498). -/
theorem holdTake_hold (hh : m.tb.hold = some h) (ev : Ev) :
    m.holdTake ev = ((m.pathSet m.ptpPort h.news).tbAcquire).emit ev 1 := by
  rw [holdTake, hh]

theorem rrAccept_hold (hh : m.tb.hold = some h) :
    m.rrAccept = ((m.pathSet m.ptpPort h.news).tbAcquire).emit .timeAccept 1 := holdTake_hold hh _

theorem holdMax_due (hh : m.tb.hold = some h) (ht : m.fld .tbRrCtrl F.tbRrCtrl_HOLD_MAX * 1000000000 ≤ m.since h.entered) :
    m.holdMax = ((m.pathSet m.ptpPort h.news).tbAcquire).emit .timeHoldMax 1 := by
  rw [holdMax, hh]
  exact (if_neg (Nat.not_lt.mpr ht)).trans (holdTake_hold hh _)

theorem holdMax_idle (ht : ∀ h, m.tb.hold = some h → m.since h.entered < m.fld .tbRrCtrl F.tbRrCtrl_HOLD_MAX * 1000000000) :
    m.holdMax = m := by
  unfold holdMax
  split
  · rfl
  next h hh => exact if_pos (ht h hh)

/-- The word that TB_RR_ACCEPT writes has ACCEPT set. -/
theorem withFields_accept (m : Mach) : F.tbRrCtrl_ACCEPT.get (m.withFields .tbRrCtrl [(F.tbRrCtrl_ACCEPT, 1)]) = 1 :=
  Fld.get_set_same _ _ _ (by decide)

/-- An accepted write of TB_RR_CTRL with ACCEPT stores its word and accepts the new path (R499). -/
theorem regPut_tbRrCtrl_accept (m : Mach) (who : Who) {w : Word} (hw : F.tbRrCtrl_ACCEPT.get w = 1) :
    m.regPut who .tbRrCtrl w = (m.stored .tbRrCtrl w).rrAccept :=
  if_pos hw

end Mach

/-- TB_RR_ACCEPT by what its accepted write of ACCEPT does. -/
theorem acts_tbRrAccept {ses : Nat} {x : Session} {P : Mach → Prop} {f : Mach → Mach}
    (hP : ∀ m, P m → m.mayWrite x ses .tbRrCtrl (m.withFields .tbRrCtrl [(F.tbRrCtrl_ACCEPT, 1)]))
    (h : ∀ m, P m → (m.stored .tbRrCtrl (m.withFields .tbRrCtrl [(F.tbRrCtrl_ACCEPT, 1)])).rrAccept = f m) :
    Acts (.tbRrAccept ses) P f :=
  Acts.of_live (fun _ => rfl) fun m hu hp => by
    rw [hostPut_ok hu (hP m hp) rfl, m.regPut_tbRrCtrl_accept _ m.withFields_accept, h m hp]

/-- Settles O34: the end of HOLD_T by what was measured in its second half, HOLD_MAX and ACCEPT by the path they take. -/
theorem reRouteHold : Obligations.ReRouteHold := by
  refine ⟨fun h => ?_, fun h => ?_, fun h => ?_, ?_, fun _ _ => rfl, fun h => ?_, ?_, fun ses x h => ?_, fun _ => rfl, fun _ _ _ => rfl⟩
  · refine Acts.of_awake (fun _ => rfl) fun m _ ⟨hh, ht, hl, ho⟩ => ?_
    rw [Mach.holdTEnd_measured hh ht hl, Mach.holdVerify_within ho]
  · refine Acts.of_awake (fun _ => rfl) fun m _ ⟨hh, ht, hl, ho⟩ => ?_
    rw [Mach.holdTEnd_measured hh ht hl, Mach.holdVerify_beyond ho]
  · exact Acts.of_awake (fun _ => rfl) fun m _ ⟨hh, ht, hl⟩ => Mach.holdTEnd_unmeasured hh ht hl
  · exact Acts.of_awake (fun _ => rfl) fun m _ ht => Mach.holdTEnd_idle ht
  · exact Acts.of_awake (fun _ => rfl) fun m _ ⟨hh, ht⟩ => Mach.holdMax_due hh ht
  · exact Acts.of_awake (fun _ => rfl) fun m _ ht => Mach.holdMax_idle ht
  · exact acts_tbRrAccept (fun m hp => hp.1) fun m ⟨_, hh⟩ => Mach.rrAccept_hold (m := m.stored _ _) hh

end Sys2Proof.Machine
end

section
/-! The time base's registers (R460, R464, R466, R467, R474, R480, R493): what an accepted write does, and a read. -/

namespace Sys2Proof.Machine

namespace Mach

variable {m : Mach} {b c : Src}

/-- A rule of the time base that a write breaks is among those it breaks. -/
theorem mem_broken_of_time {who : Who} {r : Reg} {w : Word} {e : Nat × Nat}
    (h : e ∈ m.brokenTime who r (m.rd r) w (m.merged r w)) : e ∈ m.broken who r w := by
  simp only [broken, List.mem_append, h, true_or, or_true]

theorem brokenTime_tbIncFrac (m : Mach) (who : Who) (old w new : Word) :
    m.brokenTime who .tbIncFrac old w new =
      ck (!decide (m.fld .tbCtrl F.tbCtrl_SERVO_EN = 0 ∧ m.tb.st = .free)) stState ++
        ck (incBad ((m.rd .tbIncInt).toNat % 256 * 2 ^ 32 + w.toNat)) stParam := rfl

theorem brokenTime_armed {who : Who} {old w new : Word} (ha : F.tbStepCtrl_ARM.get new = 1) :
    m.brokenTime who .tbStepCtrl old w new =
      ck (!who.maint) stAuth ++ ck (F.tbStepCtrl_ARM.get old = 1) stState ++
        ck (F.tbStepCtrl_USE_FSEQ.get new = 1 && m.fseqPast (m.rd .tbStepFseq)) stParam := if_pos ha

/-- INC is the servo's while it is enabled or the state is not FREE (R460). -/
theorem regCheck_tbIncFrac_servo (who : Who) (w : Word) (h : m.flag .tbCtrl F.tbCtrl_SERVO_EN = true ∨ m.tb.st ≠ .free) :
    (m.regCheck who .tbIncFrac w).isSome = true := by
  have hhost : ¬(m.fld .tbCtrl F.tbCtrl_SERVO_EN = 0 ∧ m.tb.st = .free) := by
    rintro ⟨hs, hf⟩
    simp [flag, hs, hf] at h
  have hrule : (stState, 0) ∈ m.brokenTime who .tbIncFrac (m.rd .tbIncFrac) w (m.merged .tbIncFrac w) := by
    rw [brokenTime_tbIncFrac]
    simp [ck, hhost]
  exact firstBroken_of_state (mem_broken_of_time hrule)

/-- A step is armed with the maintenance role only (R474). -/
theorem regCheck_tbStepCtrl_role {who : Who} {w : Word} (hm : who.maint = false)
    (ha : F.tbStepCtrl_ARM.get (m.newWord .tbStepCtrl w) = 1) : (m.regCheck who .tbStepCtrl w).isSome = true := by
  have hnew : F.tbStepCtrl_ARM.get (m.merged .tbStepCtrl w) = 1 := ha
  have hrule : (stAuth, 0) ∈ m.brokenTime who .tbStepCtrl (m.rd .tbStepCtrl) w (m.merged .tbStepCtrl w) := by
    rw [brokenTime_armed hnew]
    simp [ck, hm]
  exact firstBroken_of_mem (mem_broken_of_time hrule) (by decide)

/-- TB_INC_FRAC loads INC from both words (R460). -/
theorem regPut_tbIncFrac (m : Mach) (who : Who) (w : Word) :
    m.regPut who .tbIncFrac w = (m.stored .tbIncFrac w).updTb (fun t => { t with
      inc := BitVec.ofNat 40 (((m.stored .tbIncFrac w).rd .tbIncInt).toNat % 256 * 2 ^ 32 + (m.newWord .tbIncFrac w).toNat) }) := rfl

theorem regPut_tbCtrl (m : Mach) (who : Who) (w : Word) : m.regPut who .tbCtrl w = (m.stored .tbCtrl w).tbCtrlWritten := rfl

theorem regPut_tbStepCtrl (m : Mach) (who : Who) (w : Word) :
    m.regPut who .tbStepCtrl w = (m.stored .tbStepCtrl w).stepWritten (m.rd .tbStepCtrl) (m.newWord .tbStepCtrl w) := rfl

theorem regPut_trgCtrl (m : Mach) (who : Who) (n : Nat) (w : Word) :
    m.regPut who (.trgCtrl n) w =
      if F.trgCtrl_ARM.get (m.newWord (.trgCtrl n) w) = 1 then (m.stored (.trgCtrl n) w).trgArmed n else m.stored (.trgCtrl n) w := rfl

theorem stepWritten_disarmed {old new : Word} (ho : F.tbStepCtrl_ARM.get old = 1) (hn : F.tbStepCtrl_ARM.get new = 0) :
    m.stepWritten old new = m.stepDisarm := if_pos ⟨ho, hn⟩

theorem stepWritten_kept {old new : Word} (h : F.tbStepCtrl_ARM.get old = 0 ∨ F.tbStepCtrl_ARM.get new = 1) :
    m.stepWritten old new = m := if_neg (by omega)

/-- A trigger armed at its target, or past it, reports PAST (R480). -/
theorem trgArmed_eq (m : Mach) (n : Nat) :
    m.trgArmed n = if 0 ≤ ((m.ltc.setWidth 32) - m.rd (.trgTarget n)).toInt then m.setF (.trgStat n) F.trgStat_PAST 1 else m := by
  simp only [trgArmed, trgReached, decide_eq_true_eq]

theorem regReadAt_tbLtcLo (m : Mach) : (m.regReadAt .tbLtcLo).2 = m.ltcLatch := rfl

theorem regReadAt_lnTsqEnt0 (m : Mach) (l : Nat) : (m.regReadAt (.lnTsqEnt0 l)).2 = m.tsqRead l := rfl

theorem tsqRead_some {l : Nat} {e : Nat × Time} (h : m.tsqHead l = some e) :
    m.tsqRead l =
      (let m := m.updTb (fun x => { x with tsq := setAt x.tsq l ((x.tsq.getD l []).erase e) })
       ((m.wr (.lnTsqEnt0 l) (wd (2 ^ 31 + e.1 % 65536))).wr (.lnTsqEnt1 l) (e.2.setWidth 32)).wr (.lnTsqEnt2 l)
         ((e.2 >>> 32).setWidth 32)) := by
  rw [tsqRead, h]

theorem tsqRead_none {l : Nat} (h : m.tsqHead l = none) : m.tsqRead l = m.wr (.lnTsqEnt0 l) 0 := by
  rw [tsqRead, h]

/-- With its followed source lost the time base is FREE, and INC the mean of its last values (R466, R467). -/
theorem tbLost_followed (hs : m.tb.src = some c) :
    m.tbLost =
      (m.updTb (fun t => { t with
        st := .free, lockCnt := 0, unlockCnt := 0, hold := none, lastMeas := none, src := m.bestSrc
        inc := if t.incHist = [] then t.inc
          else BitVec.ofInt 40 (ratRound (meanI (t.incHist.map (fun i => ((i.toNat : Nat) : Int))))) })).emit .timeSrcLost c.code := by
  by_cases hl : m.tb.incHist = []
  · simp only [tbLost, hs, updTb, hl, List.isEmpty_nil, if_true]
    rfl
  · simp only [tbLost, hs, updTb, List.isEmpty_iff, if_neg hl]
    rfl

section
variable (hp : m.srcEn .ptp = true)
include hp

/-- Nothing was followed: the highest-ranked source enabled and qualified is from now on. -/
theorem tbCtrlWritten_first (hs : m.tb.src = none) (hb : m.bestSrc = some b) :
    m.tbCtrlWritten = m.updTb (fun t => { t with src := some b }) := by
  simp only [tbCtrlWritten, hp, if_true, hs, hb]

theorem tbCtrlWritten_none (hs : m.tb.src = none) (hb : m.bestSrc = none) : m.tbCtrlWritten = m := by
  simp only [tbCtrlWritten, hp, if_true, hs, hb]

/-- A better source than the followed one, by the state of the servo. -/
theorem tbCtrlWritten_better_free (hs : m.tb.src = some c) (hc : m.srcEn c = true) (hb : m.bestSrc = some b) (hr : b.prio < c.prio)
    (hf : m.tb.st = .free) : m.tbCtrlWritten = m.updTb (fun t => { t with src := some b }) := by
  simp only [tbCtrlWritten, hp, hc, if_true, hs, hb, if_pos hr, hf]

theorem tbCtrlWritten_better_running (hs : m.tb.src = some c) (hc : m.srcEn c = true) (hb : m.bestSrc = some b) (hr : b.prio < c.prio)
    (hf : m.tb.st = .acquire ∨ m.tb.st = .locked) : m.tbCtrlWritten = m.tbFollow b := by
  rcases hf with hf | hf <;> simp only [tbCtrlWritten, hp, hc, if_true, hs, hb, if_pos hr, hf]

/-- No better source, or HOLD: the followed source stays. -/
theorem tbCtrlWritten_stays (hs : m.tb.src = some c) (hc : m.srcEn c = true)
    (h : ∀ b, m.bestSrc = some b → b.prio < c.prio → m.tb.st = .hold) : m.tbCtrlWritten = m := by
  simp only [tbCtrlWritten, hp, hc, if_true, hs]
  cases hb : m.bestSrc with
  | none => rfl
  | some b =>
    by_cases hr : b.prio < c.prio
    · simp only [if_pos hr, h b hb hr]
    · simp only [if_neg hr]

/-- The followed source has lost its enable: the next one is followed. -/
theorem tbCtrlWritten_next_free (hs : m.tb.src = some c) (hc : m.srcEn c = false) (hb : m.bestSrc = some b)
    (hf : m.tb.st = .free) : m.tbCtrlWritten = m.updTb (fun t => { t with src := some b }) := by
  simp [tbCtrlWritten, hp, hc, hs, hb, hf]

theorem tbCtrlWritten_next_running (hs : m.tb.src = some c) (hc : m.srcEn c = false) (hb : m.bestSrc = some b)
    (hf : m.tb.st ≠ .free) : m.tbCtrlWritten = (m.tbFollow b).emit .timeSrcChange b.code := by
  simp [tbCtrlWritten, hp, hc, hs, hb, hf]

/-- None is left: the source counts as lost. -/
theorem tbCtrlWritten_lost (hs : m.tb.src = some c) (hc : m.srcEn c = false) (hb : m.bestSrc = none) : m.tbCtrlWritten = m.tbLost := by
  simp [tbCtrlWritten, hp, hc, hs, hb]

end

/-- ARM written 0 lets go the step and its waiting COMPLETE, which reports 0x0205 (R474). -/
theorem stepDisarm_unwaited (h : m.tb.stepWaiter = none) :
    m.stepDisarm = (m.updTb (fun t => { t with stepDue := false, stepWaiter := none })).stepReleased := by
  simp only [stepDisarm, h, completeO]

theorem stepDisarm_waited {y : Waiter} (h : m.tb.stepWaiter = some y) :
    m.stepDisarm =
      ((m.updTb (fun t => { t with stepDue := false, stepWaiter := none })).complete y 0x0205 0 0 m.ltc 0).stepReleased := by
  simp only [stepDisarm, h, completeO]
  rfl

end Mach

/-- TB_STEP_ARM by what its accepted write leaves of the step. -/
theorem acts_tbStepArm {ses : Nat} {w : Word} {x : Session} {P : Mach → Prop} {f : Mach → Mach}
    (hP : ∀ m, P m → m.mayWrite x ses .tbStepCtrl w)
    (h : ∀ m, P m → (m.stored .tbStepCtrl w).stepWritten (m.rd .tbStepCtrl) (m.newWord .tbStepCtrl w) = f m) :
    Acts (.tbStepArm ses w) P f :=
  Acts.of_live (fun _ => rfl) fun m hu hp => by rw [hostPut_ok hu (hP m hp) rfl, Mach.regPut_tbStepCtrl, h m hp]

/-- TRIGGER_ARM of a trigger that exists. -/
theorem acts_triggerArm {ses n : Nat} {w : Word} {x : Session} {P : Mach → Prop} {f : Mach → Mach}
    (hP : ∀ m, P m → n < 8 ∧ m.mayWrite x ses (.trgCtrl n) w)
    (h : ∀ m, P m → (if F.trgCtrl_ARM.get (m.newWord (.trgCtrl n) w) = 1 then (m.stored (.trgCtrl n) w).trgArmed n
      else m.stored (.trgCtrl n) w) = f m) : Acts (.triggerArm ses n w) P f :=
  Acts.of_write (fun _ => rfl) (Mach.endsUdp_past (by decide) _) hP fun m hp => (m.regPut_trgCtrl _ n w).trans (h m hp)

/-- TSQ_ENTRY_READ of a lane that exists. -/
theorem acts_tsqEntryRead {ses l : Nat} {x : Session} {P : Mach → Prop} {f : Mach → Mach}
    (hP : ∀ m, P m → l < 5 ∧ m.sess ses = some x ∧ m.start.recovery = false) (h : ∀ m, P m → m.tsqRead l = f m) :
    Acts (.tsqEntryRead ses l) P f :=
  Acts.of_live (F := Mach.only (wfMac l) fun m => m.hostGet ses (.lnTsqEnt0 l)) (fun _ => rfl) fun m hu hp => by
    obtain ⟨hl, hs, hr⟩ := hP m hp
    rw [only_ok (c := wfMac l) (Nat.blt_eq.mpr hl), hostGet_ok hu hs hr, Mach.regReadAt_lnTsqEnt0, h m hp]

/-- Settles O31: each register by what its accepted write or its read does, TB_CTRL by the sources that it leaves enabled. -/
theorem timeRegisters : Obligations.TimeRegisters := by
  refine ⟨fun ses x w => ?_, fun m who w h => ?_, fun ses x => ?_, fun ses x w => ?_, fun m hp => ?_, fun _ _ => rfl,
    fun m c hs => Mach.tbLost_followed hs, fun ses x w => ?_, fun ses x w => ?_, fun ses x w => ?_,
    fun m => ⟨Mach.stepDisarm_unwaited, fun y hy => Mach.stepDisarm_waited hy⟩, fun m who w hm ha => ?_, fun ses x => ?_,
    fun ses x n w => ?_, fun ses x n w => ?_, fun ses x l e => ?_, fun ses x l => ?_⟩
  · exact Acts.of_live (fun _ => rfl) fun m hu hw => (hostPut_ok hu hw rfl).trans (m.regPut_tbIncFrac _ w)
  · exact Option.isSome_iff_ne_none.mp (Mach.regCheck_tbIncFrac_servo who w h)
  · exact Acts.of_live (fun _ => rfl) fun m hu hp => (hostGet_ok hu hp.1 hp.2).trans m.regReadAt_tbLtcLo
  · exact Acts.of_live (fun _ => rfl) fun m hu hw => (hostPut_ok hu hw rfl).trans (m.regPut_tbCtrl _ w)
  · exact ⟨fun _ hs hb => Mach.tbCtrlWritten_first hp hs hb, fun hs hb => Mach.tbCtrlWritten_none hp hs hb,
      fun _ _ hs hc hb hr hf => Mach.tbCtrlWritten_better_free hp hs hc hb hr hf,
      fun _ _ hs hc hb hr hf => Mach.tbCtrlWritten_better_running hp hs hc hb hr hf,
      fun _ hs hc h => Mach.tbCtrlWritten_stays hp hs hc h,
      fun _ _ hs hc hb hf => Mach.tbCtrlWritten_next_free hp hs hc hb hf,
      fun _ _ hs hc hb hf => Mach.tbCtrlWritten_next_running hp hs hc hb hf,
      fun _ hs hc hb => Mach.tbCtrlWritten_lost hp hs hc hb⟩
  · exact acts_tbStepArm (fun _ hp => hp.1) fun m ⟨_, hn⟩ => Mach.stepWritten_kept (.inr hn)
  · exact acts_tbStepArm (fun _ hp => hp.1) fun m ⟨_, ho, hn⟩ => Mach.stepWritten_disarmed ho hn
  · exact acts_tbStepArm (fun _ hp => hp.1) fun m ⟨_, ho, _⟩ => Mach.stepWritten_kept (.inl ho)
  · exact Option.isSome_iff_ne_none.mp (Mach.regCheck_tbStepCtrl_role hm ha)
  · exact acts_tbRrAccept (fun _ hp => hp) fun _ _ => rfl
  · exact acts_triggerArm (fun _ hp => ⟨hp.1, hp.2.1⟩) fun m ⟨_, _, ha⟩ => (if_pos ha).trans (Mach.trgArmed_eq _ n)
  · exact acts_triggerArm (fun _ hp => ⟨hp.1, hp.2.1⟩) fun m ⟨_, _, ha⟩ => if_neg (by rw [ha]; decide)
  · exact acts_tsqEntryRead (fun _ ⟨hl, hs, hr, _⟩ => ⟨hl, hs, hr⟩) fun m ⟨_, _, _, he⟩ => Mach.tsqRead_some he
  · exact acts_tsqEntryRead (fun _ ⟨hl, hs, hr, _⟩ => ⟨hl, hs, hr⟩) fun m ⟨_, _, _, he⟩ => Mach.tsqRead_none he

end Sys2Proof.Machine
end

section
/-! PTP as slave: Announce, Sync, Follow_Up, path values, and what their absence does (R483, R484, R486, R494). -/

namespace Sys2Proof.Machine

namespace Mach

variable {m : Mach} {p : Nat} {g : Gm} {a : Announce} {x : SyncMsg}

/-- A change that leaves the time base as it is changes nothing. -/
theorem updTb_self {f : Tb → Tb} (h : f m.tb = m.tb) : m.updTb f = m := by
  rw [updTb, h]

/-- An Announce names a better grandmaster than the present one (R484, R486). -/
def gmBetter (m : Mach) (a : Announce) : Bool :=
  match m.tb.gm with
  | none => true
  | some g => decide (g.id ≠ a.gm) && decide (a.rank < g.rank)

/-- The sender of an Announce becomes the grandmaster, its port the followed one. -/
def gmTake (m : Mach) (p : Nat) (a : Announce) : Mach :=
  let sync := m.syncNs
  let m := m.updTb (fun t =>
    { t with gm := some { id := a.gm, rank := a.rank, syncNs := sync },
             ports := t.ports.map (fun x => { x with announceMon := none, syncMon := none, pendSync := none }) })
  ((m.wr .tbGmIdHi ((a.gm >>> 32).setWidth 32)).wr .tbGmIdLo (a.gm.setWidth 32)).setF .tbStat F.tbStat_PTP_PORT p

/-- An Announce of the grandmaster refreshes its port and may give UTC_OFS (R483). -/
def gmHeard (m : Mach) (p : Nat) (a : Announce) : Mach :=
  let m := m.updPtp p (fun x => { x with announceMon := some m.mon })
  let m := match a.utc with
    | some u => m.setF .tbUtcOfs F.tbUtcOfs_UTC_OFS u
    | none => m
  m.srcGain .ptp

/-- An Announce is taken where it is the grandmaster's. -/
def announceEnd (m : Mach) (p : Nat) (a : Announce) : Mach :=
  match m.tb.gm with
  | some g => if g.id ≠ a.gm then m else (m.updTb (fun t => { t with gm := some { g with rank := a.rank } })).gmHeard p a
  | none => m

theorem ptpAnnounce_eq (m : Mach) (p : Nat) (a : Announce) :
    m.ptpAnnounce p a =
      if !m.ptpOn p || !m.srcEn .ptp || decide (a.domain ≠ m.fld .tbPtpCfg F.tbPtpCfg_DOMAIN) then m
      else (if m.gmBetter a then m.gmTake p a else m).announceEnd p a := rfl

theorem ptpAnnounce_counts (hon : m.ptpOn p = true) (hen : m.srcEn .ptp = true) (hd : a.domain = m.fld .tbPtpCfg F.tbPtpCfg_DOMAIN) :
    m.ptpAnnounce p a = (if m.gmBetter a then m.gmTake p a else m).announceEnd p a :=
  (ptpAnnounce_eq m p a).trans (if_neg (by simp [hon, hen, hd]))

theorem ptpAnnounce_barred (h : m.ptpOn p = false ∨ m.srcEn .ptp = false ∨ a.domain ≠ m.fld .tbPtpCfg F.tbPtpCfg_DOMAIN) :
    m.ptpAnnounce p a = m :=
  (ptpAnnounce_eq m p a).trans (if_pos (by rcases h with h | h | h <;> simp [h]))

theorem gmBetter_true (h : m.tb.gm = none ∨ ∃ g, m.tb.gm = some g ∧ g.id ≠ a.gm ∧ a.rank < g.rank) : m.gmBetter a = true := by
  rcases h with h | ⟨g, h, hid, hr⟩
  · simp only [gmBetter, h]
  · simp [gmBetter, h, hid, hr]

theorem gmBetter_false (h : m.tb.gm = some g) (hn : g.id = a.gm ∨ g.rank ≤ a.rank) : m.gmBetter a = false := by
  rcases hn with hn | hn <;> simp [gmBetter, h, hn]

theorem gmTake_gm (m : Mach) (p : Nat) (a : Announce) :
    (m.gmTake p a).tb.gm = some { id := a.gm, rank := a.rank, syncNs := m.syncNs } := by
  rw [gmTake, setF_tb]
  rfl

theorem announceEnd_known (hg : m.tb.gm = some g) (hid : g.id = a.gm) :
    m.announceEnd p a = (m.updTb (fun t => { t with gm := some { g with rank := a.rank } })).gmHeard p a := by
  rw [announceEnd, hg]
  exact if_neg (not_not_intro hid)

theorem announceEnd_other (hg : m.tb.gm = some g) (hid : g.id ≠ a.gm) : m.announceEnd p a = m := by
  rw [announceEnd, hg]
  exact if_pos hid

/-- The grandmaster just taken is known by the rank that it was taken with. -/
theorem announceEnd_taken (m : Mach) (p : Nat) (a : Announce) : (m.gmTake p a).announceEnd p a = (m.gmTake p a).gmHeard p a := by
  have hg := m.gmTake_gm p a
  rw [announceEnd_known hg rfl, updTb_self]
  rw [← hg]

/-- Announces of the last 3 s on neither port (R486). -/
theorem ptpAnnTimeout_due (hq : m.srcQual .ptp = true) (h : ∀ p, p < 2 → ∀ t, (m.ptp p).announceMon = some t → 3000000000 ≤ m.since t) :
    m.ptpAnnTimeout = m.ptpLose := by
  refine if_pos (Bool.and_eq_true_iff.mpr ⟨hq, List.all_eq_true.mpr fun p hp => ?_⟩)
  split
  next t ht => exact decide_eq_true (h p (List.mem_range.mp hp) t ht)
  · rfl

theorem ptpAnnTimeout_idle
    (h : m.srcQual .ptp = false ∨ ∃ p t, p < 2 ∧ (m.ptp p).announceMon = some t ∧ m.since t < 3000000000) : m.ptpAnnTimeout = m := by
  refine if_neg fun hc => ?_
  obtain ⟨hq, hall⟩ := Bool.and_eq_true_iff.mp hc
  rcases h with h | ⟨p, t, hp, ht, hl⟩
  · rw [h] at hq
    cases hq
  · have hmiss := List.all_eq_true.mp hall p (List.mem_range.mpr hp)
    simp only [ht, decide_eq_true_eq] at hmiss
    omega

/-- A Sync of the grandmaster gives its interval and a path value, a two-step one once its Follow_Up has come (R494). -/
theorem ptpSync_counts (hg : m.tb.gm = some g) (hon : m.ptpOn p = true) (hen : m.srcEn .ptp = true)
    (hd : x.domain = m.fld .tbPtpCfg F.tbPtpCfg_DOMAIN) (hs : x.src = g.id) :
    m.ptpSync p x =
      (let ns := (ratRound (1000000000 * pow2 (clampI (-8) 8 x.logInt))).toNat
       let m := m.updTb (fun t => { t with gm := some { g with syncNs := ns } })
       let m := m.updPtp p (fun x => { x with syncMon := some m.mon })
       let rx := m.rxStamp p x.rx
       if x.twoStep then m.updPtp p (fun y => { y with pendSync := some (x.seq, rx, x.corr) })
       else m.syncDone p x.origin x.corr rx) := by
  rw [ptpSync, hg]
  exact if_neg (by simp [hon, hen, hd, hs])

theorem ptpSync_barred (h : m.ptpOn p = false ∨ m.srcEn .ptp = false ∨ x.domain ≠ m.fld .tbPtpCfg F.tbPtpCfg_DOMAIN ∨
      ∀ g, m.tb.gm = some g → x.src ≠ g.id) : m.ptpSync p x = m := by
  unfold ptpSync
  split
  · rfl
  next g hg =>
    refine if_pos ?_
    rcases h with h | h | h | h
    · simp [h]
    · simp [h]
    · simp [h]
    · simp [h g hg]

/-- A path value near the filtered path enters the filter, and on the followed port the offset is measured (R494). -/
theorem pathValue_near {v o : Int} (hh : m.tb.hold = none) (hd : (m.ptp p).held = none)
    (hn : (m.ptp p).path = [] ∨
      ratAbs ((v : Rat) - meanI (m.ptp p).path) ≤ 1000 * ((m.fld .tbRrCfg F.tbRrCfg_PD_STEP_THR : Nat) : Rat)) :
    m.pathValue p v o =
      (let m' := m.pathSet p (v :: (m.ptp p).path)
       if p = m.ptpPort then m'.offsetMeas .ptp o m'.syncNs else m') := by
  have hnear : ((m.ptp p).path.isEmpty ||
      decide (ratAbs ((v : Rat) - meanI (m.ptp p).path) ≤ 1000 * ((m.fld .tbRrCfg F.tbRrCfg_PD_STEP_THR : Nat) : Rat))) = true := by
    simpa using hn
  simp only [pathValue, hh, ite_self, hnear, if_true, hd, Option.isSome_none, decide_eq_true_eq, Bool.false_eq_true, if_false]

/-- The Follow_Up of a two-step Sync completes it (R483, R494). -/
theorem ptpFollowUp_counts {rx corr : Int} (hg : m.tb.gm = some g) (hp : (m.ptp p).pendSync = some (x.seq, rx, corr))
    (hon : m.ptpOn p = true) (hd : x.domain = m.fld .tbPtpCfg F.tbPtpCfg_DOMAIN) (hs : x.src = g.id) :
    m.ptpFollowUp p x = (m.updPtp p (fun x => { x with pendSync := none })).syncDone p x.origin (corr + x.corr) rx := by
  rw [ptpFollowUp, hg, hp]
  exact if_neg (by simp [hon, hd, hs])

theorem ptpFollowUp_barred (h : m.ptpOn p = false ∨ x.domain ≠ m.fld .tbPtpCfg F.tbPtpCfg_DOMAIN ∨
      (∀ g, m.tb.gm = some g → x.src ≠ g.id) ∨ ∀ q rx corr, (m.ptp p).pendSync = some (q, rx, corr) → x.seq ≠ q) :
    m.ptpFollowUp p x = m := by
  unfold ptpFollowUp
  split
  next g q rx corr hg hp =>
    refine if_pos ?_
    rcases h with h | h | h | h
    · simp [h]
    · simp [h]
    · simp [h g hg]
    · simp [h q rx corr hp]
  · rfl

theorem ptpSyncMiss_iff (m : Mach) (p : Nat) : m.ptpSyncMiss p = true ↔ ∀ t, (m.ptp p).syncMon = some t → 3 * m.syncNs ≤ m.since t := by
  unfold ptpSyncMiss
  split
  next t ht => simp [ht]
  next hn => simp [hn]

/-- Three Sync intervals run from the followed port's last Sync, from its last Announce where no Sync has come. -/
def syncRef (m : Mach) : Option Time := (m.ptp m.ptpPort).syncMon.or (m.ptp m.ptpPort).announceMon

theorem syncRef_sync {t : Time} (h : (m.ptp m.ptpPort).syncMon = some t) : m.syncRef = some t := by
  rw [syncRef, h, Option.some_or]

theorem syncRef_announce (h : (m.ptp m.ptpPort).syncMon = none) : m.syncRef = (m.ptp m.ptpPort).announceMon := by
  rw [syncRef, h, Option.none_or]

/-- After three intervals without a Sync the other port is followed, or PTP lost where it has missed them too (R484, R486). -/
theorem ptpSyncTimeout_due {t : Time} (hg : m.tb.gm = some g) (hr : m.syncRef = some t) (ht : 3 * m.syncNs ≤ m.since t) :
    m.ptpSyncTimeout =
      if m.ptpSyncMiss (1 - m.ptpPort) = false then m.setF .tbStat F.tbStat_PTP_PORT (1 - m.ptpPort) else m.ptpLose := by
  cases hs : (m.ptp m.ptpPort).syncMon with
  | some t' =>
    obtain rfl : t' = t := Option.some.inj ((syncRef_sync hs).symm.trans hr)
    simp only [ptpSyncTimeout, hg, hs, if_neg (Nat.not_lt.mpr ht), Bool.not_eq_true']
  | none =>
    have ha := (syncRef_announce hs).symm.trans hr
    simp only [ptpSyncTimeout, hg, hs, ha, if_neg (Nat.not_lt.mpr ht), Bool.not_eq_true']

theorem ptpSyncTimeout_idle (h : m.tb.gm = none ∨ ∀ t, m.syncRef = some t → m.since t < 3 * m.syncNs) : m.ptpSyncTimeout = m := by
  cases hg : m.tb.gm with
  | none => simp only [ptpSyncTimeout, hg]
  | some g =>
    have hlt := h.resolve_left (by simp [hg])
    cases hs : (m.ptp m.ptpPort).syncMon with
    | some t => simp only [ptpSyncTimeout, hg, hs, if_pos (hlt t (syncRef_sync hs))]
    | none =>
      cases ha : (m.ptp m.ptpPort).announceMon with
      | some t => simp only [ptpSyncTimeout, hg, hs, ha, if_pos (hlt t ((syncRef_announce hs).trans ha))]
      | none => simp only [ptpSyncTimeout, hg, hs, ha]

end Mach
end Sys2Proof.Machine
end

section
/-! Peer delay and PTP as master (R485, R490, R492, R494, R513): what is queued, what its departure leaves, what an answer gives. -/

namespace Sys2Proof.Machine

namespace Mach

variable {m : Mach} {p l q : Nat} {f : TxFrame} {r : PdResp}

/-- Queueing a message leaves the time base, and so every port's state and every instant, as it was. -/
@[simp] theorem ptpOut_tb (m : Mach) (typ p seq : Nat) (body : List Int) (post : TxPost) : (m.ptpOut typ p seq body post).tb = m.tb :=
  txPut_tb _ _ _ _ _ _

theorem pdReqSend_due (hon : m.ptpOn p = true) (ht : ∀ t, (m.ptp p).reqMon = some t → 1000000000 ≤ m.since t) :
    m.pdReqSend p = (m.ptpOut 3 p (m.ptp p).reqSeq [] (.pdReq (m.ptp p).reqSeq)).updPtp p (fun x =>
      { x with reqSeq := ((m.ptp p).reqSeq + 1) % 65536, reqMon := some m.mon, pdResp := none, pdReq := none }) := by
  cases hr : (m.ptp p).reqMon with
  | none => simp [pdReqSend, hon, hr, mon]
  | some t => simp [pdReqSend, hon, hr, mon, ht t hr]

theorem pdReqSend_idle (h : m.ptpOn p = false ∨ ∃ t, (m.ptp p).reqMon = some t ∧ m.since t < 1000000000) : m.pdReqSend p = m := by
  rcases h with h | ⟨t, ht, hl⟩
  · simp [pdReqSend, h]
  · simp [pdReqSend, ht, Nat.not_le.mpr hl]

/-- A Pdelay_Req keeps its transmit stamp as it leaves (R492). -/
theorem txGo_pdReq_room (hf : f.post = .pdReq q) (hr : (m.tb.tsq.getD l []).length < 16) :
    m.txGo l f = ((m.bump (.mac l 1) F.mac_COUNT 1).send f.frame).updPtp l (fun x => { x with pdReq := some (q, m.txStamp l) }) := by
  simp only [txGo, hf, send_tb, bump_tb, Nat.not_le.mpr hr, decide_false, Bool.false_eq_true, if_false]

/-- A full stamp queue counts, and ends the exchange (R492, R513). -/
theorem txGo_pdReq_full (hf : f.post = .pdReq q) (hr : 16 ≤ (m.tb.tsq.getD l []).length) :
    m.txGo l f = (((m.bump (.mac l 1) F.mac_COUNT 1).send f.frame).bump (.lnTsqOvf l) F.lnTsqOvf_VALUE 1).updPtp l
      (fun x => { x with pdReq := none }) := by
  simp only [txGo, hf, send_tb, bump_tb, hr, decide_true, if_true]

theorem pdResp_one {t1 : Int} (hr : (m.ptp p).pdReq = some (r.seq, t1)) (hon : m.ptpOn p = true) (h2 : r.twoStep = false) :
    m.pdResp p r = m.updPtp p (fun x => { x with linkDelay := (m.rxStamp p r.rx - t1 - r.corr) / 2, pdReq := none, pdResp := none }) := by
  simp [pdResp, hr, hon, h2]

theorem pdResp_two {t1 : Int} (hr : (m.ptp p).pdReq = some (r.seq, t1)) (hon : m.ptpOn p = true) (h2 : r.twoStep = true) :
    m.pdResp p r = m.updPtp p (fun x => { x with pdResp := some (r.seq, m.rxStamp p r.rx - t1 - r.corr, r.stamp) }) := by
  simp [pdResp, hr, hon, h2]

theorem pdResp_idle (h : m.ptpOn p = false ∨ ∀ t1, (m.ptp p).pdReq ≠ some (r.seq, t1)) : m.pdResp p r = m := by
  unfold pdResp
  split
  next seq t1 hr =>
    refine if_pos ?_
    rcases h with h | h
    · simp [h]
    · have hseq : seq ≠ r.seq := fun he => h t1 (he ▸ hr)
      simp [hseq]
  · rfl

theorem pdRespFu_done {rt t2 : Int} (hr : (m.ptp p).pdResp = some (r.seq, rt, t2)) (hon : m.ptpOn p = true) :
    m.pdRespFu p r = m.updPtp p (fun x => { x with linkDelay := (rt - (r.stamp - t2) - r.corr) / 2, pdReq := none, pdResp := none }) := by
  simp [pdRespFu, hr, hon]

theorem pdRespFu_idle (h : m.ptpOn p = false ∨ ∀ rt t2, (m.ptp p).pdResp ≠ some (r.seq, rt, t2)) : m.pdRespFu p r = m := by
  unfold pdRespFu
  split
  next seq rt t2 hr =>
    refine if_pos ?_
    rcases h with h | h
    · simp [h]
    · have hseq : seq ≠ r.seq := fun he => h rt t2 (he ▸ hr)
      simp [hseq]
  · rfl

theorem rd_bump_ne (m : Mach) (r r' : Reg) (f : Fld) (n : Nat) (h : r'.addr ≠ r.addr) : (m.bump r f n).rd r' = m.rd r' := by
  rw [bump, rd_setF_ne _ _ _ _ _ h, freshCAdd_rd]

/-- Counting a frame sent leaves the features accepted as they are. -/
theorem feat_txCount (m : Mach) (l : Nat) {k : Nat} (hk : k < 128) : (m.bump (.mac l 1) F.mac_COUNT 1).feat k = m.feat k := by
  rw [feat, rd_bump_ne _ _ _ _ _ (by simp only [Reg.addr]; omega)]
  rfl

/-- One-step, the answer to a Pdelay_Req carries the residence time (R490). -/
theorem txGo_pdResp_oneStep {t2 : Int} (hf : f.post = .pdResp q t2) (h6 : m.feat 6 = true) :
    m.txGo l f = (m.bump (.mac l 1) F.mac_COUNT 1).send
      (.ptp 4 l q [0, m.txStamp l - t2] (m.bump (.mac l 1) F.mac_COUNT 1).ptpTag) := by
  simp only [txGo, hf, feat_txCount m l (k := 6) (by decide), h6, if_true]

theorem txGo_pdResp_twoStep {t2 : Int} (hf : f.post = .pdResp q t2) (h6 : m.feat 6 = false) :
    m.txGo l f = ((m.bump (.mac l 1) F.mac_COUNT 1).send f.frame).ptpOut 5 l q [m.txStamp l, 0] .plain := by
  simp only [txGo, hf, feat_txCount m l (k := 6) (by decide), h6, Bool.false_eq_true, if_false]

theorem txGo_sync_oneStep (hf : f.post = .sync q) (h6 : m.feat 6 = true) :
    m.txGo l f = (m.bump (.mac l 1) F.mac_COUNT 1).send
      (.ptp 0 l q [m.txStamp l, 0] (m.bump (.mac l 1) F.mac_COUNT 1).ptpTag) := by
  simp only [txGo, hf, feat_txCount m l (k := 6) (by decide), h6, if_true]

theorem txGo_sync_twoStep (hf : f.post = .sync q) (h6 : m.feat 6 = false) :
    m.txGo l f = ((m.bump (.mac l 1) F.mac_COUNT 1).send f.frame).ptpOut 1 l q [m.txStamp l, 0] .plain := by
  simp only [txGo, hf, feat_txCount m l (k := 6) (by decide), h6, Bool.false_eq_true, if_false]

theorem pdReqRecv_works (hon : m.ptpOn p = true) (rx : Int) :
    m.pdReqRecv p q rx = m.ptpOut 4 p q [m.rxStamp p rx, 0] (.pdResp q (m.rxStamp p rx)) :=
  if_neg (by simp [hon])

theorem pdReqRecv_off (hon : m.ptpOn p = false) (rx : Int) : m.pdReqRecv p q rx = m :=
  if_pos (by simp [hon])

/-- The interval between Syncs as master, from LOG_SYNC (R485). -/
def syncInterval (m : Mach) : Nat := 1000000000 / 2 ^ ((16 - m.fld .tbPtpCfg F.tbPtpCfg_LOG_SYNC) % 16)

/-- The last instant of a message, where there was one, is n ns or more ago. -/
def passed (m : Mach) (t : Option Time) (n : Nat) : Bool :=
  match t with
  | some x => decide (n ≤ m.since x)
  | none => true

theorem passed_iff (m : Mach) (t : Option Time) (n : Nat) : m.passed t n = true ↔ ∀ x, t = some x → n ≤ m.since x := by
  cases t <;> simp [passed]

theorem passed_false {t : Option Time} {n : Nat} (h : ∃ x, t = some x ∧ m.since x < n) : m.passed t n = false := by
  obtain ⟨x, rfl, hl⟩ := h
  exact decide_eq_false (Nat.not_le.mpr hl)

/-- The unit sends as PTP master on port p: PTP works there, the unit acts, MASTER_EN is set, and it does not follow PTP (R485). -/
def masters (m : Mach) (p : Nat) : Prop :=
  m.ptpOn p = true ∧ m.acts = true ∧ m.flag .tbCtrl F.tbCtrl_MASTER_EN = true ∧ m.tb.src ≠ some .ptp

/-- The Sync of a master, and each second its Announce (R485). -/
def masterSend (m : Mach) (p : Nat) : Mach :=
  let seq := (m.ptp p).mSeq
  let due := m.passed
  let m := m.ptpOut 0 p seq [0, 0] (.sync seq)
  let ann := due (m.ptp p).mAnn 1000000000
  let m := if ann then m.ptpOut 2 p seq [m.clockClass, m.fld .tbPtpCfg F.tbPtpCfg_PRIORITY1,
    m.fld .tbPtpCfg F.tbPtpCfg_PRIORITY2, m.fld .tbUtcOfs F.tbUtcOfs_UTC_OFS] .plain else m
  m.updPtp p (fun x => { x with mSeq := (seq + 1) % 65536, mSync := some m.mon, mAnn := if ann then some m.mon else x.mAnn })

theorem ptpMaster_eq (m : Mach) (p : Nat) :
    m.ptpMaster p =
      if !m.ptpOn p || !m.acts || !m.flag .tbCtrl F.tbCtrl_MASTER_EN || decide (m.tb.src = some .ptp) ||
        !m.passed (m.ptp p).mSync m.syncInterval then m else m.masterSend p := by
  rfl

theorem ptpMaster_due (hm : m.masters p) (hs : m.passed (m.ptp p).mSync m.syncInterval = true) : m.ptpMaster p = m.masterSend p := by
  obtain ⟨hon, hacts, hen, hsrc⟩ := hm
  exact (ptpMaster_eq m p).trans (if_neg (by simp [hon, hacts, hen, hsrc, hs]))

theorem ptpMaster_idle (h : m.flag .tbCtrl F.tbCtrl_MASTER_EN = false ∨ m.acts = false ∨ m.tb.src = some .ptp ∨ m.ptpOn p = false ∨
    m.passed (m.ptp p).mSync m.syncInterval = false) : m.ptpMaster p = m :=
  (ptpMaster_eq m p).trans (if_pos (by rcases h with h | h | h | h | h <;> simp [h]))

theorem masterSend_sync (ha : m.passed (m.ptp p).mAnn 1000000000 = false) :
    m.masterSend p = (m.ptpOut 0 p (m.ptp p).mSeq [0, 0] (.sync (m.ptp p).mSeq)).updPtp p
      (fun x => { x with mSeq := ((m.ptp p).mSeq + 1) % 65536, mSync := some m.mon }) := by
  simp only [masterSend, ptp, ptpOut_tb, mon] at ha ⊢
  simp only [ha, Bool.false_eq_true, if_false, ptpOut_tb]

theorem masterSend_announce (ha : m.passed (m.ptp p).mAnn 1000000000 = true) :
    m.masterSend p =
      (let m' := m.ptpOut 0 p (m.ptp p).mSeq [0, 0] (.sync (m.ptp p).mSeq)
       (m'.ptpOut 2 p (m.ptp p).mSeq [m'.clockClass, m'.fld .tbPtpCfg F.tbPtpCfg_PRIORITY1,
         m'.fld .tbPtpCfg F.tbPtpCfg_PRIORITY2, m'.fld .tbUtcOfs F.tbUtcOfs_UTC_OFS] .plain).updPtp p
           (fun x => { x with mSeq := ((m.ptp p).mSeq + 1) % 65536, mSync := some m.mon, mAnn := some m.mon })) := by
  simp only [masterSend, ptp, ptpOut_tb, mon] at ha ⊢
  simp only [ha, if_true, ptpOut_tb]

end Mach
end Sys2Proof.Machine
end

section
/-! PTP messages by what the time base does with them (R483 to R494). -/

namespace Sys2Proof.Machine

/-- A command that does nothing, whether its operand names a part or not (log entry 29). -/
theorem Acts.of_part_idle {i : Instr} {k n : Nat} {P : Mach → Prop} {F : Mach → Mach}
    (he : ∀ s, exec i s = onM (Mach.awake (Mach.only (Nat.blt k n) F)) s) (h : ∀ m, P m → F m = m) : Acts i P (fun m => m) :=
  Acts.of_awake he fun m _ hp => by
    unfold Mach.only
    split
    · exact h m hp
    · rfl

/-- PTP_MASTER_SYNC_SEND on a port where a Sync is due (R485). -/
theorem acts_ptpMaster {p : Nat} {P : Mach → Prop} {f : Mach → Mach}
    (hP : ∀ m, P m → p < 2 ∧ m.masters p ∧ m.passed (m.ptp p).mSync m.syncInterval = true)
    (h : ∀ m, P m → m.masterSend p = f m) : Acts (.ptpMasterSyncSend p) P f :=
  Acts.of_part (fun _ => rfl) (fun m hp => (hP m hp).1) fun m hp => by
    obtain ⟨-, hm, hs⟩ := hP m hp
    rw [Mach.ptpMaster_due hm hs, h m hp]

/-- PTP_SYNC_TIMEOUT once three intervals have passed since the followed port's reference (R486). -/
theorem acts_ptpSyncTimeout {g : Gm} {t : Time} {P : Mach → Prop} {f : Mach → Mach}
    (hP : ∀ m, P m → m.tb.gm = some g ∧ m.syncRef = some t ∧ 3 * m.syncNs ≤ m.since t)
    (h : ∀ m, P m → (if m.ptpSyncMiss (1 - m.ptpPort) = false then m.setF .tbStat F.tbStat_PTP_PORT (1 - m.ptpPort) else m.ptpLose) = f m) :
    Acts .ptpSyncTimeout P f :=
  Acts.of_awake (fun _ => rfl) fun m _ hp => by
    obtain ⟨hg, hr, ht⟩ := hP m hp
    exact (Mach.ptpSyncTimeout_due hg hr ht).trans (h m hp)

/-- Settles O33: each message by whether the port takes it, the timeouts by the instants they run from, a departure by its frame's kind. -/
theorem ptpMessages : Obligations.PtpMessages := by
  refine ⟨⟨fun p a => ?_, fun p a g => ?_, fun p a => ?_, ?_, ?_, fun p x g => ?_, fun p x => ?_, fun _ _ _ _ _ => rfl,
    fun m p v o hh hd hn => Mach.pathValue_near hh hd hn, fun p x g rx corr => ?_, fun p x => ?_, fun g t => ?_, fun g t => ?_,
    fun g t => ?_, ?_, Mach.ptpSyncMiss_iff⟩,
    fun p => ?_, fun p => ?_, fun m l f q hf hr => Mach.txGo_pdReq_room hf hr, fun m l f q hf hr => Mach.txGo_pdReq_full hf hr,
    fun p r t1 => ?_, fun p r t1 => ?_, fun p r => ?_, fun p r rt t2 => ?_, fun p r => ?_, fun p q rx => ?_, fun p q rx => ?_,
    fun m l f q t2 hf h6 => ⟨_, Mach.txGo_pdResp_oneStep hf h6⟩, fun m l f q t2 hf h6 => Mach.txGo_pdResp_twoStep hf h6,
    fun p => ?_, fun p => ?_, fun p => ?_, fun m l f q hf h6 => ⟨_, Mach.txGo_sync_oneStep hf h6⟩,
    fun m l f q hf h6 => Mach.txGo_sync_twoStep hf h6⟩
  · refine Acts.of_part (fun _ => rfl) (fun _ hp => hp.1) fun m ⟨_, hon, hen, hd, hg⟩ => ?_
    rw [Mach.ptpAnnounce_counts hon hen hd, if_pos (Mach.gmBetter_true hg), Mach.announceEnd_taken]
    rfl
  · refine Acts.of_part (fun _ => rfl) (fun _ hp => hp.1) fun m ⟨_, hg, hid, hon, hen, hd⟩ => ?_
    rw [Mach.ptpAnnounce_counts hon hen hd, if_neg (by simp [Mach.gmBetter_false hg (.inl hid)]), Mach.announceEnd_known hg hid]
    rfl
  · refine Acts.of_part (fun _ => rfl) (fun _ hp => hp.1) fun m ⟨_, h⟩ => ?_
    by_cases hbar : m.ptpOn p = false ∨ m.srcEn .ptp = false ∨ a.domain ≠ m.fld .tbPtpCfg F.tbPtpCfg_DOMAIN
    · exact Mach.ptpAnnounce_barred hbar
    · simp only [not_or, Bool.not_eq_false, ne_eq, Decidable.not_not] at hbar
      obtain ⟨hon, hen, hd⟩ := hbar
      obtain ⟨g, hg, hid, hr⟩ : ∃ g, m.tb.gm = some g ∧ g.id ≠ a.gm ∧ g.rank ≤ a.rank := by simpa [hon, hen, hd] using h
      rw [Mach.ptpAnnounce_counts hon hen hd, if_neg (by simp [Mach.gmBetter_false hg (.inr hr)]), Mach.announceEnd_other hg hid]
  · exact Acts.of_awake (fun _ => rfl) fun m _ ⟨hq, h⟩ => Mach.ptpAnnTimeout_due hq h
  · exact Acts.of_awake (fun _ => rfl) fun m _ h => Mach.ptpAnnTimeout_idle h
  · exact Acts.of_part (fun _ => rfl) (fun _ hp => hp.1) fun m ⟨_, hg, hon, hen, hd, hs⟩ => Mach.ptpSync_counts hg hon hen hd hs
  · exact Acts.of_part (fun _ => rfl) (fun _ hp => hp.1) fun m ⟨_, h⟩ => Mach.ptpSync_barred h
  · exact Acts.of_part (fun _ => rfl) (fun _ hp => hp.1) fun m ⟨_, hg, hp, hon, hd, hs⟩ => Mach.ptpFollowUp_counts hg hp hon hd hs
  · exact Acts.of_part (fun _ => rfl) (fun _ hp => hp.1) fun m ⟨_, h⟩ => Mach.ptpFollowUp_barred h
  · exact acts_ptpSyncTimeout (fun m ⟨hg, hs, ht, _⟩ => ⟨hg, Mach.syncRef_sync hs, ht⟩) fun m ⟨_, _, _, hmiss⟩ => if_pos hmiss
  · exact acts_ptpSyncTimeout (fun m ⟨hg, hs, ht, _⟩ => ⟨hg, Mach.syncRef_sync hs, ht⟩)
      fun m ⟨_, _, _, hmiss⟩ => if_neg (by simp [hmiss])
  · exact acts_ptpSyncTimeout (fun m ⟨hg, hs, ha, ht, _⟩ => ⟨hg, (Mach.syncRef_announce hs).trans ha, ht⟩)
      fun m ⟨_, _, _, _, hmiss⟩ => if_neg (by simp [hmiss])
  · refine Acts.of_awake (fun _ => rfl) fun m _ h => Mach.ptpSyncTimeout_idle (h.imp_right fun h t hr => ?_)
    rcases h with ⟨t', hs, hl⟩ | ⟨hs, hl⟩
    · obtain rfl : t' = t := Option.some.inj ((Mach.syncRef_sync hs).symm.trans hr)
      exact hl
    · exact hl t ((Mach.syncRef_announce hs).symm.trans hr)
  · exact Acts.of_part (fun _ => rfl) (fun _ hp => hp.1) fun m ⟨_, hon, ht⟩ => Mach.pdReqSend_due hon ht
  · exact Acts.of_part_idle (fun _ => rfl) fun m h => Mach.pdReqSend_idle h
  · exact Acts.of_part (fun _ => rfl) (fun _ hp => hp.1) fun m ⟨_, hr, hon, h2⟩ => Mach.pdResp_one hr hon h2
  · exact Acts.of_part (fun _ => rfl) (fun _ hp => hp.1) fun m ⟨_, hr, hon, h2⟩ => Mach.pdResp_two hr hon h2
  · exact Acts.of_part (fun _ => rfl) (fun _ hp => hp.1) fun m ⟨_, h⟩ => Mach.pdResp_idle h
  · exact Acts.of_part (fun _ => rfl) (fun _ hp => hp.1) fun m ⟨_, hr, hon⟩ => Mach.pdRespFu_done hr hon
  · exact Acts.of_part (fun _ => rfl) (fun _ hp => hp.1) fun m ⟨_, h⟩ => Mach.pdRespFu_idle h
  · exact Acts.of_part (fun _ => rfl) (fun _ hp => hp.1) fun m ⟨_, hon⟩ => Mach.pdReqRecv_works hon rx
  · exact Acts.of_part_idle (fun _ => rfl) fun m hon => Mach.pdReqRecv_off hon rx
  · exact acts_ptpMaster (fun m ⟨hp, hon, hact, hen, hsrc, hs, _⟩ => ⟨hp, ⟨hon, hact, hen, hsrc⟩, (m.passed_iff _ _).mpr hs⟩)
      fun m ⟨_, _, _, _, _, _, ha⟩ => Mach.masterSend_sync (Mach.passed_false ha)
  · exact acts_ptpMaster (fun m ⟨hp, hon, hact, hen, hsrc, hs, _⟩ => ⟨hp, ⟨hon, hact, hen, hsrc⟩, (m.passed_iff _ _).mpr hs⟩)
      fun m ⟨_, _, _, _, _, _, ha⟩ => Mach.masterSend_announce ((m.passed_iff _ _).mpr ha)
  · refine Acts.of_part_idle (fun _ => rfl) fun m h => Mach.ptpMaster_idle ?_
    exact h.imp_right (.imp_right (.imp_right (.imp_right Mach.passed_false)))

end Sys2Proof.Machine
end

section
/-! The serial lanes' states and adaptation (R502, R505 to R511, R515, R525, R564). -/

namespace Sys2Proof.Machine

namespace Mach

variable {m : Mach} {l c : Nat} {an : Bool} {a d : Word} {f bad : Nat}

/-- EN, auto-negotiation and the entry to TRAIN of a serial lane, which has none of SVC's branches. -/
theorem laneOn_lane (hl : l < 4) : m.laneOn l = m.flag (.lnCfg l) F.lnCfg_EN := if_neg (Nat.ne_of_lt hl)

theorem laneAn_lane (hl : l < 4) :
    m.laneAn l = (m.flag (.lnCfg l) F.lnCfg_AN_EN && decide (m.fld (.lnCfg l) F.lnCfg_RATE = 0)) := if_neg (Nat.ne_of_lt hl)

theorem laneTrain_lane (hl : l < 4) (warm : Bool) :
    m.laneTrain l warm =
      (let m' := m.updLane l (fun x => { x with st := .train, trainMon := m.mon, eqMon := m.mon })
       if warm && (m.lane l).fromUp then m'.eqSet l (m.lane l).eqUp.1 (m.lane l).eqUp.2 else m'.eqPresets l) :=
  if_neg (Nat.ne_of_lt hl)

/-- The causes that a lane can have: the fourth not at the rate that auto-negotiates, the sixth only at the highest in role ETH. -/
theorem laneCause_iff (hl : l < 4) (c : Nat) :
    m.laneCause l c = true ↔ c = 1 ∨ c = 2 ∨ c = 3 ∨ (c = 4 ∧ m.fld (.lnCfg l) F.lnCfg_RATE ≠ 0) ∨ (c = 5 ∧ m.laneAn l = true) ∨
      (c = 6 ∧ m.fld (.lnCfg l) F.lnCfg_RATE = 2 ∧ m.fld (.lnCfg l) F.lnCfg_ROLE ≠ 1) := by
  have hrate : (if l = 4 then 0 else m.fld (.lnCfg l) F.lnCfg_RATE) = m.fld (.lnCfg l) F.lnCfg_RATE := if_neg (Nat.ne_of_lt hl)
  unfold laneCause
  rw [hrate]
  split
  next => simp
  next => simp
  next => simp
  next => simp
  next => simp
  next => simp [pairRole]
  next h1 h2 h3 h4 h5 h6 =>
    refine iff_of_false Bool.false_ne_true ?_
    rintro (rfl | rfl | rfl | ⟨rfl, _⟩ | ⟨rfl, _⟩ | ⟨rfl, _⟩) <;> contradiction

/-- EN set takes a lane from OFF to TRAIN; a lane that is OFF without it, or FENCED, stays so (R509). -/
theorem laneEn_starts (hl : l < 4) (hs : (m.lane l).st = .off) (he : m.flag (.lnCfg l) F.lnCfg_EN = true) :
    m.laneEn l = (m.updLane l (fun x => { x with st := .train, trainMon := m.mon, eqMon := m.mon })).eqPresets l := by
  simp only [laneEn, hs, laneOn_lane hl, he, laneTrain_lane hl]
  rfl

theorem laneEn_stays_off (hl : l < 4) (hs : (m.lane l).st = .off) (he : m.flag (.lnCfg l) F.lnCfg_EN = false) : m.laneEn l = m := by
  simp only [laneEn, hs, laneOn_lane hl, he]
  rfl

theorem laneEn_fenced (hs : (m.lane l).st = .fenced) : m.laneEn l = m := by
  simp only [laneEn, hs]

/-- On a lane that runs, EN set changes nothing; cleared it takes the lane to OFF, from TEST with its generator, checker and activity ended. -/
theorem laneEn_runs_on (hl : l < 4) (ho : (m.lane l).st ≠ .off) (he : m.flag (.lnCfg l) F.lnCfg_EN = true) : m.laneEn l = m := by
  unfold laneEn
  split
  next => rfl
  next hs => exact absurd hs ho
  next => exact if_pos ((laneOn_lane hl).trans he)

theorem laneEn_ends (hl : l < 4) (ho : (m.lane l).st ≠ .off) (hf : (m.lane l).st ≠ .fenced)
    (he : m.flag (.lnCfg l) F.lnCfg_EN = false) :
    m.laneEn l = (if (m.lane l).st = .test then (m.prbsOff l).maintEndOf 3 l 0 else m).updLane l
      (fun x => { x with st := .off, scan := false }) := by
  unfold laneEn
  split
  next hs => exact absurd hs hf
  next hs => exact absurd hs ho
  next => exact if_neg (by simp [laneOn_lane hl, he])

/-- Synchronisation with a partner within 200 ppm ends TRAIN. -/
theorem laneSync_aligns (hl : l < 4) (hs : (m.lane l).st = .train) (ha : an = true ∨ m.laneAn l = false)
    (hf : (BitVec.ofNat 16 f).toInt.natAbs ≤ 2000) :
    m.laneSync l an a d f =
      (let m := (m.eqMove l a d).updLane l (fun x => { x with st := .align, alignMon := m.mon })
       let m := (m.setF (.lnStat l) F.lnStat_FREQ_OFS f).setF (.lnStat l) F.lnStat_SIG_DET 1
       m.setF (.lnStat l) F.lnStat_HIBER 0) := by
  have hready : ¬(5 ≤ l ∨ (m.lane l).st ≠ .train ∨ (m.laneAn l = true ∧ an = false)) := by
    rintro (h | h | ⟨h, h'⟩)
    · omega
    · exact h hs
    · simp [h, h'] at ha
  rw [laneSync, if_neg hready, if_neg (Nat.ne_of_lt hl), if_neg (Nat.not_lt.mpr hf)]

theorem laneSync_idle (hl : l < 4)
    (h : (m.lane l).st ≠ .train ∨ (an = false ∧ m.laneAn l = true) ∨ 2000 < (BitVec.ofNat 16 f).toInt.natAbs) :
    m.laneSync l an a d f = m := by
  rw [laneSync, if_neg (Nat.ne_of_lt hl)]
  rcases h with h | ⟨hn, ha⟩ | h
  · exact if_pos (.inr (.inl h))
  · exact if_pos (.inr (.inr ⟨ha, hn⟩))
  · rw [if_pos h, ite_self]

/-- What a cause shows in LNl_STAT of a lane that is neither OFF nor FENCED: no signal, or hibernation of the partner (R510). -/
def laneSigns (m : Mach) (l c : Nat) : Mach :=
  let m := if c = 1 then m.setF (.lnStat l) F.lnStat_SIG_DET 0 else m
  if c = 4 then m.setF (.lnStat l) F.lnStat_HIBER 1 else m

/-- A lane leaves UP: counted, logged, an error of its domain where the cause is one, and through DOWN to TRAIN (R509, R511). -/
def laneDrop (m : Mach) (l c bad : Nat) : Mach :=
  let eq := ((m.rd (.lnAdapt l)), m.rd (.lnDfe l))
  let m := m.updLane l (fun x => { x with st := .down, eqUp := eq, fromUp := true, scan := false })
  let m := (m.setF (.lnStat l) F.lnStat_DOWN_CAUSE c).setF (.lnStat l) F.lnStat_FLAP_SEEN 1
  let m := (m.bump (.lnCntDown l) F.lnCntDown_COUNT 1).bump (.lnCntCode l) F.lnCntCode_COUNT bad
  let m := m.emitW .laneDown l [wd c]
  let m := if c = 2 ∨ c = 3 ∨ c = 4 then m.domErr (39 + l) .laneDrop else m
  if (m.lane l).st = .down then m.laneTrain l true else m

/-- A cause that a lane can have shows in its signs; then ALIGN trains again, UP is left, TRAIN and TEST stay. -/
theorem laneLoss_align (hl : l < 4) (hc : m.laneCause l c = true) (hs : (m.lane l).st = .align) (bad : Nat) :
    m.laneLoss l c bad = (m.laneSigns l c).laneTrain l true := by
  rw [laneLoss, if_neg (by simp [hc]; omega), if_neg (Nat.ne_of_lt hl), hs]
  exact if_neg (by decide)

theorem laneLoss_up (hl : l < 4) (hc : m.laneCause l c = true) (hs : (m.lane l).st = .up) (bad : Nat) :
    m.laneLoss l c bad = (m.laneSigns l c).laneDrop l c bad := by
  rw [laneLoss, if_neg (by simp [hc]; omega), if_neg (Nat.ne_of_lt hl), hs]
  exact if_neg (by decide)

theorem laneLoss_train_or_test (hl : l < 4) (hc : m.laneCause l c = true) (hs : (m.lane l).st = .train ∨ (m.lane l).st = .test) (bad : Nat) :
    m.laneLoss l c bad = m.laneSigns l c := by
  rw [laneLoss, if_neg (by simp [hc]; omega), if_neg (Nat.ne_of_lt hl)]
  rcases hs with hs | hs <;> rw [hs] <;> exact if_neg (by decide)

theorem laneLoss_ignored (hl : l < 4) (h : m.laneCause l c = false ∨ (m.lane l).st = .off ∨ (m.lane l).st = .fenced) (bad : Nat) :
    m.laneLoss l c bad = m := by
  rw [laneLoss, if_neg (Nat.ne_of_lt hl)]
  rcases h with h | h
  · exact if_pos (.inr h)
  · simp only [if_pos h, ite_self]

/-- UP_HOLD without a break ends ALIGN; a lane of the pair has its credits then (R515, R564). -/
theorem laneUp_due (hl : l < 4) (hs : (m.lane l).st = .align)
    (ht : msNs (m.fld (.lnCfg l) F.lnCfg_UP_HOLD) ≤ m.since (m.lane l).alignMon) :
    m.laneUp l =
      (let eq := ((m.rd (.lnAdapt l)), m.rd (.lnDfe l))
       let m := (m.updLane l (fun x => { x with st := .up, eqUp := eq, fromUp := true })).emit .laneUp l
       if m.fld (.lnCfg l) F.lnCfg_ROLE = 1 then
         { m with pair := { m.pair with credits := SMap.put m.pair.credits l 256, owed := m.pair.owed.filter (fun o => o.1 ≠ l) } }
       else m) := by
  have hheld : ¬(4 ≤ l ∨ (m.lane l).st ≠ .align ∨ m.since (m.lane l).alignMon < msNs (m.fld (.lnCfg l) F.lnCfg_UP_HOLD)) := by
    rintro (h | h | h)
    · omega
    · exact h hs
    · omega
  rw [laneUp, if_neg (Nat.ne_of_lt hl), if_neg hheld]
  simp only [pairRole, decide_eq_true_eq]

theorem laneUp_idle (hl : l < 4)
    (h : (m.lane l).st ≠ .align ∨ m.since (m.lane l).alignMon < msNs (m.fld (.lnCfg l) F.lnCfg_UP_HOLD)) : m.laneUp l = m := by
  rw [laneUp, if_neg (Nat.ne_of_lt hl)]
  exact if_pos (.inr h)

/-- 5 ms of TRAIN restart adaptation from the presets (R507). -/
theorem adaptRestart_due (hl : l < 4) (hs : (m.lane l).st = .train) (ht : msNs 5 ≤ m.since (m.lane l).trainMon) :
    m.adaptRestart l = (m.eqPresets l).updLane l (fun x => { x with trainMon := m.mon }) :=
  if_neg (by simp only [not_or, Nat.not_le, Nat.not_lt, ne_eq, not_not]; exact ⟨hl, hs, ht⟩)

theorem adaptRestart_idle (h : (m.lane l).st ≠ .train ∨ m.since (m.lane l).trainMon < msNs 5) : m.adaptRestart l = m :=
  if_pos (.inr h)

/-- Adaptation held by FREEZE keeps its words (R508). -/
theorem eqSet_frozen (hf : m.flag (.lnAdapt l) F.lnAdapt_FREEZE = true) (a d : Word) : m.eqSet l a d = m := if_pos hf

/-- What accepted writes of LNl_CFG and LNl_ADAPT do (R525, R508). -/
theorem regPut_lnCfg (m : Mach) (who : Who) (l : Nat) (w : Word) : m.regPut who (.lnCfg l) w = (m.stored (.lnCfg l) w).laneEn l := rfl

theorem regPut_lnAdapt (m : Mach) (who : Who) (l : Nat) (w : Word) : m.regPut who (.lnAdapt l) w = m.stored (.lnAdapt l) w := rfl

end Mach

end Sys2Proof.Machine
end

section
/-! The eye monitor and PRBS of the serial lanes (R516 to R523). -/

namespace Sys2Proof.Machine

namespace Mach

variable {m : Mach} {l : Nat}

/-- An accepted write of LNl_SCAN_CTRL with START begins a scan point (R516). -/
theorem regPut_lnScanCtrl_start (m : Mach) (who : Who) (l : Nat) {w : Word} (hw : F.lnScanCtrl_START.get w = 1) :
    m.regPut who (.lnScanCtrl l) w =
      ((m.stored (.lnScanCtrl l) w).updLane l (fun x => { x with scan := true, scanMon := m.mon })).setF (.lnScanCtrl l)
        F.lnScanCtrl_DONE 0 :=
  if_pos hw

theorem regPut_lnPrbsCtrl (m : Mach) (who : Who) (l : Nat) (w : Word) :
    m.regPut who (.lnPrbsCtrl l) w =
      (m.stored (.lnPrbsCtrl l) w).prbsWritten l (m.rd (.lnPrbsCtrl l)) w (m.newWord (.lnPrbsCtrl l) w) := rfl

/-- A scan point ends when its bits are compared (R517). -/
theorem scanDone_due (hl : l < 4) (hs : (m.lane l).scan = true)
    (ht : 2 ^ (20 + m.fld (.lnScanCtrl l) F.lnScanCtrl_DWELL) ≤ m.laneBits l (m.since (m.lane l).scanMon)) (e : Nat) :
    m.scanDone l e =
      ((m.updLane l (fun x => { x with scan := false })).setF (.lnScanCtrl l) F.lnScanCtrl_DONE 1).wr (.lnScanErr l)
        (wd (min (min e (2 ^ (20 + m.fld (.lnScanCtrl l) F.lnScanCtrl_DWELL))) (2 ^ 32 - 1))) :=
  if_neg (by simp only [hs, not_or, Nat.not_le, Nat.not_lt]; exact ⟨hl, by decide, ht⟩)

theorem scanDone_idle
    (h : (m.lane l).scan = false ∨
      m.laneBits l (m.since (m.lane l).scanMon) < 2 ^ (20 + m.fld (.lnScanCtrl l) F.lnScanCtrl_DWELL)) (e : Nat) :
    m.scanDone l e = m :=
  if_pos (.inr (h.imp_left fun hs => by rw [hs]; rfl))

/-- The engine's own measurement is due every 100 ms where no scan runs (R518). -/
theorem eyeAuto_due (hl : l < 4) (hs : (m.lane l).scan = false) (ho : (m.lane l).st ≠ .off) (hf : (m.lane l).st ≠ .fenced)
    (ht : msNs 100 ≤ m.since (m.lane l).eyeMon) (w h : Nat) (a d : Word) (bad : Nat) :
    m.eyeAuto l w h a d bad =
      (let m' := (((m.setF (.lnEye l) F.lnEye_EYE_W w).setF (.lnEye l) F.lnEye_EYE_H h).updLane l
         (fun y => { y with eyeMon := m.mon })).eqMove l a d
       if (m.lane l).st = .up then m'.bump (.lnCntCode l) F.lnCntCode_COUNT bad else m') :=
  if_neg (by simp only [hs, not_or, Nat.not_le, Nat.not_lt]; exact ⟨hl, Bool.false_ne_true, ho, hf, ht⟩)

theorem eyeAuto_idle
    (hi : (m.lane l).scan = true ∨ (m.lane l).st = .off ∨ (m.lane l).st = .fenced ∨ m.since (m.lane l).eyeMon < msNs 100)
    (w h : Nat) (a d : Word) (bad : Nat) : m.eyeAuto l w h a d bad = m :=
  if_pos (.inr hi)

/-- The checker runs on a lane in TEST with CHK_EN. -/
theorem prbsChk_runs (hl : l < 4) (hs : (m.lane l).st = .test) (hc : m.flag (.lnPrbsCtrl l) F.lnPrbsCtrl_CHK_EN = true) :
    m.prbsChk l = true := by
  simp [prbsChk, hl, hs, hc]

theorem prbsChk_stands (h : (m.lane l).st ≠ .test ∨ m.flag (.lnPrbsCtrl l) F.lnPrbsCtrl_CHK_EN = false) : m.prbsChk l = false := by
  rcases h with h | h <;> simp [prbsChk, h]

/-- 64 good bits give a running checker SYNC (R521). -/
theorem prbsGain_sync (hc : m.prbsChk l = true) {run : Nat} (hr : 64 ≤ run) :
    m.prbsGain l run = m.setF (.lnPrbsStat l) F.lnPrbsStat_SYNC 1 :=
  if_pos (by simp [hc, hr])

theorem prbsGain_idle {run : Nat} (h : m.prbsChk l = false ∨ run < 64) : m.prbsGain l run = m :=
  if_neg (by rcases h with h | h <;> simp [h])

/-- Errors are counted in SYNC alone (R522). -/
theorem prbsErrs_counted (hc : m.prbsChk l = true) (hy : m.flag (.lnPrbsStat l) F.lnPrbsStat_SYNC = true) (n : Nat) :
    m.prbsErrs l n = (m.updLane l (fun x => { x with errs := x.errs + n })).prbsShow l :=
  if_pos (by rw [hc, hy]; rfl)

/-- 32 errors in 64 bits lose SYNC; fewer are only counted; without SYNC there is nothing to lose. -/
theorem prbsLoss_lost (hc : m.prbsChk l = true) (hy : m.flag (.lnPrbsStat l) F.lnPrbsStat_SYNC = true) {win : Nat} (hw : 32 ≤ win) (e : Nat) :
    m.prbsLoss l e win =
      (((m.updLane l (fun x => { x with errs := x.errs + e })).prbsShow l).setF (.lnPrbsStat l) F.lnPrbsStat_SYNC 0).setF
        (.lnPrbsStat l) F.lnPrbsStat_LOST_SYNC 1 := by
  rw [prbsLoss, if_neg (by rw [hc, hy]; decide), if_neg (Nat.not_lt.mpr hw), prbsErrs_counted hc hy]

theorem prbsLoss_kept (hc : m.prbsChk l = true) (hy : m.flag (.lnPrbsStat l) F.lnPrbsStat_SYNC = true) {win : Nat} (hw : win < 32) (e : Nat) :
    m.prbsLoss l e win = (m.updLane l (fun x => { x with errs := x.errs + e })).prbsShow l := by
  rw [prbsLoss, if_neg (by rw [hc, hy]; decide), if_pos hw, prbsErrs_counted hc hy]

theorem prbsLoss_idle (h : m.prbsChk l = false ∨ m.flag (.lnPrbsStat l) F.lnPrbsStat_SYNC = false) (e win : Nat) :
    m.prbsLoss l e win = m :=
  if_pos (by rcases h with h | h <;> simp [h])

/-- INJ, looped back on the checker's own pattern, is one error (R523). -/
theorem prbsInj_looped (hc : m.prbsChk l = true) (hy : m.flag (.lnPrbsStat l) F.lnPrbsStat_SYNC = true)
    (hg : m.flag (.lnPrbsCtrl l) F.lnPrbsCtrl_GEN_EN = true) (hloop : m.fld (.lnPrbsCtrl l) F.lnPrbsCtrl_LOOP = 1)
    (hp : m.fld (.lnPrbsCtrl l) F.lnPrbsCtrl_GEN_PAT = m.fld (.lnPrbsCtrl l) F.lnPrbsCtrl_CHK_PAT) :
    m.prbsInj l = (m.updLane l (fun x => { x with errs := x.errs + 1 })).prbsShow l := by
  rw [prbsInj, if_pos (by simp [hg, hloop, hp]), prbsErrs_counted hc hy]

theorem prbsInj_idle (h : m.flag (.lnPrbsCtrl l) F.lnPrbsCtrl_GEN_EN = false ∨ m.fld (.lnPrbsCtrl l) F.lnPrbsCtrl_LOOP ≠ 1) :
    m.prbsInj l = m :=
  if_neg (by rcases h with h | h <;> simp [h])

section
variable {old w new : Word}

/-- A change of CHK_EN clears SYNC (R520). -/
theorem prbsWritten_chk (hr : F.lnPrbsCtrl_CLR.get w = 0) (hi : F.lnPrbsCtrl_INJ.get w = 0)
    (hc : F.lnPrbsCtrl_CHK_EN.get old ≠ F.lnPrbsCtrl_CHK_EN.get new) :
    m.prbsWritten l old w new = m.setF (.lnPrbsStat l) F.lnPrbsStat_SYNC 0 := by
  simp [prbsWritten, hr, hi, hc]

/-- Where CHK_EN stays, only CLR and INJ act (R522, R523). -/
theorem prbsWritten_same (hc : F.lnPrbsCtrl_CHK_EN.get old = F.lnPrbsCtrl_CHK_EN.get new) :
    m.prbsWritten l old w new =
      (let m := if F.lnPrbsCtrl_CLR.get w = 1 then m.prbsClr l else m
       if F.lnPrbsCtrl_INJ.get w = 1 then m.prbsInj l else m) := by
  rw [prbsWritten, if_pos hc]

theorem prbsWritten_none (hr : F.lnPrbsCtrl_CLR.get w = 0) (hi : F.lnPrbsCtrl_INJ.get w = 0)
    (hc : F.lnPrbsCtrl_CHK_EN.get old = F.lnPrbsCtrl_CHK_EN.get new) : m.prbsWritten l old w new = m := by
  simp [prbsWritten_same hc, hr, hi]

theorem prbsWritten_clr (hr : F.lnPrbsCtrl_CLR.get w = 1) (hi : F.lnPrbsCtrl_INJ.get w = 0)
    (hc : F.lnPrbsCtrl_CHK_EN.get old = F.lnPrbsCtrl_CHK_EN.get new) : m.prbsWritten l old w new = m.prbsClr l := by
  simp [prbsWritten_same hc, hr, hi]

theorem prbsWritten_inj (hr : F.lnPrbsCtrl_CLR.get w = 0) (hi : F.lnPrbsCtrl_INJ.get w = 1)
    (hc : F.lnPrbsCtrl_CHK_EN.get old = F.lnPrbsCtrl_CHK_EN.get new) : m.prbsWritten l old w new = m.prbsInj l := by
  simp [prbsWritten_same hc, hr, hi]

end

end Mach

/-- A command that writes a register of a lane: what the accepted write does. -/
theorem acts_laneWrite {i : Instr} {base ofs ses l : Nat} {x : Session} {r : Reg} {w : Mach → Word} {f : Mach → Mach} {P : Mach → Prop}
    (he : ∀ s, exec i s = onM (Mach.live (Mach.only (wfLane l) fun m => m.hostPut ses r (w m))) s)
    (hr : r.addr = base + ofs) (hb : 0x20C < base) (hP : ∀ m, P m → l < 4 ∧ m.mayWrite x ses r (w m))
    (h : ∀ m, P m → m.regPut { session := x.num, maint := x.maint } r (w m) = f m) : Acts i P f :=
  Acts.of_live he fun m hu hp => by
    obtain ⟨hl, hw⟩ := hP m hp
    rw [only_ok (c := wfLane l) (Nat.blt_eq.mpr hl), hostPut_ok hu hw (hr ▸ Mach.endsUdp_past hb ofs), h m hp]

/-- A command of SVC or a serial lane, where it names a serial lane. -/
theorem acts_lane {i : Instr} {l : Nat} {P : Mach → Prop} {F f : Mach → Mach}
    (he : ∀ s, exec i s = onM (Mach.awake (Mach.only (wfMac l) F)) s) (hP : ∀ m, P m → l < 4) (h : ∀ m, P m → F m = f m) : Acts i P f :=
  Acts.of_part he (fun m hp => Nat.lt_succ_of_lt (hP m hp)) h

/-- Settles O35: each command by the state of its lane, its scan or its checker, each write by what follows the stored word. -/
theorem lanes : Obligations.Lanes := by
  refine ⟨⟨fun ses x l w => ?_, fun m l hl => ⟨Mach.laneEn_starts hl, Mach.laneEn_stays_off hl, Mach.laneEn_fenced, fun hs he => ?_,
      fun ho _ he => Mach.laneEn_runs_on hl ho he, fun ho hf ht he => ?_⟩, fun l an a d f => ?_, fun l an a d f => ?_,
      fun m l hl => ⟨Mach.laneAn_lane hl, Mach.laneCause_iff hl⟩, fun l c bad => ?_, fun l c bad => ?_, fun l c bad => ?_,
      fun l c bad => ?_, fun m l warm hl => Mach.laneTrain_lane hl warm, fun l => ?_, fun l => ?_, fun l => ?_, fun l => ?_,
      fun ses x l w => ?_, fun m l a d hf => Mach.eqSet_frozen hf a d⟩,
    fun ses x l w => ?_, fun l e => ?_, fun l e => ?_, fun _ _ _ => rfl, fun l w h a d bad => ?_, fun l w h a d bad => ?_,
    fun ses x l w => ?_, fun l run => ?_, fun l run => ?_, fun l e win => ?_, fun l e win => ?_, fun l e win => ?_, fun _ _ => rfl,
    fun ses x l => ?_, fun ses x l => ?_,
    fun m l old w new => ⟨Mach.prbsWritten_chk, Mach.prbsWritten_none, Mach.prbsWritten_clr, Mach.prbsWritten_inj⟩,
    fun m l hl hs hg hc hy hloop hp => Mach.prbsInj_looped (Mach.prbsChk_runs hl hs hc) hy hg hloop hp, fun m l h => Mach.prbsInj_idle h⟩
  · exact acts_laneWrite (fun _ => rfl) rfl (by decide) (fun _ hp => hp) fun m _ => m.regPut_lnCfg _ l w
  · rw [Mach.laneEn_ends hl (by simp [hs]) (by simp [hs]) he, if_pos hs]
  · rw [Mach.laneEn_ends hl ho hf he, if_neg ht]
  · exact acts_lane (fun _ => rfl) (fun _ hp => hp.1) fun m ⟨hl, hs, ha, hf⟩ => Mach.laneSync_aligns hl hs ha hf
  · exact acts_lane (fun _ => rfl) (fun _ hp => hp.1) fun m ⟨hl, h⟩ => Mach.laneSync_idle hl h
  · exact acts_lane (fun _ => rfl) (fun _ hp => hp.1) fun m ⟨hl, hc, hs⟩ => Mach.laneLoss_align hl hc hs bad
  · exact acts_lane (fun _ => rfl) (fun _ hp => hp.1) fun m ⟨hl, hc, hs⟩ => Mach.laneLoss_up hl hc hs bad
  · exact acts_lane (fun _ => rfl) (fun _ hp => hp.1) fun m ⟨hl, hc, hs⟩ => Mach.laneLoss_train_or_test hl hc hs bad
  · exact acts_lane (fun _ => rfl) (fun _ hp => hp.1) fun m ⟨hl, h⟩ => Mach.laneLoss_ignored hl h bad
  · exact acts_lane (fun _ => rfl) (fun _ hp => hp.1) fun m ⟨hl, hs, ht⟩ => Mach.laneUp_due hl hs ht
  · exact acts_lane (fun _ => rfl) (fun _ hp => hp.1) fun m ⟨hl, h⟩ => Mach.laneUp_idle hl h
  · exact Acts.of_part (fun _ => rfl) (fun _ hp => hp.1) fun m ⟨hl, hs, ht⟩ => Mach.adaptRestart_due hl hs ht
  · exact Acts.of_part (fun _ => rfl) (fun _ hp => hp.1) fun m ⟨_, h⟩ => Mach.adaptRestart_idle h
  · exact acts_laneWrite (fun _ => rfl) rfl (by decide) (fun _ hp => hp) fun m _ => m.regPut_lnAdapt _ l w
  · exact acts_laneWrite (fun _ => rfl) rfl (by decide) (fun _ hp => ⟨hp.1, hp.2.1⟩) fun m ⟨_, _, hw⟩ => m.regPut_lnScanCtrl_start _ l hw
  · exact Acts.of_part (fun _ => rfl) (fun _ hp => hp.1) fun m ⟨hl, hs, ht⟩ => Mach.scanDone_due hl hs ht e
  · exact Acts.of_part_idle (fun _ => rfl) fun m h => Mach.scanDone_idle h e
  · exact Acts.of_part (fun _ => rfl) (fun _ hp => hp.1) fun m ⟨hl, hs, ho, hf, ht⟩ => Mach.eyeAuto_due hl hs ho hf ht w h a d bad
  · exact Acts.of_part_idle (fun _ => rfl) fun m hi => Mach.eyeAuto_idle hi w h a d bad
  · exact acts_laneWrite (fun _ => rfl) rfl (by decide) (fun _ hp => hp) fun m _ => m.regPut_lnPrbsCtrl _ l w
  · exact Acts.of_part (fun _ => rfl) (fun _ hp => hp.1) fun m ⟨hl, hs, hc, hr⟩ => Mach.prbsGain_sync (Mach.prbsChk_runs hl hs hc) hr
  · exact Acts.of_part_idle (fun _ => rfl) fun m h => Mach.prbsGain_idle ((or_assoc.mpr h).imp_left Mach.prbsChk_stands)
  · exact Acts.of_part (fun _ => rfl) (fun _ hp => hp.1)
      fun m ⟨hl, hs, hc, hy, hw⟩ => Mach.prbsLoss_lost (Mach.prbsChk_runs hl hs hc) hy hw e
  · exact Acts.of_part (fun _ => rfl) (fun _ hp => hp.1)
      fun m ⟨hl, hs, hc, hy, hw⟩ => Mach.prbsLoss_kept (Mach.prbsChk_runs hl hs hc) hy hw e
  · exact Acts.of_part_idle (fun _ => rfl) fun m h => Mach.prbsLoss_idle ((or_assoc.mpr h).imp_left Mach.prbsChk_stands) e win
  · exact acts_laneWrite (fun _ => rfl) rfl (by decide) (fun _ hp => hp) fun m _ => m.regPut_lnPrbsCtrl _ l _
  · exact acts_laneWrite (fun _ => rfl) rfl (by decide) (fun _ hp => hp) fun m _ => m.regPut_lnPrbsCtrl _ l _

end Sys2Proof.Machine
end

section
/-! Branches, lists and conditions that the proofs below share.

The text is compiled as one, close to the memory it may take, so that these sections are elaborated one declaration after another
(`Elab.async`), without code for the helper definitions, and their proofs are kept small: a branch is taken by a lemma on the
function's own condition, and what a condition comes to is said over variables. -/

namespace Sys2Proof.Machine

set_option Elab.async false

section
variable {α : Type} {c d : Prop} [Decidable c] [Decidable d] {x y z : α}

theorem ite_yes : c → (if c then x else y) = x := fun h => if_pos h

theorem ite_no : ¬c → (if c then x else y) = y := fun h => if_neg h

theorem ite_no_yes : ¬c → d → (if c then x else if d then y else z) = y := fun h k => (if_neg h).trans (if_pos k)

theorem ite_no_no : ¬c → ¬d → (if c then x else if d then y else z) = z := fun h k => (if_neg h).trans (if_neg k)

/-- What leaves a state as it is leaves it so after what led back to it. -/
theorem kept_after {g : α → α} (hy : y = x) (hg : g x = x) : g y = x := (congrArg g hy).trans hg

theorem match_nil {β : Type} {l : List β} {f : β → List β → α} : l = [] →
    (match l with
      | a :: r => f a r
      | [] => x) = x := fun h => h.symm.rec rfl

theorem match_none {β : Type} {o : Option β} {f : β → α} : o = none →
    (match o with
      | none => x
      | some a => f a) = x := fun h => h.symm.rec rfl

theorem filter_none {l : List α} {P : α → Prop} [DecidablePred P] (h : ∀ v ∈ l, ¬P v) : l.filter (fun v => decide (P v)) = [] :=
  List.filter_eq_nil_iff.mpr fun v hv hc => h v hv (of_decide_eq_true hc)

variable {b : Bool}

theorem or_eq_false {b' : Bool} (h : b = false) (h' : b' = false) : (b || b') = false := Bool.or_eq_false_iff.mpr ⟨h, h'⟩

theorem and_decide_true (hb : b = true) (hc : c) (hd : d) : (b && decide c && decide d) = true := by
  rw [hb, decide_eq_true hc, decide_eq_true hd]
  rfl

theorem and_decide_not (h : b = false ∨ ¬c ∨ ¬d) : ¬(b && decide c && decide d) = true := fun hx =>
  h.elim (fun hb => Bool.false_ne_true (hb.symm.trans (Bool.and_elim_left (Bool.and_elim_left hx))))
    (·.elim (· (of_decide_eq_true (Bool.and_elim_right (Bool.and_elim_left hx)))) (· (of_decide_eq_true (Bool.and_elim_right hx))))

end

end Sys2Proof.Machine
end

section
/-! The queue, and a block held in reset (R792; log entry 1). -/

namespace Sys2Proof.Machine

set_option Elab.async false

/-- Settles O1: both shapes of a step as step has them, and every command's answer a next state. -/
theorem stepTakesTheFront : Obligations.StepTakesTheFront :=
  ⟨fun _i _rest _s => rfl, fun _s => rfl, fun i s =>
    (exec_answer i s).rec (motive := fun o _ => ∃ x, o = .next { s with m := x }) (fun _f => ⟨_, rfl⟩) (fun _f _h => ⟨_, rfl⟩) ⟨_, rfl⟩⟩

/-- The state with its block held in reset. -/
noncomputable def State.resetHeld (s : State) : State := { s with m := { s.m with inReset := true } }

theorem State.eq_resetHeld {s : State} (h : s.m.inReset = true) : s = s.resetHeld :=
  congrArg (fun b => ({ s with m := { s.m with inReset := b } } : State)) h

/-- A command that is power or an edge of RST_N, the three that act on a block held in reset too (R792). -/
def PowerOrReset (i : Instr) : Prop :=
  (∀ a b c d e, i ≠ .powerOn a b c d e) → i ≠ .rstNAssert → (∀ a, i ≠ .rstNRelease a) → False

/-- Their places among the instructions. -/
noncomputable def actsInReset (n : Nat) : Bool := n == 288 || n == 289 || n == 303

set_option tactic.hygienic false in
/-- A command is one of those three, or it answers a block held in reset with the state it found. The motive is by the place of the
command, so that one proof, named before the split, serves every other command. -/
theorem exec_resetHeld (i : Instr) (s : State) :
    cond (actsInReset i.ctorIdx) (PowerOrReset i) (exec i s.resetHeld = .next s.resetHeld) := by
  have held : Host.Outcome.next s.resetHeld = (Host.Outcome.next s.resetHeld : Host.Outcome State Fault Refusal) := rfl
  induction i with
  | powerOn a b c d e => exact fun hp _ _ => hp a b c d e rfl
  | rstNAssert => exact fun _ ha _ => ha rfl
  | rstNRelease a => exact fun _ _ hr => hr a rfl
  | _ => exact held

/-- Settles O5: every other command answers a block held in reset with the state it found, and the tick stands. -/
theorem heldInReset : Obligations.HeldInReset := by
  refine ⟨fun i s hs hp ha hr => ?_, fun m hm => if_pos hm⟩
  have h := exec_resetHeld i s
  rw [State.eq_resetHeld hs]
  revert h
  cases actsInReset i.ctorIdx with
  | false => exact id
  | true => exact fun h => (h hp ha hr).elim

end Sys2Proof.Machine
end

section
/-! A command after which nothing waits (log entry 1). -/

namespace Sys2Proof.Machine

set_option Elab.async false

namespace Mach

theorem runDeferred_none {m : Mach} (h : m.stu.deferLogic = []) : m.runDeferred = m := if_pos (congrArg List.isEmpty h)

set_option smartUnfolding false in
theorem fifoRefill_none (m : Mach) : m.recs.deferred = [] → m.fifoRefill = m := match_nil

theorem noteLost_none {m : Mach} (h : (m.sessions.all fun s => s.lost == 0) = true) : m.noteLost = m := by
  have hn : m.sessions.filter (fun s => decide (0 < s.lost)) = [] :=
    filter_none fun s hs => Nat.not_lt.mpr (Nat.le_of_eq (eq_of_beq (List.all_eq_true.mp h s hs)))
  exact (congrArg (fun l => ite _ (List.foldl _ m l) m) hn).trans (ite_self m)

theorem switchAborts_done (m : Mach) : (m.pair.switchTag.isSome || m.pair.switchWait.isEmpty) = true → m.switchAborts = m := ite_yes

theorem enterInit_off (m : Mach) : ¬(m.feat 3 && decide (m.pair.role = .single) && m.feedProven) = true → m.enterInit = m := ite_no

theorem pairLinkCheck_off (m : Mach) : (!m.feat 3) = true → m.pairLinkCheck = m := ite_yes

theorem m2Diff_passive (old m : Mach) : m.pair.role ≠ .active → m2Diff old m = m := ite_yes

set_option smartUnfolding false in
theorem otestGate_none (m : Mach) : m.pair.otest.run = none → m.otestGate = m := match_none

set_option smartUnfolding false in
theorem restartDue_none (m : Mach) : m.start.restartWait = none → m.restartDue = m := match_none

theorem linkServe_idle {m : Mach} (ht : m.txq = []) (hp : m.pair.txq = []) (ho : m.pair.owed = []) : m.linkServe = m := by
  have hs : m.txServe = m := if_pos (congrArg List.isEmpty ht)
  have hc : m.creditsBack = m := congrArg (List.foldl _ m) (congrArg (List.filter _) ho)
  exact (congrArg pairServe hs).trans
    ((congrArg (fun m : Mach => forEach m.pair.txq m fun m _ => m.pairTx1) hc).trans (congrArg (List.foldl _ m) hp))

theorem incSync_cases (m : Mach) : m.incSync = m ∨ m.incSync = m.wr .tbIncInt (wd (m.tb.inc.toNat / 2 ^ 32)) :=
  ite_eq_or_eq _ _ _

/-- Where nothing waits, each stage up to a restart that is due leaves the block as it is. -/
theorem restartDue_quiet {m : Mach} (h : m.quiet) (old : Mach) :
    (m2Diff old ((((((((rxRun m.cmd.rx.length m).runDeferred).fifoRefill).noteLost).switchAborts).enterInit).pairLinkCheck).otestGate)).restartDue
      = m :=
  kept_after (kept_after (g := m2Diff old) (kept_after (kept_after (kept_after (kept_after (kept_after (kept_after (kept_after
    (congrArg (fun l => rxRun (List.length l) m) h.1) (runDeferred_none h.2.1)) (m.fifoRefill_none h.2.2.1)) (noteLost_none h.2.2.2.1))
    (m.switchAborts_done (Bool.or_inr (congrArg List.isEmpty h.2.2.2.2.1))))
    (m.enterInit_off fun hc => Bool.false_ne_true (h.2.2.2.2.2.1.symm.trans (Bool.and_elim_left (Bool.and_elim_left hc)))))
    (m.pairLinkCheck_off (congrArg (!·) h.2.2.2.2.2.1))) (m.otestGate_none h.2.2.2.2.2.2.2.2.2.2.2))
    (m2Diff_passive old m (ne_of_eq_of_ne h.2.2.2.2.2.2.1 (by decide)))) (m.restartDue_none h.2.2.2.2.2.2.2.1)

theorem linkServe_quiet {m : Mach} (h : m.quiet) : m.incSync.linkServe = m.incSync := by
  rcases m.incSync_cases with e | e <;> rw [e]
  · exact linkServe_idle h.2.2.2.2.2.2.2.2.1 h.2.2.2.2.2.2.2.2.2.1 h.2.2.2.2.2.2.2.2.2.2.1
  · exact linkServe_idle h.2.2.2.2.2.2.2.2.1 h.2.2.2.2.2.2.2.2.2.1 h.2.2.2.2.2.2.2.2.2.2.1

theorem settle_quiet {m : Mach} (h : m.quiet) (old : Mach) : settle old m = ((m.incSync).setIrq).setFault :=
  (congrArg (fun x => ((linkServe (incSync x)).setIrq).setFault) (restartDue_quiet h old)).trans
    (congrArg (fun x => (setIrq x).setFault) (linkServe_quiet h))

/-- Apart from INC's register and the two pins y is x. -/
def ShownBy (x y : Mach) : Prop :=
  (∀ r : Reg, r.addr ≠ Reg.tbIncInt.addr → y.rd r = x.rd r) ∧
    y.pins = { x.pins with hpIrqN := y.pins.hpIrqN, faultN := y.pins.faultN } ∧ { y with regs := x.regs, pins := x.pins } = x

theorem shownBy_regs {x y : Mach} (hy : y = { x with regs := y.regs }) (hr : ∀ r : Reg, r.addr ≠ Reg.tbIncInt.addr → y.rd r = x.rd r) :
    ShownBy x (y.setIrq).setFault :=
  ⟨hr, congrArg (fun z : Mach => { z.pins with hpIrqN := ((y.setIrq).setFault).pins.hpIrqN, faultN := ((y.setIrq).setFault).pins.faultN }) hy,
    congrArg (fun z : Mach => { z with regs := x.regs, pins := x.pins }) hy⟩

theorem shownBy_incSync (x : Mach) : ShownBy x ((x.incSync).setIrq).setFault :=
  x.incSync_cases.elim (fun e => e.symm ▸ shownBy_regs rfl fun _r _hr => rfl)
    fun e => e.symm ▸ shownBy_regs rfl fun r hr => rd_wr_ne x _ r _ hr

end Mach

/-- Settles O6: after settle_quiet, INC's register is the one that can differ. -/
theorem nothingElseFollows : Obligations.NothingElseFollows := fun s x hx =>
  ⟨rfl, Mach.settle_quiet hx s.m, Eq.subst (motive := Mach.ShownBy x) (Mach.settle_quiet hx s.m).symm x.shownBy_incSync⟩

end Sys2Proof.Machine
end

section
/-! HEALTH at a frame trigger (R712, R713). -/

namespace Sys2Proof.Machine

set_option Elab.async false

theorem any_match (o : Option Time) (p : Time → Bool) : (match o with | some t => p t | none => false) = o.any p :=
  o.casesOn rfl fun _t => rfl

namespace Mach

/-- The three fields of HLT_STAT that a trigger writes, read back. -/
theorem hltStat_fields (m : Mach) {h z d : Nat} (w : Word) (hh : h < 16) (hz : z < 2) (hd : d < 256) {r : Mach}
    (hr : r = (((m.setF .hltStat F.hltStat_HEALTH h).setF .hltStat F.hltStat_ZERO z).setF .hltStat F.hltStat_DEDUCT d).wr .hltDeductSrc w) :
    (r.fld .hltStat F.hltStat_HEALTH = h ∧ r.fld .hltStat F.hltStat_ZERO = z) ∧ r.fld .hltStat F.hltStat_DEDUCT = d := by
  have e : r.rd .hltStat = F.hltStat_DEDUCT.set (F.hltStat_ZERO.set (F.hltStat_HEALTH.set (m.rd .hltStat) h) z) d :=
    (congrArg (rd · .hltStat) hr).trans ((rd_wr_ne _ _ _ _ (Nat.ne_of_beq_eq_false rfl)).trans ((rd_setF_same ..).trans
      (congrArg (F.hltStat_DEDUCT.set · d) ((rd_setF_same ..).trans (congrArg (F.hltStat_ZERO.set · z) (rd_setF_same ..))))))
  exact ⟨⟨(congrArg F.hltStat_HEALTH.get e).trans ((Fld.get_set_ne _ _ _ _ (.inr (Nat.le_of_ble_eq_true rfl))).trans
      ((Fld.get_set_ne _ _ _ _ (.inr (Nat.le_of_ble_eq_true rfl))).trans
        ((Fld.get_set_same _ _ _ (Nat.le_of_ble_eq_true rfl)).trans (Nat.mod_eq_of_lt hh)))),
    (congrArg F.hltStat_ZERO.get e).trans ((Fld.get_set_ne _ _ _ _ (.inr (Nat.le_of_ble_eq_true rfl))).trans
      ((Fld.get_set_same _ _ _ (Nat.le_of_ble_eq_true rfl)).trans (Nat.mod_eq_of_lt hz)))⟩,
    (congrArg F.hltStat_DEDUCT.get e).trans ((Fld.get_set_same _ _ _ (Nat.le_of_ble_eq_true rfl)).trans (Nat.mod_eq_of_lt hd))⟩

/-- HEALTH of a sum of deductions, by the zero condition (R712). -/
noncomputable def healthOf (z : Bool) (d : Nat) : Nat := if z then 0 else max 1 (15 - d)

theorem healthOf_lt (z : Bool) (d : Nat) : healthOf z d < 16 :=
  z.casesOn (max_lt (by decide) (Nat.lt_of_le_of_lt (Nat.sub_le 15 d) (by decide))) (Nat.zero_lt_succ 15)

theorem healthOf_le (z : Bool) {d : Nat} (h : 8 ≤ d) : healthOf z d ≤ 7 :=
  z.casesOn (max_le (by decide) (Nat.sub_le_sub_left h 15)) (Nat.zero_le 7)

theorem bit_lt (z : Bool) : bit z < 2 := z.casesOn (by decide) (by decide)

theorem healthUpdate_fields {m : Mach} {z : Bool} (hz : (m.zeroFault || !m.protReady) = z) :
    (m.healthUpdate.fld .hltStat F.hltStat_HEALTH = healthOf z m.deductSum ∧ m.healthUpdate.fld .hltStat F.hltStat_ZERO = bit z) ∧
      m.healthUpdate.fld .hltStat F.hltStat_DEDUCT = min m.deductSum 255 := by
  subst hz
  exact hltStat_fields m _ (healthOf_lt _ _) (bit_lt _) (Nat.lt_of_le_of_lt (Nat.min_le_right _ _) (by decide)) rfl

theorem deductSum_eq (m : Mach) : m.deductSum = (m.deductions.map (·.2)).sum :=
  List.foldl_map.symm.trans List.sum_eq_foldl_nat.symm

theorem deduct_le {m : Mach} {p : Nat × Nat} {k : Nat} (h : m.deductions[k]? = some p) : p.2 ≤ m.deductSum :=
  m.deductSum_eq ▸ List.le_sum_of_mem (List.mem_map_of_mem (List.mem_of_getElem? h))

end Mach

/-- Settles O9: the fields by the zero condition, and a deduction of 8 or more for an unprotected bay or a fenced trip group. -/
theorem healthAtTheTrigger : Obligations.HealthAtTheTrigger := by
  refine ⟨fun m => ?_, fun m c k => (congrArg (F.glbStat_PROT_READY.get · != 0)
    (logs_rd (restart_logs m c k) .glbStat (by unfold Mach.logReg; decide))).trans (keep_glb m)⟩
  intro r
  refine ⟨fun h => ?_, fun hr hs hp => ?_, (Mach.healthUpdate_fields rfl).2, m.deductSum_eq, rfl,
    congrArg (fun b => ((m.deductions.map (·.2)).drop 2).take 12 ++ 3 * bit b :: (m.deductions.map (·.2)).drop 15)
      (any_match m.hlth.atMaxShort (fun t => decide (m.since t ≤ 60000000000))), rfl, fun h => ?_, rfl⟩
  · have hz : (m.zeroFault || !m.protReady) = true := h.elim (fun h => Bool.or_inl (Bool.or_inl h))
      (·.elim (fun h => Bool.or_inl (Bool.or_inr h)) fun h => Bool.or_inr (congrArg (!·) h))
    exact (Mach.healthUpdate_fields hz).1
  · have hz : (m.zeroFault || !m.protReady) = false := or_eq_false (or_eq_false hr hs) (congrArg (!·) hp)
    exact (Mach.healthUpdate_fields hz).1
  · have hd : 8 ≤ m.deductSum := by
      rcases h with ⟨b, hb, hu⟩ | hf
      · exact Nat.le_trans (Nat.le_mul_of_pos_right 8 (List.length_pos_of_mem (List.mem_filter.mpr ⟨List.mem_range.mpr hb, hu⟩)))
          (Mach.deduct_le (k := 1) rfl)
      · exact Nat.le_trans (Nat.le_mul_of_pos_right 8 (List.length_pos_of_mem (List.mem_filter.mpr ⟨List.mem_singleton.mpr rfl, hf⟩)))
          (Mach.deduct_le (k := 6) rfl)
    exact (Mach.healthUpdate_fields rfl).1.1.trans_le (Mach.healthOf_le _ hd)

end Sys2Proof.Machine
end

section
/-! The disturbance recorder: writes of DR_CTRL and the end of a record (R645 to R651). -/

namespace Sys2Proof.Machine

set_option Elab.async false

theorem drRecordEnd_of {m : Mach} {o : Option DrRun} (h : m.recs.dr.run = o) :
    m.drRecordEnd = match (generalizing := false) o with
      | none => m
      | some r =>
        if r.done && decide (sdiff32 r.want r.endFseq ≤ 0) && decide (m.recs.dr.trRec ≠ some r.body.recNo) then
          (if m.drFinish.recs.dr.armed then m.drFinish.updDr (fun d => { d with ring := m.recs.dr.ring }) else m.drFinish)
        else m := by
  subst h
  rfl

/-- Settles O52: each write by the bits that follow it, the end of a record by the record under way. -/
theorem disturbanceRecorder : Obligations.DisturbanceRecorder := by
  refine ⟨fun ses x => Acts.of_live (fun _s => rfl) fun m hu hp => hostPut_ok hu hp rfl,
    fun ses x => Acts.of_live (fun _s => rfl) fun m hu hp => hostPut_ok hu hp rfl,
    fun ses x w => Acts.of_live (fun _s => rfl) fun m hu hp => hostPut_ok hu hp rfl,
    fun m who old w new he hm hc ho => ?_, fun m who old w new he hm hc ho => ?_, fun m who old w new he hm hc => ?_,
    fun m h => if_pos h, fun m h => if_neg (ne_true_of_eq_false h),
    fun m n k m' h => ?_, fun m => rfl, fun m n he hs => ?_, fun m n he => if_pos (congrArg (!·) he),
    Acts.of_awake (fun _s => rfl) fun m _u h => drRecordEnd_of h, fun r => Acts.of_awake (fun _s => rfl) fun m _u h => ?_,
    fun r => Acts.of_awake (fun _s => rfl) fun m _u h => ?_, fun r => Acts.of_awake (fun _s => rfl) fun m _u h => ?_⟩
  · exact (if_neg (ne_of_eq_of_ne hc Nat.zero_ne_one)).trans ((if_pos hm).trans
      (congrArg (Mach.drManual · who.session) ((if_neg (not_not_intro he)).trans (if_pos ho))))
  · exact (if_pos hc).trans (congrArg (Mach.drClearRun · who.session none)
      ((if_neg (ne_of_eq_of_ne hm Nat.zero_ne_one)).trans ((if_neg (not_not_intro he)).trans (if_pos ho))))
  · exact (if_neg (ne_of_eq_of_ne hc Nat.zero_ne_one)).trans ((if_neg (ne_of_eq_of_ne hm Nat.zero_ne_one)).trans (if_pos he))
  · unfold Mach.drClearRun
    rw [h]
  · exact (congrArg (m.drTrig 3 n · false) (if_pos hs)).trans (if_neg (ne_true_of_eq_false (congrArg (!·) he)))
  · exact (drRecordEnd_of h.1).trans (if_neg (and_decide_not (h.2.imp_right (Or.imp Int.not_le.mpr not_not_intro))))
  · exact (drRecordEnd_of h.1).trans ((if_pos (and_decide_true h.2.1 h.2.2.1 h.2.2.2.1)).trans (if_pos h.2.2.2.2))
  · exact (drRecordEnd_of h.1).trans ((if_pos (and_decide_true h.2.1 h.2.2.1 h.2.2.2.1)).trans
      (if_neg (ne_true_of_eq_false h.2.2.2.2)))

end Sys2Proof.Machine
end

section
/-! The HP and UDP transports (R661 to R667, R674, R679). -/

namespace Sys2Proof.Machine

set_option Elab.async false

/-! What a datagram's conditions come to, over variables. -/

section
variable {c d : Prop} [Decidable c] [Decidable d] {r e s : Bool}

theorem or_true_of (h : d ∨ r = true ∨ e = false ∨ s = false) : (decide c || r || !e || !s || decide d) = true :=
  h.elim (fun h => Bool.or_inr (decide_eq_true h)) fun h => Bool.or_inl (h.elim (fun h => Bool.or_inl (Bool.or_inl (Bool.or_inr h)))
    (·.elim (fun h => Bool.or_inl (Bool.or_inr (congrArg (!·) h))) fun h => Bool.or_inr (congrArg (!·) h)))

theorem or_not_true {β γ : Type} [DecidableEq β] [DecidableEq γ] {u u' : β} {v v' : γ} {R : Prop} (hc : ¬c)
    (h : r = false ∧ e = true ∧ s = true ∧ u' = u ∧ v' = v ∧ R) :
    ¬(decide c || r || !e || !s || decide (u ≠ u' ∨ v ≠ v')) = true :=
  ne_true_of_eq_false (or_eq_false (or_eq_false (or_eq_false (or_eq_false (decide_eq_false hc) h.1) (congrArg (!·) h.2.1))
    (congrArg (!·) h.2.2.1)) (decide_eq_false fun k => k.elim (· h.2.2.2.1.symm) (· h.2.2.2.2.1.symm)))

theorem last_of_six {p q u v w x : Prop} (h : p ∧ q ∧ u ∧ v ∧ w ∧ x) : x := h.2.2.2.2.2

theorem or_or_not_true (h : ¬c ∧ s = true) : ¬(false || decide c || !s) = true := by
  rw [decide_eq_false h.1, h.2]
  exact Bool.false_ne_true

end

namespace Mach

section
variable (m : Mach) (dst : Word) (dport : Nat) (src : Word) (sport : Nat) (frag : Bool) (l : List Byte)

theorem udpRecv_skip : (decide (m.start.phase = 0) || m.start.recovery || !m.flag .cmdCfg F.cmdCfg_UDP_EN || !m.svcUp ||
      decide (dst ≠ m.rd .cmdIp ∨ dport ≠ m.fld .cmdCfg F.cmdCfg_UDP_PORT)) = true → m.udpRecv dst dport src sport frag l = m :=
  ite_yes

theorem udpRecv_disc : ¬(decide (m.start.phase = 0) || m.start.recovery || !m.flag .cmdCfg F.cmdCfg_UDP_EN || !m.svcUp ||
      decide (dst ≠ m.rd .cmdIp ∨ dport ≠ m.fld .cmdCfg F.cmdCfg_UDP_PORT)) = true →
    (frag || decide (3 ≤ m.cmd.rx.length) || !pktOk l) = true → m.udpRecv dst dport src sport frag l = m.pktDisc :=
  ite_no_yes

theorem udpRecv_take : ¬(decide (m.start.phase = 0) || m.start.recovery || !m.flag .cmdCfg F.cmdCfg_UDP_EN || !m.svcUp ||
      decide (dst ≠ m.rd .cmdIp ∨ dport ≠ m.fld .cmdCfg F.cmdCfg_UDP_PORT)) = true →
    ¬(frag || decide (3 ≤ m.cmd.rx.length) || !pktOk l) = true →
    m.udpRecv dst dport src sport frag l = m.rxPut (rawOf true src sport l) :=
  ite_no_no

end

variable {m : Mach}

theorem hpRead_head {n : Nat} {o : Option OutPkt} (h : (if m.start.phase = 0 then none else m.cmd.hpOut.head?) = o) :
    m.hpRead n = match (generalizing := false) o with
      | none => m.send (.hp m.hpStatus (zeros n))
      | some p => if p.len ≤ n then (m.send (.hp m.hpStatus ((p.bytes ++ zeros n).take n))).hpDelivered p
        else m.send (.hp m.hpStatus ((p.bytes ++ zeros n).take n)) := by
  subst h
  rfl

/-- The NOTIFYs of l sent again, where l' wait on. -/
noncomputable def resent (m : Mach) (l l' : List OutPkt) : Mach :=
  forEach l { m with cmd := { m.cmd with udpNotes := l' } } (fun m p => m.send (.udp (match m.sess p.session with
    | some s => { p with ip := s.nip, port := s.nport }
    | none => p)))

theorem noteResend_eq {l l' : List OutPkt} (hl : m.cmd.udpNotes.filter (fun p => decide (100000000 ≤ m.since p.sentMon)) = l)
    (hw : m.cmd.udpNotes.map (fun p => if decide (100000000 ≤ m.since p.sentMon) then { p with sentMon := m.mon } else p) = l') :
    m.noteResend = m.resent l l' :=
  congr (congrArg m.resent hl) hw

end Mach

/-- Settles O53: the head of the output queue read, a datagram by its conditions, the lists of what is due. -/
theorem transports : Obligations.Transports := by
  refine ⟨ActsLive.of_live (fun _s => rfl) fun _m _u _h => rfl, fun l => ActsLive.of_live (fun _s => rfl) fun m _u h => ?_,
    fun l => ActsLive.of_live (fun _s => rfl) fun m _u h => ?_, fun n => ActsLive.of_live (fun _s => rfl) fun m _u h => ?_,
    fun n p l => ActsLive.of_live (fun _s => rfl) fun m _u h => ?_, fun n p l => ActsLive.of_live (fun _s => rfl) fun m _u h => ?_,
    fun m p h => if_pos h, fun m p h => if_neg (ne_true_of_eq_false h),
    fun dst dport src sport l => Acts.of_live (fun _s => rfl) fun m hu h => ?_,
    fun dst dport src sport frag l => Acts.of_live (fun _s => rfl) fun m hu h => ?_,
    fun dst dport src sport frag l => Acts.of_live (fun _s => rfl) fun m _u h => ?_, Acts.of_awake (fun _s => rfl) fun m _u h => ?_,
    fun p => Acts.of_awake (fun _s => rfl) fun m _u h => ?_, Acts.of_awake (fun _s => rfl) fun m _u h => ?_,
    fun s => Acts.of_awake (fun _s => rfl) fun m _u h => ?_⟩
  · exact if_pos (Bool.and_intro h.1 h.2)
  · exact if_neg fun hc => h.elim (fun hs => Bool.false_ne_true (hs.symm.trans (Bool.and_elim_left hc)))
      fun hs => Bool.false_ne_true (hs.symm.trans (Bool.and_elim_right hc))
  · exact Mach.hpRead_head (o := none) ((congrArg (ite _ none ·.head?) h).trans (ite_self _))
  · exact (Mach.hpRead_head ((if_neg h.1).trans (congrArg List.head? h.2.1))).trans (if_neg (Nat.not_le.mpr h.2.2))
  · exact (Mach.hpRead_head ((if_neg h.1).trans (congrArg List.head? h.2.1))).trans (if_pos h.2.2)
  · exact m.udpRecv_take dst dport src sport false l (or_not_true hu.2 h) (or_or_not_true ((last_of_six h).imp_left Nat.not_le.mpr))
  · exact m.udpRecv_disc dst dport src sport frag l (or_not_true hu.2 h)
      ((last_of_six h).elim (fun h => Bool.or_inl (Bool.or_inl h)) (·.elim (fun h => Bool.or_inl (Bool.or_inr (decide_eq_true h)))
        fun h => Bool.or_inr (congrArg (!·) h)))
  · exact m.udpRecv_skip dst dport src sport frag l (or_true_of ((or_assoc.mpr h).imp_left (Or.imp Ne.symm Ne.symm)))
  · exact Mach.noteResend_eq (filter_none fun p hp => Nat.not_le.mpr (h p hp))
      ((List.map_congr_left fun p hp => if_neg fun hc => Nat.not_le.mpr (h p hp) (of_decide_eq_true hc)).trans (List.map_id _))
  · exact Mach.noteResend_eq ((congrArg (List.filter _) h.1).trans (List.filter_cons_of_pos (decide_eq_true h.2)))
      ((congrArg (List.map _) h.1).trans (congrArg (fun x => [x]) (if_pos (decide_eq_true h.2))))
  · exact congrArg (List.foldl _ m) (filter_none fun s hs => Nat.not_le.mpr (h s hs))
  · exact congrArg (List.foldl _ m) ((congrArg (List.filter _) h.1).trans (List.filter_cons_of_pos (decide_eq_true h.2)))

end Sys2Proof.Machine
end

section
/-! Watchdog, temperatures, test bus, role lockout, nonces and maintenance keys (R704, R733, R749 to R753, R784, R796). -/

namespace Sys2Proof.Machine

set_option Elab.async false

section
variable {l : List Int} {k : Int}

theorem any_at_eq_true (h : ∃ v ∈ l, k ≤ v) : l.any (fun v => decide (k ≤ v)) = true :=
  List.any_eq_true.mpr (h.imp fun _v h => h.imp_right decide_eq_true)

theorem any_at_eq_false (h : ∀ v ∈ l, v < k) : l.any (fun v => decide (k ≤ v)) = false :=
  List.any_eq_false.mpr fun v hv hc => Int.not_le.mpr (h v hv) (of_decide_eq_true hc)

theorem all_below_eq_true (h : ∀ v ∈ l, v < k) : l.all (fun v => decide (v < k)) = true :=
  List.all_eq_true.mpr fun v hv => decide_eq_true (h v hv)

theorem all_below_eq_false (h : ∃ v ∈ l, k ≤ v) : l.all (fun v => decide (v < k)) = false :=
  List.all_eq_false.mpr (h.imp fun _v h => h.imp_right fun hv hc => Int.not_lt.mpr hv (of_decide_eq_true hc))

theorem map_clampI_eq {lo hi : Int} (h : ∀ v ∈ l, lo ≤ v ∧ v ≤ hi) : l.map (clampI lo hi) = l :=
  (List.map_congr_left fun v hv => (if_neg (Int.not_lt.mpr (h v hv).1)).trans (if_neg (Int.not_lt.mpr (h v hv).2))).trans (List.map_id l)

end

namespace Mach

/-- The events of a temperature reading, once the reading is shown: TEMP_HIGH told or not, one at 115, all below 105 (R784). -/
noncomputable def tempTold (m : Mach) (told hi cool : Bool) : Mach :=
  if !told && hi then (m.updHlth (fun h => { h with tempHigh := true })).emit .tempHigh 0
  else if told && cool then (m.updHlth (fun h => { h with tempHigh := false })).emit .tempOk 0
  else m

theorem tempTold_below (m : Mach) {hi : Bool} (cool : Bool) (h : hi = false) : m.tempTold false hi cool = m := by
  subst h
  rfl

theorem tempTold_above (m : Mach) (hi : Bool) {cool : Bool} (h : cool = false) : m.tempTold true hi cool = m := by
  subst h
  cases hi <;> rfl

theorem tempTold_high (m : Mach) {hi : Bool} (cool : Bool) (h : hi = true) :
    m.tempTold false hi cool = (m.updHlth (fun h => { h with tempHigh := true })).emit .tempHigh 0 := if_pos h

theorem tempTold_ok (m : Mach) (hi : Bool) {cool : Bool} (h : cool = true) :
    m.tempTold true hi cool = (m.updHlth (fun h => { h with tempHigh := false })).emit .tempOk 0 :=
  (if_neg Bool.false_ne_true).trans (if_pos h)

/-- A reading: its word and its events. -/
noncomputable def tempShown (m : Mach) (l : List Int) (told : Bool) : Mach :=
  (m.wr .hltTemp (wd (l.foldl (fun n v => n * 256 + toBits 8 v) 0))).tempTold told
    (l.any (fun v => decide (115 ≤ v))) (l.all (fun v => decide (v < 105)))

/-- A reading within 8 bits is shown as it is. -/
theorem tempRead_told {m : Mach} {a b c d : Int} {told : Bool} (ht : m.hlth.tempHigh = told) (h : ∀ v ∈ [a, b, c, d], -128 ≤ v ∧ v ≤ 127) :
    m.tempRead [a, b, c, d] =
      (m.wr .hltTemp (wd (((toBits 8 a * 256 + toBits 8 b) * 256 + toBits 8 c) * 256 + toBits 8 d))).tempTold told
        ([a, b, c, d].any (fun v => decide (115 ≤ v))) ([a, b, c, d].all (fun v => decide (v < 105))) := by
  subst ht
  refine (congrArg (m.tempShown · m.hlth.tempHigh) (map_clampI_eq h)).trans ?_
  exact congrArg (fun n => (m.wr .hltTemp (wd (((n * 256 + toBits 8 b) * 256 + toBits 8 c) * 256 + toBits 8 d))).tempTold m.hlth.tempHigh
    ([a, b, c, d].any (fun v => decide (115 ≤ v))) ([a, b, c, d].all (fun v => decide (v < 105)))) (Nat.zero_add (toBits 8 a))

theorem nonceExpire_one {m : Mach} {s : Session} (hs : m.sessions = [s]) :
    m.nonceExpire = match s.nonce with
      | some (_, t) => if m.nonceOld t then m.updSess s.num (fun s => { s with nonce := none }) else m
      | none => m :=
  congrArg (List.foldl _ m) hs

end Mach

/-- Settles O57: a reading by what was told and what it shows, the lockout and the nonce by their time, the writes as stored. -/
theorem healthAndSecurityEvents : Obligations.HealthAndSecurityEvents := by
  refine ⟨Acts.of_awake (fun _s => rfl) fun m _u _h => rfl, fun a b c d => Acts.of_live (fun _s => rfl) fun m _u h => ?_,
    fun a b c d => Acts.of_live (fun _s => rfl) fun m _u h => ?_, fun a b c d => Acts.of_live (fun _s => rfl) fun m _u h => ?_,
    fun ses x n w => Acts.of_write (fun _s => rfl) (Mach.endsUdp_past (by decide) _) (fun _m hp => hp) fun m _h => rfl,
    fun t => Acts.of_awake (fun _s => rfl) fun m _u h => ?_, Acts.of_awake (fun _s => rfl) fun m _u h => ?_,
    fun s n t => Acts.of_awake (fun _s => rfl) fun m _u h => ?_, fun s n t => Acts.of_awake (fun _s => rfl) fun m _u h => ?_,
    fun ses x k w => Acts.of_write (fun _s => rfl) (Mach.endsUdp_past (Nat.lt_add_right (128 * k) (by decide)) _) (fun _m hp => hp)
      fun m _h => rfl,
    fun ses x w => Acts.of_live (fun _s => rfl) fun m hu hp => hostPut_ok hu hp rfl, fun m k => rfl,
    ActsLive.of_live (fun _s => rfl) fun m _u _h => rfl⟩
  · exact h.2.elim (fun k => (Mach.tempRead_told k.1 h.1).trans (Mach.tempTold_below _ _ (any_at_eq_false k.2)))
      fun k => (Mach.tempRead_told k.1 h.1).trans (Mach.tempTold_above _ _ (all_below_eq_false k.2))
  · exact (Mach.tempRead_told h.2.2 h.1).trans (Mach.tempTold_high _ _ (any_at_eq_true h.2.1))
  · exact (Mach.tempRead_told h.2 fun v hv => (h.1 v hv).imp_right fun hc => Int.le_trans (Int.le_of_lt hc) (by decide)).trans
      (Mach.tempTold_ok _ _ (all_below_eq_true fun v hv => (h.1 v hv).2))
  · exact if_pos (Bool.and_intro (congrArg Option.isSome h.1) (congrArg (!·) h.2))
  · exact if_neg fun hc => h.elim (fun h => Bool.false_ne_true ((congrArg Option.isSome h).symm.trans (Bool.and_elim_left hc)))
      fun h => Bool.false_ne_true ((congrArg (!·) h).symm.trans (Bool.and_elim_right hc))
  · rw [Mach.nonceExpire_one h.1, h.2.1]
    exact if_pos (decide_eq_true h.2.2)
  · rw [Mach.nonceExpire_one h.1, h.2.1]
    exact if_neg (ne_true_of_eq_false (decide_eq_false (Nat.not_lt.mpr h.2.2)))

end Sys2Proof.Machine
end

section
/-! GOOSE subscriptions and publications (R534, R541, R543, R573). -/

namespace Sys2Proof.Machine

set_option Elab.async false

section
variable {α : Type} {x y z : α}

theorem ite_eq_entered {a b : Nat} (ha : a = 0) (hb : b = 1) : (if a = b then x else if b = 1 then y else z) = y :=
  ite_no_yes (fun h => Nat.zero_ne_one (ha.symm.trans (h.trans hb))) hb

theorem ite_eq_left {a b : Nat} (ha : a = 1) (hb : b = 0) : (if a = b then x else if b = 1 then y else z) = z :=
  ite_no_no (fun h => Nat.one_ne_zero (ha.symm.trans (h.trans hb))) fun h => Nat.zero_ne_one (hb.symm.trans h)

variable {o : Option Time} {q : Time → Int} {p : Nat} {e s : Bool}

/-- What waits for a time goes on once it is reached. -/
theorem match_due {t : Time} (h : p < 128 ∧ o = some t ∧ q t ≤ 0 ∧ e = true ∧ s = true) :
    (match (generalizing := false) o with
      | some t => if 128 ≤ p ∨ q t > 0 ∨ (!e) = true ∨ (!s) = true then x else y
      | none => x) = y := by
  rw [h.2.1]
  exact if_neg fun k => k.elim (Nat.not_le.mpr h.1) (·.elim (Int.not_lt.mpr h.2.2.1) (·.elim (ne_true_of_eq_false (congrArg (!·) h.2.2.2.1))
    (ne_true_of_eq_false (congrArg (!·) h.2.2.2.2))))

theorem match_not_due (h : (∀ t, o = some t → 0 < q t) ∨ e = false ∨ s = false) :
    (match (generalizing := false) o with
      | some t => if 128 ≤ p ∨ q t > 0 ∨ (!e) = true ∨ (!s) = true then x else y
      | none => x) = x := by
  cases o with
  | none => rfl
  | some t => exact if_pos (.inr (h.imp (· t rfl) (Or.imp (congrArg (!·)) (congrArg (!·)))))

theorem first_free {T : Nat → Option SubEnt} {k : Nat} (hk : k < 4) (hl : ∀ j, j < k → (T j).isSome) (hn : T k = none) :
    (List.range 4).find? (fun w => (T w).isNone) = some k :=
  List.find?_range_eq_some.mpr ⟨congrArg Option.isNone hn, List.mem_range.mpr hk, fun j hj =>
    congrArg (!·) (Option.isNone_eq_false_iff.mpr (hl j hj))⟩

end

namespace Mach

/-- The subscription of domain d entered in the place w of its set. -/
noncomputable def subPut (m : Mach) (d w : Nat) (b : Bool) (i : Nat) : Mach :=
  m.updNet (fun n => { n with
    table := SMap.put n.table (4 * subSet (m.rxdMac d) (m.rxdAppid d) + w)
      ({ set := subSet (m.rxdMac d) (m.rxdAppid d), goose := b, idx := i, mac := m.rxdMac d, appid := m.rxdAppid d } : SubEnt) })

theorem subAdd_of {m : Mach} {d : Nat} {o : Option Nat}
    (h : (List.range 4).find? (fun w => (SMap.get? m.net.table (4 * subSet (m.rxdMac d) (m.rxdAppid d) + w)).isNone) = o) :
    m.subAdd d = match (generalizing := false) o with
      | some w => m.subPut d w (decide (64 ≤ d)) (if d < 64 then d else d - 64)
      | none => m := by
  subst h
  rfl

end Mach

/-- Settles O37: a write of EN by what it was and is, a repetition by its time, the place of a subscription by the first free one. -/
theorem gooseConfiguration : Obligations.GooseConfiguration := by
  refine ⟨fun ses x g w => Acts.of_write (fun _s => rfl) (Mach.endsUdp_past (by decide) _) (fun _m hp => hp) fun m _h => rfl,
    fun m g old new => ⟨fun ho hn => ite_eq_entered ho hn, fun ho hn => ite_eq_left ho hn, fun h => if_pos h⟩, fun m g k hk => ?_,
    fun ses x p w => Acts.of_write (fun _s => rfl) (Mach.endsUdp_past (by decide) _) (fun _m hp => hp) fun m _h => rfl,
    fun p t => Acts.of_part (fun _s => rfl) (fun _m h => h.1) fun m h => match_due h,
    fun p => Acts.of_part_idle (fun _s => rfl) fun m h => match_not_due h,
    fun ses x w => Acts.of_live (fun _s => rfl) fun m hu h => hostPut_ok hu h rfl,
    fun ses x => Acts.of_live (fun _s => rfl) fun m hu h => hostGet_ok hu h.1 h.2,
    fun m w => ⟨fun h => if_pos h, fun h hi => ite_no_no (ne_true_of_eq_false h) (Nat.not_le.mpr hi),
      fun h hi => ite_no_yes (ne_true_of_eq_false h) hi, rfl⟩⟩
  · intro s hl hn
    exact (Mach.subAdd_of (first_free (T := fun j => SMap.get? m.net.table (4 * s + j)) hk hl hn)).trans (congrArg₂ (m.subPut (64 + g) k)
      (decide_eq_true (Nat.le_add_right 64 g)) ((if_neg (Nat.not_lt.mpr (Nat.le_add_right 64 g))).trans (Nat.add_sub_cancel_left 64 g)))

end Sys2Proof.Machine
end
